-- ==== Sys2Proof/Word.lean ====
section
/-!
DEFINITION. Word.lean: the plain number types of the RHP-9220 model and their plainest arithmetic.
Object values travel as integers; a DOMAIN object's value is the number its bytes spell, least significant byte first (R4).
-/
namespace Sys2Proof

/-- One byte of a record or of the host area. -/
abbrev Byte := BitVec 8

/-- The largest value of the 48-bit heartwood time counter (R9, R10). -/
def maxTime : Nat := 2 ^ 48 - 1

/-- Add `k`, saturating at the largest value of a `w`-bit counter. -/
def satAdd (w n k : Nat) : Nat := min (n + k) (2 ^ w - 1)

/-- Add one, saturating at the largest value of a `w`-bit counter. -/
def satInc (w n : Nat) : Nat := satAdd w n 1

/-- Hold an integer between two bounds. -/
def clampInt (lo hi x : Int) : Int := max lo (min hi x)

/-- Bit `i` of a natural number. -/
def natBit (n i : Nat) : Bool := n.testBit i

/-- The number that a truth value stands for. -/
def ofBool (b : Bool) : Nat := if b then 1 else 0

/-- Divide with halves rounding up (R108, R137). -/
def divRound (a b : Nat) : Nat := (2 * a + b) / (2 * b)

/-- Divide an integer by a positive one, halves rounding up. -/
def divRoundInt (a b : Int) : Int := (2 * a + b) / (2 * b)

theorem satAdd_le (w n k : Nat) : satAdd w n k ≤ 2 ^ w - 1 := Nat.min_le_right _ _

theorem satInc_le (w n : Nat) : satInc w n ≤ 2 ^ w - 1 := satAdd_le w n 1

end Sys2Proof
end

