-- ==== Sys2Proof/Syntax.lean ====
section
/-!
DEFINITION. Syntax.lean: the commands of the block, one constructor per row of the table of operations and events, with the
quantities each event carries. Voltages are in mV (or µV where the name ends in `Uv`), currents in mA, times in the unit the
name ends in. A write carries its sender; `Who` is the port and the node-ID of the USDO client.
-/
namespace Sys2Proof

/-- The two CAN FD ports (R450). -/
inductive Port where
  | a | b
  deriving DecidableEq, Repr

/-- The sender of a USDO request: the port it came by and the requesting node-ID (R463). -/
structure Who where
  port : Port
  node : Nat
  deriving DecidableEq, Repr

abbrev Rail := Fin 8
abbrev Phase := Fin 20
/-- A branch code of Table 9-1. -/
abbrev Branch := Fin 30
/-- A fault source FS000 to FS127 (R432). -/
abbrev Source := Fin 128
abbrev TimerNo := Fin 8
abbrev SlotNo := Fin 8
abbrev ChanNo := Fin 24
/-- A unit of a cascade: 0 the master, 1 to 7 a slave address (R258). -/
abbrev Unit8 := Fin 8

/-- An integrated channel: a buck or an LDO (R205). -/
inductive Integrated where
  | ib (n : Fin 6)
  | ld (n : Fin 8)
  deriving DecidableEq, Repr

/-- The three loss conditions of R124, with what was observed. -/
inductive LossCause where
  /-- FLT_n level, and how many consecutive report samples stood above 2.90 V. -/
  | stageFault (flt : Bool) (samples : Nat)
  /-- Consecutive switching cycles (or offset samples) whose every sample was out of range. -/
  | outOfRange (cycles : Nat)
  /-- Consecutive cycles in which the limit acted with the rail current per FIRING phase below 50 % of rating. -/
  | repeatedLimit (cycles : Nat)
  deriving DecidableEq, Repr

/-- The samples of one switching cycle of a FIRING phase (R96), with the voltages and the High interval of that cycle. -/
structure HealthCycle where
  valleyUv : Nat
  peakUv : Nat
  averageUv : Nat
  vsysMv : Nat
  voutMv : Nat
  highTaps : Nat
  deriving DecidableEq, Repr

/-- An offset sample of a phase in mid, and the time since it entered mid. -/
structure OffsetSample where
  uv : Nat
  sinceUs : Nat
  deriving DecidableEq, Repr

/-- What one phase reported over the last second (R96, Table 5-3). -/
structure HealthMeas where
  phase : Phase
  cycles : List HealthCycle
  offsets : List OffsetSample
  deriving DecidableEq, Repr

/-- The average samples that one phase reported over a balance interval, in µV at CS_nn (R96). -/
structure PhaseReading where
  phase : Phase
  averageUv : List Nat
  deriving DecidableEq, Repr

/-- What is read before a branch starts (R166, R193, R209). -/
structure StartMeas where
  preBiasUv : Nat          -- sense pair of a grove rail, µV
  remoteOk : Bool          -- GS_Pr and GS_Nr pass the check before the start
  localOk : Bool           -- LS_r passes it
  outMv : Nat              -- present output of an IB or LD channel
  deriving DecidableEq, Repr

inductive SensePin where
  | gsP | gsN
  deriving DecidableEq, Repr

/-- A sense check that a sample falls into (R188, R192): of a GS pin, when the converter samples LS_r + c, or of LS_r, when it
repeats its last sample. -/
inductive CheckKind where
  | remote | loc
  deriving DecidableEq, Repr

/-- One sample of the error converter of a rail (R144, R146). -/
structure Sample where
  gap : Nat                -- PGCLK cycles since the sample before it
  vdiffUv : Int            -- GS_Pr − GS_Nr
  lsUv : Int               -- LS_r
  check : Option CheckKind
  edges : List Int         -- edges of the rail's phases near its nominal instant, in PGCLK cycles from it (R147)
  deriving DecidableEq, Repr

/-- The phasors of one identification tone (R159): X of the compensator's own output, Y of that output plus the injection. -/
structure Phasors where
  xRe : Int
  xIm : Int
  yRe : Int
  yIm : Int
  deriving DecidableEq, Repr

/-- What the turn of R157 and the guards of R158 ask of a rail: seconds since its last run ended and since it was last tried, and
for how long it has been in band and without a soft start, slew, step-fire, insertion or shed change. -/
structure TuneCand where
  rail : Rail
  sinceLastS : Nat
  sinceTriedMs : Nat
  quietMs : Nat
  inBandMs : Nat
  deriving DecidableEq, Repr

/-- The voltage and input conditions of R211. -/
inductive IbCond where
  | over (mv us : Nat)
  | under (mv us : Nat)
  | pvin (mv : Nat)
  deriving DecidableEq, Repr

/-- What the device measures of an integrated channel over a second: its mean current, and of a buck in how many cycles in a row its
inductor current reached zero and the peak current that a cycle needs (R212, R221). -/
structure ChanMeas where
  chan : Integrated
  mA : Int
  zeroCycles : Nat
  peakMA : Nat
  deriving DecidableEq, Repr

/-- The conditions of R214. -/
inductive LdCond where
  | limit (us : Nat)
  | under (mv us : Nat)
  | over (mv us : Nat)
  | vin (mv : Nat)
  deriving DecidableEq, Repr

/-- A target of a command (Table 19-2). -/
structure Target where
  unit : Nat
  kind : Nat
  index : Nat
  sub : Nat
  rsv : Nat
  value : Nat
  deriving DecidableEq, Repr

/-- How the writes of a commit verified (R512): first programming, second, spare page. -/
inductive Verify where
  | first | second | spare | failed
  deriving DecidableEq, Repr

/-- A command written to 0x2640:01 (Table 19-1), its action left to the row: its length in bytes, its fields and targets. -/
structure JCmd where
  who : Who
  len : Nat
  seq : Nat
  count : Nat
  rsv : Nat
  targets : List Target
  verify : Verify := .first   -- how the commit of its acceptance verifies, if it gets so far (R495)
  deriving DecidableEq, Repr

/-- What the receiver saw of a COPAK frame besides its payload (R264). -/
structure RxCheck where
  framing : Bool           -- every stop bit read 1
  crc : Bool               -- the CRC matches
  type : Nat
  len : Nat
  lateBits : Nat           -- distance of the first start bit from its nominal start, bit times
  deriving DecidableEq, Repr

/-- A beacon payload (Table 10-4). -/
structure Beacon where
  summary : Bool
  nslv : Nat
  cstart : Bool
  cycle : Nat
  time : Nat
  order : Nat
  orderTag : Nat
  masterState : Nat
  msgAddr : Nat
  msgType : Nat
  msgLen : Nat
  tag : Nat
  data : List Nat
  deriving DecidableEq, Repr

/-- A status payload, full (Table 10-5) or summary (Table 10-6). -/
inductive Status where
  | full (state flags failBranch failReason on good fwin : Nat)
  | summary (code pg : Nat)
  deriving DecidableEq, Repr

/-- A reply payload (R267). -/
structure ReplyMsg where
  code : Nat
  detail : Nat
  tag : Nat
  data : Nat
  deriving DecidableEq, Repr

/-- A cascade target of a PREPARE segment (Table 10-8): action and branch code, value. -/
structure CTarget where
  action : Nat
  branch : Nat
  value : Nat
  deriving DecidableEq, Repr

/-- The two removal comparators of R311. -/
inductive PackLoss where
  | overVoltage (nodeBMv : Nat)
  | collapse (mA cmdMA cycles : Nat) (rising edgeRecent : Bool)
  deriving DecidableEq, Repr

/-- The charger's own fault stops of Table 11-7. -/
inductive ChargerFault where
  | phaseOverCurrent (cycles : Nat)
  | gateDrive (mv us : Nat)
  | imbalance (diffMA cmdMA ms : Nat)
  | crossCheck (ownMv adcMv ms : Nat)
  deriving DecidableEq, Repr

inductive Modulator where
  | modA | modB
  deriving DecidableEq, Repr

/-- What the gauge takes once per second (R331, R339, R340). -/
structure GaugeMeas where
  frames : List (Int × Int)   -- the results of modulators A and B in each frame of the second, in order, nV, uncorrected (R323)
  mainMv : Nat                -- MAIN by HKADC-A
  deriving DecidableEq, Repr

inductive Conv where
  | cA | cB
  deriving DecidableEq, Repr

/-- The requesters of an injected conversion (R381, R385, R386). -/
inductive Requester where
  | gauge
  | groveStart (r : Rail)
  | integratedStart (c : Integrated)
  | crossCheck
  deriving DecidableEq, Repr

/-- The codes of one HKADC-B injected run and HKADC-A's newest codes of the same nodes (R386, R392). -/
structure CrossMeas where
  mainB : Nat
  vsysB : Nat
  checkB : Nat
  nodeB : Nat
  mainA : Nat
  vsysA : Nat
  checkA : Nat
  nodeA : Nat
  deriving DecidableEq, Repr

/-- A received CAN frame: identifier, whether it is a 29-bit one, and its data bytes. -/
structure CanFrame where
  port : Port
  ext : Bool
  cobId : Nat
  data : List Nat
  deriving DecidableEq, Repr

/-- A USDO request (R463, R464): a whole expedited transfer, or a step of a segmented one. -/
inductive UsdoOp where
  | read (index sub : Nat)
  | write (index sub len : Nat) (value : Int)
  /-- Opens a segmented write of `total` bytes. -/
  | openWrite (index sub total : Nat)
  /-- A segment of `len` bytes; `toggle` is its toggle bit. -/
  | segment (toggle : Bool) (len value : Nat) (last : Bool)
  /-- A request with a command specifier the server does not know. -/
  | badSpecifier
  /-- A remote or broadcast request, which is ignored. -/
  | remote
  deriving DecidableEq, Repr

structure Usdo where
  who : Who
  session : Nat
  op : UsdoOp
  deriving DecidableEq, Repr

/-- The commits of Table 20-2 that a write can wait for, by region (R513). -/
inductive CommitKind where
  | image | record | journal | log | gauge | hostArea
  deriving DecidableEq, Repr

/-- What a margin read found (R522). -/
inductive MarginResult where
  | good | margin | uncorrectable
  deriving DecidableEq, Repr

/-- What a debugger does through DBGACC (R553, R554, R562). -/
inductive DebugReq where
  | halt
  | resume
  | vendorRead (reg : Nat)
  | vendorWrite (reg value : Nat)
  deriving DecidableEq, Repr

inductive SramError where
  | correctable
  /-- Found again (`true`) or not by the second read. -/
  | uncorrectable (again : Bool)
  deriving DecidableEq, Repr

/-- What the device finds at a device power-on reset. -/
structure PowerOn where
  vpreMv : Nat
  holdMv : Nat
  vsysMv : Nat
  node : List Nat          -- the 15 samples of NODE[2:0]
  addr : List Nat          -- the 15 samples of ADDR[2:0]
  trimsBad : Nat           -- CAUSE of the vendor-trim region's failure, 0 none (Table 20-16)
  repairBad : Nat          -- CAUSE of the repair-and-patch region's failure
  boardBadWord : Bool      -- an uncorrectable word in the board-configuration region
  corrected : Nat          -- corrected OTP words
  checkA : List Nat        -- the 8 check conversions of HKADC-A
  checkB : List Nat
  deriving DecidableEq, Repr

/-- The commands: one constructor per row of the table of operations and events, in its order. -/
inductive Instr where
  /-- HEARTWOOD_POWER_ON_RESET, R66. -/
  | heartwoodPowerOnReset (dcinMv batMv : Nat)
  /-- DEVICE_POWER_ON_RESET, R37. -/
  | devicePowerOnReset (p : PowerOn)
  /-- BROWN_OUT_WARNING, R83. -/
  | brownOutWarning (vpreMv : Nat)
  /-- BROWN_OUT_WARNING_END, R84. -/
  | brownOutWarningEnd (vpreMv durationUs stableUs : Nat)
  /-- BROWN_OUT_RESET, R86. -/
  | brownOutReset (vpreMv : Nat)
  /-- NRST_LOW, R572. -/
  | nrstLow (cycles : Nat)
  /-- NRST_RELEASE, R39. -/
  | nrstRelease
  /-- LOCKSTEP_MISMATCH, R37. -/
  | lockstepMismatch
  /-- JOURNAL_REPLAY, R504. -/
  | journalReplay (starts : Vector StartMeas 30)
  /-- DCIN_VALID, R67. -/
  | dcinValid (mv heldUs : Nat)
  /-- DCIN_INVALID, R67. -/
  | dcinInvalid (mv heldUs : Nat)
  /-- BATSNS_VALID, R67. -/
  | batsnsValid (mv heldUs : Nat)
  /-- BATSNS_INVALID, R67. -/
  | batsnsInvalid (mv heldUs : Nat)
  /-- TRUNK_LOW, R67. -/
  | trunkLow (mv heldUs : Nat)
  /-- TRUNK_OVER_VOLTAGE, R67. -/
  | trunkOverVoltage (mv heldUs : Nat)
  /-- TRUNK_OVER_VOLTAGE_RECOVERY, R67. -/
  | trunkOverVoltageRecovery (mv heldUs : Nat)
  /-- TRUNK_DROOP, R72. -/
  | trunkDroop (mv averageMv : Nat)
  /-- DCIN_REVERSE_CURRENT, R68. -/
  | dcinReverseCurrent (senseUv : Int)
  /-- DCIN_PAIR_RETURN, R68. -/
  | dcinPairReturn (nodeDMv trunkMv heldUs : Nat)
  /-- DCIN_CURRENT_LIMIT, R69. -/
  | dcinCurrentLimit (mA nodeDMv batMv : Nat)
  /-- DCIN_LINEAR_MODE_DISSIPATION, R74. -/
  | dcinLinearModeDissipation (nodeDMv trunkMv mA heldUs : Nat)
  /-- SUPPLEMENT_END, R75. -/
  | supplementEnd (dischargeMA : Int) (heldUs : Nat)
  /-- BATTERY_PAIR_FAULT, R90. -/
  | batteryPairFault (dropMv packMA : Nat) (persists : Bool)
  /-- VPRE_OVER_VOLTAGE, R90. -/
  | vpreOverVoltage (mv heldUs : Nat)
  /-- INPUT_CURRENT_LIMIT_WRITE, R71. -/
  | inputCurrentLimitWrite (who : Who) (value : Int)
  /-- HOLD_READY, R78. -/
  | holdReady (mv : Nat)
  /-- HOLD_CAPACITANCE_MEASUREMENT, R79. -/
  | holdCapacitanceMeasurement (riseUs : Nat)
  /-- HOLD_CHARGE_TIMEOUT, R79. -/
  | holdChargeTimeout (sinceUs : Nat)
  /-- SHIP_ACTION, R31. -/
  | shipAction (c : JCmd)
  /-- SHIP_POINT_OF_NO_RETURN, R87. -/
  | shipPointOfNoReturn
  /-- SHIP_ENTRY_COMPLETE, R87. -/
  | shipEntryComplete
  /-- NWAKE_LOW, R89. -/
  | nwakeLow (heldUs : Nat)
  /-- CRYSTAL_STABLE, R40. -/
  | crystalStable (sinceUs : Nat)
  /-- CRYSTAL_START_TIMEOUT, R40. -/
  | crystalStartTimeout (sinceUs : Nat)
  /-- CRYSTAL_STOP, R40. -/
  | crystalStop
  /-- PLL_LOCK_LOSS, R42. -/
  | pllLockLoss
  /-- WDOSC_CROSS_CHECK, R43. -/
  | wdoscCrossCheck (count : Nat)
  /-- CLOCK_DEVIATION_MEASUREMENT, R44. -/
  | clockDeviationMeasurement (wdosc bclk : Nat)
  /-- HEARTWOOD_CRYSTAL_STOP, R45. -/
  | heartwoodCrystalStop
  /-- HEARTWOOD_CRYSTAL_STABLE, R573. -/
  | heartwoodCrystalStable (sinceUs : Nat)
  /-- HEARTWOOD_CRYSTAL_TIMEOUT, R573. -/
  | heartwoodCrystalTimeout (sinceUs : Nat)
  /-- TIME_OBJECT, R47. -/
  | timeObject (port : Port) (value : Nat)
  /-- STANDBY_ACTION, R30. -/
  | standbyAction (c : JCmd)
  /-- RESUME_ACTION, R30. -/
  | resumeAction (c : JCmd)
  /-- TARGETS_ACTION, R488. -/
  | targetsAction (c : JCmd)
  /-- CAN_RX_WAKE, R33. -/
  | canRxWake (port : Port)
  /-- STANDBY_WD_C_WAKE, R34. -/
  | standbyWdCWake
  /-- IDLE_ENTRY, R30. -/
  | idleEntry
  /-- CASCADE_CSYNC_WAKE, R561. -/
  | cascadeCsyncWake (lowNs : Nat)
  /-- PHASE_LOSS, R125. -/
  | phaseLoss (p : Phase) (cause : LossCause)
  /-- RAIL_STAGE_FAULT, R126. -/
  | railStageFault (r : Rail) (heldNs : Nat) (reportsMv : List (Phase × Nat))
  /-- SAPLING_INSERTION, R129. -/
  | saplingInsertion (r : Rail)
  /-- INSERTION_RAMP_COMPLETE, R129. -/
  | insertionRampComplete (r : Rail)
  /-- MANUAL_INSERT, R133. -/
  | manualInsert (who : Who) (value : Int)
  /-- REINSTATE, R133. -/
  | reinstate (who : Who) (value : Int)
  /-- RETIRE, R133. -/
  | retire (who : Who) (value : Int)
  /-- HEALTH_EVALUATION, R120. -/
  | healthEvaluation (m : List HealthMeas)
  /-- SHEDDING_EVALUATION, R112. -/
  | sheddingEvaluation (r : Rail) (railMA : Int) (sinceChangeUs : Nat)
  /-- PHASE_LEAVING_END, R113. -/
  | phaseLeavingEnd (p : Phase) (mA cycles : Nat)
  /-- SHED_SET_ROTATION, R110. -/
  | shedSetRotation (r : Rail) (sinceMs : Nat)
  /-- SHED_SET_ROTATION_SHED, R110. -/
  | shedSetRotationShed (r : Rail) (cycles : Nat)
  /-- BALANCE_UPDATE, R116. -/
  | balanceUpdate (r : Rail) (railMA : Int) (samples : List Sample) (readings : List PhaseReading)
  /-- GR_SET_POINT_WRITE, R139. -/
  | grSetPointWrite (who : Who) (r : Rail) (value : Int)
  /-- GR_SLEW_COMPLETE, R140. -/
  | grSlewComplete (r : Rail) (samples : List Sample)
  /-- COEFFICIENT_COMMIT, R154. -/
  | coefficientCommit (who : Who) (r : Rail) (value : Int)
  /-- SLOT_TURN_ON, R229. -/
  | slotTurnOn (b : Branch) (timerUs : Nat) (m : StartMeas)
  /-- SOFT_START_COMPLETE, R169. -/
  | softStartComplete (r : Rail) (samples : List Sample)
  /-- START_SETTLE_TIMEOUT, R169. -/
  | startSettleTimeout (r : Rail) (samples : List Sample) (sinceUs : Nat)
  /-- SHORT_IN_SOFT_START, R170. -/
  | shortInSoftStart (r : Rail) (samples : List Sample) (limitEveryCycle : Bool)
  /-- OFF_GROUP, R247. -/
  | offGroup (timerUs : Nat)
  /-- SOFT_STOP_END, R172. -/
  | softStopEnd (r : Rail) (samples : List Sample)
  /-- STEP_FIRE, R175. -/
  | stepFire (r : Rail) (samples : List Sample) (periodPassed : Bool)
  /-- STEP_HOLD_END, R176. -/
  | stepHoldEnd (r : Rail) (sinceUs : Nat)
  /-- FORECAST_START, R178. -/
  | forecastStart (r : Rail) (input : Fin 4) (pgclk : Nat) (periodPassed : Bool)
  /-- FORECAST_PULSE, R178. -/
  | forecastPulse (r : Rail) (sinceNs : Nat) (withTrigger : Bool)
  /-- FORECAST_END, R179. -/
  | forecastEnd (r : Rail) (levels : Fin 16)
  /-- FORECAST_STUCK, R179. -/
  | forecastStuck (r : Rail) (activeUs : Nat)
  /-- BRAKING_START, R181. -/
  | brakingStart (r : Rail) (samples : List Sample) (periodPassed : Bool)
  /-- BRAKING_END, R182. -/
  | brakingEnd (r : Rail) (samples : List Sample)
  /-- BRAKE_TIMEOUT, R182. -/
  | brakeTimeout (r : Rail) (sinceUs : Nat)
  /-- PULSE_SKIPPING_ENTRY, R184. -/
  | pulseSkippingEntry (r : Rail) (samples : List Sample)
  /-- PULSE_SKIPPING_EXIT, R186. -/
  | pulseSkippingExit (r : Rail) (samples : List Sample) (railMA : Int)
  /-- SENSE_CHECK, R188. -/
  | senseCheck (r : Rail) (pin : SensePin) (moveMv : Nat)
  /-- SENSE_MISMATCH, R189. -/
  | senseMismatch (r : Rail) (differenceUv heldUs : Nat)
  /-- LOCAL_SENSE_CHECK, R192. -/
  | localSenseCheck (r : Rail) (moveMv : Nat)
  /-- PHASE_CURRENT_LIMIT, R194. -/
  | phaseCurrentLimit (p : Phase) (mA : Nat) (pgclkSinceRise : Nat)
  /-- NEGATIVE_CURRENT_LIMIT, R195. -/
  | negativeCurrentLimit (p : Phase) (mA : Int)
  /-- RAIL_OVER_VOLTAGE, R196. -/
  | railOverVoltage (r : Rail) (senseUv heldNs : Nat)
  /-- RAIL_UNDER_VOLTAGE, R197. -/
  | railUnderVoltage (r : Rail) (senseUv heldUs : Nat)
  /-- RAIL_OVER_CURRENT, R198. -/
  | railOverCurrent (r : Rail) (railMA : Int) (heldUs : Nat)
  /-- TUNING_RUN_START, R157. -/
  | tuningRunStart (r : Rail) (turn : List TuneCand) (railMA : Int) (trunkMv : Nat)
  /-- RUN_NOW, R157. -/
  | runNow (who : Who) (value : Int)
  /-- TONE_END, R159. -/
  | toneEnd (r : Rail) (phasors : Phasors)
  /-- IDENTIFICATION_COMPLETE, R160. -/
  | identificationComplete (r : Rail)
  /-- VERIFICATION_COMPLETE, R162. -/
  | verificationComplete (r : Rail) (pm : Int) (crossoverHz : Nat)
  /-- IB_LD_SET_POINT_WRITE, R208. -/
  | ibLdSetPointWrite (who : Who) (c : Integrated) (value : Int)
  /-- IB_LD_SLEW_COMPLETE, R208. -/
  | ibLdSlewComplete (c : Integrated) (elapsedUs : Nat)
  /-- IB_LD_SOFT_START_COMPLETE, R209. -/
  | ibLdSoftStartComplete (c : Integrated) (elapsedUs mv heldUs : Nat)
  /-- IB_LD_START_TIMEOUT, R215. -/
  | ibLdStartTimeout (c : Integrated) (sinceUs : Nat)
  /-- HICCUP, R210. -/
  | hiccup (n : Fin 6) (cycles : Nat)
  /-- HICCUP_RECOVERY, R210. -/
  | hiccupRecovery (n : Fin 6) (offUs outMv : Nat)
  /-- HICCUP_COUNT_RESET, R210. -/
  | hiccupCountReset (n : Fin 6) (mv heldUs : Nat)
  /-- IB_VOLTAGE_PROTECTION, R211. -/
  | ibVoltageProtection (n : Fin 6) (c : IbCond)
  /-- LDO_PROTECTION, R214. -/
  | ldoProtection (n : Fin 8) (c : LdCond)
  /-- DISCHARGE_SWITCH_OPEN, R217. -/
  | dischargeSwitchOpen (c : Integrated) (mv sinceUs : Nat)
  /-- BUDGET_MEASUREMENT, R221. -/
  | budgetMeasurement (ibMw ldMw : Nat) (channels : List ChanMeas)
  /-- XE_POWER_GOOD, R222. -/
  | xePowerGood (n : Fin 8) (heldUs : Nat)
  /-- XE_PG_TIMEOUT, R223. -/
  | xePgTimeout (n : Fin 8) (sinceMs : Nat)
  /-- XE_POWER_GOOD_LOST, R223. -/
  | xePowerGoodLost (n : Fin 8) (heldUs : Nat)
  /-- XE_PG_BEFORE_ENABLE, R223. -/
  | xePgBeforeEnable (n : Fin 8) (heldUs : Nat)
  /-- COMMON_START, R230. -/
  | commonStart (vsysMv : Nat)
  /-- JUDGEMENT_CONVERSION, R238. -/
  | judgementConversion (readings : List (Branch × Nat))
  /-- JUDGE_DEADLINE, R239. -/
  | judgeDeadline (b : Branch) (sinceMs : Nat) (ownEnds : Bool)
  /-- RETRY_PAUSE_END, R244. -/
  | retryPauseEnd (sinceMs : Nat)
  /-- DISCHARGE_TIMEOUT, R249. -/
  | dischargeTimeout (b : Branch) (sinceMs mv : Nat)
  /-- WARNING_WINDOW, R240. -/
  | warningWindow (b : Branch) (mv : Nat)
  /-- FAULT_WINDOW, R240. -/
  | faultWindow (b : Branch) (mv : Nat)
  /-- FIRST_FAIL_RECORD_COMMIT, R254. -/
  | firstFailRecordCommit (v : Verify)
  /-- CLEAR_RECORD, R253. -/
  | clearRecord (who : Who) (value : Int)
  /-- BEACON, R265. -/
  | beacon
  /-- BEACON_RECEIVED, R266. -/
  | beaconReceived (c : RxCheck) (m : Beacon)
  /-- STATUS_FRAME, R267. -/
  | statusFrame
  /-- STATUS_FRAME_RECEIVED, R272. -/
  | statusFrameReceived (u : Unit8) (c : RxCheck) (m : Status)
  /-- REPLY, R267. -/
  | reply
  /-- REPLY_RECEIVED, R283. -/
  | replyReceived (u : Unit8) (c : RxCheck) (m : ReplyMsg) (starts : Vector StartMeas 30)
  /-- PREPARE_SEGMENT, R281. -/
  | prepareSegment (tag index count : Nat) (targets : List CTarget)
  /-- POLL_VOTE, R281. -/
  | pollVote (tag : Nat)
  /-- COMMIT, R283. -/
  | commit (tag : Nat) (starts : Vector StartMeas 30)
  /-- POLL_OUTCOME, R283. -/
  | pollOutcome (tag : Nat)
  /-- ABORT, R282. -/
  | abort (tag : Nat)
  /-- INQUIRE, R284. -/
  | inquire
  /-- GET_FAIL, R270. -/
  | getFail
  /-- GET_INFO, R272. -/
  | getInfo
  /-- UNKNOWN_TAG, R285. -/
  | unknownTag (tag msgType : Nat)
  /-- START_ORDER, R268. -/
  | startOrder (tag : Nat)
  /-- ABORT_ORDER, R268. -/
  | abortOrder (tag : Nat)
  /-- SAFE_ORDER, R268. -/
  | safeOrder (tag : Nat)
  /-- STANDBY_ORDER, R268. -/
  | standbyOrder (tag : Nat)
  /-- SHIP_ORDER, R268. -/
  | shipOrder (tag : Nat)
  /-- CSYNC_START_PULSE, R269. -/
  | csyncStartPulse (lowNs : Nat)
  /-- FAULT_BROADCAST, R274. -/
  | faultBroadcast (lowNs : Nat)
  /-- CSYNC_STUCK, R273. -/
  | csyncStuck (lowUs : Nat)
  /-- READBACK_CONFLICT, R262. -/
  | readbackConflict (cycles : Nat)
  /-- LINK_LOST, R276. -/
  | linkLost (missed : Nat)
  /-- SLAVE_LOST, R277. -/
  | slaveLost (u : Unit8) (missed : Nat)
  /-- DISCARD_THRESHOLD, R278. -/
  | discardThreshold (discarded : Nat)
  /-- JOIN_TIMEOUT, R269. -/
  | joinTimeout (sinceMs : Nat)
  /-- CASCADE_PREPARE_START, R281. -/
  | cascadePrepareStart
  /-- PREPARE_DEADLINE, R282. -/
  | prepareDeadline (u : Unit8) (sinceUs : Nat)
  /-- LINK_LOSS_HOLD_EXPIRY, R279. -/
  | linkLossHoldExpiry (sinceMs : Nat)
  /-- CHARGER_ENABLE, R296. -/
  | chargerEnable (who : Who)
  /-- CHARGER_DISABLE, R297. -/
  | chargerDisable (who : Who)
  /-- CHARGE_SETTING_WRITE, R318. -/
  | chargeSettingWrite (who : Who) (current : Bool) (value : Int)
  /-- CHARGE_SESSION_START, R298. -/
  | chargeSessionStart (mainMv vsysMv nodeBMv : Nat)
  /-- PRECHARGE_END, R297. -/
  | prechargeEnd (mainMv heldMs : Nat)
  /-- PULSE_EDGE, R303. -/
  | pulseEdge
  /-- CV_ENTRY, R305. -/
  | cvEntry (mainMv : Nat)
  /-- TERMINATION, R305. -/
  | termination (mA heldMs : Nat)
  /-- RECHARGE, R306. -/
  | recharge (mainMv heldMs vsysMv nodeBMv : Nat)
  /-- PRECHARGE_TIMEOUT, R307. -/
  | prechargeTimeout (sessionS : Nat)
  /-- CHARGE_TIMEOUT, R307. -/
  | chargeTimeout (sessionS : Nat)
  /-- INPUT_SHARING, R294. -/
  | inputSharing (dcinMA demandMA : Nat)
  /-- PACK_LOSS_COMPARATOR, R311. -/
  | packLossComparator (k : PackLoss)
  /-- PRESENCE_PROBE_END, R312. -/
  | presenceProbeEnd (fallMv : Nat)
  /-- NO_PACK_SINK_END, R313. -/
  | noPackSinkEnd (batMv sinceMs : Nat)
  /-- NO_PACK_EXIT, R313. -/
  | noPackExit (validMs : Nat)
  /-- CHARGER_WATCHDOG_EXPIRY, R315. -/
  | chargerWatchdogExpiry (sinceS : Nat)
  /-- CHARGER_FAULT_STOP, R320. -/
  | chargerFaultStop (k : ChargerFault)
  /-- MODULATOR_CALIBRATION, R323. -/
  | modulatorCalibration (m : Modulator) (offsetNv : Int) (againNv : Int)
  /-- SHUNT_OVER_RANGE, R327. -/
  | shuntOverRange (uv : Int) (heldUs : Nat)
  /-- GAUGE_SECOND, R331. -/
  | gaugeSecond (m : GaugeMeas)
  /-- EMPTY_REQUEST, R342. -/
  | emptyRequest (mainMv ownMainMv heldMs : Nat) (packMA : Int)
  /-- INSERTION_ESTIMATE, R338. -/
  | insertionEstimate (mainMv restMs : Nat)
  /-- INSERTION_ESTIMATE_UNDER_LOAD, R338. -/
  | insertionEstimateUnderLoad (mainMv : Nat) (packMA : Int) (waitedMs steadyMs : Nat)
  /-- WAKE_ESTIMATE, R355. -/
  | wakeEstimate (mainMv restMs : Nat)
  /-- IMPEDANCE_EDGE, R345. -/
  | impedanceEdge (charger : Bool) (before : List Int) (nowMA : Int) (mainUv : List Int)
  /-- IMPEDANCE_MEASUREMENT_INSTANT, R346. -/
  | impedanceMeasurementInstant (k : Fin 3) (uv : Int) (frames : List Int)
  /-- GAUGE_STORE_WRITE, R353. -/
  | gaugeStoreWrite
  /-- GAUGE_STORE_WRITE_COMPLETE, R352. -/
  | gaugeStoreWriteComplete (v : Verify)
  /-- NEW_PACK, R333. -/
  | newPack (who : Who) (value : Int)
  /-- SHUNT_RESISTANCE_WRITE, R330. -/
  | shuntResistanceWrite (who : Who) (value : Int)
  /-- OCV_TABLE_WRITE, R335. -/
  | ocvTableWrite (who : Who) (len : Nat) (value : Int)
  /-- DIE_SAMPLE, R363. -/
  | dieSample (temps : List Int)
  /-- REMOTE_SAMPLE, R362. -/
  | remoteSample (ratios : List Nat)
  /-- STAGE_SAMPLE, R362. -/
  | stageSample (mv : List Nat)
  /-- REINSTATE_SENSOR, R371. -/
  | reinstateSensor (who : Who) (value : Int)
  /-- DIE_CONVERTER_MISSING, R373. -/
  | dieConverterMissing (intervals : Nat)
  /-- INJECTED_TRIGGER, R381. -/
  | injectedTrigger (c : Conv) (q : Requester)
  /-- REGULAR_CONVERSION_END, R382. -/
  | regularConversionEnd (c : Conv) (code : Int)
  /-- CROSS_CHECK_RUN, R386. -/
  | crossCheckRun (m : CrossMeas)
  /-- HKADC_B_MODE_WRITE, R387. -/
  | hkadcBModeWrite (who : Who) (value : Int)
  /-- RESULT_READ, R389. -/
  | resultRead (who : Who)
  /-- GLOBAL_START, R406. -/
  | globalStart (who : Who) (mask : Int)
  /-- GLOBAL_STOP, R406. -/
  | globalStop (who : Who) (mask : Int)
  /-- TIMER_CONTROL_WRITE, R406. -/
  | timerControlWrite (who : Who) (n : TimerNo) (value : Int)
  /-- FLAG_CLEAR, R402. -/
  | flagClear (who : Who) (n : TimerNo) (value : Int)
  /-- TIMER_COMPARE_MATCH, R401. -/
  | timerCompareMatch (n : TimerNo)
  /-- TURN_AROUND, R399. -/
  | turnAround (n : TimerNo) (top : Bool)
  /-- CAPTURE, R404. -/
  | capture (n : Fin 4) (rising : Bool) (samples counter : Nat)
  /-- WD_C_SERVICE, R416. -/
  | wdCService (key stamp : Nat)
  /-- WD_C_EXPIRY, R416. -/
  | wdCExpiry (tick : Nat)
  /-- CHECK_IN, R421. -/
  | checkIn (who : Who) (value : Int) (stamp : Nat)
  /-- WD_H_MISSING, R422. -/
  | wdHMissing (tick : Nat)
  /-- GRACE_END, R424. -/
  | graceEnd (tick : Nat)
  /-- NHRST_PULSE_END, R426. -/
  | nhrstPulseEnd (sinceMs : Nat)
  /-- NHRST_READ_BACK, R427. -/
  | nhrstReadBack (high : Bool)
  /-- HFRZ, R428. -/
  | hfrz (high : Bool)
  /-- REACTION_TIMER_EXPIRY, R436. -/
  | reactionTimerExpiry (src : Source) (sinceUs : Nat)
  /-- ACKNOWLEDGE, R437. -/
  | acknowledge (who : Who) (value : Int)
  /-- STICKY_CLEAR, R434. -/
  | stickyClear (who : Who) (word : Fin 4) (value : Int)
  /-- NFAULT_PULSE_END, R440. -/
  | nfaultPulseEnd (sinceUs : Nat)
  /-- NFAULT_DRIVE, R441. -/
  | nfaultDrive (who : Who) (value : Int)
  /-- EMERGENCY_MESSAGE, R443. -/
  | emergencyMessage (port : Port) (sinceLast100us : Nat)
  /-- SOURCE_CONFIGURATION_WRITE, R438. -/
  | sourceConfigurationWrite (who : Who) (src : Source) (value : Int)
  /-- LOG_RECORD_COMMIT, R448. -/
  | logRecordCommit (v : Verify)
  /-- CAN_FRAME_RECEIVED, R454. -/
  | canFrameReceived (f : CanFrame)
  /-- USDO_REQUEST, R463. -/
  | usdoRequest (u : Usdo)
  /-- USDO_SESSION_TIMEOUT, R463. -/
  | usdoSessionTimeout (who : Who) (session sinceMs : Nat)
  /-- OBJECT_WRITE, R470. -/
  | objectWrite (who : Who) (index sub len : Nat) (value : Int)
  /-- RPDO, R474. -/
  | rpdo (port : Port) (p : Fin 16) (data : List Nat)
  /-- SYNC, R475. -/
  | sync (port : Port)
  /-- TPDO, R475. -/
  | tpdo (port : Port) (p : Fin 16) (sinceLast100us : Nat)
  /-- TPDO_EVENT_TIMER, R475. -/
  | tpdoEventTimer (p : Fin 16) (sinceMs : Nat)
  /-- HEARTBEAT_RECEIVED, R461. -/
  | heartbeatReceived (port : Port) (node nmt : Nat)
  /-- HEARTBEAT_CONSUMER_TIMEOUT, R461. -/
  | heartbeatConsumerTimeout (k : Fin 4) (sinceMs : Nat)
  /-- HEARTBEAT_PRODUCER, R462. -/
  | heartbeatProducer (sinceMs : Nat)
  /-- BUS_OFF, R453. -/
  | busOff (port : Port) (sinceRecoveryMs : Nat)
  /-- BUS_OFF_RECOVERY, R453. -/
  | busOffRecovery (port : Port) (sequences : Nat)
  /-- ERROR_PASSIVE, R453. -/
  | errorPassive (port : Port) (heldMs : Nat)
  /-- PORT_RESTART, R453. -/
  | portRestart (who : Who) (target : Port) (value : Int)
  /-- NMT_START, R456. -/
  | nmtStart (port : Port) (node : Nat)
  /-- NMT_STOP, R456. -/
  | nmtStop (port : Port) (node : Nat)
  /-- NMT_ENTER_PRE_OPERATIONAL, R456. -/
  | nmtEnterPreOperational (port : Port) (node : Nat)
  /-- NMT_RESET_NODE, R456. -/
  | nmtResetNode (port : Port) (node : Nat)
  /-- NMT_RESET_COMMUNICATION, R456. -/
  | nmtResetCommunication (port : Port) (node : Nat)
  /-- CLIENT_REGISTRATION, R459. -/
  | clientRegistration (who : Who) (k : Fin 4) (value : Int)
  /-- INTEGRATOR_KEY, R467. -/
  | integratorKey (who : Who) (value : Int)
  /-- RELOCK, R467. -/
  | relock (who : Who) (value : Int)
  /-- KEY_LOCKOUT_END, R467. -/
  | keyLockoutEnd (sinceMs : Nat)
  /-- STORE_PARAMETERS, R514. -/
  | storeParameters (who : Who) (sub : Fin 3) (value : Int) (v : Verify)
  /-- RESTORE_PARAMETERS, R476. -/
  | restoreParameters (who : Who) (sub : Fin 3) (value : Int) (v : Verify)
  /-- PDO_MAPPING_COUNT, R473. -/
  | pdoMappingCount (who : Who) (tx : Bool) (p : Fin 16) (value : Int)
  /-- COB_ID_WRITE, R474. -/
  | cobIdWrite (who : Who) (tx : Bool) (p : Fin 16) (value : Int)
  /-- SAMPLER, R480. -/
  | sampler (c : ChanNo)
  /-- READ_BUFFER, R484. -/
  | readBuffer (who : Who) (c : ChanNo) (completed : Bool)
  /-- CHANNEL_DISABLE, R485. -/
  | channelDisable (who : Who) (c : ChanNo)
  /-- PREPARE_ENTRY, R500. -/
  | prepareEntry (starts : Vector StartMeas 30)
  /-- ENTRY_END, R501. -/
  | entryEnd
  /-- COMMIT_COMPLETE, R513. -/
  | commitComplete (k : CommitKind) (page : Fin 1024) (v : Verify)
  /-- MARGIN_READ, R522. -/
  | marginRead (m : MarginResult)
  /-- HIDE, R518. -/
  | hide (who : Who) (value : Int)
  /-- HOST_AREA_WRITE, R519. -/
  | hostAreaWrite (who : Who) (data : List Byte) (v : Verify)
  /-- HOST_AREA_READ, R519. -/
  | hostAreaRead (who : Who) (corrected uncorrectable : Bool)
  /-- BLOCK_PROTECTION, R520. -/
  | blockProtection (who : Who) (value : Int)
  /-- STAGED_IMAGE, R532. -/
  | stagedImage (who : Who) (words : List Nat)
  /-- PROGRAM, R532. -/
  | program (who : Who) (value dieTemp : Int)
  /-- OTP_ROW_PROGRAMMED, R532. -/
  | otpRowProgrammed (verified : Bool)
  /-- PROGRAMMING_STOP, R533. -/
  | programmingStop (waitedUs : Nat)
  /-- LOCK, R534. -/
  | lock (who : Who) (value : Int) (wordsOk : Bool)
  /-- TEST_ENABLE, R545. -/
  | testEnable (who : Who)
  /-- TEST_DISABLE, R545. -/
  | testDisable (who : Who)
  /-- ARM, R546. -/
  | arm (who : Who) (slot : SlotNo) (value : Int)
  /-- OPERATING_HOUR, R542. -/
  | operatingHour (seconds : Nat)
  /-- SERVICE_LIFE_RECORD_WRITE, R543. -/
  | serviceLifeRecordWrite (v : Verify)
  /-- TAP_RESET, R551. -/
  | tapReset
  /-- EXTEST, R552. -/
  | extest (cells : Nat)
  /-- IDCODE, R551. -/
  | idcode
  /-- SAMPLE_PRELOAD, R551. -/
  | samplePreload (cells : Nat)
  /-- CLAMP, R552. -/
  | clamp
  /-- HIGHZ, R552. -/
  | highz
  /-- DBGKEY, R553. -/
  | dbgkey (key : Nat)
  /-- DBGACC, R553. -/
  | dbgacc (q : DebugReq)
  /-- BYPASS, R551. -/
  | bypass
  /-- DEBUG_LOCK, R555. -/
  | debugLock (who : Who) (value : Int)
  /-- SRAM_WORD_ERROR, R447. -/
  | sramWordError (e : SramError)
  /-- RX_REORDER_TIMEOUT, R546. -/
  | rxReorderTimeout (port : Port) (sinceUs : Nat)
  /-- CHG_DRV_RESTART, R447. -/
  | chgDrvRestart (mv : Nat)
  /-- LOCKSTEP_RETRY_WINDOW_END, R447. -/
  | lockstepRetryWindowEnd (sinceMs : Nat)
  /-- FAST_PULSE_RETURN, R304. -/
  | fastPulseReturn
  deriving DecidableEq, Repr

end Sys2Proof
end

