-- ==== Sys2Proof/Decode.lean ====
section
/-!
DEFINITION. Decode.lean: the command that a word of the table spells. The table gives no row any bits: the block takes its
commands as events and object transfers, so no word spells one.
-/
namespace Sys2Proof

/-- The command that `nbits` bits of value `w` spell: none, for no row of the table has bits. -/
def decodeTableWord (_nbits _w : Nat) : Option Instr := none

end Sys2Proof
end

