-- ==== Sys2Proof/Config.lean ====
section
/-!
DEFINITION. Config.lean: the free values of the model. Each is an opaque constant without a body: the spec states the
effect in which it stands and leaves its value open, so that a claim holds whatever it is. DESIGN CHOICE, log entry 3. Safe.
-/
namespace Sys2Proof.Config

/-- The temperature in 1/16 °C that the logarithm of R360 gives for a ratio in 1/4096, R25 in Ω and β in K.
R360 states the formula over the reals and no rounding. -/
opaque ntcTemp : (ratio r25 beta : Nat) → Int

/-- The real functions of the tuning procedure (R160, R161), which states them over the reals and no rounding: π, square root, the
angle in degrees of a complex number given as its imaginary and real part, cosine and sine of an angle in degrees, and e to a power. -/
opaque piR : Rat
opaque sqrtR : Rat → Rat
opaque argDeg : (im re : Rat) → Rat
opaque cosDeg : Rat → Rat
opaque sinDeg : Rat → Rat
opaque expR : Rat → Rat

/-- A frequency in Hz times the square root of 2, which R159 does not round. -/
opaque timesRootTwo : Nat → Nat

/-- Entry `i` of the plant that R160 fits to the phasors (X and Y, real and imaginary, one list for each tone) with the active set
and G_m fixed: 0 L_eff in pH, 1 C in µF, 2 R_c in µΩ, 3 R_L in µΩ, 4 τ in ps. R160 names the model and no method of fitting. -/
opaque fitPlant : (phasors : List (List Int)) → (active : List Nat) → (gm : Rat) → (i : Nat) → Nat

/-- What R160 interpolates from the measured loop gain at the tones' frequencies, by no stated method: the crossover in Hz, the phase
margin in 0.1° and the gain margin in 0.1 dB. -/
opaque loopCrossover : (phasors : List (List Int)) → (tonesHz : List Nat) → Nat
opaque loopPm : (phasors : List (List Int)) → (tonesHz : List Nat) → Int
opaque loopGm : (phasors : List (List Int)) → (tonesHz : List Nat) → Int

/-- The phase margin in 0.1°, the gain margin in 0.1 dB and the crossover in Hz that the fitted model predicts for a set, from the plant,
G_m and the sample rate (R161, R162). No method of finding the crossings is stated. -/
opaque predictPm : (plant set : List Nat) → (gm : Rat) → (fs : Rat) → Int
opaque predictGm : (plant set : List Nat) → (gm : Rat) → (fs : Rat) → Int
opaque predictCrossover : (plant set : List Nat) → (gm : Rat) → (fs : Rat) → Nat

/-- The voltage-loop demand of the charger in CV, in mA (R291, R305): the spec states no value of it (log entry 3). -/
opaque voltageDemand : (mainMv chargeMv : Nat) → Nat

/-- The product of a pole coefficient code and a difference of compensator states in 1/65536 tap, held to 16 fractional bits
of a tap. R150 states no rounding. -/
opaque poleProduct : (code : Nat) → (diff : Int) → Int

/-- The value read from the vendor debug port while debug access is open; R553 does not describe that port. -/
opaque vendorPort : Nat → Nat

/-- What the vendor's OTP regions hold and no rule lays out: 0 the serial number, 1 the patches applied, 2 the patch level, 3 the
SRAM rows repaired (R526, Table 20-15). -/
opaque vendorValue : Nat → Nat

/-- A value that the spec leaves open where no formula stands, the `n`th drawn. -/
opaque openValue : Nat → Nat

end Sys2Proof.Config
end

