-- ==== Sys2Proof/Machine/State.lean ====
section
/-!
DEFINITION. Machine/State.lean: the state of the RHP-9220 as plain data, the reasons a command can stop, and the state after
reset. Every field's default value is its value at reset: the value the spec gives, else the value that log entry 2 names.
-/
namespace Sys2Proof.Machine

/-- A finite map from object keys (index × 256 + subindex) to values, keys strictly rising. -/
abbrev ObjMap := List (Nat × Int)

/-- Memory as cells in canonical form: addresses strictly rising, no cell equal to what an unlisted address reads as. -/
abbrev Memory := List Host.Cell

/-! ## Heartwood domain (R14, Table 1-3) -/

/-- The states of R28; TEST is the overlay `Power.test`. -/
inductive PState where
  | off | ship | standby | run | idle | holdup | safe
  deriving DecidableEq, Repr

/-- The heartwood domain: it alone keeps running while the core domain is unpowered. -/
structure Heartwood where
  powered : Bool := true           -- its supply has risen above 10.0 V and not since fallen below 8.0 V (R66)
  counter : Nat := 0               -- 0x2061:01, R9, R10
  thermalLatch : Bool := false     -- R35
  lastCause : Nat := 0x01          -- 0x2041:01, Table 2-3
  lastResetTime : Nat := 0         -- 0x2041:02
  powerOnCount : Nat := 1          -- 0x2041:04; the power-on of reset counts
  stateBeforeShip : Nat := 0       -- R87, as Table 2-6
  wdcResets : Nat := 0             -- 0x24C0:03
  wdcTime : Nat := 0               -- 0x24C0:04
  wdhFails : Nat := 0              -- 0x24C6:03
  fallback : Bool := false         -- 0x2060:04, R45
  crystalRunning : Bool := false   -- the 32.768 kHz crystal drives the counter (R573)
  shipHold : Bool := false         -- battery FET hold-off in SHIP
  wakeTick : Nat := 0              -- heartwood time at which SHIP ended (R89)
  deriving DecidableEq, Repr

/-! ## Power state, resets and clocks (chapters 2 and 3) -/

structure Power where
  state : PState := .run           -- 0x2040:01
  test : Bool := false             -- TEST overlay
  previous : Nat := 0              -- 0x2040:02, as Table 2-6
  lastTime : Nat := 0              -- 0x2040:03
  wakeSource : Nat := 0            -- 0x2041:03
  coreOn : Bool := true            -- the core domain is powered and its reset released
  brownOut : Bool := false         -- a brown-out reset waits for VPRE to recover (R37)
  beforeHoldup : PState := .run
  holdupEntry : Nat := 0
  nrstLow : Bool := false          -- R39
  coresStopped : Bool := false     -- cores held by nRST or halted by a debugger
  lockstepWindow : Bool := false   -- within 1 s of a lockstep restart (R447, FS107)
  deriving DecidableEq, Repr

structure Clocks where
  crystal : Bool := false          -- 0x2060:01
  crystalWanted : Bool := false    -- OTP selects the crystal and it is starting (R40)
  pllLocked : Bool := true         -- 0x2060:02
  wdoscCount : Nat := 0            -- 0x2060:03
  measuring : Bool := false        -- the R44 measurement is due
  lastTimeValue : Nat := 0         -- 0x2061:02
  counterAtTime : Nat := 0         -- 0x2061:03
  deriving DecidableEq, Repr

structure Straps where
  node : Nat := 0                  -- 0x2006:01
  addr : Nat := 0                  -- 0x2006:02
  disagree : Nat := 0              -- 0x2006:03
  deriving DecidableEq, Repr

/-! ## Power path (chapter 4) -/

/-- A MOSFET pair: off, ideal diode, or (DCIN) linear at the current limit. -/
inductive Pair where
  | off | ideal | linear
  deriving DecidableEq, Repr

/-- Why the DCIN pair is held off although DCIN is valid. -/
inductive PairLock where
  | none | reverse | dissipation | overVoltage
  deriving DecidableEq, Repr

/-- Actions that a brown-out warning defers (R83, R84), in order. -/
inductive Deferred where
  | insertion (rail : Nat)
  | tuning (rail : Nat)
  deriving DecidableEq, Repr

/-- The stages of ship entry (R87, Table 4-4); `abandoned`: DCIN became valid in the off order, which still completes (R31). -/
inductive ShipStage where
  | none | offOrder | abandoned | committing | pastReturn
  deriving DecidableEq, Repr

structure Path where
  dcinValid : Bool := false
  batValid : Bool := false
  trunkOv : Bool := false          -- both pairs held off by a trunk over-voltage
  dPair : Pair := .off             -- DGATE
  dRamp : Bool := false            -- its present turn-on is ramped at 2.0 V/ms (R70)
  dLock : PairLock := .none
  bPair : Pair := .off             -- BGATE
  bRamp : Bool := false
  supplement : Bool := false
  dcinMv : Nat := 0                -- 0x2101:01
  batMv : Nat := 0                 -- 0x2101:02
  vsysMv : Nat := 0                -- 0x2101:03
  dcinMA : Int := 0                -- 0x2101:04
  vpreMv : Nat := 0                -- 0x2101:05
  holdMv : Nat := 0                -- 0x2101:06
  warnings : Nat := 0              -- 0x2101:07
  supplements : Nat := 0           -- 0x2101:09
  warning : Bool := false          -- brown-out warning, R83
  deferred : List Deferred := []
  holdReady : Bool := false        -- 0x2102:03
  holdSeen : Bool := false         -- HOLD has been ready since the device power-on reset (R80)
  capUf : Nat := 0                 -- 0x2102:01
  capTimed : Bool := false         -- the rise of R79 was timed, or could not be
  holdupUs : Nat := 0              -- 0x2102:04
  ship : ShipStage := .none
  deriving DecidableEq, Repr

/-! ## Grove (chapters 5 to 7) -/

inductive Role where
  | unwired | available | sapling | retired
  deriving DecidableEq, Repr

inductive Firing where
  | firing | shed | ramping | leaving
  deriving DecidableEq, Repr

structure PhaseSt where
  role : Role := .unwired
  fstate : Firing := .shed
  stamp : Nat := 0                 -- order in which the phase entered its firing state
  trim : Int := 0                  -- 0x2210+n:09
  currentMA : Int := 0             -- 0x2210+n:06
  rippleMA : Int := 0              -- 0x2210+n:08
  m1 : Nat := 0                    -- 0x2210+n:0A
  m2 : Nat := 10000                -- 0x2210+n:0B
  m3 : Int := 0                    -- 0x2210+n:0C
  m4 : Nat := 0                    -- 0x2210+n:0D
  balSat : Bool := false
  high : Nat := 0                  -- the High interval last fired, taps (R100)
  lowEnded : Bool := false         -- its Low was ended by the negative limit: mid for the rest of the cycle (R195)
  effortSum : Nat := 0             -- balance efforts of this second, 0.01 %, and how many (M1)
  effortNo : Nat := 0
  hits : Nat := 0                  -- qualifying current-limit events of this second (M4)
  faultKept : Bool := false        -- RETIRED with reason 0x01 and still sampled for its fault (R126)
  markReason : Nat := 0            -- RETMARK: the reason of a planned retirement, 0 none
  warned : Nat := 0                -- bit m − 1: metric m is outside its warning threshold and logged
  beyond : List Nat := [0, 0, 0, 0] -- consecutive evaluations beyond the retirement threshold, M1 to M4
  recorded : Option Role := none   -- the role that the device record holds, once a change has been recorded (R105)
  reason : Nat := 0                -- 0x2210+n:0E
  roleTime : Nat := 0              -- 0x2210+n:0F
  leavingRetires : Nat := 0        -- the retirement reason a phase that leaves for good takes, 0 none
  deriving DecidableEq, Repr

/-- An insertion on a rail (R129): the sapling, the lost phase whose place in the rotation list it takes (none: the end of the
list), and the phase that retires after it. -/
structure Insertion where
  phase : Nat
  replaces : Option Nat
  retiring : Option Nat
  retireReason : Nat
  begun : Bool
  deriving DecidableEq, Repr

/-- An insertion that a rail owes: after a loss, or again because its sapling was lost or a restart cut it short (Table 5-6, R20). -/
structure Owed where
  replaces : Option Nat
  named : Option Nat               -- the sapling that a manual insert names
  retiring : Option Nat
  retireReason : Nat
  again : Bool
  deriving DecidableEq, Repr

/-- Placement of one rail (chapter 5). -/
structure Placement where
  order : List Nat := []           -- rotation list; a lost phase marks its place until a sapling takes it
  pointer : Nat := 0               -- step-order pointer
  insertion : Option Insertion := none
  owed : List Owed := []           -- insertions that wait for the one in progress, or for a sapling
  rotating : Option Nat := none    -- phase brought in by a shed-set rotation in progress
  rotateAgain : Bool := false      -- a rotation cut short by a restart begins again (R20)
  deriving DecidableEq, Repr

/-- What a grove rail is doing. -/
inductive RailMode where
  | off | softStart | regulating | softStop
  deriving DecidableEq, Repr

/-- A sample that the loop has taken, with the reference and the voltage it judged: the sense pair or LS_r + c, and V_diff − V_LS
where both were sampled. -/
structure Taken where
  gap : Nat
  vref : Nat
  e : Int
  eow : Bool
  uv : Int
  diff : Option Int
  deriving DecidableEq, Repr

/-- The regulation loop of one rail (chapter 6). -/
structure Loop where
  hist : List Taken := []          -- the samples of the last 1 ms, newest first
  rampNum : Nat := 0               -- step interval of the soft start or soft stop, rampNum ÷ rampDen ns
  rampDen : Nat := 0
  rampAcc : Nat := 0               -- time toward the next code, in ns × rampDen × 24
  track : Option Nat := none       -- PGCLK cycles for which the tracking error of R170 has been exceeded
  inRun : Nat := 0                 -- consecutive samples whose mean is in band (R155)
  below : Nat := 0                 -- consecutive samples with u_ff + w2 below u_min (R184)
  above : Nat := 0                 -- consecutive samples with u_ff + w2 at or above u_min + 8 taps (R186)
  atMin : Nat := 0                 -- consecutive samples with the output at u_min (R172)
  lead : Nat := 0                  -- lead of the last sample, PGCLK cycles (R147)
  vref : Nat := 0                  -- present reference, codes of 250 µV
  target : Nat := 0                -- target code
  i : Int := 0                     -- compensator states, 1/65536 tap
  w1 : Int := 0
  w2 : Int := 0
  ePrev : Int := 0
  active : List Nat := [0x0100, 0x0010, 0x0000, 0x8000, 0x8000, 256]      -- 0x2200+r:16
  configured : List Nat := [0x0100, 0x0010, 0x0000, 0x8000, 0x8000, 256]
  committed : Option (List Nat) := none   -- a shadow set committed while off, for the next soft start (R154)
  uff : Nat := 0                   -- feed-forward at its last update, taps (R152)
  inBand : Bool := false
  eow : Bool := false
  isat : Bool := false
  osat : Bool := false
  tuning : Bool := false
  outUv : Nat := 0                 -- 0x2200+r:14
  u : Nat := 0                     -- compensator output, taps (R149)
  railMA : Int := 0                -- 0x2200+r:15
  excursions : Nat := 0            -- 0x2200+r:17
  conflicts : Nat := 0
  deriving DecidableEq, Repr

/-- Transients and protection of one rail (chapter 7). -/
structure RailSt where
  mode : RailMode := .off
  trip : Bool := false
  preBiasUv : Nat := 0
  hold : Bool := false             -- step hold
  forecast : Bool := false         -- FCAST
  fcOff : Nat := 0                 -- forecast offset in force, codes
  fired : List Nat := []           -- the phases of the last step-fire event in firing order (R175)
  fcPulse : Bool := false          -- a forecast step pulse is due
  fcStuck : Bool := false
  fcIgnored : Nat := 0             -- LSF inputs ignored until low
  brake : Bool := false
  brakeRest : Bool := false        -- the switching period after a brake, in which no brake starts
  skip : Bool := false             -- pulse skipping
  localSense : Bool := false       -- LOCAL
  gsP : Nat := 0                   -- consecutive failed checks
  gsN : Nat := 0
  corrUv : Int := 0                -- local correction c at the sense pins, µV (R190); 0x2200+r:3B reports k × c
  negZero : Bool := false          -- the negative limit is 0 A (R167, R185)
  uvArmed : Bool := false          -- R169
  counts : List Nat := [0, 0, 0, 0, 0, 0, 0, 0]  -- 0x2200+r:3E
  reason : Nat := 0                -- 0x2200+r:3D
  tripTime : Nat := 0              -- 0x2200+r:3F
  lp : Loop := {}
  pl : Placement := {}
  deriving DecidableEq, Repr

inductive TuneStage where
  | tones (n : Nat) | fitting | verifying
  deriving DecidableEq, Repr

structure TuneRun where
  rail : Nat
  stage : TuneStage
  before : List Nat                -- the active set when the run began
  startMA : Int
  startMv : Nat
  toneHz : Nat                     -- the tone being injected (R159, R162)
  limitUv : Nat                    -- largest component of V_diff at its frequency, 0.5 % of V_ref (R159)
  tones : List Phasors             -- the phasors measured, first tone first
  deriving DecidableEq, Repr

structure TuneResult where
  crossover : Nat := 0             -- 0x223A
  pm : Int := 0                    -- 0x223B
  gm : Int := 0                    -- 0x223C
  outcome : Nat := 0               -- 0x223D
  time : Nat := 0                  -- 0x223E
  plant : List Nat := [0, 0, 0, 0] -- 0x223F
  deriving DecidableEq, Repr

structure Grove where
  ph : Vector PhaseSt 20 := Vector.replicate 20 {}
  rail : Vector RailSt 8 := Vector.replicate 8 {}
  insertions : Nat := 0            -- 0x2236:04
  retirements : Nat := 0           -- 0x2236:05
  nextStamp : Nat := 0
  run : Option TuneRun := none
  runNext : List Nat := []         -- rails placed first in the turn by 0x2238:03 or after a deferral, in order
  lastRun : Nat := 7               -- the rail last run (R157); the first turn begins at GR0
  result : Vector TuneResult 8 := Vector.replicate 8 {}
  lsf : Nat := 0                   -- accepted levels of LSF3 to LSF0 (LSFIN)
  deriving DecidableEq, Repr

/-! ## Integrated rails and enables (chapter 8) -/

structure ChanSt where
  on : Bool := false
  sstart : Bool := false
  trip : Bool := false
  refMv : Nat := 0                 -- present reference
  targetMv : Nat := 0
  rampNum : Nat := 0               -- rate of the soft start, rampNum ÷ rampDen mV/µs: set-point at its start ÷ soft-start time (R208)
  rampDen : Nat := 1
  rampAcc : Nat := 0               -- time toward the next step of the reference
  inLost : Bool := false           -- IB: the input has fallen below 4.2 V and not since risen above 4.4 V (R211)
  hiccup : Bool := false           -- off in a hiccup
  recovery : Bool := false         -- in a recovery soft start
  consecutive : Nat := 0           -- consecutive hiccups
  hiccups : Nat := 0               -- 0x2240+n:0E
  pgood : Bool := false
  skip : Bool := false
  disch : Bool := false
  dropout : Bool := false
  uvArmed : Bool := false
  outMv : Nat := 0
  outMA : Int := 0
  inMv : Nat := 0
  reason : Nat := 0
  tripTime : Nat := 0
  deriving DecidableEq, Repr

structure XeSt where
  en : Bool := false
  pgIn : Bool := false
  pgood : Bool := false
  early : Bool := false
  trip : Bool := false
  reason : Nat := 0
  tripTime : Nat := 0
  deriving DecidableEq, Repr

structure Integ where
  ib : Vector ChanSt 6 := Vector.replicate 6 {}
  ld : Vector ChanSt 8 := Vector.replicate 8 {}
  xe : Vector XeSt 8 := Vector.replicate 8 {}
  ibMw : Nat := 0                  -- 0x2010:03
  ldMw : Nat := 0                  -- 0x2010:04
  refusal : Nat := 0               -- 0x2010:05
  overrun : Nat := 0               -- 0x2010:06
  deriving DecidableEq, Repr

/-! ## Sequencer and supervisor (chapter 9) -/

inductive SeqState where
  | idle | onOrder | abort | pause | offOrder | safeOff | safeOn | fastOff | held
  deriving DecidableEq, Repr

/-- The first failure of a run, or the cause of a SAFE reaction (R252, Table 9-5). -/
structure Failure where
  kind : Nat
  branch : Nat
  unit : Nat
  reason : Nat
  attempt : Nat
  starts : Nat
  state : Nat
  time : Nat
  fromStart : Nat
  outMv : Nat
  trunkMv : Nat
  mask : Nat
  deriving DecidableEq, Repr

/-- What an off order leads to once it is complete. -/
inductive AfterOff where
  | idle | standby | ship | retry | safe | full | group
  deriving DecidableEq, Repr

structure Seq where
  state : SeqState := .idle
  before : SeqState := .idle       -- the order that waits while HELD
  attempt : Nat := 0
  starts : Nat := 0                -- common starts of the run
  members : Nat := 0               -- the set the present on order starts (mask)
  todo : Nat := 0                  -- branches of the set whose slot has not been reached
  timerUs : Nat := 0               -- 0x2300:04 as it stood at heartwood time timerTick
  offUs : Nat := 0                 -- 0x2300:05 as it stood then
  timerTick : Nat := 0
  offTodo : Nat := 0               -- branches whose group has not fallen due
  offWait : Nat := 0               -- branches of the present group not yet discharged
  after : AfterOff := .idle
  finalFail : Bool := false        -- SAFE is entered by the failure of the last retry
  noRecord : Bool := false         -- SAFE_ON started by a return from HOLDUP (R245)
  dto : Bool := false
  cascade : Bool := false
  startDue : Bool := true          -- the common start of the full sequence waits for R230
  awaitPulse : Bool := false       -- an announced Start waits for its CSYNC pulse (R269)
  tapWait : Bool := false          -- a common start that fell due waits for the test port (R552)
  groupDue : Bool := false         -- the WD-H action 0x01 waits for the sequencer to be IDLE
  shipDue : Bool := false          -- a SHIP escalation waits for SAFE to be entered (Table 17-5)
  safeTick : Nat := 0              -- heartwood time of the last SAFE reaction that began an entry
  groupRun : Bool := false         -- the on order is that of the WD-H action 0x01
  heldFail : List Failure := []    -- failed starts that arose while HELD, as they stood (R246)
  wakeDue : Bool := false          -- a wake kept during the off order of a STANDBY entry
  resumeDue : Bool := false        -- a resume kept until SAFE_ON reaches IDLE
  held : Option Failure := none   -- held first failure
  cause : Option Failure := none   -- held cause of a kind 0x02 record
  failed : Nat := 0                -- failed mask
  completed : Nat := 0             -- 0x2300:09
  finals : Nat := 0                -- 0x2300:0A
  record : Option Failure := none  -- 0x2310:01, kept in non-volatile storage
  staged : Option Failure := none  -- staging register, R254
  events : Nat := 0                -- 0x2310:03
  deriving DecidableEq, Repr

structure BranchJ where
  good : Bool := false
  inWindow : Nat := 0              -- consecutive conversions inside the fault window before good
  wwin : Bool := false
  fwin : Bool := false
  wOut : Nat := 0                  -- consecutive conversions outside the warning window
  fOut : Nat := 0
  wIn : Nat := 0                   -- consecutive conversions inside, toward clearing
  fIn : Nat := 0
  dto : Bool := false
  skip : Bool := false
  failed : Bool := false
  counted : Bool := false          -- turned on by an order or counted under R232, and not yet good
  outMv : Nat := 0                 -- last conversion
  offRefMv : Nat := 0              -- reference in force before turn-off
  discharged : Bool := true        -- discharged since its last turn-off, or never turned on (R248)
  deriving DecidableEq, Repr

/-! ## Cascade (chapter 10) -/

inductive LinkState where
  | search | joined | lost | noSlot | conflict
  deriving DecidableEq, Repr

structure SlaveView where
  present : Bool := false
  lost : Bool := false
  valid : Nat := 0                 -- consecutive valid status frames
  missed : Nat := 0
  safeReq : Bool := false          -- its last frame asked for SAFE
  fstart : Bool := false           -- its last frame reported a failed start
  members : Nat := 0               -- sequence members learned by GET_INFO
  status : List Nat := [0, 0, 0, 0, 0, 0, 0, 0, 0, 0, 0, 0, 0, 0, 0, 0]  -- 0x2382
  good : Nat := 0
  on : Nat := 0
  ready : Bool := false
  idle : Bool := false
  deriving DecidableEq, Repr

/-- The master's open cascade transaction (R281 to R284). -/
structure Txn where
  tag : Nat                        -- that of its journal entry
  committed : Bool
  units : Nat                      -- units concerned
  prepared : Nat                   -- units that were sent PREPARE
  voted : Nat                      -- units that voted YES
  confirmed : Nat                  -- units that answered COMMITTED
  ended : Nat                      -- units with a final outcome or lost
  deriving DecidableEq, Repr

/-- A message that the master has queued for a slave. -/
structure Msg where
  addr : Nat
  type : Nat
  tag : Nat
  data : List Nat
  deriving DecidableEq, Repr

/-- A message that a slave has received (Table 10-8). -/
inductive CMsg where
  | prepare (tag index count : Nat) (targets : List CTarget)
  | pollVote (tag : Nat)
  | commit (tag : Nat) (starts : Vector StartMeas 30)
  | pollOutcome (tag : Nat)
  | abort (tag : Nat)
  | inquire
  | getFail
  | getInfo
  | unknown (tag : Nat)
  deriving DecidableEq, Repr

structure Cascade where
  role : Nat := 0                  -- 0x2381:01
  units : Nat := 1                 -- 0x2380:01 as latched at the device power-on reset (R257)
  link : LinkState := .search
  validBeacons : Nat := 0
  rejoin : Bool := false           -- REJOIN pending
  slaves : Vector SlaveView 8 := Vector.replicate 8 {}
  discarded : Nat := 0             -- 0x2381:05
  starts : Nat := 0                -- 0x2381:06
  broadcasts : Nat := 0            -- 0x2381:07
  offset : Int := 0                -- 0x2381:08
  linkReason : Nat := 0            -- 0x2381:0A
  cycle : Nat := 0
  order : Nat := 0                 -- order repeated in the beacon, Table 10-7
  orderTag : Nat := 0
  lastTag : Nat := 256             -- last order tag carried out by this slave; 256 none
  announced : Bool := false        -- CSTART seen in the present cycle
  startArmed : Bool := false       -- a Start order waits for its CSYNC pulse (slave)
  summary : Bool := false          -- FMT of the last valid beacon (slave)
  safeReq : Bool := false          -- SAFEREQ
  failPending : Option (Nat × Nat) := none   -- branch and reason of a slave's failed start since the last order
  lastFail : Nat × Nat := (0xFF, 0)          -- the same since the last Start, as GET_FAIL answers it
  csyncLow : Bool := false         -- this unit drives CSYNC
  joinDone : Bool := false         -- the first Start has been issued
  txn : Option Txn := none
  messages : List Msg := []
  sent : Option Msg := none        -- the message of the present cycle
  reply : ReplyMsg := ⟨0x00, 0, 0xFFFF, 0⟩   -- answer due in the reply window
  replyDue : Bool := false
  statusDue : Bool := false        -- the beacon of this cycle was valid, so the slave may send in it (R265)
  segments : List CTarget := []    -- targets of the PREPARE received so far
  segCount : Nat := 0              -- segments of that PREPARE, and how many have been received
  segGot : Nat := 0
  vote : Nat := 0                  -- 0 pending, 2 YES, 3 NO
  voteDetail : Nat := 0
  voteTag : Nat := 0xFFFF
  deriving DecidableEq, Repr

/-! ## Charger (chapter 11) -/

/-- Charger phases, Table 11-2. -/
inductive ChgPhase where
  | disabled | wait | precharge | fastPulse | fastCc | cv | done | noPack | stopped
  deriving DecidableEq, Repr

/-- What a presence probe was started by (R311, R312). -/
inductive Probe where
  | none | overVoltage | collapse
  deriving DecidableEq, Repr

structure Charger where
  phase : ChgPhase := .disabled    -- 0x2141:01
  tempHold : Bool := false         -- hold TEMP, R308
  tempIn : Nat := 0                -- consecutive samples inside the narrowed window
  timerHold : Bool := false        -- hold TIMER, R298
  wdExpired : Bool := false        -- WDEXP, R315
  sharing : Bool := false          -- INSHARE, R294
  shareMA : Nat := 0               -- input-sharing demand
  inRest : Bool := false           -- FAST_PULSE is in a rest
  sessionS : Nat := 0              -- 0x2141:07
  pulses : Nat := 0                -- 0x2141:08
  completed : Nat := 0             -- 0x2141:09
  stopReason : Nat := 0            -- 0x2141:0A
  phaseTime : Nat := 0             -- 0x2141:0B
  sessionStart : Int := 0          -- Abacus count at the start of the session
  currentMA : Int := 0             -- 0x2141:03
  mainMv : Nat := 0                -- 0x2141:04
  region : Nat := 0                -- 0x2141:06
  probe : Probe := .none
  sink : Bool := false             -- the 20 mA sink of R311 and R313
  wdStart : Nat := 0               -- heartwood time at which the watchdog timeout last started
  drvRestart : Bool := false       -- CHG_DRV has stopped and restarts after 1 ms (FS067)
  deriving DecidableEq, Repr

/-! ## Gauge (chapter 12) -/

/-- A copy of the gauge store (Table 12-1), its CRC correct. -/
structure StoreCopy where
  seq : Nat
  time : Nat
  count : Int
  rc : Int
  fcc : Int
  rRef : Nat
  terms : List Nat                 -- R_s, R_f, R_l in µΩ
  cycles : Nat
  toward : Int
  shunt : Nat
  anchor : Option (Nat × Int)      -- open anchor: absolute SoC in 0.01 % and count
  present : Bool
  disagree : Bool
  relearn : Bool
  estValid : Bool
  shipW : Bool
  deriving DecidableEq, Repr

/-- An impedance measurement in progress (R345). -/
structure ImpMeas where
  v0 : Int                         -- µV
  i0 : Int                         -- mA
  charger : Bool := false          -- started by a charger edge
  edgeTime : Nat := 0              -- heartwood time of the edge
  i1 : Int := 0                    -- at 1 ms
  v1 : Int := 0
  v10 : Int := 0
  next : Nat := 0                  -- the instant that comes next
  deriving DecidableEq, Repr

/-- What the frames of one second give the gauge (R323 to R327). -/
structure GaugeSum where
  delta : Int                      -- beads
  part : Int                       -- the rest below one bead
  tail : List Int                  -- the last 40 contributions
  frameMA : Int                    -- current of the last frame
  meanMA : Int                     -- mean of the second
  overRange : Bool                 -- an over-range frame
  quiet : Bool                     -- every frame below the rest threshold
  steady : Bool                    -- every frame within ±10 % of the mean
  disagree : Bool                  -- the two modulators differ by more than R327 allows
  deriving DecidableEq, Repr

/-- One filtered impedance term (R347). -/
structure Term where
  value : Nat := 0                 -- µΩ
  taken : Nat := 0                 -- accepted values
  deriving DecidableEq, Repr

structure Gauge where
  count : Int := 0                 -- Abacus count, beads
  part : Int := 0                  -- what the frames have added below one bead, in 1/320000 bead
  tail : List Int := []            -- the last 40 contributions, in 1/80 nV (R327)
  offBOld : Int := 0               -- offset of modulator B before its calibration of this second (R323)
  restS : Nat := 0                 -- whole seconds in which every frame has been below the rest threshold
  fresh : Bool := false            -- the gauge state was reset in this second (R340)
  disagreed : Bool := false        -- the modulators differed in the last second, and are compared again (FS070)
  unadded : Int := 0               -- count change not yet added to RC: the estimates pause while the cores do
  rc : Int := 0                    -- remaining charge, beads
  fcc : Int := 0                   -- full charge capacity, beads
  present : Bool := false          -- flags of Table 12-8
  estValid : Bool := false
  rested : Bool := false
  disagree : Bool := false
  relearn : Bool := false
  empty : Bool := false
  vbound : Bool := false
  ovr : Bool := false
  vunav : Bool := false
  frozen : Bool := false
  exclA : Bool := false            -- modulators excluded (R327)
  exclB : Bool := false
  offA : Int := 0                  -- measured offsets, nV
  offB : Int := 0
  waiting : Bool := false          -- the insertion estimate of R338 is awaited
  wakeDue : Bool := false          -- the wake estimate of R355 is awaited
  emptied : Bool := false          -- an empty request fell in this second (Table 12-3)
  meanMA : Int := 0                -- 0x2181:02
  frameMA : Int := 0               -- 0x2181:03
  uncertainty : Nat := 0           -- 0x2181:09
  bound : Nat := 0                 -- 0x2181:0A
  cycles : Nat := 0                -- 0x2181:0B
  estTime : Nat := 0               -- 0x2181:0C
  quality : Nat := 0               -- 0x2181:0D
  toward : Int := 0                -- discharge toward the next cycle, beads
  rS : Term := {}
  rF : Term := {}
  rL : Term := {}
  accepted : Nat := 0              -- 0x2183:04
  rejected : Nat := 0              -- 0x2183:05
  accTemp : Int := 0               -- 0x2183:06
  accTime : Nat := 0               -- 0x2183:07
  sohImp : Nat := 0                -- R_s + R_f of the last measurement between 20 °C and 30 °C, 0 none
  rRef : Nat := 0                  -- learned reference impedance, 0 none
  rRefDue : Bool := false          -- a new pack's reference is to be learned
  meas : Option ImpMeas := none
  anchor : Option (Nat × Int) := none
  spanOk : Nat := 0                -- 0x2184:01
  spanBad : Nat := 0               -- 0x2184:02
  badRun : Nat := 0                -- consecutive rejected spans
  spanMAh : Int := 0               -- 0x2184:03
  spanSoc : Nat := 0               -- 0x2184:04
  spanTime : Nat := 0              -- 0x2184:05
  copy0 : Option StoreCopy := none
  copy1 : Option StoreCopy := none
  due : Bool := false              -- a store write waits
  counted : Bool := false          -- and has been counted as deferred
  writing : Option StoreCopy := none
  shipW : Bool := false
  deferred : Nat := 0              -- 0x2185:05
  rcWritten : Int := 0             -- RC at the last write
  sinceWrite : Nat := 0            -- seconds toward the store interval
  deriving DecidableEq, Repr

/-! ## Thermal management (chapter 13) -/

/-- One sensor of 0x240B: TD0 to TD11, TN0 to TN7, TMON_0 to TMON_7. -/
structure Sensor where
  reading : Int := 0               -- after substitution, 1/16 °C
  broken : Bool := false
  inTest : Bool := false           -- declared broken while TEST was active (R548)
  suspect : Bool := false
  grad : Bool := false
  model : Bool := false
  maxsub : Bool := false
  bad : Nat := 0                   -- consecutive suspect or out-of-range samples
  inRange : Nat := 0               -- consecutive samples in range while broken
  shut : Nat := 0                  -- consecutive samples at the shutdown threshold
  history : List Int := []         -- the last 64 normal differences from the neighbours' median (R370)
  deriving DecidableEq, Repr

structure GroupCond where
  warn : Bool := false
  throttle : Bool := false
  deriving DecidableEq, Repr

structure Thermal where
  sensor : Vector Sensor 28 := Vector.replicate 28 {}
  group : Vector GroupCond 3 := Vector.replicate 3 {}   -- die, remote, stage
  hotStages : List Nat := []       -- rails tripped by their stage report and not yet cool (R368)
  throttle : Bool := false         -- THR
  throttleTime : Nat := 0          -- 0x240C:03
  throttleCount : Nat := 0         -- 0x240C:04
  fast : Bool := false             -- FAST
  checked : Bool := false          -- the cores have cross-checked the die group since the reset
  missing : Bool := false          -- FS091: the die group counts as in throttle
  nvBlocked : Bool := false        -- NVBLK, R372
  deriving DecidableEq, Repr

/-! ## Housekeeping converters (chapter 14) -/

structure Converter where
  excluded : Bool := false
  inTest : Bool := false           -- excluded while TEST was active (R393)
  inject : Bool := false           -- an injected run is in progress
  pending : List Requester := []   -- injected requests waiting, oldest first
  ranInPass : Bool := false        -- HKADC-A has made its injected run of this pass (R385)
  scan : Nat := 0                  -- passes since the sequence started, for banks with SCAN (R378)
  entry : Nat := 0                 -- the next entry to end
  passes : Nat := 0
  checkFails : Nat := 0            -- consecutive check conversions outside 2048 ± 12
  check : Nat := 0                 -- last check code
  last : Int := 0                  -- last result, aligned as the converter aligns it
  deriving DecidableEq, Repr

structure Hkadc where
  a : Converter := {}
  b : Converter := {}
  armed : Bool := false            -- mode 0x02 waits for a trigger
  running : Bool := false          -- HKADC-B's host sequence runs
  taken : Bool := false            -- TAKEN
  excludedNode : Option Nat := none   -- the excluded HKADC-A channel, 0x2440:03
  nodeInTest : Bool := false
  counts : ObjMap := []            -- consecutive disagreements by node
  rotate : Nat := 0                -- position of the rotating node (R386)
  disagreements : Nat := 0         -- 0x2440:04
  refused : Nat := 0               -- 0x2440:06
  missed : Nat := 0                -- 0x2441:06
  word : Nat := 0                  -- 0x2443:01
  full : Bool := false             -- the data register holds a result not yet taken
  lost : Bool := false             -- a result was lost just before the next one
  overruns : Nat := 0              -- 0x2443:02
  finishing : Bool := false        -- the conversion in progress at a stop still delivers its result
  deriving DecidableEq, Repr

/-! ## Timers (chapter 15) -/

/-- The registers of a timer that are not settings. -/
structure TimerRegs where
  psc : Nat := 0                   -- in force
  top : Nat := 0xFFFF
  cmp : Nat := 0
  cnt : Nat := 0
  up : Bool := true                -- DIR
  hpc : Nat := 0
  cmf : Bool := false
  ttf : Bool := false
  tbf : Bool := false
  cpf : Bool := false
  ovc : Bool := false
  word : Nat := 0                  -- capture word
  edges : Nat := 0
  deriving DecidableEq, Repr

structure Timer where
  regs : TimerRegs := {}
  saved : Option TimerRegs := none -- what the charger's taking set aside (R408); RSV
  run : Bool := false              -- RUN
  deriving DecidableEq, Repr


/-! ## Watchdogs (chapter 16) -/

structure Wdc where
  first : Bool := true             -- first period of R418
  halted : Bool := false           -- DBGFRZ, R419
  reason : Nat := 0                -- 0x24C0:05
  deriving DecidableEq, Repr

structure Wdh where
  armed : Bool := false
  armDue : Bool := true            -- an arming event of R424 waits for the group
  grace : Bool := false
  action : Option Nat := none      -- failure action in progress (Table 16-3)
  groupOn : Bool := false          -- action 0x01 has begun its on order
  tally : Nat := 0                 -- 0x24C6:02
  early : Nat := 0                 -- E, L and the mask in force in the present period (R429)
  late : Nat := 0
  mask : Nat := 1
  last : Nat := 0                  -- 0x24C5:01
  ignored : Nat := 0               -- 0x24C6:05
  group : Nat := 0                 -- host branch group and pulse width in force: 0x24C4:07 and :08 as of the last failure (R429)
  width : Nat := 10
  hrstLow : Bool := false          -- nHRST driven low
  readBack : Bool := false         -- FS119 already raised in this pulse
  hfrz : Bool := false             -- the level of HFRZ
  reason : Nat := 0                -- last failure, 0x24C6:04
  task : Nat := 0xFF
  missing : Nat := 0
  failTime : Nat := 0
  deriving DecidableEq, Repr
/-! ## Fault collector (chapter 17) -/

inductive SrcState where
  | clear | raised | timing | acked | escalated
  deriving DecidableEq, Repr

structure FaultSrc where
  state : SrcState := .clear       -- 0x2512; the sticky bit is set in every state but CLEAR
  count : Nat := 0                 -- 0x2513
  reason : Nat := 0                -- reason of the event that set the sticky bit
  retrying : Bool := false         -- a first event of a source with a retry rule waits for its retry (R435)
  deriving DecidableEq, Repr

/-- An emergency message waiting for its inhibit time (R443, R444). -/
structure Emcy where
  code : Nat
  register : Nat
  cls : Nat
  reason : Nat
  time : Nat
  deriving DecidableEq, Repr

/-- A growth-ring log record (Table 17-7) without its sequence number, which the commit gives it. -/
structure LogRec where
  kind : Nat
  subject : Nat
  time : Nat
  cls : Nat
  reason : Nat
  state : Nat
  esc : Nat
  data : List Nat                  -- bytes 20 onward
  deriving DecidableEq, Repr

structure Faults where
  src : Vector FaultSrc 128 := Vector.replicate 128 {}
  lasting : Nat := 0               -- 0x2501:01
  escalations : Nat := 0           -- 0x2501:02
  transient : Nat := 0             -- 0x2501:03
  emcyDropped : Nat := 0           -- 0x2501:04
  logDropped : Nat := 0            -- 0x2501:05
  pulse : Bool := false            -- NFPULSE
  owed : List Nat := []            -- sources whose escalation fell due during HOLDUP
  emcyA : List Emcy := []
  emcyB : List Emcy := []
  deriving DecidableEq, Repr

/-! ## Ports, dictionary, PDOs and pool (chapter 18) -/

inductive Nmt where
  | init | preOp | operational | stopped
  deriving DecidableEq, Repr

/-- An open USDO session (R463). -/
structure Session where
  node : Nat
  id : Nat
  index : Nat
  sub : Nat
  total : Nat
  got : Nat
  value : Nat
  toggle : Bool
  buffer : Option (Nat × Nat)      -- the channel and sequence number of a buffer under transfer
  deriving DecidableEq, Repr

structure PortSt where
  nmt : Nmt := .preOp              -- 0x2004:08
  enabled : Bool := true           -- as latched by R452
  nominal : Nat := 2
  dataRate : Nat := 1
  brs : Bool := true
  busOff : Bool := false
  heldOff : Bool := false          -- off after a second bus-off (R453)
  passive : Bool := false
  warning : Bool := false
  txErr : Nat := 0
  rxErr : Nat := 0
  received : Nat := 0              -- 0x2004:09
  sent : Nat := 0
  discarded : Nat := 0
  shortPdos : Nat := 0
  refused : Nat := 0
  sessions : List Session := []
  queued : Nat := 0                -- frames of this port in the dictionary queue (R454)
  syncs : Nat := 0                 -- SYNCs received
  syncRpdo : List (Nat × List Nat) := []   -- synchronous RPDO data waiting for the next SYNC
  deriving DecidableEq, Repr

structure Client where
  active : Bool := false
  lastA : Option Nat := none       -- heartwood time of its last heartbeat on each port
  lastB : Option Nat := none
  timeout : Bool := false
  nmt : Nat := 0
  deriving DecidableEq, Repr

/-- Access codes; `rwro` is rwp whose writes are refused as read-only. -/
inductive Acc where
  | const | ro | wo | rw | rwp | rwro
  deriving DecidableEq, Repr

/-- Value types of objects: unsigned, signed, BOOLEAN, DOMAIN or string. -/
inductive Ty where
  | u | s | b | d
  deriving DecidableEq, Repr

/-- A row of an object table: a range of indices and of subindices with one type, access and range. -/
structure Row where
  lo : Nat
  hi : Nat
  slo : Nat
  shi : Nat
  ty : Ty
  size : Nat                       -- bytes; 0 for a DOMAIN of another length
  acc : Acc
  integrator : Bool                -- writing needs INTEGRATOR level
  dflt : Int                       -- ROM default
  min : Int
  max : Int
  stored : Bool
  journaled : Bool
  deriving DecidableEq, Repr

structure Dict where
  otp : ObjMap := []               -- OTP board-configuration values (layer 2)
  ceil : ObjMap := []              -- OTP ceilings, R22
  image : ObjMap := []             -- stored image in force, as loaded (layer 3)
  live : ObjMap := []              -- live values (layer 4)
  key : Option Nat := none         -- integrator key of the OTP board configuration
  unlocked : Bool := false         -- INTEGRATOR level unlocked by key
  mismatches : Nat := 0            -- 0x2002:04
  consecutive : Nat := 0
  lockout : Bool := false
  nodeId : Nat := 0x20             -- 0x2003:01
  nodeFromOtp : Bool := false      -- 0x2003:02
  clients : Vector Client 4 := Vector.replicate 4 {}
  tpdoLast : List (Nat × List Nat) := []   -- what each TPDO last sent, by 2 × number + port
  seqRpdo : Nat := 0               -- 0x2645:01
  deriving DecidableEq, Repr

/-- A telemetry buffer (R479, Table 11-18). -/
structure Buffer where
  chan : Nat
  seq : Nat
  bytes : List Nat
  time : Nat
  isOpen : Bool
  transfer : Bool
  isPartial : Bool
  deriving DecidableEq, Repr

structure Chan where
  seq : Nat := 0                   -- next buffer sequence number
  lostBuffers : Nat := 0
  lostBytes : Nat := 0
  dropped : Nat := 0
  loss : Bool := false
  deriving DecidableEq, Repr

structure Pool where
  buffers : List Buffer := []      -- buffers in use, oldest first
  chans : Vector Chan 24 := Vector.replicate 24 {}
  reclaims : Nat := 0              -- 0x2580:04
  deriving DecidableEq, Repr

/-! ## Command journal (chapter 19) -/

inductive EntryState where
  | accepted | prepared | applied | failed | partially
  deriving DecidableEq, Repr

/-- A journal entry (Tables 19-4 and 19-5). -/
structure Entry where
  client : Nat
  rpdo : Bool
  portB : Bool
  cascade : Bool
  action : Nat
  seq : Nat
  tag : Nat
  targets : List Target
  state : EntryState
  detail : Nat
  reached : Nat                    -- bit i: target i reached
  missed : Nat                     -- bit i: target i failed
  unitsLost : Nat
  going : Bool                     -- its targets are being applied: from PREPARED, on a slave from COMMIT
  endNo : Nat                      -- order in which entries ended; 0 while unended
  integrator : Bool                -- the access level in force at acceptance
  found : Bool                     -- still findable through 0x2644 (R492)
  pend : Option (EntryState × Nat) := none   -- an end whose commit waits for admission (R80, R498)
  deriving DecidableEq, Repr

structure Journal where
  entries : List Entry := []       -- in acceptance order
  ends : Nat := 0                  -- entries ended so far
  next : Vector Nat 4 := Vector.replicate 4 1      -- 0x2642
  lastEnded : Vector Nat 4 := Vector.replicate 4 0 -- 0x2643
  lastRefusal : Vector Nat 4 := Vector.replicate 4 0
  accepted : Nat := 0
  duplicates : Nat := 0
  rejections : Nat := 0
  busy : Nat := 0
  replays : Nat := 0
  writeFailed : Bool := false      -- a journal write has failed twice (R496)
  unmapped : Bool := false         -- a journal page needs remapping and no spare page was left (R496, R523)
  replayDue : Bool := false        -- the replay of R504 is due
  replayWaits : Bool := false      -- and waits for the full sequence that the reset runs
  nextTag : Nat := 0               -- the tag of the next cascade transaction (R280)
  deriving DecidableEq, Repr

/-! ## What the device sends -/

/-- What leaves the device: answers on CAN, frames on COPAK, pulses and TAP data. -/
inductive Out where
  | ok (who : Who)
  | value (who : Who) (v : Int)
  | abort (who : Who) (code : Nat)
  | emcy (port : Port) (e : Emcy)
  | heartbeat (port : Port) (nmt : Nat)
  | bootUp (port : Port)
  | pdo (port : Port) (p : Nat) (data : List Nat)
  | copak (frame : List Nat)       -- the bytes of a COPAK frame, in the order sent (R263)
  | startPulse
  | broadcast
  | tap (data : Nat)
  | closed (port : Port) (node session code : Nat)
  deriving DecidableEq, Repr


/-! ## Non-volatile storage and OTP (chapter 20) -/

/-- A bank of the configuration image (Table 20-3). -/
structure Bank where
  blank : Bool := true
  ok : Bool := true                -- format and CRC correct
  seq : Nat := 0
  entries : ObjMap := []
  deriving DecidableEq, Repr

/-- A write that is answered when its commit completes (R465). -/
inductive Waiting where
  | store (who : Who) (sub : Nat)
  | restore (who : Who) (sub : Nat)
  | host (who : Who) (address : Nat) (data : List Byte)
  deriving DecidableEq, Repr

structure Nv where
  banks : Vector Bank 2 := Vector.replicate 2 {}
  imageStatus : Nat := 0           -- 0x2600:06
  remap : List Nat := []           -- the logical page held by each used spare page, lowest spare first
  refreshes : Nat := 0             -- 0x2600:03
  corrected : Nat := 0             -- 0x2600:04
  failedVer : Nat := 0             -- 0x2600:05
  sweep : Nat := 0                 -- 0x2600:08
  marginOnce : List Nat := []      -- pages rewritten after a first margin failure
  log : List (Nat × LogRec) := []  -- the newest 384 records with their sequence numbers, oldest first
  newest : Nat := 0                -- 0x2601:01
  hidden : Nat := 0                -- every record up to this number is hidden (R518)
  logQueue : List LogRec := []     -- records waiting for their commit (R448)
  protection : Nat := 0            -- 0x2610:04, a device record
  waiting : List Waiting := []     -- writes answered when their commit completes (R465)
  deriving DecidableEq, Repr

/-- A programming of the board-configuration region in progress (R532). -/
structure Prog where
  who : Who
  rows : List Nat                  -- rows still to program, ascending; row 127 takes the CRC slot
  words : List (Nat × Nat)         -- the words to program, by word number
  slot : Nat                       -- the CRC slot it will write
  deriving DecidableEq, Repr

structure Otp where
  words : List (Nat × Nat) := []   -- words of rows 48 to 127 that are not blank, by word number row × 8 + word
  image : List (Nat × Nat) := []   -- the copy read at the last device power-on reset (R525)
  staged : List (Nat × Nat) := []  -- 0x2681:01
  boardOk : Bool := true           -- the board-configuration region has passed its check
  trims : Nat := 0x40              -- 0x2680:01
  repair : Nat := 0x40             -- 0x2680:02
  boardFailed : Bool := false      -- FAILED, EMPTY and CAUSE of 0x2680:03
  boardEmpty : Bool := true
  boardCause : Nat := 0
  locked : Bool := false           -- the board-configuration lock fuse
  spares : List Nat := []          -- rows redirected to S0, S1, …
  lastResult : Nat := 0            -- 0x2680:07
  corrected : Nat := 0             -- 0x2680:08
  failingRow : Nat := 0xFF         -- 0x2681:03
  prog : Option Prog := none
  wdcCode : Nat := 0               -- WD-C window code and period in force (Table 20-9)
  wdcMs : Nat := 32
  deriving DecidableEq, Repr

/-! ## Service life, test and debug (chapter 21) -/

structure Life where
  hours : Nat := 0                 -- 0x2700:01
  powerOns : Nat := 1
  brownOuts : Nat := 0
  latches : Nat := 0
  maxDie : Int := 0
  warnS : Nat := 0
  warnHalves : Nat := 0            -- half milliseconds at die warning not yet counted as a second
  pageWrites : Nat := 0
  firing : List Nat := [0, 0, 0, 0, 0, 0, 0, 0, 0, 0, 0, 0, 0, 0, 0, 0, 0, 0, 0, 0]   -- hours, PH00 to PH19
  lastWrite : Nat := 0
  seconds : Nat := 0               -- accumulated seconds not yet a whole hour
  firingS : List Nat := [0, 0, 0, 0, 0, 0, 0, 0, 0, 0, 0, 0, 0, 0, 0, 0, 0, 0, 0, 0]
  recordDue : Bool := false        -- a service-life record waits for its commit
  deriving DecidableEq, Repr

/-- One copy of a device record: never written, unreadable, or with its content (R516). -/
inductive Copy (α : Type) where
  | blank
  | bad
  | held (x : α)
  deriving DecidableEq, Repr

/-- The two copies of a device record (R516). -/
structure Twin (α : Type) where
  c0 : Copy α := .blank
  c1 : Copy α := .blank
  second : Bool := false           -- copy 1 is the later one
  deriving DecidableEq, Repr

/-- What the role record holds of one phase (R105). -/
structure RoleRec where
  role : Option Role
  reason : Nat
  time : Nat
  deriving DecidableEq, Repr

/-- The record of broken sensors (bit n of 0x240B), host-area protection and log hide mark. -/
structure MiscRec where
  broken : Nat
  protection : Nat
  hidden : Nat
  deriving DecidableEq, Repr

/-- The device records of Table 20-4. -/
structure Records where
  remap : Twin (List Nat) := {}
  roles : Twin (List RoleRec) := {}
  fail : Twin (Option Failure × Nat) := {}
  misc : Twin MiscRec := {}
  life : Twin Life := {}
  deriving DecidableEq, Repr

/-- An injection slot (R546); its settings are objects. -/
structure Slot where
  armed : Bool := false
  seen : Nat := 0                  -- eligible events since arming
  performed : Nat := 0             -- 0x2741+s:07
  deriving DecidableEq, Repr

structure Test where
  began : Nat := 0                 -- 0x2740:03
  injections : Nat := 0            -- 0x2740:04
  slots : Vector Slot 8 := Vector.replicate 8 {}
  held : List CanFrame := []       -- frames held by an RX reorder injection
  lateDue : Bool := false          -- the next message is to be handled one cycle late
  lateMsg : Option CMsg := none    -- the message so held
  deriving DecidableEq, Repr

structure Tap where
  instr : Nat := 1                 -- the selected instruction; IDCODE after reset
  refused : Bool := false          -- refusal bit of R551
  cells : Nat := 0                 -- the boundary-scan register as last shifted in, 153 cells
  keyed : Bool := false            -- the key has matched since the last TAP or core-domain reset
  lockBlown : Bool := false        -- debug-lock fuse
  halted : Bool := false           -- the debugger holds the cores
  haltDue : Bool := false          -- a halt asked for in STANDBY, taken at the next WD-C wake (R562)
  deriving DecidableEq, Repr
/-! ## The device -/

/-- Everything outside the heartwood domain and the host area. -/
structure Dev where
  power : Power := {}
  clk : Clocks := {}
  straps : Straps := {}
  path : Path := {}
  grove : Grove := {}
  integ : Integ := {}
  seq : Seq := {}
  judge : Vector BranchJ 30 := Vector.replicate 30 {}
  casc : Cascade := {}
  chg : Charger := {}
  gauge : Gauge := {}
  th : Thermal := {}
  conv : Hkadc := {}
  timer : Vector Timer 8 := Vector.replicate 8 {}
  wdc : Wdc := {}
  wdh : Wdh := {}
  faults : Faults := {}
  portA : PortSt := {}
  portB : PortSt := {}
  dict : Dict := {}
  pool : Pool := {}
  jour : Journal := {}
  nv : Nv := {}
  otp : Otp := {}
  life : Life := {}
  recs : Records := {}
  test : Test := {}
  tap : Tap := {}
  out : List Out := []             -- what the device has sent, newest first
  free : Nat := 0                  -- the model's own: how many free values have been drawn (log entry 3)
  deriving DecidableEq, Repr

/-- What a command acts on: the heartwood domain, the host area of non-volatile storage, and the rest of the device. -/
structure Body where
  hw : Heartwood := {}
  host : Memory := []
  d : Dev := {}
  deriving DecidableEq, Repr

/-- The state: the commands that wait, first in first out, and the block they act on. -/
structure State where
  pending : List Instr
  b : Body
  deriving DecidableEq, Repr

/-- The reasons for a fault. No command of this block stops with one: every fault the spec describes is state. -/
inductive Fault where
  /-- Raised by nothing: kept so that the type is closed and named. Safe. -/
  | none
  deriving DecidableEq, Repr

/-- The reasons for a refusal. -/
inductive Refusal where
  /-- Raised by an arm of `exec` whose command has no meaning yet. Safe. -/
  | notModelled (mnemonic : String)
  /-- Raised by a write through the open vendor debug port, whose effect R553 does not describe. Safe. -/
  | vendorDebugPort
  deriving DecidableEq, Repr

/-- The machine right after a heartwood power-on reset of a device with a blank board configuration and blank storage. -/
def State.reset : State := { pending := [], b := {} }

end Sys2Proof.Machine
end

