-- ==== Sys2Proof/Machine/Dictionary.lean ====
section
/-!
DEFINITION. Machine/Dictionary.lean: the objects of the dictionary as the object tables of the chapters give them, the ROM
defaults, the configuration layers of R21 to R24, and reading a setting's effective value.
-/
namespace Sys2Proof.Machine

/-! ## Object maps -/

/-- The value that a map holds for a key. -/
def ObjMap.get (m : ObjMap) (k : Nat) : Option Int :=
  match m with
  | [] => none
  | (k', v) :: r => if k' = k then some v else ObjMap.get r k

/-- Set a key, keeping keys strictly rising. -/
def ObjMap.set (m : ObjMap) (k : Nat) (v : Int) : ObjMap :=
  match m with
  | [] => [(k, v)]
  | (k', v') :: r => if k < k' then (k, v) :: (k', v') :: r else if k = k' then (k, v) :: r else (k', v') :: ObjMap.set r k v

/-- Remove a key. -/
def ObjMap.erase (m : ObjMap) (k : Nat) : ObjMap := m.filter fun c => c.1 ≠ k

/-- The key of an object's subindex (R2). -/
def key (idx sub : Nat) : Nat := idx * 256 + sub

/-! ## The object tables -/

def rows0 : List Row :=
  [⟨0x1000, 0x1000, 0x0, 0x0, .u, 4, .const, false, 0, 0, 4294967295, false, false⟩,
   ⟨0x1001, 0x1001, 0x0, 0x0, .u, 1, .ro, false, 0, 0, 255, false, false⟩,
   ⟨0x1005, 0x1005, 0x0, 0x0, .u, 4, .rw, false, 128, 0, 4294967295, true, false⟩,
   ⟨0x1010, 0x1010, 0x1, 0x3, .u, 4, .rw, false, 1, 0, 4294967295, false, false⟩,
   ⟨0x1011, 0x1011, 0x1, 0x3, .u, 4, .rw, true, 1, 0, 4294967295, false, false⟩,
   ⟨0x1012, 0x1012, 0x0, 0x0, .u, 4, .rw, false, 2147483904, 0, 4294967295, true, false⟩,
   ⟨0x1014, 0x1014, 0x0, 0x0, .u, 4, .rw, false, 0, 0, 4294967295, true, false⟩,
   ⟨0x1015, 0x1015, 0x0, 0x0, .u, 2, .rw, false, 0, 0, 65535, true, false⟩,
   ⟨0x1016, 0x1016, 0x1, 0x4, .u, 4, .rw, true, 0, 0, 16777215, true, false⟩,
   ⟨0x1017, 0x1017, 0x0, 0x0, .u, 2, .rw, false, 1000, 0, 65535, true, false⟩,
   ⟨0x1018, 0x1018, 0x1, 0x1, .u, 4, .const, false, 2005, 0, 4294967295, false, false⟩,
   ⟨0x1018, 0x1018, 0x2, 0x2, .u, 4, .const, false, 37408, 0, 4294967295, false, false⟩,
   ⟨0x1018, 0x1018, 0x3, 0x3, .u, 4, .const, false, 192, 0, 4294967295, false, false⟩,
   ⟨0x1018, 0x1018, 0x4, 0x4, .u, 4, .const, false, 0, 0, 4294967295, false, false⟩,
   ⟨0x1400, 0x140F, 0x1, 0x1, .u, 4, .rw, false, 0, 0, 4294967295, true, false⟩,
   ⟨0x1400, 0x140F, 0x2, 0x2, .u, 1, .rw, false, 255, 0, 255, true, false⟩,
   ⟨0x1600, 0x160F, 0x0, 0x0, .u, 1, .rw, false, 0, 0, 32, true, false⟩,
   ⟨0x1600, 0x160F, 0x1, 0x20, .u, 4, .rw, false, 0, 0, 4294967295, true, false⟩,
   ⟨0x1800, 0x180F, 0x1, 0x1, .u, 4, .rw, false, 0, 0, 4294967295, true, false⟩,
   ⟨0x1800, 0x180F, 0x2, 0x2, .u, 1, .rw, false, 255, 0, 255, true, false⟩,
   ⟨0x1800, 0x180F, 0x3, 0x3, .u, 2, .rw, false, 0, 0, 65535, true, false⟩,
   ⟨0x1800, 0x180F, 0x5, 0x5, .u, 2, .rw, false, 0, 0, 65535, true, false⟩,
   ⟨0x1A00, 0x1A0F, 0x0, 0x0, .u, 1, .rw, false, 0, 0, 32, true, false⟩,
   ⟨0x1A00, 0x1A0F, 0x1, 0x20, .u, 4, .rw, false, 0, 0, 4294967295, true, false⟩,
   ⟨0x2000, 0x2000, 0x0, 0x0, .u, 1, .const, false, 3, 0, 255, false, false⟩,
   ⟨0x2000, 0x2000, 0x1, 0x1, .d, 0, .const, false, 3472893483810834514, 0, 0, false, false⟩,
   ⟨0x2000, 0x2000, 0x2, 0x2, .d, 0, .const, false, 12355, 0, 0, false, false⟩,
   ⟨0x2000, 0x2000, 0x3, 0x3, .u, 4, .const, false, 0, 0, 4294967295, false, false⟩,
   ⟨0x2002, 0x2002, 0x0, 0x0, .u, 1, .const, false, 4, 0, 255, false, false⟩,
   ⟨0x2002, 0x2002, 0x1, 0x1, .u, 4, .wo, false, 0, 0, 4294967295, false, false⟩,
   ⟨0x2002, 0x2002, 0x2, 0x2, .u, 1, .ro, false, 0, 0, 255, false, false⟩,
   ⟨0x2002, 0x2002, 0x3, 0x3, .b, 1, .wo, false, 0, 0, 1, false, false⟩,
   ⟨0x2002, 0x2002, 0x4, 0x4, .u, 2, .ro, false, 0, 0, 65535, false, false⟩,
   ⟨0x2003, 0x2003, 0x0, 0x0, .u, 1, .const, false, 2, 0, 255, false, false⟩,
   ⟨0x2003, 0x2003, 0x1, 0x1, .u, 1, .ro, false, 0, 0, 255, false, false⟩,
   ⟨0x2003, 0x2003, 0x2, 0x2, .u, 1, .ro, false, 0, 0, 255, false, false⟩,
   ⟨0x2004, 0x2005, 0x0, 0x0, .u, 1, .const, false, 9, 0, 255, false, false⟩,
   ⟨0x2004, 0x2005, 0x1, 0x1, .u, 1, .rw, true, 2, 0, 3, true, false⟩,
   ⟨0x2004, 0x2005, 0x2, 0x2, .u, 1, .rw, true, 1, 0, 3, true, false⟩,
   ⟨0x2004, 0x2005, 0x3, 0x3, .b, 1, .rw, true, 1, 0, 1, true, false⟩,
   ⟨0x2004, 0x2005, 0x4, 0x4, .b, 1, .rw, true, 1, 0, 1, true, false⟩,
   ⟨0x2004, 0x2005, 0x5, 0x5, .b, 1, .wo, false, 0, 0, 1, false, false⟩,
   ⟨0x2004, 0x2005, 0x6, 0x6, .u, 1, .ro, false, 0, 0, 255, false, false⟩,
   ⟨0x2004, 0x2005, 0x7, 0x7, .u, 2, .ro, false, 0, 0, 65535, false, false⟩,
   ⟨0x2004, 0x2005, 0x8, 0x8, .u, 1, .ro, false, 0, 0, 255, false, false⟩,
   ⟨0x2004, 0x2005, 0x9, 0x9, .d, 0, .ro, false, 0, 0, 0, false, false⟩,
   ⟨0x2006, 0x2006, 0x0, 0x0, .u, 1, .const, false, 3, 0, 255, false, false⟩,
   ⟨0x2006, 0x2006, 0x1, 0x1, .u, 1, .ro, false, 0, 0, 255, false, false⟩,
   ⟨0x2006, 0x2006, 0x2, 0x2, .u, 1, .ro, false, 0, 0, 255, false, false⟩,
   ⟨0x2006, 0x2006, 0x3, 0x3, .u, 1, .ro, false, 0, 0, 255, false, false⟩,
   ⟨0x2007, 0x2007, 0x1, 0x10, .u, 1, .rw, true, 12, 0, 255, true, false⟩,
   ⟨0x2007, 0x2007, 0x11, 0x20, .u, 1, .rw, false, 12, 0, 255, true, false⟩,
   ⟨0x2009, 0x2009, 0x1, 0x4, .u, 2, .ro, false, 0, 0, 65535, false, false⟩,
   ⟨0x2010, 0x2010, 0x0, 0x0, .u, 1, .const, false, 8, 0, 255, false, false⟩,
   ⟨0x2010, 0x2010, 0x1, 0x1, .u, 4, .ro, false, 0, 0, 4294967295, false, false⟩,
   ⟨0x2010, 0x2010, 0x2, 0x2, .u, 4, .ro, false, 0, 0, 4294967295, false, false⟩,
   ⟨0x2010, 0x2010, 0x3, 0x3, .u, 4, .ro, false, 0, 0, 4294967295, false, false⟩,
   ⟨0x2010, 0x2010, 0x4, 0x4, .u, 4, .ro, false, 0, 0, 4294967295, false, false⟩,
   ⟨0x2010, 0x2010, 0x5, 0x5, .u, 1, .ro, false, 0, 0, 255, false, false⟩,
   ⟨0x2010, 0x2010, 0x6, 0x6, .u, 1, .ro, false, 0, 0, 255, false, false⟩]

def rows1 : List Row :=
  [⟨0x2010, 0x2010, 0x7, 0x7, .u, 4, .const, false, 16000, 0, 4294967295, false, false⟩,
   ⟨0x2010, 0x2010, 0x8, 0x8, .u, 4, .const, false, 400, 0, 4294967295, false, false⟩,
   ⟨0x2040, 0x2040, 0x0, 0x0, .u, 1, .const, false, 3, 0, 255, false, false⟩,
   ⟨0x2040, 0x2040, 0x1, 0x1, .u, 1, .ro, false, 0, 0, 255, false, false⟩,
   ⟨0x2040, 0x2040, 0x2, 0x2, .u, 1, .ro, false, 0, 0, 255, false, false⟩,
   ⟨0x2040, 0x2040, 0x3, 0x3, .u, 8, .ro, false, 0, 0, 18446744073709551615, false, false⟩,
   ⟨0x2041, 0x2041, 0x0, 0x0, .u, 1, .const, false, 4, 0, 255, false, false⟩,
   ⟨0x2041, 0x2041, 0x1, 0x1, .u, 1, .ro, false, 0, 0, 255, false, false⟩,
   ⟨0x2041, 0x2041, 0x2, 0x2, .u, 8, .ro, false, 0, 0, 18446744073709551615, false, false⟩,
   ⟨0x2041, 0x2041, 0x3, 0x3, .u, 1, .ro, false, 0, 0, 255, false, false⟩,
   ⟨0x2041, 0x2041, 0x4, 0x4, .u, 2, .ro, false, 0, 0, 65535, false, false⟩,
   ⟨0x2060, 0x2060, 0x0, 0x0, .u, 1, .const, false, 4, 0, 255, false, false⟩,
   ⟨0x2060, 0x2060, 0x1, 0x1, .u, 1, .ro, false, 0, 0, 255, false, false⟩,
   ⟨0x2060, 0x2060, 0x2, 0x2, .b, 1, .ro, false, 0, 0, 1, false, false⟩,
   ⟨0x2060, 0x2060, 0x3, 0x3, .u, 2, .ro, false, 0, 0, 65535, false, false⟩,
   ⟨0x2060, 0x2060, 0x4, 0x4, .b, 1, .ro, false, 0, 0, 1, false, false⟩,
   ⟨0x2061, 0x2061, 0x0, 0x0, .u, 1, .const, false, 3, 0, 255, false, false⟩,
   ⟨0x2061, 0x2061, 0x1, 0x1, .u, 8, .ro, false, 0, 0, 18446744073709551615, false, false⟩,
   ⟨0x2061, 0x2061, 0x2, 0x2, .u, 8, .ro, false, 0, 0, 18446744073709551615, false, false⟩,
   ⟨0x2061, 0x2061, 0x3, 0x3, .u, 8, .ro, false, 0, 0, 18446744073709551615, false, false⟩,
   ⟨0x2100, 0x2100, 0x0, 0x0, .u, 1, .const, false, 4, 0, 255, false, false⟩,
   ⟨0x2100, 0x2100, 0x1, 0x1, .u, 4, .rw, true, 1000, 100, 50000, true, false⟩,
   ⟨0x2100, 0x2100, 0x2, 0x2, .s, 4, .rw, false, 10000, 1000, 50000, true, false⟩,
   ⟨0x2100, 0x2100, 0x3, 0x3, .u, 4, .rw, true, 20000, 1000, 200000, true, false⟩,
   ⟨0x2100, 0x2100, 0x4, 0x4, .u, 2, .rw, true, 220, 220, 4700, true, false⟩,
   ⟨0x2101, 0x2101, 0x0, 0x0, .u, 1, .const, false, 9, 0, 255, false, false⟩,
   ⟨0x2101, 0x2101, 0x1, 0x1, .u, 2, .ro, false, 0, 0, 65535, false, false⟩,
   ⟨0x2101, 0x2101, 0x2, 0x2, .u, 2, .ro, false, 0, 0, 65535, false, false⟩,
   ⟨0x2101, 0x2101, 0x3, 0x3, .u, 2, .ro, false, 0, 0, 65535, false, false⟩,
   ⟨0x2101, 0x2101, 0x4, 0x4, .s, 4, .ro, false, 0, (-2147483648), 2147483647, false, false⟩,
   ⟨0x2101, 0x2101, 0x5, 0x5, .u, 2, .ro, false, 0, 0, 65535, false, false⟩,
   ⟨0x2101, 0x2101, 0x6, 0x6, .u, 2, .ro, false, 0, 0, 65535, false, false⟩,
   ⟨0x2101, 0x2101, 0x7, 0x7, .u, 2, .ro, false, 0, 0, 65535, false, false⟩,
   ⟨0x2101, 0x2101, 0x8, 0x8, .u, 1, .rwro, false, 0, 0, 255, false, false⟩,
   ⟨0x2101, 0x2101, 0x9, 0x9, .u, 4, .ro, false, 0, 0, 4294967295, false, false⟩,
   ⟨0x2102, 0x2102, 0x0, 0x0, .u, 1, .const, false, 4, 0, 255, false, false⟩,
   ⟨0x2102, 0x2102, 0x1, 0x1, .u, 2, .ro, false, 0, 0, 65535, false, false⟩,
   ⟨0x2102, 0x2102, 0x2, 0x2, .u, 4, .ro, false, 0, 0, 4294967295, false, false⟩,
   ⟨0x2102, 0x2102, 0x3, 0x3, .b, 1, .ro, false, 0, 0, 1, false, false⟩,
   ⟨0x2102, 0x2102, 0x4, 0x4, .u, 4, .ro, false, 0, 0, 4294967295, false, false⟩,
   ⟨0x2140, 0x2140, 0x0, 0x0, .u, 1, .const, false, 16, 0, 255, false, false⟩,
   ⟨0x2140, 0x2140, 0x1, 0x1, .b, 1, .rwp, false, 0, 0, 1, true, true⟩,
   ⟨0x2140, 0x2140, 0x2, 0x2, .u, 2, .rwp, false, 0, 0, 65535, true, true⟩,
   ⟨0x2140, 0x2140, 0x3, 0x3, .s, 4, .rwp, false, 0, (-2147483648), 2147483647, true, true⟩,
   ⟨0x2140, 0x2140, 0x4, 0x4, .u, 1, .rw, true, 0, 0, 2, true, false⟩,
   ⟨0x2140, 0x2140, 0x5, 0x5, .u, 1, .rw, true, 0, 0, 255, true, false⟩,
   ⟨0x2140, 0x2140, 0x6, 0x6, .u, 2, .rw, false, 0, 0, 65535, true, false⟩,
   ⟨0x2140, 0x2140, 0x7, 0x7, .s, 4, .rw, false, 1000, 500, 10000, true, false⟩,
   ⟨0x2140, 0x2140, 0x8, 0x8, .u, 1, .rw, false, 10, 0, 60, true, false⟩,
   ⟨0x2140, 0x2140, 0x9, 0x9, .u, 2, .rw, false, 200, 10, 2000, true, false⟩,
   ⟨0x2140, 0x2140, 0xA, 0xA, .u, 1, .rw, false, 16, 8, 64, true, false⟩,
   ⟨0x2140, 0x2140, 0xB, 0xB, .u, 2, .rw, false, 0, 0, 65535, true, false⟩,
   ⟨0x2140, 0x2140, 0xC, 0xC, .u, 2, .rw, false, 60, 1, 240, true, false⟩,
   ⟨0x2140, 0x2140, 0xD, 0xD, .u, 2, .rw, false, 600, 10, 1440, true, false⟩,
   ⟨0x2140, 0x2140, 0xE, 0xE, .u, 2, .rw, true, 250, 100, 600, true, false⟩,
   ⟨0x2140, 0x2140, 0xF, 0xF, .u, 4, .rw, true, 1000, 200, 20000, true, false⟩,
   ⟨0x2140, 0x2140, 0x10, 0x10, .u, 4, .rw, true, 2000, 500, 20000, true, false⟩,
   ⟨0x2141, 0x2141, 0x0, 0x0, .u, 1, .const, false, 13, 0, 255, false, false⟩,
   ⟨0x2141, 0x2141, 0x1, 0x1, .u, 1, .rwro, false, 0, 0, 255, false, false⟩,
   ⟨0x2141, 0x2141, 0x2, 0x2, .u, 2, .rwro, false, 0, 0, 65535, false, false⟩]

def rows2 : List Row :=
  [⟨0x2141, 0x2141, 0x3, 0x3, .s, 4, .rwro, false, 0, (-2147483648), 2147483647, false, false⟩,
   ⟨0x2141, 0x2141, 0x4, 0x4, .u, 2, .rwro, false, 0, 0, 65535, false, false⟩,
   ⟨0x2141, 0x2141, 0x5, 0x5, .s, 4, .ro, false, 0, (-2147483648), 2147483647, false, false⟩,
   ⟨0x2141, 0x2141, 0x6, 0x6, .u, 1, .ro, false, 0, 0, 255, false, false⟩,
   ⟨0x2141, 0x2141, 0x7, 0x7, .u, 4, .ro, false, 0, 0, 4294967295, false, false⟩,
   ⟨0x2141, 0x2141, 0x8, 0x8, .u, 4, .ro, false, 0, 0, 4294967295, false, false⟩,
   ⟨0x2141, 0x2141, 0x9, 0x9, .u, 4, .ro, false, 0, 0, 4294967295, false, false⟩,
   ⟨0x2141, 0x2141, 0xA, 0xA, .u, 1, .ro, false, 0, 0, 255, false, false⟩,
   ⟨0x2141, 0x2141, 0xB, 0xB, .u, 8, .ro, false, 0, 0, 18446744073709551615, false, false⟩,
   ⟨0x2141, 0x2141, 0xC, 0xC, .u, 2, .ro, false, 0, 0, 65535, false, false⟩,
   ⟨0x2141, 0x2141, 0xD, 0xD, .s, 4, .ro, false, 0, (-2147483648), 2147483647, false, false⟩,
   ⟨0x2142, 0x2142, 0x0, 0x0, .u, 1, .const, false, 6, 0, 255, false, false⟩,
   ⟨0x2142, 0x2142, 0x1, 0x1, .s, 2, .rw, true, 0, (-320), 320, true, false⟩,
   ⟨0x2142, 0x2142, 0x2, 0x2, .s, 2, .rw, true, 720, 320, 960, true, false⟩,
   ⟨0x2142, 0x2142, 0x3, 0x3, .s, 2, .rw, true, 32, 16, 80, true, false⟩,
   ⟨0x2142, 0x2142, 0x4, 0x4, .u, 1, .rw, true, 3, 0, 255, true, false⟩,
   ⟨0x2142, 0x2142, 0x5, 0x5, .u, 1, .rw, true, 0, 0, 127, true, false⟩,
   ⟨0x2142, 0x2142, 0x6, 0x6, .u, 2, .rw, true, 60, 5, 600, true, false⟩,
   ⟨0x2143, 0x2143, 0x0, 0x0, .u, 1, .const, false, 3, 0, 255, false, false⟩,
   ⟨0x2143, 0x2143, 0x1, 0x1, .b, 1, .ro, false, 0, 0, 1, false, false⟩,
   ⟨0x2143, 0x2143, 0x2, 0x2, .u, 2, .ro, false, 0, 0, 65535, false, false⟩,
   ⟨0x2143, 0x2143, 0x3, 0x3, .s, 4, .ro, false, 0, (-2147483648), 2147483647, false, false⟩,
   ⟨0x2180, 0x2180, 0x0, 0x0, .u, 1, .const, false, 13, 0, 255, false, false⟩,
   ⟨0x2180, 0x2180, 0x1, 0x1, .u, 4, .rw, true, 500, 100, 10000, true, false⟩,
   ⟨0x2180, 0x2180, 0x2, 0x2, .u, 1, .rw, true, 0, 0, 16, true, false⟩,
   ⟨0x2180, 0x2180, 0x3, 0x3, .s, 4, .rw, true, 0, 0, 2000000, true, false⟩,
   ⟨0x2180, 0x2180, 0x4, 0x4, .u, 2, .rw, false, 500, 0, 2000, true, false⟩,
   ⟨0x2180, 0x2180, 0x5, 0x5, .u, 2, .rw, true, 0, 0, 65535, true, false⟩,
   ⟨0x2180, 0x2180, 0x6, 0x6, .u, 2, .rw, true, 15, 5, 100, true, false⟩,
   ⟨0x2180, 0x2180, 0x7, 0x7, .s, 4, .rw, false, 500, 50, 5000, true, false⟩,
   ⟨0x2180, 0x2180, 0x8, 0x8, .u, 2, .rw, false, 600, 60, 7200, true, false⟩,
   ⟨0x2180, 0x2180, 0x9, 0x9, .u, 2, .rw, false, 300, 100, 2000, true, false⟩,
   ⟨0x2180, 0x2180, 0xA, 0xA, .u, 2, .rw, false, 60, 10, 3600, true, false⟩,
   ⟨0x2180, 0x2180, 0xB, 0xB, .s, 4, .rw, true, 100000, 1000, 1000000, true, false⟩,
   ⟨0x2180, 0x2180, 0xC, 0xC, .u, 4, .rw, true, 0, 0, 4294967295, true, false⟩,
   ⟨0x2180, 0x2180, 0xD, 0xD, .b, 1, .wo, true, 0, 0, 1, false, false⟩,
   ⟨0x2181, 0x2181, 0x0, 0x0, .u, 1, .const, false, 13, 0, 255, false, false⟩,
   ⟨0x2181, 0x2181, 0x1, 0x1, .u, 2, .rwro, false, 0, 0, 65535, false, false⟩,
   ⟨0x2181, 0x2181, 0x2, 0x2, .s, 4, .rwro, false, 0, (-2147483648), 2147483647, false, false⟩,
   ⟨0x2181, 0x2181, 0x3, 0x3, .s, 4, .ro, false, 0, (-2147483648), 2147483647, false, false⟩,
   ⟨0x2181, 0x2181, 0x4, 0x4, .s, 8, .ro, false, 0, (-9223372036854775808), 9223372036854775807, false, false⟩,
   ⟨0x2181, 0x2181, 0x5, 0x5, .s, 4, .rwro, false, 0, (-2147483648), 2147483647, false, false⟩,
   ⟨0x2181, 0x2181, 0x6, 0x6, .s, 4, .ro, false, 0, (-2147483648), 2147483647, false, false⟩,
   ⟨0x2181, 0x2181, 0x7, 0x7, .u, 2, .rwro, false, 0, 0, 65535, false, false⟩,
   ⟨0x2181, 0x2181, 0x8, 0x8, .u, 2, .rwro, false, 0, 0, 65535, false, false⟩,
   ⟨0x2181, 0x2181, 0x9, 0x9, .u, 2, .ro, false, 0, 0, 65535, false, false⟩,
   ⟨0x2181, 0x2181, 0xA, 0xA, .u, 2, .ro, false, 0, 0, 65535, false, false⟩,
   ⟨0x2181, 0x2181, 0xB, 0xB, .u, 4, .ro, false, 0, 0, 4294967295, false, false⟩,
   ⟨0x2181, 0x2181, 0xC, 0xC, .u, 8, .ro, false, 0, 0, 18446744073709551615, false, false⟩,
   ⟨0x2181, 0x2181, 0xD, 0xD, .u, 1, .ro, false, 0, 0, 255, false, false⟩,
   ⟨0x2182, 0x2182, 0x0, 0x0, .u, 1, .const, false, 2, 0, 255, false, false⟩,
   ⟨0x2182, 0x2182, 0x1, 0x1, .d, 128, .rw, true, 0, 0, 0, true, false⟩,
   ⟨0x2182, 0x2182, 0x2, 0x2, .b, 1, .ro, false, 0, 0, 1, false, false⟩,
   ⟨0x2183, 0x2183, 0x0, 0x0, .u, 1, .const, false, 7, 0, 255, false, false⟩,
   ⟨0x2183, 0x2183, 0x1, 0x3, .u, 4, .ro, false, 0, 0, 4294967295, false, false⟩,
   ⟨0x2183, 0x2183, 0x4, 0x4, .u, 4, .ro, false, 0, 0, 4294967295, false, false⟩,
   ⟨0x2183, 0x2183, 0x5, 0x5, .u, 4, .ro, false, 0, 0, 4294967295, false, false⟩,
   ⟨0x2183, 0x2183, 0x6, 0x6, .s, 2, .ro, false, 0, (-32768), 32767, false, false⟩,
   ⟨0x2183, 0x2183, 0x7, 0x7, .u, 8, .ro, false, 0, 0, 18446744073709551615, false, false⟩,
   ⟨0x2184, 0x2184, 0x0, 0x0, .u, 1, .const, false, 6, 0, 255, false, false⟩]

def rows3 : List Row :=
  [⟨0x2184, 0x2184, 0x1, 0x1, .u, 4, .ro, false, 0, 0, 4294967295, false, false⟩,
   ⟨0x2184, 0x2184, 0x2, 0x2, .u, 4, .ro, false, 0, 0, 4294967295, false, false⟩,
   ⟨0x2184, 0x2184, 0x3, 0x3, .s, 4, .ro, false, 0, (-2147483648), 2147483647, false, false⟩,
   ⟨0x2184, 0x2184, 0x4, 0x4, .u, 2, .ro, false, 0, 0, 65535, false, false⟩,
   ⟨0x2184, 0x2184, 0x5, 0x5, .u, 8, .ro, false, 0, 0, 18446744073709551615, false, false⟩,
   ⟨0x2184, 0x2184, 0x6, 0x6, .u, 2, .rw, true, 4000, 2000, 9000, true, false⟩,
   ⟨0x2185, 0x2185, 0x0, 0x0, .u, 1, .const, false, 5, 0, 255, false, false⟩,
   ⟨0x2185, 0x2185, 0x1, 0x1, .u, 1, .ro, false, 0, 0, 255, false, false⟩,
   ⟨0x2185, 0x2185, 0x2, 0x2, .u, 4, .ro, false, 0, 0, 4294967295, false, false⟩,
   ⟨0x2185, 0x2185, 0x3, 0x3, .u, 8, .ro, false, 0, 0, 18446744073709551615, false, false⟩,
   ⟨0x2185, 0x2185, 0x4, 0x4, .u, 1, .ro, false, 0, 0, 255, false, false⟩,
   ⟨0x2185, 0x2185, 0x5, 0x5, .u, 4, .ro, false, 0, 0, 4294967295, false, false⟩,
   ⟨0x2200, 0x2207, 0x0, 0x0, .u, 1, .const, false, 63, 0, 255, false, false⟩,
   ⟨0x2200, 0x2207, 0x1, 0x1, .u, 4, .rwp, false, 0, 0, 4294967295, true, true⟩,
   ⟨0x2200, 0x2207, 0x2, 0x2, .u, 2, .rw, true, 1000, 1000, 32000, true, false⟩,
   ⟨0x2200, 0x2207, 0x3, 0x3, .u, 2, .rw, true, 1920, 240, 4800, true, false⟩,
   ⟨0x2200, 0x2207, 0x4, 0x4, .u, 1, .rw, true, 1, 1, 12, true, false⟩,
   ⟨0x2200, 0x2207, 0x5, 0x5, .u, 1, .rw, true, 1, 0, 2, true, false⟩,
   ⟨0x2200, 0x2207, 0x6, 0x6, .u, 1, .rw, true, 96, 60, 120, true, false⟩,
   ⟨0x2200, 0x2207, 0x7, 0x7, .u, 4, .rw, false, 1000, 10, 1000000, true, false⟩,
   ⟨0x2200, 0x2207, 0x8, 0x8, .u, 2, .rw, true, 256, 0, 65535, true, false⟩,
   ⟨0x2200, 0x2207, 0x9, 0x9, .u, 2, .rw, true, 16, 0, 65535, true, false⟩,
   ⟨0x2200, 0x2207, 0xA, 0xA, .u, 2, .rw, true, 0, 0, 65535, true, false⟩,
   ⟨0x2200, 0x2207, 0xB, 0xB, .u, 2, .rw, true, 32768, 1, 32768, true, false⟩,
   ⟨0x2200, 0x2207, 0xC, 0xC, .u, 2, .rw, true, 32768, 1, 32768, true, false⟩,
   ⟨0x2200, 0x2207, 0xD, 0xD, .u, 2, .rw, true, 256, 0, 16384, true, false⟩,
   ⟨0x2200, 0x2207, 0xE, 0xE, .b, 1, .wo, true, 0, 0, 1, false, false⟩,
   ⟨0x2200, 0x2207, 0xF, 0xF, .b, 1, .rw, true, 1, 0, 1, true, false⟩,
   ⟨0x2200, 0x2207, 0x10, 0x10, .u, 2, .rw, true, 8000, 1000, 9500, true, false⟩,
   ⟨0x2200, 0x2207, 0x11, 0x11, .u, 2, .rw, false, 100, 10, 1000, true, false⟩,
   ⟨0x2200, 0x2207, 0x12, 0x12, .u, 4, .rw, true, 1000, 1, 1000000, true, false⟩,
   ⟨0x2200, 0x2207, 0x13, 0x13, .u, 2, .rwro, false, 0, 0, 65535, false, false⟩,
   ⟨0x2200, 0x2207, 0x14, 0x14, .u, 4, .rwro, false, 0, 0, 4294967295, false, false⟩,
   ⟨0x2200, 0x2207, 0x15, 0x15, .s, 4, .rwro, false, 0, (-2147483648), 2147483647, false, false⟩,
   ⟨0x2200, 0x2207, 0x16, 0x16, .d, 0, .ro, false, 0, 0, 0, false, false⟩,
   ⟨0x2200, 0x2207, 0x17, 0x17, .d, 0, .ro, false, 0, 0, 0, false, false⟩,
   ⟨0x2200, 0x2207, 0x20, 0x20, .u, 4, .rw, true, 1000, 100, 100000, true, false⟩,
   ⟨0x2200, 0x2207, 0x21, 0x21, .u, 2, .rw, true, 500, 50, 50000, true, false⟩,
   ⟨0x2200, 0x2207, 0x22, 0x22, .u, 1, .rw, true, 0, 0, 1, true, false⟩,
   ⟨0x2200, 0x2207, 0x23, 0x23, .u, 1, .rw, true, 1, 0, 1, true, false⟩,
   ⟨0x2200, 0x2207, 0x24, 0x24, .u, 4, .rw, true, 1000, 100, 100000, true, false⟩,
   ⟨0x2200, 0x2207, 0x25, 0x25, .u, 2, .rw, true, 15000, 10000, 20000, true, false⟩,
   ⟨0x2200, 0x2207, 0x26, 0x26, .u, 2, .rw, true, 5000, 1000, 10000, true, false⟩,
   ⟨0x2200, 0x2207, 0x27, 0x27, .u, 2, .rw, true, 1500, 500, 3000, true, false⟩,
   ⟨0x2200, 0x2207, 0x28, 0x28, .u, 2, .rw, true, 500, 100, 10000, true, false⟩,
   ⟨0x2200, 0x2207, 0x29, 0x29, .u, 2, .rw, true, 1500, 500, 5000, true, false⟩,
   ⟨0x2200, 0x2207, 0x2A, 0x2A, .u, 2, .rw, true, 20, 5, 10000, true, false⟩,
   ⟨0x2200, 0x2207, 0x2B, 0x2B, .u, 2, .rw, true, 11000, 5000, 15000, true, false⟩,
   ⟨0x2200, 0x2207, 0x2C, 0x2C, .u, 2, .rw, true, 100, 10, 10000, true, false⟩,
   ⟨0x2200, 0x2207, 0x2D, 0x2D, .u, 1, .rw, true, 128, 0, 255, true, false⟩,
   ⟨0x2200, 0x2207, 0x2E, 0x2E, .u, 1, .rw, true, 40, 4, 255, true, false⟩,
   ⟨0x2200, 0x2207, 0x2F, 0x2F, .u, 2, .rw, true, 100, 20, 2000, true, false⟩,
   ⟨0x2200, 0x2207, 0x30, 0x30, .u, 1, .rw, true, 4, 0, 31, true, false⟩,
   ⟨0x2200, 0x2207, 0x31, 0x31, .u, 2, .rw, true, 50, 1, 1000, true, false⟩,
   ⟨0x2200, 0x2207, 0x32, 0x32, .u, 4, .rw, true, 0, 0, 100000, true, false⟩,
   ⟨0x2200, 0x2207, 0x33, 0x33, .u, 1, .rw, true, 0, 0, 80, true, false⟩,
   ⟨0x2200, 0x2207, 0x34, 0x34, .u, 1, .rw, true, 48, 0, 255, true, false⟩,
   ⟨0x2200, 0x2207, 0x35, 0x35, .u, 1, .rw, true, 8, 0, 254, true, false⟩,
   ⟨0x2200, 0x2207, 0x36, 0x36, .u, 2, .rw, true, 20, 1, 200, true, false⟩,
   ⟨0x2200, 0x2207, 0x37, 0x37, .b, 1, .rw, true, 1, 0, 1, true, false⟩]

def rows4 : List Row :=
  [⟨0x2200, 0x2207, 0x38, 0x38, .u, 2, .rw, true, 32, 4, 256, true, false⟩,
   ⟨0x2200, 0x2207, 0x39, 0x39, .u, 1, .rw, true, 6, 1, 127, true, false⟩,
   ⟨0x2200, 0x2207, 0x3A, 0x3A, .u, 1, .rw, true, 1, 0, 2, true, false⟩,
   ⟨0x2200, 0x2207, 0x3B, 0x3B, .s, 4, .ro, false, 0, (-2147483648), 2147483647, false, false⟩,
   ⟨0x2200, 0x2207, 0x3C, 0x3C, .u, 2, .rwro, false, 0, 0, 65535, false, false⟩,
   ⟨0x2200, 0x2207, 0x3D, 0x3D, .u, 1, .ro, false, 0, 0, 255, false, false⟩,
   ⟨0x2200, 0x2207, 0x3E, 0x3E, .d, 0, .ro, false, 0, 0, 0, false, false⟩,
   ⟨0x2200, 0x2207, 0x3F, 0x3F, .u, 8, .ro, false, 0, 0, 18446744073709551615, false, false⟩,
   ⟨0x2210, 0x2223, 0x0, 0x0, .u, 1, .const, false, 15, 0, 255, false, false⟩,
   ⟨0x2210, 0x2223, 0x1, 0x1, .u, 1, .ro, false, 0, 0, 255, false, false⟩,
   ⟨0x2210, 0x2223, 0x2, 0x2, .u, 2, .ro, false, 0, 0, 65535, false, false⟩,
   ⟨0x2210, 0x2223, 0x3, 0x3, .u, 2, .rw, true, 5000, 1000, 20000, true, false⟩,
   ⟨0x2210, 0x2223, 0x4, 0x4, .u, 2, .rw, true, 150, 20, 10000, true, false⟩,
   ⟨0x2210, 0x2223, 0x5, 0x5, .s, 4, .rw, true, 40000, 1000, 150000, true, false⟩,
   ⟨0x2210, 0x2223, 0x6, 0x6, .s, 4, .rwro, false, 0, (-2147483648), 2147483647, false, false⟩,
   ⟨0x2210, 0x2223, 0x7, 0x7, .u, 2, .rw, true, 10000, 2500, 10000, true, false⟩,
   ⟨0x2210, 0x2223, 0x8, 0x8, .s, 4, .ro, false, 0, (-2147483648), 2147483647, false, false⟩,
   ⟨0x2210, 0x2223, 0x9, 0x9, .s, 2, .ro, false, 0, (-32768), 32767, false, false⟩,
   ⟨0x2210, 0x2223, 0xA, 0xA, .u, 2, .ro, false, 0, 0, 65535, false, false⟩,
   ⟨0x2210, 0x2223, 0xB, 0xB, .u, 2, .ro, false, 10000, 0, 65535, false, false⟩,
   ⟨0x2210, 0x2223, 0xC, 0xC, .s, 4, .ro, false, 0, (-2147483648), 2147483647, false, false⟩,
   ⟨0x2210, 0x2223, 0xD, 0xD, .u, 2, .ro, false, 0, 0, 65535, false, false⟩,
   ⟨0x2210, 0x2223, 0xE, 0xE, .u, 1, .ro, false, 0, 0, 255, false, false⟩,
   ⟨0x2210, 0x2223, 0xF, 0xF, .u, 8, .ro, false, 0, 0, 18446744073709551615, false, false⟩,
   ⟨0x2230, 0x2230, 0x0, 0x0, .u, 1, .const, false, 10, 0, 255, false, false⟩,
   ⟨0x2230, 0x2230, 0x1, 0x1, .u, 2, .rw, false, 1, 1, 1000, true, false⟩,
   ⟨0x2230, 0x2230, 0x2, 0x2, .u, 2, .rw, false, 100, 0, 60000, true, false⟩,
   ⟨0x2230, 0x2230, 0x3, 0x3, .b, 1, .rw, false, 1, 0, 1, true, false⟩,
   ⟨0x2230, 0x2230, 0x4, 0x4, .u, 2, .rw, false, 64, 16, 1024, true, false⟩,
   ⟨0x2230, 0x2230, 0x5, 0x5, .u, 2, .rw, false, 200, 0, 1000, true, false⟩,
   ⟨0x2230, 0x2230, 0x6, 0x6, .u, 2, .rw, false, 64, 1, 1024, true, false⟩,
   ⟨0x2230, 0x2230, 0x7, 0x7, .u, 2, .rw, true, 25, 10, 200, true, false⟩,
   ⟨0x2230, 0x2230, 0x8, 0x8, .u, 2, .rw, true, 40, 10, 200, true, false⟩,
   ⟨0x2230, 0x2230, 0x9, 0x9, .u, 2, .rw, true, 40, 0, 200, true, false⟩,
   ⟨0x2230, 0x2230, 0xA, 0xA, .u, 2, .rw, false, 1000, 100, 2500, true, false⟩,
   ⟨0x2231, 0x2231, 0x1, 0x8, .u, 2, .rw, false, 6000, 1000, 9500, true, false⟩,
   ⟨0x2232, 0x2232, 0x1, 0x8, .u, 2, .rw, false, 4000, 0, 8500, true, false⟩,
   ⟨0x2233, 0x2233, 0x1, 0x8, .u, 1, .rw, false, 1, 1, 12, true, false⟩,
   ⟨0x2234, 0x2234, 0x0, 0x0, .u, 1, .const, false, 6, 0, 255, false, false⟩,
   ⟨0x2234, 0x2234, 0x1, 0x1, .u, 1, .rw, true, 2, 0, 2, true, false⟩,
   ⟨0x2234, 0x2234, 0x2, 0x2, .u, 1, .ro, false, 0, 0, 255, false, false⟩,
   ⟨0x2234, 0x2234, 0x3, 0x3, .u, 1, .wo, false, 0, 0, 255, false, false⟩,
   ⟨0x2234, 0x2234, 0x4, 0x4, .u, 1, .wo, true, 0, 0, 255, false, false⟩,
   ⟨0x2234, 0x2234, 0x5, 0x5, .u, 1, .rw, true, 3, 1, 10, true, false⟩,
   ⟨0x2234, 0x2234, 0x6, 0x6, .u, 1, .wo, true, 0, 0, 255, false, false⟩,
   ⟨0x2235, 0x2235, 0x0, 0x0, .u, 1, .const, false, 10, 0, 255, false, false⟩,
   ⟨0x2235, 0x2235, 0x1, 0x1, .u, 2, .rw, true, 7000, 0, 65535, true, false⟩,
   ⟨0x2235, 0x2235, 0x2, 0x2, .u, 2, .rw, true, 9500, 0, 65535, true, false⟩,
   ⟨0x2235, 0x2235, 0x3, 0x3, .u, 2, .rw, true, 8000, 0, 65535, true, false⟩,
   ⟨0x2235, 0x2235, 0x4, 0x4, .u, 2, .rw, true, 7000, 0, 65535, true, false⟩,
   ⟨0x2235, 0x2235, 0x5, 0x5, .u, 2, .rw, true, 13000, 0, 65535, true, false⟩,
   ⟨0x2235, 0x2235, 0x6, 0x6, .u, 2, .rw, true, 15000, 0, 65535, true, false⟩,
   ⟨0x2235, 0x2235, 0x7, 0x7, .u, 2, .rw, true, 300, 0, 65535, true, false⟩,
   ⟨0x2235, 0x2235, 0x8, 0x8, .u, 2, .rw, true, 500, 0, 65535, true, false⟩,
   ⟨0x2235, 0x2235, 0x9, 0x9, .u, 2, .rw, true, 20, 0, 65535, true, false⟩,
   ⟨0x2235, 0x2235, 0xA, 0xA, .u, 2, .rw, true, 100, 0, 65535, true, false⟩,
   ⟨0x2236, 0x2236, 0x0, 0x0, .u, 1, .const, false, 7, 0, 255, false, false⟩,
   ⟨0x2236, 0x2236, 0x1, 0x1, .u, 4, .rwro, false, 0, 0, 4294967295, false, false⟩,
   ⟨0x2236, 0x2236, 0x2, 0x2, .u, 4, .ro, false, 0, 0, 4294967295, false, false⟩,
   ⟨0x2236, 0x2236, 0x3, 0x3, .u, 4, .ro, false, 0, 0, 4294967295, false, false⟩]

def rows5 : List Row :=
  [⟨0x2236, 0x2236, 0x4, 0x4, .u, 4, .ro, false, 0, 0, 4294967295, false, false⟩,
   ⟨0x2236, 0x2236, 0x5, 0x5, .u, 4, .ro, false, 0, 0, 4294967295, false, false⟩,
   ⟨0x2236, 0x2236, 0x6, 0x6, .u, 1, .ro, false, 0, 0, 255, false, false⟩,
   ⟨0x2236, 0x2236, 0x7, 0x7, .d, 0, .ro, false, 0, 0, 0, false, false⟩,
   ⟨0x2237, 0x2237, 0x1, 0x8, .u, 1, .rw, true, 1, 1, 12, true, false⟩,
   ⟨0x2238, 0x2238, 0x0, 0x0, .u, 1, .const, false, 7, 0, 255, false, false⟩,
   ⟨0x2238, 0x2238, 0x1, 0x1, .u, 1, .rw, true, 2, 0, 2, true, false⟩,
   ⟨0x2238, 0x2238, 0x2, 0x2, .u, 4, .rw, true, 3600, 60, 604800, true, false⟩,
   ⟨0x2238, 0x2238, 0x3, 0x3, .u, 1, .wo, true, 0, 0, 7, false, false⟩,
   ⟨0x2238, 0x2238, 0x4, 0x4, .u, 2, .rw, true, 2500, 0, 5000, true, false⟩,
   ⟨0x2238, 0x2238, 0x5, 0x5, .u, 2, .rw, true, 450, 300, 700, true, false⟩,
   ⟨0x2238, 0x2238, 0x6, 0x6, .u, 2, .rw, true, 60, 30, 200, true, false⟩,
   ⟨0x2238, 0x2238, 0x7, 0x7, .u, 2, .rw, true, 625, 200, 2000, true, false⟩,
   ⟨0x2239, 0x223F, 0x0, 0x0, .u, 1, .const, false, 8, 0, 255, false, false⟩,
   ⟨0x2239, 0x2239, 0x1, 0x8, .u, 4, .rw, true, 0, 0, 4294967295, true, false⟩,
   ⟨0x223A, 0x223A, 0x1, 0x8, .u, 4, .ro, false, 0, 0, 4294967295, false, false⟩,
   ⟨0x223B, 0x223B, 0x1, 0x8, .s, 2, .ro, false, 0, (-32768), 32767, false, false⟩,
   ⟨0x223C, 0x223C, 0x1, 0x8, .s, 2, .ro, false, 0, (-32768), 32767, false, false⟩,
   ⟨0x223D, 0x223D, 0x1, 0x8, .u, 1, .ro, false, 0, 0, 255, false, false⟩,
   ⟨0x223E, 0x223E, 0x1, 0x8, .u, 8, .ro, false, 0, 0, 18446744073709551615, false, false⟩,
   ⟨0x223F, 0x223F, 0x1, 0x8, .d, 0, .ro, false, 0, 0, 0, false, false⟩,
   ⟨0x2240, 0x2245, 0x0, 0x0, .u, 1, .const, false, 15, 0, 255, false, false⟩,
   ⟨0x2240, 0x2245, 0x1, 0x1, .u, 2, .rwp, false, 0, 0, 5000, true, true⟩,
   ⟨0x2240, 0x2245, 0x2, 0x2, .u, 2, .rw, true, 12000, 4500, 16000, true, false⟩,
   ⟨0x2240, 0x2245, 0x3, 0x3, .s, 4, .rw, true, 2500, 0, 2500, true, false⟩,
   ⟨0x2240, 0x2245, 0x4, 0x4, .u, 2, .rw, false, 1000, 100, 10000, true, false⟩,
   ⟨0x2240, 0x2245, 0x5, 0x5, .u, 1, .rw, false, 0, 0, 1, true, false⟩,
   ⟨0x2240, 0x2245, 0x6, 0x6, .b, 1, .rw, false, 1, 0, 1, true, false⟩,
   ⟨0x2240, 0x2245, 0x7, 0x7, .u, 1, .rw, true, 3, 1, 15, true, false⟩,
   ⟨0x2240, 0x2245, 0x8, 0x8, .u, 2, .rw, true, 1000, 500, 2000, true, false⟩,
   ⟨0x2240, 0x2245, 0x9, 0x9, .u, 2, .rw, true, 1000, 500, 2000, true, false⟩,
   ⟨0x2240, 0x2245, 0xA, 0xA, .u, 2, .rwro, false, 0, 0, 65535, false, false⟩,
   ⟨0x2240, 0x2245, 0xB, 0xB, .u, 2, .rwro, false, 0, 0, 65535, false, false⟩,
   ⟨0x2240, 0x2245, 0xC, 0xC, .s, 4, .rwro, false, 0, (-2147483648), 2147483647, false, false⟩,
   ⟨0x2240, 0x2245, 0xD, 0xD, .u, 1, .ro, false, 0, 0, 255, false, false⟩,
   ⟨0x2240, 0x2245, 0xE, 0xE, .u, 4, .ro, false, 0, 0, 4294967295, false, false⟩,
   ⟨0x2240, 0x2245, 0xF, 0xF, .u, 8, .ro, false, 0, 0, 18446744073709551615, false, false⟩,
   ⟨0x2248, 0x224F, 0x0, 0x0, .u, 1, .const, false, 12, 0, 255, false, false⟩,
   ⟨0x2248, 0x224F, 0x1, 0x1, .u, 2, .rwp, false, 0, 0, 3600, true, true⟩,
   ⟨0x2248, 0x224F, 0x2, 0x2, .u, 2, .rw, true, 3300, 1500, 5500, true, false⟩,
   ⟨0x2248, 0x224F, 0x3, 0x3, .s, 4, .rw, true, 300, 0, 300, true, false⟩,
   ⟨0x2248, 0x224F, 0x4, 0x4, .u, 2, .rw, false, 500, 100, 5000, true, false⟩,
   ⟨0x2248, 0x224F, 0x5, 0x5, .b, 1, .rw, false, 1, 0, 1, true, false⟩,
   ⟨0x2248, 0x224F, 0x6, 0x6, .u, 2, .rw, true, 1000, 500, 2000, true, false⟩,
   ⟨0x2248, 0x224F, 0x7, 0x7, .u, 2, .rwro, false, 0, 0, 65535, false, false⟩,
   ⟨0x2248, 0x224F, 0x8, 0x8, .u, 2, .rwro, false, 0, 0, 65535, false, false⟩,
   ⟨0x2248, 0x224F, 0x9, 0x9, .u, 2, .ro, false, 0, 0, 65535, false, false⟩,
   ⟨0x2248, 0x224F, 0xA, 0xA, .s, 4, .ro, false, 0, (-2147483648), 2147483647, false, false⟩,
   ⟨0x2248, 0x224F, 0xB, 0xB, .u, 1, .ro, false, 0, 0, 255, false, false⟩,
   ⟨0x2248, 0x224F, 0xC, 0xC, .u, 8, .ro, false, 0, 0, 18446744073709551615, false, false⟩,
   ⟨0x2250, 0x2257, 0x0, 0x0, .u, 1, .const, false, 6, 0, 255, false, false⟩,
   ⟨0x2250, 0x2257, 0x1, 0x1, .u, 1, .rw, true, 0, 0, 1, true, false⟩,
   ⟨0x2250, 0x2257, 0x2, 0x2, .u, 2, .rw, false, 50, 1, 1000, true, false⟩,
   ⟨0x2250, 0x2257, 0x3, 0x3, .u, 2, .rw, false, 20, 1, 1000, true, false⟩,
   ⟨0x2250, 0x2257, 0x4, 0x4, .u, 1, .rwro, false, 0, 0, 255, false, false⟩,
   ⟨0x2250, 0x2257, 0x5, 0x5, .u, 1, .ro, false, 0, 0, 255, false, false⟩,
   ⟨0x2250, 0x2257, 0x6, 0x6, .u, 8, .ro, false, 0, 0, 18446744073709551615, false, false⟩,
   ⟨0x2300, 0x2300, 0x0, 0x0, .u, 1, .const, false, 12, 0, 255, false, false⟩,
   ⟨0x2300, 0x2300, 0x1, 0x1, .u, 1, .rw, true, 2, 0, 7, true, false⟩,
   ⟨0x2300, 0x2300, 0x2, 0x2, .u, 2, .rw, true, 100, 10, 10000, true, false⟩]

def rows6 : List Row :=
  [⟨0x2300, 0x2300, 0x3, 0x3, .u, 2, .rwro, false, 0, 0, 65535, false, false⟩,
   ⟨0x2300, 0x2300, 0x4, 0x4, .u, 4, .ro, false, 0, 0, 4294967295, false, false⟩,
   ⟨0x2300, 0x2300, 0x5, 0x5, .u, 4, .ro, false, 0, 0, 4294967295, false, false⟩,
   ⟨0x2300, 0x2300, 0x6, 0x6, .u, 4, .rw, true, 0, 0, 4294967295, true, false⟩,
   ⟨0x2300, 0x2300, 0x7, 0x7, .u, 4, .rw, true, 0, 0, 4294967295, true, false⟩,
   ⟨0x2300, 0x2300, 0x8, 0x8, .u, 4, .ro, false, 0, 0, 4294967295, false, false⟩,
   ⟨0x2300, 0x2300, 0x9, 0x9, .u, 4, .ro, false, 0, 0, 4294967295, false, false⟩,
   ⟨0x2300, 0x2300, 0xA, 0xA, .u, 4, .ro, false, 0, 0, 4294967295, false, false⟩,
   ⟨0x2300, 0x2300, 0xB, 0xB, .u, 4, .rwro, false, 0, 0, 4294967295, false, false⟩,
   ⟨0x2300, 0x2300, 0xC, 0xC, .u, 4, .rwro, false, 0, 0, 4294967295, false, false⟩,
   ⟨0x2301, 0x2301, 0x1, 0x1E, .u, 2, .rw, true, 65535, 0, 65535, true, false⟩,
   ⟨0x2302, 0x2302, 0x1, 0x1E, .u, 2, .rw, true, 0, 0, 65534, true, false⟩,
   ⟨0x2303, 0x2303, 0x1, 0x16, .u, 2, .rw, false, 1000, 500, 5000, true, false⟩,
   ⟨0x2304, 0x2304, 0x1, 0x1E, .u, 2, .rw, false, 100, 1, 1000, true, false⟩,
   ⟨0x2305, 0x2305, 0x1, 0x1E, .u, 1, .rw, true, 255, 0, 255, true, false⟩,
   ⟨0x2310, 0x2310, 0x0, 0x0, .u, 1, .const, false, 4, 0, 255, false, false⟩,
   ⟨0x2310, 0x2310, 0x1, 0x1, .d, 0, .ro, false, 0, 0, 0, false, false⟩,
   ⟨0x2310, 0x2310, 0x2, 0x2, .b, 1, .ro, false, 0, 0, 1, false, false⟩,
   ⟨0x2310, 0x2310, 0x3, 0x3, .u, 2, .ro, false, 0, 0, 65535, false, false⟩,
   ⟨0x2310, 0x2310, 0x4, 0x4, .b, 1, .wo, true, 0, 0, 1, false, false⟩,
   ⟨0x2340, 0x2340, 0x0, 0x0, .u, 1, .const, false, 3, 0, 255, false, false⟩,
   ⟨0x2340, 0x2340, 0x1, 0x1, .u, 1, .ro, false, 0, 0, 255, false, false⟩,
   ⟨0x2340, 0x2340, 0x2, 0x2, .u, 4, .rwro, false, 0, 0, 4294967295, false, false⟩,
   ⟨0x2340, 0x2340, 0x3, 0x3, .u, 4, .rwro, false, 0, 0, 4294967295, false, false⟩,
   ⟨0x2341, 0x2341, 0x1, 0x16, .u, 2, .rw, true, 400, 50, 2000, true, false⟩,
   ⟨0x2342, 0x2342, 0x1, 0x16, .u, 2, .rw, true, 800, 100, 3000, true, false⟩,
   ⟨0x2343, 0x2343, 0x1, 0x16, .u, 2, .rw, false, 10, 1, 10000, true, false⟩,
   ⟨0x2344, 0x2344, 0x1, 0x16, .u, 2, .rw, true, 5, 1, 10000, true, false⟩,
   ⟨0x2345, 0x2345, 0x1, 0x1E, .u, 2, .rw, true, 50, 1, 1000, true, false⟩,
   ⟨0x2346, 0x2346, 0x1, 0x1E, .u, 1, .ro, false, 0, 0, 255, false, false⟩,
   ⟨0x2380, 0x2380, 0x0, 0x0, .u, 1, .const, false, 5, 0, 255, false, false⟩,
   ⟨0x2380, 0x2380, 0x1, 0x1, .u, 1, .rw, true, 1, 1, 8, true, false⟩,
   ⟨0x2380, 0x2380, 0x2, 0x2, .u, 2, .rw, true, 500, 10, 10000, true, false⟩,
   ⟨0x2380, 0x2380, 0x3, 0x3, .u, 1, .rw, true, 1, 0, 1, true, false⟩,
   ⟨0x2380, 0x2380, 0x4, 0x4, .u, 2, .rw, true, 100, 0, 10000, true, false⟩,
   ⟨0x2380, 0x2380, 0x5, 0x5, .u, 2, .const, false, 2000, 0, 65535, false, false⟩,
   ⟨0x2381, 0x2381, 0x0, 0x0, .u, 1, .const, false, 11, 0, 255, false, false⟩,
   ⟨0x2381, 0x2381, 0x1, 0x1, .u, 1, .ro, false, 0, 0, 255, false, false⟩,
   ⟨0x2381, 0x2381, 0x2, 0x2, .u, 1, .rwro, false, 0, 0, 255, false, false⟩,
   ⟨0x2381, 0x2381, 0x3, 0x3, .u, 1, .rwro, false, 0, 0, 255, false, false⟩,
   ⟨0x2381, 0x2381, 0x4, 0x4, .u, 1, .ro, false, 0, 0, 255, false, false⟩,
   ⟨0x2381, 0x2381, 0x5, 0x5, .u, 4, .ro, false, 0, 0, 4294967295, false, false⟩,
   ⟨0x2381, 0x2381, 0x6, 0x6, .u, 4, .ro, false, 0, 0, 4294967295, false, false⟩,
   ⟨0x2381, 0x2381, 0x7, 0x7, .u, 2, .ro, false, 0, 0, 65535, false, false⟩,
   ⟨0x2381, 0x2381, 0x8, 0x8, .s, 8, .ro, false, 0, (-9223372036854775808), 9223372036854775807, false, false⟩,
   ⟨0x2381, 0x2381, 0x9, 0x9, .u, 8, .ro, false, 0, 0, 18446744073709551615, false, false⟩,
   ⟨0x2381, 0x2381, 0xA, 0xA, .u, 1, .ro, false, 0, 0, 255, false, false⟩,
   ⟨0x2381, 0x2381, 0xB, 0xB, .u, 2, .ro, false, 65535, 0, 65535, false, false⟩,
   ⟨0x2382, 0x2382, 0x0, 0x0, .u, 1, .const, false, 7, 0, 255, false, false⟩,
   ⟨0x2382, 0x2382, 0x1, 0x7, .d, 0, .ro, false, 0, 0, 0, false, false⟩,
   ⟨0x2400, 0x2402, 0x0, 0x0, .u, 1, .const, false, 7, 0, 255, false, false⟩,
   ⟨0x2400, 0x2400, 0x1, 0x1, .s, 2, .rw, true, 1760, 960, 2240, true, false⟩,
   ⟨0x2400, 0x2400, 0x2, 0x2, .s, 2, .rw, true, 2000, 960, 2240, true, false⟩,
   ⟨0x2400, 0x2400, 0x3, 0x3, .s, 2, .rw, true, 2320, 1920, 2400, true, false⟩,
   ⟨0x2400, 0x2402, 0x4, 0x4, .s, 2, .rw, false, 48, 16, 240, true, false⟩,
   ⟨0x2400, 0x2402, 0x5, 0x5, .s, 2, .rw, false, 80, 16, 240, true, false⟩,
   ⟨0x2400, 0x2402, 0x6, 0x6, .s, 2, .rw, false, 80, 16, 240, true, false⟩,
   ⟨0x2400, 0x2400, 0x7, 0x7, .u, 2, .const, true, 4095, 0, 65535, false, false⟩,
   ⟨0x2401, 0x2401, 0x1, 0x1, .s, 2, .rw, true, 960, (-640), 2400, true, false⟩,
   ⟨0x2401, 0x2401, 0x2, 0x2, .s, 2, .rw, true, 1120, (-640), 2400, true, false⟩]

def rows7 : List Row :=
  [⟨0x2401, 0x2401, 0x3, 0x3, .s, 2, .rw, true, 1360, (-640), 2400, true, false⟩,
   ⟨0x2401, 0x2401, 0x7, 0x7, .u, 2, .rw, true, 3, 0, 65535, true, false⟩,
   ⟨0x2402, 0x2402, 0x1, 0x1, .s, 2, .rw, true, 1760, 960, 2400, true, false⟩,
   ⟨0x2402, 0x2402, 0x2, 0x2, .s, 2, .rw, true, 2000, 960, 2400, true, false⟩,
   ⟨0x2402, 0x2402, 0x3, 0x3, .s, 2, .rw, true, 2240, 960, 2400, true, false⟩,
   ⟨0x2402, 0x2402, 0x7, 0x7, .u, 2, .rw, true, 255, 0, 65535, true, false⟩,
   ⟨0x2403, 0x2403, 0x0, 0x0, .u, 1, .const, false, 2, 0, 255, false, false⟩,
   ⟨0x2403, 0x2403, 0x1, 0x1, .u, 1, .rw, true, 2, 2, 4, true, false⟩,
   ⟨0x2403, 0x2403, 0x2, 0x2, .u, 1, .rw, true, 2, 0, 2, true, false⟩,
   ⟨0x2404, 0x2404, 0x1, 0x8, .u, 4, .rw, true, 10000, 1000, 100000, true, false⟩,
   ⟨0x2405, 0x2405, 0x1, 0x8, .u, 2, .rw, true, 3435, 2000, 5000, true, false⟩,
   ⟨0x2406, 0x2406, 0x1, 0x8, .u, 2, .rw, true, 600, 0, 1500, true, false⟩,
   ⟨0x2407, 0x2407, 0x1, 0x8, .u, 2, .rw, true, 8000, 1000, 20000, true, false⟩,
   ⟨0x2408, 0x2408, 0x1, 0xC, .s, 2, .rwro, false, 0, (-32768), 32767, false, false⟩,
   ⟨0x2409, 0x2409, 0x1, 0x8, .s, 2, .rwro, false, 0, (-32768), 32767, false, false⟩,
   ⟨0x240A, 0x240A, 0x1, 0x8, .s, 2, .rwro, false, 0, (-32768), 32767, false, false⟩,
   ⟨0x240B, 0x240B, 0x1, 0x1C, .u, 1, .ro, false, 0, 0, 255, false, false⟩,
   ⟨0x240C, 0x240C, 0x0, 0x0, .u, 1, .const, false, 6, 0, 255, false, false⟩,
   ⟨0x240C, 0x240C, 0x1, 0x1, .u, 2, .rwro, false, 0, 0, 65535, false, false⟩,
   ⟨0x240C, 0x240C, 0x2, 0x2, .s, 2, .ro, false, 0, (-32768), 32767, false, false⟩,
   ⟨0x240C, 0x240C, 0x3, 0x3, .u, 8, .ro, false, 0, 0, 18446744073709551615, false, false⟩,
   ⟨0x240C, 0x240C, 0x4, 0x4, .u, 4, .ro, false, 0, 0, 4294967295, false, false⟩,
   ⟨0x240C, 0x240C, 0x5, 0x5, .d, 0, .ro, false, 0, 0, 0, false, false⟩,
   ⟨0x240C, 0x240C, 0x6, 0x6, .u, 1, .wo, true, 0, 0, 11, false, false⟩,
   ⟨0x2440, 0x2440, 0x0, 0x0, .u, 1, .const, false, 6, 0, 255, false, false⟩,
   ⟨0x2440, 0x2440, 0x1, 0x1, .u, 1, .ro, false, 0, 0, 255, false, false⟩,
   ⟨0x2440, 0x2440, 0x2, 0x2, .u, 1, .ro, false, 0, 0, 255, false, false⟩,
   ⟨0x2440, 0x2440, 0x3, 0x3, .u, 2, .ro, false, 65535, 0, 65535, false, false⟩,
   ⟨0x2440, 0x2440, 0x4, 0x4, .u, 4, .ro, false, 0, 0, 4294967295, false, false⟩,
   ⟨0x2440, 0x2440, 0x5, 0x5, .d, 0, .ro, false, 0, 0, 0, false, false⟩,
   ⟨0x2440, 0x2440, 0x6, 0x6, .u, 4, .ro, false, 0, 0, 4294967295, false, false⟩,
   ⟨0x2441, 0x2441, 0x0, 0x0, .u, 1, .const, false, 6, 0, 255, false, false⟩,
   ⟨0x2441, 0x2441, 0x1, 0x1, .u, 1, .rw, false, 0, 0, 255, true, false⟩,
   ⟨0x2441, 0x2441, 0x2, 0x2, .u, 1, .rw, false, 0, 0, 16, true, false⟩,
   ⟨0x2441, 0x2441, 0x3, 0x3, .u, 1, .rw, false, 0, 0, 255, true, false⟩,
   ⟨0x2441, 0x2441, 0x4, 0x4, .u, 1, .rw, false, 0, 0, 1, true, false⟩,
   ⟨0x2441, 0x2441, 0x5, 0x5, .u, 1, .rw, false, 255, 0, 255, true, false⟩,
   ⟨0x2441, 0x2441, 0x6, 0x6, .u, 4, .ro, false, 0, 0, 4294967295, false, false⟩,
   ⟨0x2442, 0x2442, 0x1, 0x10, .u, 2, .rw, false, 0, 0, 65535, true, false⟩,
   ⟨0x2443, 0x2443, 0x0, 0x0, .u, 1, .const, false, 3, 0, 255, false, false⟩,
   ⟨0x2443, 0x2443, 0x1, 0x1, .u, 4, .rwro, false, 0, 0, 4294967295, false, false⟩,
   ⟨0x2443, 0x2443, 0x2, 0x2, .u, 4, .ro, false, 0, 0, 4294967295, false, false⟩,
   ⟨0x2443, 0x2443, 0x3, 0x3, .u, 4, .ro, false, 0, 0, 4294967295, false, false⟩,
   ⟨0x2480, 0x2480, 0x0, 0x0, .u, 1, .const, false, 2, 0, 255, false, false⟩,
   ⟨0x2480, 0x2480, 0x1, 0x1, .u, 1, .wo, false, 0, 0, 255, false, false⟩,
   ⟨0x2480, 0x2480, 0x2, 0x2, .u, 1, .wo, false, 0, 0, 255, false, false⟩,
   ⟨0x2481, 0x2488, 0x0, 0x0, .u, 1, .const, false, 9, 0, 255, false, false⟩,
   ⟨0x2481, 0x2488, 0x1, 0x1, .u, 2, .rw, false, 0, 0, 65535, true, false⟩,
   ⟨0x2481, 0x2488, 0x2, 0x2, .u, 1, .rw, false, 0, 0, 15, true, false⟩,
   ⟨0x2481, 0x2488, 0x3, 0x3, .u, 2, .rw, false, 65535, 1, 65535, true, false⟩,
   ⟨0x2481, 0x2488, 0x4, 0x4, .u, 2, .rw, false, 0, 0, 65535, true, false⟩,
   ⟨0x2481, 0x2488, 0x5, 0x5, .u, 2, .rw, false, 0, 0, 65535, false, false⟩,
   ⟨0x2481, 0x2488, 0x6, 0x6, .u, 1, .rw, false, 4, 0, 255, false, false⟩,
   ⟨0x2481, 0x2488, 0x7, 0x7, .u, 4, .ro, false, 0, 0, 4294967295, false, false⟩,
   ⟨0x2481, 0x2488, 0x8, 0x8, .u, 1, .rw, false, 4, 1, 16, true, false⟩,
   ⟨0x2481, 0x2488, 0x9, 0x9, .u, 1, .rw, false, 0, 0, 7, true, false⟩,
   ⟨0x24C0, 0x24C0, 0x0, 0x0, .u, 1, .const, false, 6, 0, 255, false, false⟩,
   ⟨0x24C0, 0x24C0, 0x1, 0x1, .u, 2, .ro, false, 32, 0, 65535, false, false⟩,
   ⟨0x24C0, 0x24C0, 0x2, 0x2, .u, 1, .ro, false, 0, 0, 255, false, false⟩,
   ⟨0x24C0, 0x24C0, 0x3, 0x3, .u, 2, .ro, false, 0, 0, 65535, false, false⟩]

def rows8 : List Row :=
  [⟨0x24C0, 0x24C0, 0x4, 0x4, .u, 8, .ro, false, 0, 0, 18446744073709551615, false, false⟩,
   ⟨0x24C0, 0x24C0, 0x5, 0x5, .u, 1, .ro, false, 0, 0, 255, false, false⟩,
   ⟨0x24C0, 0x24C0, 0x6, 0x6, .u, 1, .ro, false, 0, 0, 255, false, false⟩,
   ⟨0x24C4, 0x24C4, 0x0, 0x0, .u, 1, .const, false, 8, 0, 255, false, false⟩,
   ⟨0x24C4, 0x24C4, 0x1, 0x1, .u, 2, .rw, true, 1000, 10, 10000, true, false⟩,
   ⟨0x24C4, 0x24C4, 0x2, 0x2, .u, 2, .rw, true, 2500, 0, 9000, true, false⟩,
   ⟨0x24C4, 0x24C4, 0x3, 0x3, .u, 2, .rw, true, 10000, 1000, 10000, true, false⟩,
   ⟨0x24C4, 0x24C4, 0x4, 0x4, .u, 2, .rw, true, 1, 0, 65535, true, false⟩,
   ⟨0x24C4, 0x24C4, 0x5, 0x5, .u, 2, .rw, true, 2000, 100, 60000, true, false⟩,
   ⟨0x24C4, 0x24C4, 0x6, 0x6, .u, 1, .rw, true, 0, 0, 255, true, false⟩,
   ⟨0x24C4, 0x24C4, 0x7, 0x7, .u, 4, .rw, true, 0, 0, 4294967295, true, false⟩,
   ⟨0x24C4, 0x24C4, 0x8, 0x8, .u, 2, .rw, true, 10, 1, 1000, true, false⟩,
   ⟨0x24C5, 0x24C5, 0x0, 0x0, .u, 1, .const, false, 1, 0, 255, false, false⟩,
   ⟨0x24C5, 0x24C5, 0x1, 0x1, .u, 4, .rwp, false, 0, 0, 4294967295, false, false⟩,
   ⟨0x24C6, 0x24C6, 0x0, 0x0, .u, 1, .const, false, 6, 0, 255, false, false⟩,
   ⟨0x24C6, 0x24C6, 0x1, 0x1, .u, 2, .rwro, false, 0, 0, 65535, false, false⟩,
   ⟨0x24C6, 0x24C6, 0x2, 0x2, .u, 2, .rwro, false, 0, 0, 65535, false, false⟩,
   ⟨0x24C6, 0x24C6, 0x3, 0x3, .u, 2, .ro, false, 0, 0, 65535, false, false⟩,
   ⟨0x24C6, 0x24C6, 0x4, 0x4, .d, 0, .ro, false, 0, 0, 0, false, false⟩,
   ⟨0x24C6, 0x24C6, 0x5, 0x5, .u, 4, .ro, false, 0, 0, 4294967295, false, false⟩,
   ⟨0x24C6, 0x24C6, 0x6, 0x6, .u, 4, .ro, false, 0, 0, 4294967295, false, false⟩,
   ⟨0x2500, 0x2500, 0x0, 0x0, .u, 1, .const, false, 7, 0, 255, false, false⟩,
   ⟨0x2500, 0x2500, 0x1, 0x1, .u, 2, .rwro, false, 0, 0, 65535, false, false⟩,
   ⟨0x2500, 0x2500, 0x2, 0x5, .u, 4, .rwp, false, 0, 0, 4294967295, false, false⟩,
   ⟨0x2500, 0x2500, 0x6, 0x6, .u, 1, .wo, false, 0, 0, 255, false, false⟩,
   ⟨0x2500, 0x2500, 0x7, 0x7, .u, 1, .rw, false, 0, 0, 1, false, false⟩,
   ⟨0x2501, 0x2501, 0x0, 0x0, .u, 1, .const, false, 5, 0, 255, false, false⟩,
   ⟨0x2501, 0x2501, 0x1, 0x1, .u, 4, .ro, false, 0, 0, 4294967295, false, false⟩,
   ⟨0x2501, 0x2501, 0x2, 0x2, .u, 4, .ro, false, 0, 0, 4294967295, false, false⟩,
   ⟨0x2501, 0x2501, 0x3, 0x3, .u, 4, .ro, false, 0, 0, 4294967295, false, false⟩,
   ⟨0x2501, 0x2501, 0x4, 0x4, .u, 4, .ro, false, 0, 0, 4294967295, false, false⟩,
   ⟨0x2501, 0x2501, 0x5, 0x5, .u, 4, .ro, false, 0, 0, 4294967295, false, false⟩,
   ⟨0x2510, 0x2510, 0x1, 0x80, .u, 2, .rw, true, 0, 0, 65535, true, false⟩,
   ⟨0x2511, 0x2511, 0x1, 0x80, .u, 4, .rw, true, 10000, 10, 1000000, true, false⟩,
   ⟨0x2512, 0x2512, 0x1, 0x80, .u, 1, .ro, false, 0, 0, 255, false, false⟩,
   ⟨0x2513, 0x2513, 0x1, 0x80, .u, 2, .ro, false, 0, 0, 65535, false, false⟩,
   ⟨0x2580, 0x2580, 0x0, 0x0, .u, 1, .const, false, 4, 0, 255, false, false⟩,
   ⟨0x2580, 0x2580, 0x1, 0x1, .u, 2, .ro, false, 384, 0, 65535, false, false⟩,
   ⟨0x2580, 0x2580, 0x2, 0x2, .u, 2, .ro, false, 0, 0, 65535, false, false⟩,
   ⟨0x2580, 0x2580, 0x3, 0x3, .u, 2, .ro, false, 0, 0, 65535, false, false⟩,
   ⟨0x2580, 0x2580, 0x4, 0x4, .u, 4, .ro, false, 0, 0, 4294967295, false, false⟩,
   ⟨0x2590, 0x25A7, 0x0, 0x0, .u, 1, .const, false, 12, 0, 255, false, false⟩,
   ⟨0x2590, 0x25A7, 0x1, 0x1, .b, 1, .rw, false, 0, 0, 1, true, false⟩,
   ⟨0x2590, 0x25A7, 0x2, 0x2, .u, 1, .rw, false, 0, 0, 3, true, false⟩,
   ⟨0x2590, 0x25A7, 0x3, 0x3, .u, 2, .rw, false, 0, 0, 384, true, false⟩,
   ⟨0x2590, 0x25A7, 0x4, 0x4, .u, 1, .ro, false, 0, 0, 255, false, false⟩,
   ⟨0x2590, 0x25A7, 0x5, 0x5, .u, 4, .rw, false, 0, 0, 60000000, true, false⟩,
   ⟨0x2590, 0x25A7, 0x6, 0x6, .d, 32, .rw, false, 0, 0, 0, true, false⟩,
   ⟨0x2590, 0x25A7, 0x7, 0x7, .u, 2, .ro, false, 0, 0, 65535, false, false⟩,
   ⟨0x2590, 0x25A7, 0x8, 0x8, .u, 2, .ro, false, 0, 0, 65535, false, false⟩,
   ⟨0x2590, 0x25A7, 0x9, 0x9, .u, 4, .ro, false, 0, 0, 4294967295, false, false⟩,
   ⟨0x2590, 0x25A7, 0xA, 0xA, .u, 4, .ro, false, 0, 0, 4294967295, false, false⟩,
   ⟨0x2590, 0x25A7, 0xB, 0xB, .d, 0, .ro, false, 0, 0, 0, false, false⟩,
   ⟨0x2590, 0x25A7, 0xC, 0xC, .u, 4, .ro, false, 0, 0, 4294967295, false, false⟩,
   ⟨0x2600, 0x2600, 0x0, 0x0, .u, 1, .const, false, 8, 0, 255, false, false⟩,
   ⟨0x2600, 0x2600, 0x1, 0x1, .u, 1, .ro, false, 96, 0, 255, false, false⟩,
   ⟨0x2600, 0x2600, 0x2, 0x2, .u, 2, .ro, false, 0, 0, 65535, false, false⟩,
   ⟨0x2600, 0x2600, 0x3, 0x3, .u, 4, .ro, false, 0, 0, 4294967295, false, false⟩,
   ⟨0x2600, 0x2600, 0x4, 0x4, .u, 4, .ro, false, 0, 0, 4294967295, false, false⟩,
   ⟨0x2600, 0x2600, 0x5, 0x5, .u, 4, .ro, false, 0, 0, 4294967295, false, false⟩]

def rows9 : List Row :=
  [⟨0x2600, 0x2600, 0x6, 0x6, .u, 1, .ro, false, 0, 0, 255, false, false⟩,
   ⟨0x2600, 0x2600, 0x7, 0x7, .u, 2, .ro, false, 0, 0, 65535, false, false⟩,
   ⟨0x2600, 0x2600, 0x8, 0x8, .u, 2, .ro, false, 0, 0, 65535, false, false⟩,
   ⟨0x2601, 0x2601, 0x0, 0x0, .u, 1, .const, false, 5, 0, 255, false, false⟩,
   ⟨0x2601, 0x2601, 0x1, 0x1, .u, 4, .ro, false, 0, 0, 4294967295, false, false⟩,
   ⟨0x2601, 0x2601, 0x2, 0x2, .u, 4, .ro, false, 0, 0, 4294967295, false, false⟩,
   ⟨0x2601, 0x2601, 0x3, 0x3, .u, 4, .rw, false, 0, 0, 4294967295, false, false⟩,
   ⟨0x2601, 0x2601, 0x4, 0x4, .d, 0, .ro, false, 0, 0, 0, false, false⟩,
   ⟨0x2601, 0x2601, 0x5, 0x5, .b, 1, .wo, true, 0, 0, 1, false, false⟩,
   ⟨0x2610, 0x2610, 0x0, 0x0, .u, 1, .const, false, 4, 0, 255, false, false⟩,
   ⟨0x2610, 0x2610, 0x1, 0x1, .u, 2, .rw, false, 0, 0, 16383, false, false⟩,
   ⟨0x2610, 0x2610, 0x2, 0x2, .d, 64, .rw, false, 0, 0, 0, false, false⟩,
   ⟨0x2610, 0x2610, 0x3, 0x3, .u, 1, .rw, false, 64, 1, 64, false, false⟩,
   ⟨0x2610, 0x2610, 0x4, 0x4, .u, 1, .rw, true, 0, 0, 255, false, false⟩,
   ⟨0x2640, 0x2640, 0x0, 0x0, .u, 1, .const, false, 1, 0, 255, false, false⟩,
   ⟨0x2640, 0x2640, 0x1, 0x1, .d, 0, .wo, false, 0, 0, 0, false, true⟩,
   ⟨0x2641, 0x2641, 0x0, 0x0, .u, 1, .const, false, 7, 0, 255, false, false⟩,
   ⟨0x2641, 0x2641, 0x1, 0x1, .u, 1, .ro, false, 128, 0, 255, false, false⟩,
   ⟨0x2641, 0x2641, 0x2, 0x2, .u, 1, .ro, false, 0, 0, 255, false, false⟩,
   ⟨0x2641, 0x2641, 0x3, 0x3, .u, 4, .ro, false, 0, 0, 4294967295, false, false⟩,
   ⟨0x2641, 0x2641, 0x4, 0x4, .u, 4, .ro, false, 0, 0, 4294967295, false, false⟩,
   ⟨0x2641, 0x2641, 0x5, 0x5, .u, 4, .ro, false, 0, 0, 4294967295, false, false⟩,
   ⟨0x2641, 0x2641, 0x6, 0x6, .u, 4, .ro, false, 0, 0, 4294967295, false, false⟩,
   ⟨0x2641, 0x2641, 0x7, 0x7, .u, 4, .ro, false, 0, 0, 4294967295, false, false⟩,
   ⟨0x2642, 0x2642, 0x1, 0x4, .u, 4, .rwro, false, 1, 1, 4, false, false⟩,
   ⟨0x2643, 0x2643, 0x1, 0x4, .u, 8, .rwro, false, 0, 0, 18446744073709551615, false, false⟩,
   ⟨0x2644, 0x2644, 0x0, 0x0, .u, 1, .const, false, 3, 0, 255, false, false⟩,
   ⟨0x2644, 0x2644, 0x1, 0x1, .u, 1, .rw, false, 1, 1, 4, false, false⟩,
   ⟨0x2644, 0x2644, 0x2, 0x2, .u, 4, .rw, false, 0, 0, 4294967295, false, false⟩,
   ⟨0x2644, 0x2644, 0x3, 0x3, .d, 0, .ro, false, 0, 0, 0, false, false⟩,
   ⟨0x2645, 0x2645, 0x1, 0x1, .u, 4, .rwp, false, 0, 0, 4294967295, false, true⟩,
   ⟨0x2646, 0x2646, 0x1, 0x4, .u, 8, .rwro, false, 0, 0, 18446744073709551615, false, false⟩,
   ⟨0x2680, 0x2680, 0x0, 0x0, .u, 1, .const, false, 8, 0, 255, false, false⟩,
   ⟨0x2680, 0x2680, 0x1, 0x3, .u, 1, .ro, false, 0, 0, 255, false, false⟩,
   ⟨0x2680, 0x2680, 0x4, 0x4, .u, 1, .ro, false, 0, 0, 255, false, false⟩,
   ⟨0x2680, 0x2680, 0x5, 0x5, .u, 1, .ro, false, 0, 0, 255, false, false⟩,
   ⟨0x2680, 0x2680, 0x6, 0x6, .u, 1, .ro, false, 0, 0, 255, false, false⟩,
   ⟨0x2680, 0x2680, 0x7, 0x7, .u, 1, .ro, false, 0, 0, 255, false, false⟩,
   ⟨0x2680, 0x2680, 0x8, 0x8, .u, 4, .ro, false, 0, 0, 4294967295, false, false⟩,
   ⟨0x2681, 0x2681, 0x0, 0x0, .u, 1, .const, false, 4, 0, 255, false, false⟩,
   ⟨0x2681, 0x2681, 0x1, 0x1, .d, 5056, .wo, true, 0, 0, 0, false, false⟩,
   ⟨0x2681, 0x2681, 0x2, 0x2, .b, 1, .wo, true, 0, 0, 1, false, false⟩,
   ⟨0x2681, 0x2681, 0x3, 0x3, .u, 1, .ro, false, 255, 0, 255, false, false⟩,
   ⟨0x2681, 0x2681, 0x4, 0x4, .d, 0, .ro, false, 0, 0, 0, false, false⟩,
   ⟨0x2682, 0x2682, 0x1, 0x1, .u, 4, .wo, true, 0, 0, 4294967295, false, false⟩,
   ⟨0x2683, 0x2683, 0x0, 0x0, .u, 1, .const, false, 3, 0, 255, false, false⟩,
   ⟨0x2683, 0x2683, 0x1, 0x1, .u, 1, .ro, false, 0, 0, 255, false, false⟩,
   ⟨0x2683, 0x2683, 0x2, 0x2, .u, 2, .ro, false, 0, 0, 65535, false, false⟩,
   ⟨0x2683, 0x2683, 0x3, 0x3, .u, 1, .ro, false, 0, 0, 255, false, false⟩,
   ⟨0x2700, 0x2700, 0x0, 0x0, .u, 1, .const, false, 10, 0, 255, false, false⟩,
   ⟨0x2700, 0x2700, 0x1, 0x1, .u, 4, .ro, false, 0, 0, 4294967295, false, false⟩,
   ⟨0x2700, 0x2700, 0x2, 0x2, .u, 4, .ro, false, 0, 0, 4294967295, false, false⟩,
   ⟨0x2700, 0x2700, 0x3, 0x3, .u, 4, .ro, false, 0, 0, 4294967295, false, false⟩,
   ⟨0x2700, 0x2700, 0x4, 0x4, .u, 2, .ro, false, 0, 0, 65535, false, false⟩,
   ⟨0x2700, 0x2700, 0x5, 0x5, .s, 2, .ro, false, 0, (-32768), 32767, false, false⟩,
   ⟨0x2700, 0x2700, 0x6, 0x6, .u, 4, .ro, false, 0, 0, 4294967295, false, false⟩,
   ⟨0x2700, 0x2700, 0x7, 0x7, .u, 8, .ro, false, 0, 0, 18446744073709551615, false, false⟩,
   ⟨0x2700, 0x2700, 0x8, 0x8, .u, 2, .ro, false, 0, 0, 65535, false, false⟩,
   ⟨0x2700, 0x2700, 0x9, 0x9, .d, 0, .ro, false, 0, 0, 0, false, false⟩,
   ⟨0x2700, 0x2700, 0xA, 0xA, .u, 8, .ro, false, 0, 0, 18446744073709551615, false, false⟩]

def rows10 : List Row :=
  [⟨0x2701, 0x2701, 0x0, 0x0, .u, 1, .const, false, 9, 0, 255, false, false⟩,
   ⟨0x2701, 0x2701, 0x1, 0x1, .u, 1, .ro, false, 0, 0, 255, false, false⟩,
   ⟨0x2701, 0x2701, 0x2, 0x2, .u, 1, .ro, false, 0, 0, 255, false, false⟩,
   ⟨0x2701, 0x2701, 0x3, 0x3, .u, 1, .ro, false, 0, 0, 255, false, false⟩,
   ⟨0x2701, 0x2701, 0x4, 0x4, .u, 1, .ro, false, 0, 0, 255, false, false⟩,
   ⟨0x2701, 0x2701, 0x5, 0x5, .u, 1, .ro, false, 0, 0, 255, false, false⟩,
   ⟨0x2701, 0x2701, 0x6, 0x6, .u, 1, .ro, false, 0, 0, 255, false, false⟩,
   ⟨0x2701, 0x2701, 0x7, 0x7, .u, 1, .ro, false, 0, 0, 255, false, false⟩,
   ⟨0x2701, 0x2701, 0x8, 0x8, .u, 1, .ro, false, 0, 0, 255, false, false⟩,
   ⟨0x2701, 0x2701, 0x9, 0x9, .u, 2, .rwro, false, 0, 0, 65535, false, false⟩,
   ⟨0x2740, 0x2740, 0x0, 0x0, .u, 1, .const, false, 4, 0, 255, false, false⟩,
   ⟨0x2740, 0x2740, 0x1, 0x1, .b, 1, .rw, true, 0, 0, 1, false, false⟩,
   ⟨0x2740, 0x2740, 0x2, 0x2, .u, 1, .ro, false, 0, 0, 255, false, false⟩,
   ⟨0x2740, 0x2740, 0x3, 0x3, .u, 8, .ro, false, 0, 0, 18446744073709551615, false, false⟩,
   ⟨0x2740, 0x2740, 0x4, 0x4, .u, 4, .ro, false, 0, 0, 4294967295, false, false⟩,
   ⟨0x2741, 0x2748, 0x0, 0x0, .u, 1, .const, false, 7, 0, 255, false, false⟩,
   ⟨0x2741, 0x2748, 0x1, 0x1, .u, 2, .rw, true, 0, 0, 65535, false, false⟩,
   ⟨0x2741, 0x2748, 0x2, 0x2, .u, 1, .rw, true, 0, 0, 255, false, false⟩,
   ⟨0x2741, 0x2748, 0x3, 0x3, .s, 4, .rw, true, 0, (-2147483648), 2147483647, false, false⟩,
   ⟨0x2741, 0x2748, 0x4, 0x4, .u, 2, .rw, true, 1, 0, 65535, false, false⟩,
   ⟨0x2741, 0x2748, 0x5, 0x5, .u, 2, .rw, true, 1, 1, 1000, false, false⟩,
   ⟨0x2741, 0x2748, 0x6, 0x6, .b, 1, .rw, true, 0, 0, 1, false, false⟩,
   ⟨0x2741, 0x2748, 0x7, 0x7, .u, 2, .ro, false, 0, 0, 65535, false, false⟩,
   ⟨0x2750, 0x2750, 0x0, 0x0, .u, 1, .const, false, 2, 0, 255, false, false⟩,
   ⟨0x2750, 0x2750, 0x1, 0x1, .u, 4, .wo, true, 0, 0, 4294967295, false, false⟩,
   ⟨0x2750, 0x2750, 0x2, 0x2, .b, 1, .ro, false, 0, 0, 1, false, false⟩]

/-- Every object of the dictionary, in the order of indices. -/
def rows : List Row := rows0 ++ rows1 ++ rows2 ++ rows3 ++ rows4 ++ rows5 ++ rows6 ++ rows7 ++ rows8 ++ rows9 ++ rows10

/-- Whether a row describes an index. -/
def Row.hasIndex (r : Row) (idx : Nat) : Bool := r.lo ≤ idx && idx ≤ r.hi

/-- The row of an object's subindex, when it is present (R6, R477). -/
def row (idx sub : Nat) : Option Row := rows.find? fun r => r.hasIndex idx && r.slo ≤ sub && sub ≤ r.shi

/-- Whether an index is present (R6). -/
def indexPresent (idx : Nat) : Bool := rows.any fun r => r.hasIndex idx

/-! ## Fault source table (Table 17-6) -/

/-- Fault classes of R432. -/
def classC : Nat := 0
def classU : Nat := 1
def classF : Nat := 2

/-- The class of each source (Table 17-6); 3 is a reserved source. -/
def sourceClass (n : Nat) : Nat :=
  if n < 20 then 0
  else if n < 50 then 1
  else if n ∈ [50, 51, 52, 56, 66, 71, 78, 79, 80, 84, 85, 89, 90, 92, 95, 99, 100, 102, 115] then 0
  else if n ∈ [55, 59, 86, 87, 97, 106] then 2
  else if n < 120 then 1
  else 3

/-- The default escalation of each source (Table 17-6), as Table 17-2. -/
def sourceEsc (n : Nat) : Nat :=
  if 20 ≤ n ∧ n < 50 then 3
  else if n ∈ [55, 59, 97] then 4
  else if n ∈ [60, 62, 63, 64, 65, 67, 68, 69] then 2
  else if n = 75 then 5
  else if n ∈ [88, 98, 101, 107, 114] then 3
  else 0

/-- Sources with a retry rule (Table 17-6). -/
def sourceRetry (n : Nat) : Bool := n ∈ [53, 67, 70, 71, 74, 98, 101, 103, 107, 108, 109, 111]

/-! ## Layers (R21) -/

/-- The ROM default of a setting (layer 1), with the defaults that a table cannot hold: those of the fault sources (Table 17-6)
and those formed from the node-ID (R579). -/
def romDefault (d : Dev) (idx sub : Nat) : Int :=
  if idx = 0x2510 then
    let n := sub - 1
    if n ≥ 120 then 0xC000
    else sourceClass n * 0x4000 + ofBool (sourceRetry n) * 0x800 + sourceEsc n
  else if idx = 0x2511 ∧ sub = 76 then 1000000
  else if idx = 0x1014 then 0x80 + d.dict.nodeId
  else if 0x1400 ≤ idx ∧ idx ≤ 0x140F ∧ sub = 1 then
    if idx < 0x1404 then 0x80000200 + 0x100 * (idx - 0x1400) + d.dict.nodeId else 0x80000000
  else if 0x1800 ≤ idx ∧ idx ≤ 0x180F ∧ sub = 1 then
    if idx < 0x1804 then 0x80000180 + 0x100 * (idx - 0x1800) + d.dict.nodeId else 0x80000000
  else match row idx sub with
    | some r => r.dflt
    | none => 0

/-- The effective value of a setting: that of the highest layer with an entry for it (R21). -/
def Dev.int (d : Dev) (idx sub : Nat) : Int :=
  match d.dict.live.get (key idx sub) with
  | some v => v
  | none => match d.dict.image.get (key idx sub) with
    | some v => v
    | none => match d.dict.otp.get (key idx sub) with
      | some v => v
      | none => romDefault d idx sub

/-- The effective value of a setting as a natural number. -/
def Dev.nat (d : Dev) (idx sub : Nat) : Nat := (d.int idx sub).toNat

/-- The effective value of a BOOLEAN setting. -/
def Dev.flag (d : Dev) (idx sub : Nat) : Bool := d.int idx sub ≠ 0

/-- Whether a setting is a branch mask (R22, R235). -/
def isBranchMask (idx sub : Nat) : Bool := idx = 0x2300 && (sub = 6 || sub = 7)

/-- Whether a value lies within the OTP ceiling of its setting (R22). -/
def withinCeiling (d : Dev) (idx sub : Nat) (v : Int) : Bool :=
  match d.dict.ceil.get (key idx sub) with
  | none => true
  | some c => if isBranchMask idx sub then v.toNat &&& c.toNat = v.toNat else v.natAbs ≤ c

/-- Set the live value of an object (layer 4). -/
def Dev.setLive (d : Dev) (idx sub : Nat) (v : Int) : Dev :=
  { d with dict := { d.dict with live := d.dict.live.set (key idx sub) v } }

end Sys2Proof.Machine
end

