-- ==== Sys2Proof/Machine/Ops.lean ====
section
/-!
DEFINITION. Machine/Ops.lean: the named operations that every family of commands uses: lifting an effect to the state, updating
a member of a register file, branch codes and masks, log records, emergency messages, and answers to a client.
-/
namespace Sys2Proof.Machine

/-! ## Lifting an effect -/

/-- An effect on the body of the state; the queue of commands is left alone. -/
def State.on (f : Body → Body) (s : State) : State := { s with b := f s.b }

/-- An effect on the device, given the heartwood time. -/
def Body.onDev (f : Nat → Dev → Dev) (b : Body) : Body := { b with d := f b.hw.counter b.d }

/-- An effect of the core domain: nothing happens while that domain is unpowered or in reset (R15, R16, R35). -/
def State.core (f : Nat → Dev → Dev) (s : State) : State :=
  s.on fun b => if b.d.power.coreOn then b.onDev f else b

/-- An effect on the whole body that needs the core domain. -/
def State.coreBody (f : Body → Body) (s : State) : State :=
  s.on fun b => if b.d.power.coreOn then f b else b

/-- One period of the heartwood clock: the time counter advances and holds at its largest value (R9, R10);
an unpowered heartwood counts nothing (R66). -/
def Body.tick (b : Body) : Body :=
  if b.hw.powered then { b with hw := { b.hw with counter := min (b.hw.counter + 1) maxTime } } else b

/-- Apply an effect where a condition holds. -/
def Dev.when (c : Bool) (f : Dev → Dev) (d : Dev) : Dev := if c then f d else d

/-- Change one member of a register file. -/
def upd {α : Type} {n : Nat} (v : Vector α n) (i : Fin n) (f : α → α) : Vector α n := v.set i (f v[i])

/-- Change every member of a register file. -/
def updAll {α : Type} {n : Nat} (v : Vector α n) (f : α → α) : Vector α n := v.map f

/-- Change one element of a list, if it is there. -/
def updList {α : Type} (l : List α) (i : Nat) (f : α → α) : List α :=
  match l, i with
  | [], _ => []
  | x :: r, 0 => f x :: r
  | x :: r, i + 1 => x :: updList r i f

/-- Add one to the `i`th counter of a list, saturating at 32 bits. -/
def bump32 (l : List Nat) (i : Nat) : List Nat := updList l i (satInc 32)

/-! ## Updating the parts of the device -/

def Dev.power' (d : Dev) (f : Power → Power) : Dev := { d with power := f d.power }
def Dev.clk' (d : Dev) (f : Clocks → Clocks) : Dev := { d with clk := f d.clk }
def Dev.path' (d : Dev) (f : Path → Path) : Dev := { d with path := f d.path }
def Dev.grove' (d : Dev) (f : Grove → Grove) : Dev := { d with grove := f d.grove }
def Dev.integ' (d : Dev) (f : Integ → Integ) : Dev := { d with integ := f d.integ }
def Dev.seq' (d : Dev) (f : Seq → Seq) : Dev := { d with seq := f d.seq }
def Dev.casc' (d : Dev) (f : Cascade → Cascade) : Dev := { d with casc := f d.casc }
def Dev.chg' (d : Dev) (f : Charger → Charger) : Dev := { d with chg := f d.chg }
def Dev.faults' (d : Dev) (f : Faults → Faults) : Dev := { d with faults := f d.faults }
def Dev.dict' (d : Dev) (f : Dict → Dict) : Dev := { d with dict := f d.dict }
def Dev.wdh' (d : Dev) (f : Wdh → Wdh) : Dev := { d with wdh := f d.wdh }
def Dev.nv' (d : Dev) (f : Nv → Nv) : Dev := { d with nv := f d.nv }
def Dev.otp' (d : Dev) (f : Otp → Otp) : Dev := { d with otp := f d.otp }
def Dev.life' (d : Dev) (f : Life → Life) : Dev := { d with life := f d.life }
def Dev.tap' (d : Dev) (f : Tap → Tap) : Dev := { d with tap := f d.tap }
def Dev.gauge' (d : Dev) (f : Gauge → Gauge) : Dev := { d with gauge := f d.gauge }
def Dev.test' (d : Dev) (f : Test → Test) : Dev := { d with test := f d.test }
def Dev.th' (d : Dev) (f : Thermal → Thermal) : Dev := { d with th := f d.th }
def Dev.conv' (d : Dev) (f : Hkadc → Hkadc) : Dev := { d with conv := f d.conv }
def Dev.timer' (d : Dev) (n : TimerNo) (f : Timer → Timer) : Dev := { d with timer := upd d.timer n f }
def Dev.sensor' (d : Dev) (n : Fin 28) (f : Sensor → Sensor) : Dev :=
  { d with th := { d.th with sensor := upd d.th.sensor n f } }
def Dev.jour' (d : Dev) (f : Journal → Journal) : Dev := { d with jour := f d.jour }

def Dev.rail' (d : Dev) (r : Rail) (f : RailSt → RailSt) : Dev :=
  { d with grove := { d.grove with rail := upd d.grove.rail r f } }
def Dev.lp' (d : Dev) (r : Rail) (f : Loop → Loop) : Dev := d.rail' r fun x => { x with lp := f x.lp }
def Dev.pl' (d : Dev) (r : Rail) (f : Placement → Placement) : Dev := d.rail' r fun x => { x with pl := f x.pl }
def Dev.ph' (d : Dev) (p : Phase) (f : PhaseSt → PhaseSt) : Dev :=
  { d with grove := { d.grove with ph := upd d.grove.ph p f } }
def Dev.judge' (d : Dev) (b : Branch) (f : BranchJ → BranchJ) : Dev := { d with judge := upd d.judge b f }
def Dev.judgeAll (d : Dev) (f : BranchJ → BranchJ) : Dev := { d with judge := d.judge.map f }
def Dev.ib' (d : Dev) (n : Fin 6) (f : ChanSt → ChanSt) : Dev :=
  { d with integ := { d.integ with ib := upd d.integ.ib n f } }
def Dev.ld' (d : Dev) (n : Fin 8) (f : ChanSt → ChanSt) : Dev :=
  { d with integ := { d.integ with ld := upd d.integ.ld n f } }
def Dev.xe' (d : Dev) (n : Fin 8) (f : XeSt → XeSt) : Dev :=
  { d with integ := { d.integ with xe := upd d.integ.xe n f } }

def Dev.port (d : Dev) (p : Port) : PortSt := match p with | .a => d.portA | .b => d.portB
def Dev.port' (d : Dev) (p : Port) (f : PortSt → PortSt) : Dev :=
  match p with
  | .a => { d with portA := f d.portA }
  | .b => { d with portB := f d.portB }

/-- The state of an integrated channel. -/
def Dev.chan (d : Dev) (c : Integrated) : ChanSt := match c with | .ib n => d.integ.ib[n] | .ld n => d.integ.ld[n]
def Dev.chan' (d : Dev) (c : Integrated) (f : ChanSt → ChanSt) : Dev :=
  match c with
  | .ib n => d.ib' n f
  | .ld n => d.ld' n f

/-! ## Branch codes (Table 9-1) -/

/-- What a branch code names. -/
def chanCode (c : Integrated) : Branch :=
  match c with
  | .ib n => ⟨8 + n.val, by omega⟩
  | .ld n => ⟨14 + n.val, by omega⟩

def railBranch (r : Rail) : Branch := ⟨r.val, by omega⟩
def xeBranch (n : Fin 8) : Branch := ⟨22 + n.val, by omega⟩

/-- Apply the function that fits the kind of a branch. -/
def byBranch {α : Type} (b : Branch) (gr : Rail → α) (ch : Integrated → α) (xe : Fin 8 → α) : α :=
  if h : b.val < 8 then gr ⟨b.val, h⟩
  else if h : b.val < 14 then ch (.ib ⟨b.val - 8, by omega⟩)
  else if h : b.val < 22 then ch (.ld ⟨b.val - 14, by omega⟩)
  else xe ⟨b.val - 22, by omega⟩

/-- The fault source of a branch: FS020 onward, in the order of branch codes. -/
def branchSource (b : Branch) : Nat := 20 + b.val

/-- The branch a source belongs to (R438). FS088 belongs to the rail its reason-carrying trip names, so it maps to none here. -/
def sourceBranch (n : Nat) : Option Branch :=
  if h : 20 ≤ n ∧ n < 50 then some ⟨n - 20, by omega⟩ else none

/-- All branches, in the order of codes. -/
def allBranches : List Branch := List.finRange 30

/-- The mask of the branches that satisfy a condition (R227). -/
def maskOf (p : Branch → Bool) : Nat := (allBranches.filter p).foldl (fun m b => m + 2 ^ b.val) 0

/-- Whether a mask names a branch. -/
def inMask (m : Nat) (b : Branch) : Bool := m.testBit b.val

/-- The branches of `m` that are not in `x`. -/
def maskDiff (m x : Nat) : Nat := maskOf fun b => inMask m b && !inMask x b

def allMask : Nat := 2 ^ 30 - 1

/-! ## Where a branch stands -/

/-- A rail is on in soft start and regulation; a soft stop has turned it off. -/
def Dev.railOn (d : Dev) (r : Rail) : Bool := d.grove.rail[r].mode = .softStart || d.grove.rail[r].mode = .regulating
def Dev.branchOn (d : Dev) (b : Branch) : Bool :=
  byBranch b (fun r => d.railOn r) (fun c => (d.chan c).on) (fun n => d.integ.xe[n].en)
def Dev.onMask (d : Dev) : Nat := maskOf d.branchOn
def Dev.goodMask (d : Dev) : Nat := maskOf fun b => d.judge[b].good
def Dev.standbySet (d : Dev) : Nat := d.nat 0x2300 6
def Dev.safeSet (d : Dev) : Nat := d.nat 0x2300 7
def Dev.onDelay (d : Dev) (b : Branch) : Nat := d.nat 0x2301 (b.val + 1)
def Dev.offDelay (d : Dev) (b : Branch) : Nat := d.nat 0x2302 (b.val + 1)
/-- The branches whose on-delay is not 0xFFFF (R228). -/
def Dev.members (d : Dev) : Nat := maskOf fun b => d.onDelay b ≠ 0xFFFF

/-! ## Power state encoding (Table 2-6) -/

def PState.code : PState → Nat
  | .off => 0 | .ship => 1 | .standby => 2 | .run => 3 | .idle => 4 | .holdup => 5 | .safe => 6

def Power.code (p : Power) : Nat := p.state.code + ofBool p.test * 128

/-- The state code as software and records see it; a read never sees IDLE. -/
def Dev.stateCode (d : Dev) : Nat := d.power.code

/-- Whether the device is in RUN, IDLE included. -/
def Dev.inRun (d : Dev) : Bool := d.power.state = .run || d.power.state = .idle

/-- Whether the dictionary is served: RUN, IDLE and SAFE with the cores running (Table 2-1, R19). -/
def Dev.served (d : Dev) : Bool :=
  d.power.coreOn && !d.power.nrstLow && !d.power.coresStopped && (d.inRun || d.power.state = .safe)

/-- Whether the control cores run. -/
def Dev.coresRun (d : Dev) : Bool := d.power.coreOn && !d.power.nrstLow && !d.power.coresStopped

/-! ## Outputs -/

/-- One setting of an injection slot. -/
def Dev.slotInt (d : Dev) (s : SlotNo) (sub : Nat) : Int := d.int (0x2741 + s.val) sub

/-- Whether an armed slot takes events of a kind and target that also satisfy a test of its parameter (Table 21-2). -/
def Dev.slotTakes (d : Dev) (kinds : List Nat) (target : Nat) (ok : Int → Bool) (s : SlotNo) : Bool :=
  d.test.slots[s].armed && (d.slotInt s 2).toNat ∈ kinds && d.slotInt s 1 = target && ok (d.slotInt s 3)

/-- A slot acts: it is counted, and disarms at its count (R546). -/
def Dev.slotActs (d : Dev) (s : SlotNo) : Dev :=
  let done := d.slotInt s 4 ≠ 0 && (d.test.slots[s].performed + 1 : Int) ≥ d.slotInt s 4
  { d with test := { d.test with
      injections := satInc 32 d.test.injections
      slots := upd d.test.slots s fun x => { x with performed := satInc 16 x.performed, armed := x.armed && !done } } }

/-- An eligible event of a kind: each armed slot that takes it counts it, in order of number, until one acts (R546, R550). The
kind and the parameter of the slot that acted, if one did. -/
def Dev.inject (d : Dev) (kinds : List Nat) (target : Nat) (ok : Int → Bool) : Option (Nat × Int) × Dev :=
  if !d.power.test then (none, d) else
  (List.finRange 8).foldl (fun (x : Option (Nat × Int) × Dev) s =>
    if x.1.isSome || !x.2.slotTakes kinds target ok s then x else
    let seen := x.2.test.slots[s].seen + 1
    let d := { x.2 with test := { x.2.test with slots := upd x.2.test.slots s fun y => { y with seen := seen } } }
    if (seen : Int) % max 1 (d.slotInt s 5) = 0 then (some ((d.slotInt s 2).toNat, d.slotInt s 3), d.slotActs s)
    else (none, d)) (none, d)

/-- The filter of a CAN injection (Table 21-3): FILT and COBID. -/
def canFilter (cob : Nat) (param : Int) : Bool :=
  let p := (param % 4294967296).toNat
  !p.testBit 31 || p / 65536 % 2048 = cob

def portNo : Port → Nat
  | .a => 0 | .b => 1

/-- The port and the COB-ID of a frame that leaves by CAN. -/
def Dev.frameOf (d : Dev) : Out → Option (Port × Nat)
  | .ok w | .value w _ | .abort w _ => some (w.port, 0x580 + d.dict.nodeId)
  | .closed p _ _ _ => some (p, 0x580 + d.dict.nodeId)
  | .emcy p _ => some (p, d.nat 0x1014 0 % 2048)
  | .heartbeat p _ | .bootUp p => some (p, 0x700 + d.dict.nodeId)
  | .pdo p n _ => some (p, d.nat (0x1800 + n) 1 % 2048)
  | _ => none

/-- Whether a port can send: in use, not held off and not bus-off. -/
def PortSt.live (p : PortSt) : Bool := p.enabled && !p.busOff && !p.heldOff

/-- Send. A CAN frame is counted as sent; an armed TX drop keeps it back and a TX corruption costs a retransmission only. A
port that is off the bus sends nothing. -/
def Dev.send (d : Dev) (o : Out) : Dev :=
  match d.frameOf o with
  | none => { d with out := o :: d.out }
  | some (p, cob) =>
    if !(d.port p).live then d else
    let x := d.inject [0x04] (0x100 + portNo p) (canFilter cob)
    let d := x.2.port' p fun y => { y with sent := satInc 32 y.sent }
    if x.1.isSome then d
    else
      let d := (d.inject [0x05] (0x100 + portNo p) (canFilter cob)).2
      { d with out := o :: d.out }
/-- A successful answer to a client. -/
def Dev.ok (d : Dev) (w : Who) : Dev := d.send (.ok w)
/-- A refused request (Tables 18-5 and 18-6). -/
def Dev.abort (d : Dev) (w : Who) (code : Nat) : Dev := d.send (.abort w code)

/-! ## Admission of commits (R80, R83, R372) -/

/-- The capacitance that the budget uses: the smaller of declared and measured, declared alone while none is measured (R80). -/
def Dev.holdCap (d : Dev) : Nat :=
  if d.path.capUf = 0 then d.nat 0x2100 4 else min (d.nat 0x2100 4) d.path.capUf

/-- The hold-up budget in µs (R80): 0.85 × 0.5 × C × (V² − 36 V²) ÷ 1.5 W, with C in µF and V in mV. -/
def Dev.holdBudget (d : Dev) : Nat :=
  let v2 := d.path.holdMv * d.path.holdMv
  85 * d.holdCap * (v2 - 36000000) / 300000000

/-- Whether R80, R83 and R372 admit a commit whose worst case lasts `us` microseconds. The cores start it: none starts while they
are held or halted, or sleep in STANDBY (Table 22-3). -/
def Dev.supplyAdmits (d : Dev) (us : Nat) : Bool :=
  d.coresRun && d.power.state ≠ .standby && d.path.holdSeen && d.holdBudget ≥ us + 500 && !d.path.warning && !d.th.nvBlocked

/-- Whether a commit may start: from the end of the off order of a ship entry none does but those that Table 4-4 names. -/
def Dev.commitAdmitted (d : Dev) (us : Nat) : Bool :=
  d.supplyAdmits us && d.path.ship ≠ .committing && d.path.ship ≠ .pastReturn

/-- Whether a gauge-store or service-life write may start: ship entry waits for those that are due (Table 4-4). -/
def Dev.shipCommitAdmitted (d : Dev) (us : Nat) : Bool := d.supplyAdmits us && d.path.ship ≠ .pastReturn

/-- Worst-case durations of commits in µs (Table 20-2). -/
def acceptUs : Nat := 127
def entryUs : Nat := 46
def logUs : Nat := 42
def gaugeUs : Nat := 46
def recordUs : Nat := 55
def imageUs : Nat := 253
def hostUs : Nat := 42
def otpRowUs : Nat := 2000

/-! ## Growth-ring log (R448) -/

/-- Work for the cores ends IDLE (Table 2-2): the cores' clock is restored at heartwood time `t`. -/
def Power.leaveIdle (p : Power) (t : Nat) : Power :=
  if p.state = .idle then { p with state := .run, previous := p.code, lastTime := t } else p

/-- Queue a log record; the thirty-third is dropped and counted. An event that the cores record is an interrupt, which ends IDLE. -/
def Dev.log (d : Dev) (r : LogRec) : Dev :=
  let d := d.power' fun p => p.leaveIdle r.time
  if d.nv.logQueue.length < 32 then { d with nv := { d.nv with logQueue := d.nv.logQueue ++ [r] } }
  else d.faults' fun f => { f with logDropped := satInc 32 f.logDropped }

/-- The `n` bytes of a number, least significant first (R4). -/
def bytesLE (n v : Nat) : List Nat :=
  match n with
  | 0 => []
  | n + 1 => v % 256 :: bytesLE n (v / 256)

/-- The number that bytes spell, least significant first (R4). -/
def ofBytesLE (l : List Nat) : Nat :=
  match l with
  | [] => 0
  | b :: r => b % 256 + 256 * ofBytesLE r

/-- The two's complement of a signed value in `n` bytes. -/
def bytesOfInt (n : Nat) (v : Int) : List Nat := bytesLE n (v % (256 ^ n : Nat)).toNat

/-- A record that is no fault record (class 0xFF, no escalation). -/
def Dev.logEvent (d : Dev) (t kind subject reason : Nat) (data : List Nat) : Dev :=
  d.log ⟨kind, subject, t, 0xFF, reason, d.stateCode, 0xFF, data⟩

/-- A fault record (Table 17-8, kinds 0x01 to 0x03). -/
def Dev.logFault (d : Dev) (t kind src cls reason esc : Nat) (data : List Nat) : Dev :=
  d.log ⟨kind, src, t, cls, reason, d.stateCode, esc, data⟩

/-! ## Fault collector state -/

/-- Sources run over 0 to 127; a number outside has no source. -/
def Dev.src' (d : Dev) (n : Nat) (f : FaultSrc → FaultSrc) : Dev :=
  if h : n < 128 then d.faults' fun x => { x with src := upd x.src ⟨n, h⟩ f } else d

def Dev.srcState (d : Dev) (n : Nat) : SrcState := if h : n < 128 then d.faults.src[n].state else .clear
/-- The sticky bit (R433): set in every state but CLEAR. -/
def Dev.sticky (d : Dev) (n : Nat) : Bool := d.srcState n ≠ .clear
/-- Whether a sticky bit of a class is set. -/
def Dev.anySticky (d : Dev) (cls : Nat) : Bool := (List.range 128).any fun n => d.sticky n && sourceClass n = cls

/-- The escalation in force for a source: the fixed one of a class F source, else the ESC field of 0x2510 (R438). -/
def Dev.escalation (d : Dev) (n : Nat) : Nat :=
  if sourceClass n = classF then sourceEsc n else d.nat 0x2510 (n + 1) % 16

def Dev.nfc (d : Dev) (n : Nat) : Bool := (d.nat 0x2510 (n + 1)).testBit 13
def Dev.emc (d : Dev) (n : Nat) : Bool := (d.nat 0x2510 (n + 1)).testBit 12

/-- The error register of an emergency message for a source (R443); object 0x1001 reads the union over the sticky sources. -/
def errorBit (n : Nat) : Nat :=
  if 50 ≤ n ∧ n ≤ 59 then 4 else if 80 ≤ n ∧ n ≤ 91 then 8 else if 108 ≤ n ∧ n ≤ 115 then 16 else 128

def Dev.errorRegister (d : Dev) : Nat :=
  (List.range 128).foldl (fun a n => if d.sticky n then a ||| errorBit n else a)
    (ofBool (d.anySticky classU || d.anySticky classF))

/-- Whether a port sends emergency messages: NMT pre-operational or operational (R443). -/
def PortSt.sendsEmcy (p : PortSt) : Bool := p.nmt = .preOp || p.nmt = .operational

/-- Queue an emergency message on both ports; a ninth on a port is dropped and counted (R444). -/
def Dev.emcy (d : Dev) (e : Emcy) : Dev :=
  let dropA := d.portA.sendsEmcy && d.faults.emcyA.length ≥ 8
  let dropB := d.portB.sendsEmcy && d.faults.emcyB.length ≥ 8
  d.faults' fun f => { f with
    emcyA := if d.portA.sendsEmcy && !dropA then f.emcyA ++ [e] else f.emcyA
    emcyB := if d.portB.sendsEmcy && !dropB then f.emcyB ++ [e] else f.emcyB
    emcyDropped := satAdd 32 f.emcyDropped (ofBool dropA + ofBool dropB) }

/-- Start or restart the 100 µs minimum pulse on nFAULT (R440). -/
def Dev.nfPulse (d : Dev) : Dev := d.faults' fun f => { f with pulse := true }

/-- The trunk and VPRE voltages that records of kinds 0x01 and 0x02 carry. -/
def Dev.supplyBytes (d : Dev) : List Nat := bytesLE 2 d.path.vsysMv ++ bytesLE 2 d.path.vpreMv

/-! ## Recording a source (R433, Table 17-1) -/

/-- The state a source enters at a lasting event (Table 17-1). -/
def Dev.raisedState (d : Dev) (src : Nat) (started : Bool) : SrcState :=
  if sourceClass src = classC then (if d.escalation src = 0 then .raised else .timing)
  else if sourceClass src = classU then (if started then .raised else .timing)
  else .escalated

/-- What every lasting event of a CLEAR source does: sticky bit, count, log record, nFAULT and emergency (R440, R443). -/
def Dev.record (d : Dev) (t src reason : Nat) (started : Bool) : Dev :=
  let cls := sourceClass src
  let st := d.raisedState src started
  let d := (d.src' src fun s => { s with state := st, reason := reason, count := satInc 16 s.count, retrying := false }).faults'
    fun f => { f with lasting := satInc 32 f.lasting }
  let d := d.logFault t 0x01 src cls reason 0xFF d.supplyBytes
  let d := d.when (cls ≠ classC || d.nfc src) Dev.nfPulse
  d.when (cls ≠ classC || d.emc src) fun d => d.emcy ⟨0xFF00 + src, d.errorRegister, cls, reason, t % 2 ^ 24⟩

/-- Record a source that is not sticky. -/
def Dev.recordNew (d : Dev) (t src reason : Nat) : Dev := if d.sticky src then d else d.record t src reason false

/-! ## The host area (R519) -/

/-- What an address that nothing has written reads as: no rule gives the content of a blank host page. DESIGN CHOICE, log
entry 4. Unsafe. -/
def blankByte : Byte := 0

/-- The canonical form: addresses strictly rising, and no cell that holds what an unlisted address reads as. -/
def Memory.wf : Memory → Bool
  | [] => true
  | [c] => c.2 ≠ blankByte
  | c :: d :: r => c.2 ≠ blankByte && c.1 < d.1 && Memory.wf (d :: r)

/-- Read one byte. -/
def memGet (m : Memory) (a : Nat) : Byte :=
  match m with
  | [] => blankByte
  | (k, v) :: r => if k = a then v else memGet r a

/-- Put a cell at its place; a blank byte removes the cell. -/
def memSet (m : Memory) (a : Nat) (v : Byte) : Memory :=
  match m with
  | [] => if v = blankByte then [] else [(a, v)]
  | (k, w) :: r =>
    if a < k then (if v = blankByte then (k, w) :: r else (a, v) :: (k, w) :: r)
    else if a = k then (if v = blankByte then r else (a, v) :: r)
    else (k, w) :: memSet r a v

/-- A byte of the host area as a number. -/
def hostByte (m : Memory) (a : Nat) : Nat := (memGet m a).toNat

/-- Write bytes at address `a`; those beyond the end of the 64-byte page wrap to its beginning. -/
def hostWrite (m : Memory) (a : Nat) (data : List Byte) : Memory :=
  (data.zipIdx).foldl (fun m x => memSet m (a / 64 * 64 + (a + x.2) % 64) x.1) m

/-! ## Free values -/

/-- Draw a free value: `f` is applied to the number of values drawn so far, and the count advances (log entry 3). -/
def Dev.draw (d : Dev) : Nat × Dev := (Config.openValue d.free, { d with free := d.free + 1 })

end Sys2Proof.Machine
end

