-- ==== Sys2Proof/Machine/Branches.lean ====
section
/-!
DEFINITION. Machine/Branches.lean: what a branch is built from and how it is turned off: the phases of a rail, references and
set-points, fast-off, turn-off by a branch's own mode, and the clearing of the charger's phase state.
-/
namespace Sys2Proof.Machine

/-! ## Phases of a rail (R102 to R107) -/

def allPhases : List Phase := List.finRange 20
def allRails : List Rail := List.finRange 8

/-- The wiring field of a phase (Table 5-8), from the OTP board configuration. -/
def Dev.wiring (d : Dev) (p : Phase) : Nat := d.nat (0x2210 + p.val) 1
def Dev.wired (d : Dev) (p : Phase) : Bool := (d.wiring p).testBit 7
def Dev.sapDecl (d : Dev) (p : Phase) : Bool := (d.wiring p).testBit 6
/-- The rail a phase is wired to; meaningful only when it is wired. -/
def Dev.phaseRail (d : Dev) (p : Phase) : Rail := ⟨d.wiring p % 8, by omega⟩
def Dev.ofRail (d : Dev) (r : Rail) (p : Phase) : Bool := d.wired p && d.phaseRail p = r

def Dev.phasesOf (d : Dev) (r : Rail) : List Phase := allPhases.filter (d.ofRail r)
def Dev.hasPhases (d : Dev) (r : Rail) : Bool := (d.phasesOf r) ≠ []
def Dev.roleIs (d : Dev) (p : Phase) (x : Role) : Bool := d.grove.ph[p].role = x
def Dev.firingIs (d : Dev) (p : Phase) (x : Firing) : Bool := d.roleIs p .available && d.grove.ph[p].fstate = x
def Dev.availableOf (d : Dev) (r : Rail) : List Phase := (d.phasesOf r).filter fun p => d.roleIs p .available
def Dev.firingOf (d : Dev) (r : Rail) : List Phase := (d.phasesOf r).filter fun p => d.firingIs p .firing
def Dev.shedOf (d : Dev) (r : Rail) : List Phase := (d.phasesOf r).filter fun p => d.firingIs p .shed
def Dev.saplingsOf (d : Dev) (r : Rail) : List Phase := (d.phasesOf r).filter fun p => d.roleIs p .sapling
/-- The rating of a phase in mA (0x2210+n:05). -/
def Dev.rating (d : Dev) (p : Phase) : Nat := d.nat (0x2210 + p.val) 5
def Dev.ratingSum (d : Dev) (l : List Phase) : Nat := (l.map d.rating).sum

/-- Put a phase into a firing state, stamping when it entered. -/
def Dev.setFiring (d : Dev) (p : Phase) (x : Firing) : Dev :=
  { d with grove := { d.grove with
      ph := upd d.grove.ph p fun s => { s with fstate := x, stamp := d.grove.nextStamp }
      nextStamp := d.grove.nextStamp + 1 } }

/-- Put several phases into a firing state in order. -/
def Dev.setFirings (d : Dev) (l : List Phase) (x : Firing) : Dev := l.foldl (fun d p => d.setFiring p x) d

/-! ## References and set-points (R137, R205) -/

/-- The divider ratio k of a rail in 0.001 units. -/
def Dev.ratio (d : Dev) (r : Rail) : Nat := d.nat (0x2200 + r.val) 2

/-- The code of a set-point in µV: round(V_set ÷ (k × 250 µV)), halves up (R137). -/
def setPointCode (uv ratio : Nat) : Nat := divRound (uv * 1000) (ratio * 250)

/-- The output in µV that a code stands for: code × 250 µV × k, to the nearest µV (R137). -/
def codeUv (code ratio : Nat) : Nat := divRound (code * 250 * ratio) 1000

/-- The switching period of a rail in taps (R99): 32 taps to a PGCLK cycle. -/
def Dev.periodTaps (d : Dev) (r : Rail) : Nat := 32 * d.nat (0x2200 + r.val) 3

/-- Update u_ff = round(P × k × V_ref ÷ VSYS) where 0x2200+r:0F enables it; disabled, it holds its last value (R152). A trunk that
reads 0 gives the quotient no value: it is free. DESIGN CHOICE, log entry 3. -/
def Dev.updateFeedForward (d : Dev) (r : Rail) : Dev :=
  if !d.flag (0x2200 + r.val) 0x0F then d
  else if d.path.vsysMv = 0 then d.draw.2.lp' r fun l => { l with uff := d.draw.1 }
  else d.lp' r fun l => { l with uff := divRound (d.periodTaps r * d.ratio r * l.vref * 250) (d.path.vsysMv * 1000000) }

def Dev.railSetUv (d : Dev) (r : Rail) : Nat := d.nat (0x2200 + r.val) 1
def Dev.railSetCode (d : Dev) (r : Rail) : Nat := setPointCode (d.railSetUv r) (d.ratio r)
/-- The highest code a forecast may raise V_ref to: 8000, or the code of the set-point ceiling (R178). -/
def Dev.forecastCap (d : Dev) (r : Rail) : Nat :=
  match d.dict.ceil.get (key (0x2200 + r.val) 1) with
  | some c => min 8000 (setPointCode c.toNat (d.ratio r))
  | none => 8000

/-- The code that V_ref moves to: 0 in soft stop (R172), the target raised by the offset in a forecast (R178), else the target. -/
def Dev.refGoal (d : Dev) (r : Rail) : Nat :=
  let x := d.grove.rail[r]
  if x.mode = .softStop then 0
  else if x.forecast then max x.lp.target (min (x.lp.target + x.fcOff) (d.forecastCap r))
  else x.lp.target

/-- The present reference of a rail at its output, in mV. -/
def Dev.railRefMv (d : Dev) (r : Rail) : Nat := codeUv d.grove.rail[r].lp.vref (d.ratio r) / 1000

/-- The record index of an integrated channel (Tables 8-3 and 8-4). -/
def chanIndex : Integrated → Nat
  | .ib n => 0x2240 + n.val
  | .ld n => 0x2248 + n.val

def Dev.chanSetMv (d : Dev) (c : Integrated) : Nat := d.nat (chanIndex c) 1

/-- The present reference of a branch in mV; an XE branch has none. -/
def Dev.refMv (d : Dev) (b : Branch) : Nat :=
  byBranch b d.railRefMv (fun c => (d.chan c).refMv) (fun _ => 0)

/-- Whether a branch that is off cannot start: its set-point is 0, or it is a rail without a wired phase (R231, R234). -/
def Dev.cannotStart (d : Dev) (b : Branch) : Bool :=
  byBranch b (fun r => d.railSetUv r = 0 || !d.hasPhases r) (fun c => d.chanSetMv c = 0) (fun _ => false)

/-! ## Tuning runs -/

/-- The log record of a coefficient set applied or reverted (kind 0x21, R162). -/
def Dev.logRetune (d : Dev) (t : Nat) (r : Rail) (outcome : Nat) (old new : List Nat) : Dev :=
  d.logEvent t 0x21 r.val 0 (outcome :: (old ++ new).flatMap (bytesLE 2))

/-- End the tuning run, if it runs on this rail, with an outcome of Table 6-5; an abort during verification restores the
previous set (R163). -/
def Dev.abortTuning (d : Dev) (t : Nat) (r : Rail) (outcome : Nat) : Dev :=
  match d.grove.run with
  | none => d
  | some run =>
    if run.rail ≠ r.val then d else
    let reverts := run.stage = .verifying
    let d := d.when reverts fun d => d.logRetune t r outcome run.before d.grove.rail[r].lp.active
    let d := d.grove' fun g => { g with
      run := none
      result := upd g.result r fun x => { x with outcome := outcome, time := t } }
    d.lp' r fun l => { l with tuning := false, active := if reverts then run.before else l.active }

/-- Whether a phase switches (Table 11-2). -/
def ChgPhase.active (p : ChgPhase) : Bool := p = .precharge || p = .fastPulse || p = .fastCc || p = .cv

/-- The operating region by the ratio of VSYS to node B (R290): 1 buck, 2 buck-boost, 3 boost. -/
def chgRegion (vsysMv nodeBMv : Nat) : Nat :=
  if 100 * vsysMv ≥ 112 * nodeBMv then 1 else if 100 * vsysMv ≤ 88 * nodeBMv then 3 else 2

/-- The region after a reading: the present one is left only past the threshold of the new one by 2 % of the node B voltage. -/
def regionNext (now vsysMv nodeBMv : Nat) : Nat :=
  let v := 100 * vsysMv
  if now = 1 ∧ v > 110 * nodeBMv ∨ now = 2 ∧ v < 114 * nodeBMv ∧ v > 86 * nodeBMv ∨ now = 3 ∧ v < 90 * nodeBMv then now
  else if now = 1 ∧ v > 86 * nodeBMv ∨ now = 3 ∧ v < 114 * nodeBMv then 2
  else chgRegion vsysMv nodeBMv

/-- The charger takes its region anew from the latest readings of VSYS and BATSNS, which senses node B (Table 4-1). -/
def Dev.chgReading (d : Dev) : Dev :=
  if d.chg.phase.active then d.chg' fun c => { c with region := regionNext c.region d.path.vsysMv d.path.batMv } else d

/-- A reading of the trunk voltage, which the feed-forward of every rail that is on follows (R152); one more than 5 % from the
voltage at the start of a tuning run ends it (Table 6-5). -/
def Dev.readTrunk (d : Dev) (t mv : Nat) : Dev :=
  let d := (d.path' fun p => { p with vsysMv := mv }).chgReading
  let d := (allRails.filter fun r => d.grove.rail[r].mode ≠ .off).foldl Dev.updateFeedForward d
  match d.grove.run with
  | some run =>
    if h : run.rail < 8 then
      (if ((mv : Int) - run.startMv).natAbs * 20 > run.startMv then d.abortTuning t ⟨run.rail, h⟩ 0x17 else d)
    else d
  | none => d

/-! ## Turning off -/

/-- The judge's record of a turn-off: no longer good, windows cleared, the reference before it kept (R240, R248). -/
def BranchJ.turnedOff (j : BranchJ) (refMv : Nat) : BranchJ :=
  { j with good := false, inWindow := 0, wwin := false, fwin := false, wOut := 0, fOut := 0, wIn := 0, fIn := 0,
           offRefMv := refMv, discharged := false, dto := false }

/-! ## Retirement and the rotation list (R106, R107, R129, R132) -/

/-- A wake that a fault brings while the off order of a STANDBY entry runs is kept (R33, Table 9-4). -/
def Dev.keepWake (d : Dev) : Dev :=
  if d.seq.after = .standby then (d.power' fun p => { p with wakeSource := 6 }).seq' fun s => { s with wakeDue := true } else d

/-- A rail whose AVAILABLE count is below its minimum raises its source with reason 0x01 and goes on (R132). -/
def Dev.minimumCheck (d : Dev) (t : Nat) (r : Rail) : Dev :=
  if (d.availableOf r).length < d.nat 0x2237 (r.val + 1) then
    ((d.rail' r fun x => { x with reason := 1 }).recordNew t (20 + r.val) 1).keepWake
  else d

/-- A change of a phase's role, recorded before it is reported (R105). -/
def PhaseSt.takesRole (x : PhaseSt) (role : Role) (t : Nat) : PhaseSt := { x with role := role, recorded := some role, roleTime := t }

/-- A phase becomes RETIRED with a reason of Table 5-5, and FSnn is raised. It leaves the rotation list unless its place waits
for a sapling. -/
def Dev.retireKeeping (d : Dev) (t : Nat) (p : Phase) (reason : Nat) (place : Bool) : Dev :=
  if d.roleIs p .retired then d else
  let r : Rail := d.phaseRail p
  let was := d.grove.ph[p].role
  let d := d.ph' p fun x => { x.takesRole .retired t with
    reason := reason, markReason := 0, leavingRetires := 0, faultKept := reason = 1 }
  let d := d.grove' fun g => { g with retirements := satInc 32 g.retirements }
  let d := d.pl' r fun x => { x with order := if place then x.order else x.order.filter (· ≠ p.val) }
  let d := d.recordNew t p.val reason
  if was = .available then d.minimumCheck t r else d

/-- A phase becomes RETIRED and leaves the rotation list. -/
def Dev.retirePhase (d : Dev) (t : Nat) (p : Phase) (reason : Nat) : Dev := d.retireKeeping t p reason false

/-- The phases of a list of numbers. -/
def phasesIn (l : List Nat) : List Phase := l.filterMap fun n => if h : n < 20 then some ⟨n, h⟩ else none

/-- The rotation list of a rail: its AVAILABLE phases in list order (R107). -/
def Dev.rotationList (d : Dev) (r : Rail) : List Phase := (phasesIn d.grove.rail[r].pl.order).filter fun p => d.roleIs p .available

/-- Whether the report offset of a phase is inside its warning threshold (0x2235:07). -/
def Dev.m3Inside (d : Dev) (p : Phase) : Bool := d.grove.ph[p].m3.natAbs * 10000 ≤ d.nat 0x2235 7 * d.rating p

/-- The sapling that R128 selects: the lowest-numbered whose M3 is inside its warning threshold, else the lowest-numbered. -/
def Dev.chooseSapling (d : Dev) (r : Rail) : Option Phase :=
  let l := d.saplingsOf r
  match l.find? d.m3Inside with
  | some p => some p
  | none => l.head?

/-- A sapling takes the place of a lost phase in a rotation list, or joins its end. -/
def joinOrder (order : List Nat) (replaces : Option Nat) (n : Nat) : List Nat :=
  match replaces with
  | some k => if k ∈ order then order.map fun x => if x = k then n else x else order ++ [n]
  | none => order ++ [n]

/-- The sapling becomes AVAILABLE, its role change recorded, and joins the rotation list. -/
def Dev.joinList (d : Dev) (t : Nat) (r : Rail) (p : Phase) (replaces : Option Nat) (x : Firing) : Dev :=
  let d := d.ph' p fun s => { s.takesRole .available t with trim := 0, balSat := false }
  let d := (d.setFiring p x).grove' fun g => { g with insertions := satInc 32 g.insertions }
  d.pl' r fun s => { s with order := joinOrder s.order replaces p.val }

/-- The retirement that an insertion brings, of a phase that is still AVAILABLE, where the phase is in mid. -/
def Dev.retireAfter (d : Dev) (t : Nat) (retiring : Option Nat) (reason : Nat) : Dev :=
  (phasesIn retiring.toList).foldl (fun d p => if d.roleIs p .available then d.retirePhase t p reason else d) d

/-- The sapling that an owed insertion takes: the one it names while that is one, else the choice of R128. -/
def Dev.saplingFor (d : Dev) (r : Rail) (o : Owed) : Option Phase :=
  match (phasesIn o.named.toList).find? fun p => d.roleIs p .sapling with
  | some p => some p
  | none => d.chooseSapling r

/-- Whether the sapling mode lets an owed insertion run: after a loss in modes 1 and 2; one begun before runs again (R127). -/
def Dev.owedRuns (d : Dev) (o : Owed) : Bool := o.again || d.nat 0x2234 1 ≥ 1

/-- An owed insertion on a rail that is off takes effect at once (R129); without a sapling it waits. -/
def Dev.insertOff (t : Nat) (r : Rail) (d : Dev) (o : Owed) : Dev :=
  match d.saplingFor r o, d.owedRuns o with
  | some p, true => (d.joinList t r p o.replaces .shed).retireAfter t o.retiring o.retireReason
  | _, _ => d.pl' r fun s => { s with owed := s.owed ++ [o] }

/-- What is owed again when an insertion must start again from its beginning. -/
def Insertion.again (i : Insertion) (replaces : Option Nat) (named : Option Nat) : Owed :=
  { replaces := replaces, named := named, retiring := i.retiring, retireReason := i.retireReason, again := true }

/-- The rail has gone off: an insertion in progress and those owed take effect at once (R129). A sapling that was ramping is
AVAILABLE already. -/
def Dev.settleInsertions (d : Dev) (t : Nat) (r : Rail) : Dev :=
  let pl := d.grove.rail[r].pl
  let d := d.pl' r fun s => { s with insertion := none, owed := [] }
  let d := match pl.insertion with
    | none => d
    | some i => if i.begun then d.retireAfter t i.retiring i.retireReason else d.insertOff t r (i.again i.replaces (some i.phase))
  pl.owed.foldl (Dev.insertOff t r) d

/-- A trip abandons an insertion in progress and those owed (R200). -/
def Dev.abandonInsertions (d : Dev) (r : Rail) : Dev := d.pl' r fun s => { s with insertion := none, owed := [] }

/-- Every phase of a rail in mid: an AVAILABLE phase becomes SHED, and one that was to leave for good is RETIRED (R113, R129). -/
def Dev.phasesMid (d : Dev) (t : Nat) (r : Rail) : Dev :=
  (d.availableOf r).foldl (fun d p =>
    let x := d.grove.ph[p]
    if x.leavingRetires ≠ 0 then d.retirePhase t p x.leavingRetires else d.setFiring p .shed) d

/-- The loop with nothing sampled: compensator states, counts and flags at 0 (R153). -/
def Loop.cleared (l : Loop) : Loop :=
  { l with i := 0, w1 := 0, w2 := 0, ePrev := 0, u := 0, inBand := false, eow := false, isat := false, osat := false, hist := []
           rampNum := 0, rampDen := 0, rampAcc := 0, track := none, inRun := 0, below := 0, above := 0, atMin := 0 }

/-- A rail that has stopped: mid, with every transient of chapter 7 ended and the compensator at 0 (R153). -/
def RailSt.stopped (x : RailSt) : RailSt :=
  { x with mode := .off, hold := false, forecast := false, fcOff := 0, fcPulse := false, brake := false, brakeRest := false,
           skip := false, negZero := false, uvArmed := false
           lp := { x.lp.cleared with vref := 0 }
           pl := { x.pl with rotating := none, rotateAgain := false } }

/-- A soft stop begins: V_ref falls by one code per soft-stop time ÷ target code, and the transients of chapter 7 end (R172). -/
def RailSt.softStopping (x : RailSt) (timeUs : Nat) : RailSt :=
  { x with mode := .softStop, hold := false, forecast := false, fcOff := 0, fcPulse := false, brake := false, skip := false
           negZero := false, uvArmed := false
           lp := { x.lp with rampNum := 1000 * timeUs, rampDen := max 1 x.lp.target, rampAcc := 0, track := none } }

/-- Fast-off of a rail (R173): every phase in mid at once. -/
def Dev.fastOffRail (d : Dev) (t : Nat) (r : Rail) : Dev :=
  let ref := d.railRefMv r
  let mode := d.grove.rail[r].mode
  if mode = .off then d else
  let d := d.abortTuning t r 0x11
  let d := d.phasesMid t r
  let d := (d.rail' r RailSt.stopped).settleInsertions t r
  d.judge' (railBranch r) fun j => if mode = .softStop then j else j.turnedOff ref

/-- Turn-off of a rail by its mode (R172): mode 0 goes to mid, mode 1 begins the soft stop. -/
def Dev.turnOffRail (d : Dev) (t : Nat) (r : Rail) : Dev :=
  if !d.railOn r then d
  else if d.nat (0x2200 + r.val) 0x23 = 0 then d.fastOffRail t r
  else
    let ref := d.railRefMv r
    let d := d.abortTuning t r 0x11
    let d := d.rail' r fun x => x.softStopping (d.nat (0x2200 + r.val) 0x24)
    d.judge' (railBranch r) fun j => j.turnedOff ref

/-- An integrated channel that has stopped; the discharge switch closes where it is enabled (R216, R217). -/
def ChanSt.stopped (x : ChanSt) (discharge : Bool) : ChanSt :=
  { x with on := false, sstart := false, hiccup := false, recovery := false, consecutive := 0, pgood := false, skip := false,
           uvArmed := false, dropout := false, refMv := 0, rampAcc := 0, disch := discharge }

/-- Whether the discharge switch of a channel is enabled (0x2240+n:06, 0x2248+n:05). -/
def Dev.dischargeEnabled (d : Dev) (c : Integrated) : Bool :=
  match c with
  | .ib n => d.flag (0x2240 + n.val) 6
  | .ld n => d.flag (0x2248 + n.val) 5

def Dev.turnOffChan (d : Dev) (c : Integrated) : Dev :=
  if !(d.chan c).on then d else
  let ref := (d.chan c).refMv
  let d' := d.chan' c fun x => x.stopped (d.dischargeEnabled c)
  d'.judge' (chanCode c) fun j => j.turnedOff ref

def Dev.turnOffXe (d : Dev) (n : Fin 8) : Dev :=
  if !d.integ.xe[n].en then d else
  let d := d.xe' n fun x => { x with en := false, pgood := false, early := false }
  d.judge' (xeBranch n) fun j => { j.turnedOff 0 with discharged := !d.integ.xe[n].pgIn && d.nat (0x2250 + n.val) 1 = 0 }

/-- Turn a branch off by its own turn-off mode (R172, R217, R223). -/
def Dev.turnOff (d : Dev) (t : Nat) (b : Branch) : Dev :=
  byBranch b (fun r => d.turnOffRail t r) (fun c => d.turnOffChan c) (fun n => d.turnOffXe n)

/-- Turn a branch off at once (R173). -/
def Dev.fastOff (d : Dev) (t : Nat) (b : Branch) : Dev :=
  byBranch b (fun r => d.fastOffRail t r) (fun c => d.turnOffChan c) (fun n => d.turnOffXe n)

/-- Fast-off of every branch of a mask. -/
def Dev.fastOffMask (d : Dev) (t m : Nat) : Dev :=
  (allBranches.filter (inMask m)).foldl (fun d b => d.fastOff t b) d

/-! ## Charger phase state -/

/-- TM6 and TM7 while the charger holds them (Table 15-1). -/
def chargerTimers (d : Dev) (running : Bool) : Dev :=
  (d.timer' 6 fun x => { x with run := running }).timer' 7 fun x => { x with run := running }

/-- Whether the charger holds TM6 and TM7 (RSV). -/
def Dev.timersTaken (d : Dev) : Bool := d.timer[6].saved.isSome

/-- Whether TM6 or TM7 runs under host control. -/
def Dev.timersBusy (d : Dev) : Bool := !d.timersTaken && (d.timer[6].run || d.timer[7].run)

/-- The charger takes TM6 and TM7 when they are stopped; otherwise hold TIMER is set (R298, R408). -/
def Dev.takeTimers (d : Dev) : Dev :=
  if d.timersTaken then d
  else if d.timersBusy then d.chg' fun c => { c with timerHold := true }
  else
    let d := d.timer' 6 fun x => { x with saved := some x.regs, regs := { psc := 0, top := 60000 } }
    let d := d.timer' 7 fun x => { x with saved := some x.regs, regs := { psc := 8, top := 65535, cmp := 469 } }
    d.chg' fun c => { c with timerHold := false }

/-- A timer gets back what the charger's taking set aside, stopped. -/
def Timer.released (x : Timer) : Timer :=
  match x.saved with
  | some r => { regs := r, saved := none, run := false }
  | none => x

def Dev.releaseTimers (d : Dev) : Dev :=
  ((d.timer' 6 Timer.released).timer' 7 Timer.released).chg' fun c => { c with timerHold := false }

/-- The charger's phase, stamped with the change (0x2141:0B). TM6 and TM7 run in FAST_PULSE. -/
def Dev.setPhase (d : Dev) (t : Nat) (p : ChgPhase) : Dev :=
  let d := d.chg' fun c => { c with phase := p, phaseTime := t, inRest := false }
  if d.timersTaken then chargerTimers d (p = .fastPulse) else d

/-- Enter a charger phase; EMPTY clears as the charger enters PRECHARGE or a fast phase (R342). -/
def Dev.chgPhase (d : Dev) (t : Nat) (p : ChgPhase) : Dev :=
  (d.setPhase t p).when (p ∈ [.precharge, .fastPulse, .fastCc]) fun d => d.gauge' fun g => { g with empty := false }

/-- Clear the charger's phase and pulse state (Table 2-7, R310): the session ends uncounted, and the charger is in WAIT or
DISABLED by its enable. -/
def Dev.chgClear (d : Dev) (t reason : Nat) : Dev :=
  let next : ChgPhase := if d.flag 0x2140 1 then .wait else .disabled
  let running := d.chg.phase ≠ .disabled && d.chg.phase ≠ .wait
  let d := (d.setPhase t next).chg' fun c => { c with
    sessionS := 0, pulses := 0, region := 0, probe := .none, sink := false, sharing := false
    stopReason := if running then reason else c.stopReason }
  if next = .wait then d.takeTimers else d.releaseTimers

/-- A target that writes 0x2140:01 to :03 of this unit (R318). -/
def isCharger (t : Target) : Bool := t.unit = 0 && t.kind = 1 && t.index = 0x2140 && 1 ≤ t.sub && t.sub ≤ 3

/-- A charger protection acts: the charger targets that the loops have not yet taken fail (R13, R318). -/
def Entry.loseCharger (e : Entry) : Entry :=
  if e.state ≠ .prepared ∨ !e.going ∨ e.pend.isSome then e else
  { e with missed := e.targets.zipIdx.foldl (fun m x => if isCharger x.1 ∧ !e.reached.testBit x.2 then m ||| 2 ^ x.2 else m) e.missed }

def Dev.loseCharger (d : Dev) : Dev := d.jour' fun j => { j with entries := j.entries.map Entry.loseCharger }

/-- Stop the charger in STOPPED with a reason of R320. A presence probe in progress runs on, and may still find the pack absent
(Table 11-6). -/
def Dev.chgStop (d : Dev) (t reason : Nat) : Dev :=
  (d.loseCharger.setPhase t .stopped).chg' fun c => { c with stopReason := reason, region := 0 }

/-- The charger goes to DISABLED with a reason of R320: a session ends uncounted and the sink is off. -/
def Dev.chgDisable (d : Dev) (t reason : Nat) : Dev :=
  if d.chg.phase = .disabled then d else
  ((d.setPhase t .disabled).releaseTimers).chg' fun c =>
    { c with region := 0, stopReason := reason, probe := .none, sink := false, sharing := false }

/-- A second of a session that no hold freezes (R299, R300). -/
def Dev.sessionSecond (d : Dev) : Dev :=
  if d.chg.phase.active && !(!d.path.dcinValid || d.path.supplement || d.path.warning || d.chg.tempHold || d.chg.timerHold) then
    d.chg' fun c => { c with sessionS := satInc 32 c.sessionS }
  else d

/-! ## Pack presence (R337) -/

/-- The pack becomes absent: the gauge freezes, and a measurement or learning span in progress is discarded. -/
def Dev.gaugeAbsent (d : Dev) : Dev :=
  d.gauge' fun g => { g with present := false, estValid := false, frozen := true, waiting := false, wakeDue := false
                             meas := none, anchor := none }

/-- The pack becomes present: the gauge waits for rest, to make the insertion estimate (R338). -/
def Dev.gaugePresent (d : Dev) : Dev :=
  if d.gauge.present then d else d.gauge' fun g => { g with present := true, waiting := true }

/-! ## Arming of WD-H (R424, R425) -/

/-- WD-H with its arming and tally board cleared (Table 2-7); it arms again under R424. -/
def Wdh.cleared (w : Wdh) : Wdh := { w with armed := false, armDue := true, grace := false, tally := 0 }

/-- The host branch group in force; a change of 0x24C4:07 takes effect at the next failure (R429). -/
def Dev.hostGroup (d : Dev) : Nat := d.wdh.group

/-- The group and the pulse width as written now come into force: at a failure, and when a reset loads them. -/
def Dev.latchWdh (d : Dev) : Dev := d.wdh' fun w => { w with group := d.nat 0x24C4 7, width := d.nat 0x24C4 8 }
/-- Whether every branch of the host branch group is good. -/
def Dev.hostGroupGood (d : Dev) : Bool := allBranches.all fun b => !inMask d.hostGroup b || d.judge[b].good

/-- HELD (R425). -/
def Dev.wdhHeld (d : Dev) : Bool := d.wdh.armed && !d.hostGroupGood

/-- Ticks of a period of `ms` milliseconds (R411). -/
def wdTicks (ms : Nat) : Nat := 128 * ms

/-- WD-H arms: the first period lasts the grace period and has no early limit. -/
def Dev.armWdh (d : Dev) : Dev :=
  d.wdh' fun w => { w with armed := true, armDue := false, grace := true, tally := 0, early := 0
                           late := wdTicks (d.nat 0x24C4 5), mask := d.nat 0x24C4 4 % 65536 ||| 1 }

/-- Arm WD-H when an arming event waits, no failure action runs and the group, not empty, is good. -/
def Dev.wdhCheck (d : Dev) : Dev :=
  if d.wdh.armDue ∧ d.wdh.action = none ∧ d.hostGroup ≠ 0 ∧ d.hostGroupGood then d.armWdh else d

/-- A failure action is complete: WD-H may arm again, at once with an empty group (R424, R426). -/
def Dev.wdhActionDone (d : Dev) : Dev :=
  let d := d.wdh' fun w => { w with action := none, groupOn := false, armDue := true }
  if d.hostGroup = 0 then d.armWdh else d.wdhCheck

/-- The group of action 0x01 is good again. -/
def Dev.wdhGroupCheck (d : Dev) : Dev :=
  if d.wdh.action = some 1 ∧ d.wdh.groupOn ∧ d.hostGroupGood then d.wdhActionDone else d.wdhCheck

/-- An on order of any kind has completed: an empty group arms. -/
def Dev.wdhOrderDone (d : Dev) : Dev :=
  if d.wdh.armDue ∧ d.wdh.action = none ∧ d.hostGroup = 0 then d.armWdh else d

/-- The filters of the windows start from 0 (R241). -/
def BranchJ.filtersCleared (j : BranchJ) : BranchJ := { j with wOut := 0, fOut := 0, wIn := 0, fIn := 0 }

/-! ## State transitions (R28, R30) -/

def Sensor.lifted (x : Sensor) : Sensor :=
  if x.inTest then { x with broken := false, inTest := false, bad := 0, inRange := 0 } else x
def Converter.lifted (x : Converter) : Converter :=
  if x.inTest then { x with excluded := false, inTest := false, checkFails := 0 } else x

/-- TEST ends (R545, R548): every slot disarms, and the exclusions and broken declarations made during TEST are lifted. -/
def Dev.endTest (d : Dev) : Dev :=
  if !d.power.test then d else
  let d := (d.power' fun p => { p with test := false }).test' fun x =>
    { x with slots := x.slots.map fun s => { s with armed := false } }
  let d := d.th' fun x => { x with sensor := x.sensor.map Sensor.lifted }
  let d := d.conv' fun c =>
    let a := c.a.lifted
    { c with a := a, b := c.b.lifted, taken := c.taken && a.excluded
             excludedNode := if c.nodeInTest then none else c.excludedNode, nodeInTest := false }
  if !d.conv.a.excluded && d.conv.excludedNode ≠ some 0x16 then d.gauge' fun g => { g with vunav := false } else d

/-- A converter whose clock stops: its conversion and its injected run are abandoned, and its sequence restarts at entry 0 (R390). -/
def Converter.halted (x : Converter) : Converter :=
  { x with inject := false, pending := [], ranInPass := false, entry := 0, scan := 0 }

def Hkadc.halted (c : Hkadc) : Hkadc := { c with a := c.a.halted, b := c.b.halted, finishing := false }

/-- Enter a power state, recording the one before (0x2040:02, :03); TEST ends on leaving RUN, and so does the charger's phase. On
leaving STANDBY the root PLL is locked again (Table 2-1) and the window filters start from 0 (R241). -/
def Dev.goState (d : Dev) (t : Nat) (p : PState) : Dev :=
  let leaves := d.inRun && p ≠ .run && p ≠ .idle
  let woken := d.power.state = PState.standby && p ≠ PState.standby
  let d' := { d with power := { d.power with state := p, previous := d.power.code, lastTime := t }
                     clk := { d.clk with pllLocked := d.clk.pllLocked || d.power.state = PState.standby } }
  let d' := d'.when woken fun d => d.judgeAll BranchJ.filtersCleared
  let d' := d'.when (p = PState.standby) fun d => (d.conv' Hkadc.halted).gauge' fun g => { g with meas := none }
  if leaves then d'.endTest.chgClear t 0x0B else d'

/-! ## Loss of the core domain's supply (R16, R59, Table 2-7) -/

/-- What a phase keeps without supply: the record of its role (R105). -/
def PhaseSt.kept (x : PhaseSt) : PhaseSt := { role := x.role, recorded := x.recorded, reason := x.reason, roleTime := x.roleTime }

/-- The part of an hour not yet added is lost at a core-domain reset (R542). -/
def Life.wholeHours (l : Life) : Life := { l with seconds := 0, firingS := List.replicate 20 0 }

/-- What a loss of the core domain's supply leaves of the device: storage, OTP, fuses, device records, and the inputs. -/
def Dev.kept (d : Dev) : Dev :=
  { out := d.out, free := d.free
    path := { dcinValid := d.path.dcinValid, batValid := d.path.batValid, dcinMv := d.path.dcinMv, batMv := d.path.batMv
              holdupUs := if d.power.brownOut then d.path.holdupUs else 0 }
    grove := { ph := d.grove.ph.map PhaseSt.kept, insertions := d.grove.insertions, retirements := d.grove.retirements }
    seq := { record := d.seq.record, events := d.seq.events, startDue := true }
    gauge := { copy0 := d.gauge.copy0, copy1 := d.gauge.copy1 }
    th := { sensor := d.th.sensor.map fun x => { broken := x.broken && !x.inTest } }
    dict := {}
    jour := { entries := d.jour.entries.map fun e => { e with going := false, pend := if e.action = 1 then none else e.pend }
              ends := d.jour.ends, next := d.jour.next, replayDue := true, replayWaits := true
              nextTag := d.jour.nextTag, unmapped := d.jour.unmapped }
    nv := { banks := d.nv.banks, remap := d.nv.remap, log := d.nv.log, newest := ((d.nv.log.getLast?).map Prod.fst).getD 0
            hidden := d.nv.hidden, protection := d.nv.protection }
    otp := { words := d.otp.words, locked := d.otp.locked, spares := d.otp.spares }
    life := d.life.wholeHours
    recs := d.recs
    tap := { lockBlown := d.tap.lockBlown }
    power := { previous := d.power.code, wakeSource := if d.power.state = .ship then d.power.wakeSource else 0 } }

/-- The core domain without its supply: every pair, branch and output of it is off, and only what Table 2-7 keeps is left. The
state it stood in is remembered for 0x2040:02. -/
def Dev.unpowered (d : Dev) : Dev :=
  { d.kept with power := { state := d.power.state, coreOn := false, brownOut := d.power.brownOut } }

end Sys2Proof.Machine
end

