-- ==== Sys2Proof/Machine/Operands.lean ====
section
/-!
DEFINITION. Machine/Operands.lean: the operand forms: the bytes of records and their CRCs, command targets, journal slots and
the packed fields in which operands travel.
-/
namespace Sys2Proof.Machine

/-! ## CRCs -/

/-- One bit of the reflected CRC-32 of IEEE 802.3. -/
def crc32Bit (c : Nat) : Nat := if c % 2 = 1 then (c / 2) ^^^ 0xEDB88320 else c / 2

/-- One byte of it. -/
def crc32Byte (c b : Nat) : Nat :=
  crc32Bit (crc32Bit (crc32Bit (crc32Bit (crc32Bit (crc32Bit (crc32Bit (crc32Bit (c ^^^ (b % 256)))))))))

/-- The CRC-32 of IEEE 802.3 over bytes. -/
def crc32 (l : List Nat) : Nat := (l.foldl crc32Byte 0xFFFFFFFF) ^^^ 0xFFFFFFFF

/-- One bit of the CRC of R263: polynomial 0x1021, most significant bit first. -/
def crc16Bit (c : Nat) : Nat := if c ≥ 0x8000 then ((c * 2) % 0x10000) ^^^ 0x1021 else c * 2

def crc16Byte (c b : Nat) : Nat :=
  crc16Bit (crc16Bit (crc16Bit (crc16Bit (crc16Bit (crc16Bit (crc16Bit (crc16Bit (c ^^^ ((b % 256) * 256)))))))))

/-- The CRC of a COPAK frame (R263): initial value 0xFFFF, no reflection, no final XOR. -/
def crc16 (l : List Nat) : Nat := l.foldl crc16Byte 0xFFFF

/-! ## COPAK frames (R263, R266, R267) -/

/-- A frame of the link: its header (Table 10-2), its payload, and the CRC over both, least significant byte first (R261). -/
def copakFrame (type addr : Nat) (payload : List Nat) : List Nat :=
  let l := (type % 16 * 16 + addr % 8) :: payload.length :: payload
  l ++ bytesLE 2 (crc16 l)

end Sys2Proof.Machine

namespace Sys2Proof

/-- The 32 bytes of a beacon payload (Table 10-4). -/
def Beacon.bytes (m : Beacon) : List Nat :=
  [m.summary.toNat * 128 + m.nslv % 8 * 16 + m.cstart.toNat * 8, m.cycle % 256] ++ Machine.bytesLE 6 m.time ++
    [m.order % 256, m.orderTag % 256, m.masterState % 256, m.msgAddr % 256, m.msgType % 256, m.msgLen % 256] ++
    Machine.bytesLE 2 m.tag ++ (m.data.map (· % 256) ++ List.replicate 16 0).take 16

/-- The bytes of a status payload: 16 of a full one (Table 10-5), 4 of a summary (Table 10-6). -/
def Status.payload (s : Status) : List Nat :=
  match s with
  | .full st fl fb fr on good fwin =>
    [st % 256, fl % 256, fb % 256, fr % 256] ++ Machine.bytesLE 4 on ++ Machine.bytesLE 4 good ++ Machine.bytesLE 4 fwin
  | .summary code pg => Machine.bytesLE 4 (code % 4 * 2 ^ 30 + pg % 2 ^ 30)

/-- The sixteen bytes of a status payload as 0x2382 shows them. -/
def Status.bytes (s : Status) : List Nat := (s.payload ++ List.replicate 16 0).take 16

/-- The 8 bytes of a reply payload (R267). -/
def ReplyMsg.bytes (r : ReplyMsg) : List Nat :=
  [r.code % 256, r.detail % 256] ++ Machine.bytesLE 2 r.tag ++ Machine.bytesLE 4 r.data

end Sys2Proof

namespace Sys2Proof

/-! ## Targets of commands (Table 19-2) -/

/-- The branch whose set-point, start or stop a target is about. -/
def Target.branch (t : Target) : Option Branch :=
  if t.kind = 1 then
    if t.sub ≠ 1 then none
    else if h : 0x2200 ≤ t.index ∧ t.index < 0x2208 then some ⟨t.index - 0x2200, by omega⟩
    else if h : 0x2240 ≤ t.index ∧ t.index < 0x2246 then some ⟨8 + (t.index - 0x2240), by omega⟩
    else if h : 0x2248 ≤ t.index ∧ t.index < 0x2250 then some ⟨14 + (t.index - 0x2248), by omega⟩
    else none
  else if h : t.sub < 30 then some ⟨t.sub, h⟩ else none

/-- Whether two targets name the same object or branch (R489, R499). -/
def Target.same (a b : Target) : Bool :=
  a.unit = b.unit && ((a.kind = 1 && b.kind = 1 && a.index = b.index && a.sub = b.sub) ||
    (a.kind ≠ 1 && b.kind ≠ 1 && a.sub = b.sub))

/-- Whether two targets touch one object or one branch (R499). -/
def Target.shares (a b : Target) : Bool :=
  a.same b || (a.unit = b.unit && a.branch.isSome && a.branch = b.branch)

/-- A target as it is kept: what is written to a reserved field is ignored (R5). -/
def Target.plain (t : Target) : Target := { t with rsv := 0 }

/-- The ten bytes of a target (Table 19-2). -/
def Target.bytes (t : Target) : List Nat :=
  [t.unit, t.kind] ++ Machine.bytesLE 2 t.index ++ [t.sub, t.rsv] ++ Machine.bytesLE 4 t.value

end Sys2Proof

namespace Sys2Proof.Machine

/-! ## Records -/

/-- The first-fail record, 32 bytes (Table 9-5). -/
def Failure.bytes (f : Failure) : List Nat :=
  let body := [0x01, f.kind, f.branch, f.unit, f.reason, f.attempt, f.starts, f.state] ++ bytesLE 8 f.time ++
    bytesLE 4 f.fromStart ++ bytesLE 2 f.outMv ++ bytesLE 2 f.trunkMv ++ bytesLE 4 f.mask
  body ++ bytesLE 4 (crc32 body)

/-- A growth-ring log record of 64 bytes with its sequence number (Table 17-7). -/
def LogRec.bytes (r : LogRec) (seq : Nat) : List Nat :=
  let head := [0x01, r.kind] ++ bytesLE 2 r.subject ++ bytesLE 4 seq ++ bytesLE 8 r.time ++
    [r.cls, r.reason, r.state, r.esc]
  let body := head ++ (r.data ++ List.replicate (40 - r.data.length) 0).take 40
  body ++ bytesLE 4 (crc32 body)

/-- The slots an entry takes: a head slot and one extension slot for every two further targets (R494). -/
def slotsFor (targets : Nat) : Nat := 1 + targets / 2

/-- Codes of Table 19-3. -/
def EntryState.code : EntryState → Nat
  | .accepted => 1 | .prepared => 2 | .applied => 3 | .failed => 4 | .partially => 5

def EntryState.ended (s : EntryState) : Bool := s ≠ .accepted && s ≠ .prepared

/-- The fields of Table 19-9. -/
def packEnded (detail state seq : Nat) : Nat := detail % 256 * 2 ^ 40 + state * 2 ^ 32 + seq % 2 ^ 32

/-- The origin byte of Table 19-4. -/
def Entry.origin (e : Entry) : Nat :=
  e.client % 4 * 64 + ofBool e.rpdo * 32 + ofBool e.portB * 16 + ofBool e.cascade * 8

/-- The branches of this unit that an ended entry left unreached. -/
def Entry.missedBranches (e : Entry) : Nat :=
  maskOf fun b => ((List.range e.targets.length).zip e.targets).any fun x =>
    !e.reached.testBit x.1 && x.2.unit = 0 && x.2.branch = some b

/-- The units that an entry left with a target unreached, bit 0 this unit. -/
def Entry.missedUnits (e : Entry) : Nat :=
  ((List.range 8).filter fun u => ((List.range e.targets.length).zip e.targets).any fun x =>
    !e.reached.testBit x.1 && x.2.unit = u).foldl (fun m u => m + 2 ^ u) 0

/-- The head slot of an entry, 32 bytes (Table 19-4). -/
def Entry.bytes (e : Entry) : List Nat :=
  let body := [0x10, e.state.code, e.origin, e.action] ++ bytesLE 4 e.seq ++ bytesLE 2 e.tag ++
    [e.targets.length, e.detail] ++ bytesLE 4 e.missedBranches ++ [e.missedUnits, e.unitsLost] ++
    (match e.targets with | [] => List.replicate 10 0 | t :: _ => t.bytes)
  body ++ bytesLE 4 (crc32 body)

/-- Sign-extend the low `w` bits of a number. -/
def signExtend (w v : Nat) : Int :=
  let m := v % 2 ^ w
  if m < 2 ^ (w - 1) then (m : Int) else (m : Int) - (2 ^ w : Nat)

end Sys2Proof.Machine
end

