-- ==== Sys2Proof/Machine/Orders.lean ====
section
/-!
DEFINITION. Machine/Orders.lean: the ends of journal entries, the sequencer's orders (Table 9-3), the state transitions they
serve, and the fault collector's raising and escalation of sources (Tables 17-1 and 17-2).
-/
namespace Sys2Proof.Machine

/-! ## Ends of journal entries (R498, R501, R502) -/

/-- The end of one entry, its head slot rewritten: it is the last ended of its client (0x2643) unless it is a slave cascade entry. -/
def Dev.endNow (d : Dev) (i : Nat) (st : EntryState) (detail : Nat) : Dev :=
  match d.jour.entries[i]? with
  | none => d
  | some e =>
    d.jour' fun j => { j with
      ends := j.ends + 1
      entries := updList j.entries i fun e => { e with state := st, detail := detail, endNo := j.ends + 1, pend := none }
      lastEnded := if h : e.client < 4 ∧ !e.cascade then j.lastEnded.set e.client (packEnded detail st.code e.seq) h.1
        else j.lastEnded }

/-- End one entry: at once where the commit of its outcome is admitted, else when it is (R80, R83, R498). -/
def Dev.endEntry (d : Dev) (i : Nat) (st : EntryState) (detail : Nat) : Dev :=
  if d.commitAdmitted entryUs then d.endNow i st detail
  else d.jour' fun j => { j with entries := updList j.entries i fun e => { e with pend := some (e.pend.getD (st, detail)) } }

/-- The ends that wait for their commit take place once it is admitted. -/
def Dev.payEnds (d : Dev) : Dev :=
  if !d.commitAdmitted entryUs then d else
  (List.range d.jour.entries.length).foldl (fun d i =>
    match d.jour.entries[i]? with
    | some e => (match e.pend with | some x => d.endNow i x.1 x.2 | none => d)
    | none => d) d

/-- The indices of the entries that satisfy a condition, in acceptance order. -/
def Dev.indicesWhere (d : Dev) (p : Entry → Bool) : List Nat :=
  (List.range d.jour.entries.length).filter fun i => match d.jour.entries[i]? with | some e => p e | none => false

/-- The indices of the unended entries that satisfy a condition and whose end is still open. -/
def Dev.entriesWhere (d : Dev) (p : Entry → Bool) : List Nat := d.indicesWhere fun e => !e.state.ended && e.pend.isNone && p e

/-- End every entry of an action in progress (R502). -/
def Dev.endAction (d : Dev) (action : Nat) (st : EntryState) (detail : Nat) : Dev :=
  (d.entriesWhere fun e => e.action = action && e.state = .prepared).foldl (fun d i => d.endEntry i st detail) d

/-- Mark the unresolved targets of an entry that name a branch as failed (R501): the branch tripped, turned off or failed its
start. A branch-off target is not failed by it. -/
def Entry.lose (e : Entry) (b : Branch) : Entry :=
  if e.state ≠ .prepared ∨ !e.going ∨ e.pend.isSome then e else
  { e with missed := ((List.range e.targets.length).zip e.targets).foldl (fun m x =>
      if x.2.unit = 0 ∧ x.2.kind ≠ 3 ∧ x.2.branch = some b ∧ !e.reached.testBit x.1 then m ||| 2 ^ x.1 else m) e.missed }

def Dev.loseTargets (d : Dev) (b : Branch) : Dev :=
  d.jour' fun j => { j with entries := j.entries.map fun e => e.lose b }

/-- The targets of every branch of a mask that is on are lost, ahead of its fast-off. -/
def Dev.loseBranches (d : Dev) (m : Nat) : Dev :=
  (allBranches.filter fun b => inMask m b && d.branchOn b).foldl (fun d b => d.loseTargets b) d

/-- Whether a branch has reached the reference commanded last. -/
def Dev.atTarget (d : Dev) (b : Branch) : Bool :=
  byBranch b (fun r => d.grove.rail[r].mode = .regulating && d.grove.rail[r].lp.vref = d.grove.rail[r].lp.target)
    (fun c => (d.chan c).refMv = (d.chan c).targetMv && !(d.chan c).sstart) (fun _ => true)

/-- Whether a target of unit 0 has been reached (R501). -/
def Dev.targetReached (d : Dev) (t : Target) : Bool :=
  match t.kind, t.branch with
  | 1, some b => !d.branchOn b || d.atTarget b
  | 2, some b => d.judge[b].good
  | 3, some b => !d.branchOn b && (d.judge[b].discharged || d.judge[b].dto)
  | _, _ => !isCharger t   -- the loops take a charger setting within 1 ms, at ENTRY_END (R318)

/-- Note which targets of a PREPARED entry have been reached. -/
def Dev.reach (d : Dev) (e : Entry) : Entry :=
  if e.state ≠ .prepared ∨ e.action ≠ 1 ∨ !e.going ∨ e.pend.isSome then e else
  { e with reached := ((List.range e.targets.length).zip e.targets).foldl (fun m x =>
      if x.2.unit = 0 ∧ !e.missed.testBit x.1 ∧ !m.testBit x.1 ∧ d.targetReached x.2 then m ||| 2 ^ x.1 else m) e.reached }

/-- Whether every target has been reached or has failed. -/
def Entry.resolved (e : Entry) : Bool :=
  (List.range e.targets.length).all fun i => e.reached.testBit i || e.missed.testBit i

/-- How a resolved entry ends (R283): APPLIED, FAILED or PARTIAL. -/
def Entry.outcome (e : Entry) : EntryState × Nat :=
  if e.missed = 0 then (.applied, 0) else if e.reached = 0 then (.failed, 9) else (.partially, 9)

/-- The unended entry of the master that carries a tag. -/
def Dev.txnEntry (d : Dev) (tag : Nat) : Option Nat := (d.indicesWhere fun e => !e.state.ended && !e.cascade && e.tag = tag).head?

/-- A committed transaction is over once its entry has ended. -/
def Dev.closeTxn (d : Dev) : Dev :=
  match d.casc.txn with
  | some x =>
    if x.committed && (d.txnEntry x.tag).isNone then
      d.casc' fun c => { c with txn := none, messages := c.messages.filter fun m => m.tag ≠ x.tag }
    else d
  | none => d

/-- Drive the PREPARED entries: note the targets reached, and end those that are resolved (R501). -/
def Dev.settle (d : Dev) : Dev :=
  let d := d.payEnds
  let d' := d.jour' fun j => { j with entries := j.entries.map d.reach }
  (d'.entriesWhere fun e => e.state = .prepared && e.action = 1 && e.going && e.resolved).foldl (fun d i =>
    match d.jour.entries[i]? with
    | some e => d.endEntry i e.outcome.1 e.outcome.2
    | none => d) d' |>.closeTxn

/-! ## First-fail record (R252, R253) -/

/-- The last conversion of a branch's output; 0 for an XE branch and where no branch is named (Table 9-5). -/
def Dev.recordMv (d : Dev) (branch unit : Nat) : Nat := if h : branch < 22 ∧ unit = 0 then d.judge[branch].outMv else 0

/-- Whether the sequencer timer, or the off timer, counts (R229, R247). -/
def Seq.timerRuns (s : Seq) : Bool := (s.state = .onOrder || s.state = .safeOn) && !s.awaitPulse && !s.tapWait
def Seq.offRuns (s : Seq) : Bool := s.state = .abort || s.state = .offOrder || s.state = .safeOff

/-- The microseconds of a number of heartwood ticks. -/
def ticksUs (n : Nat) : Nat := n * 15625 / 512

/-- The timers at a heartwood time (0x2300:04, :05). Between the instants that a command gives exactly they are known to a tick. DESIGN
CHOICE, log entry 57. -/
def Seq.timerNow (s : Seq) (t : Nat) : Nat := if s.timerRuns then s.timerUs + ticksUs (t - s.timerTick) else s.timerUs
def Seq.offNow (s : Seq) (t : Nat) : Nat := if s.offRuns then s.offUs + ticksUs (t - s.timerTick) else s.offUs
def Seq.sync (s : Seq) (t : Nat) : Seq := { s with timerUs := s.timerNow t, offUs := s.offNow t, timerTick := t }

def Dev.failureNow (d : Dev) (t kind branch unit reason : Nat) : Failure :=
  { kind := kind, branch := branch, unit := unit, reason := reason, attempt := d.seq.attempt, starts := d.seq.starts
    state := d.stateCode, time := t, fromStart := d.seq.timerNow t, outMv := d.recordMv branch unit
    trunkMv := d.path.vsysMv, mask := d.seq.failed }

/-- Whether a branch stands tripped, and the reason of its last event. -/
def Dev.branchTrip (d : Dev) (b : Branch) : Bool :=
  byBranch b (fun r => d.grove.rail[r].trip) (fun c => (d.chan c).trip) (fun n => d.integ.xe[n].trip)
def Dev.branchReason (d : Dev) (b : Branch) : Nat :=
  byBranch b (fun r => d.grove.rail[r].reason) (fun c => (d.chan c).reason) (fun n => d.integ.xe[n].reason)

/-- The failure that the first-fail record names: for a fed channel that lost its input (reason 0x10), the feeding branch of 0x2305
where that one has tripped before it (R224, R236). -/
def Dev.blamed (d : Dev) (f : Failure) : Failure :=
  let feeder := if f.branch < 30 ∧ f.unit = 0 ∧ f.reason = 0x10 then d.nat 0x2305 (f.branch + 1) else 0xFF
  if h : feeder < 30 then
    if d.branchTrip ⟨feeder, h⟩ then
      { f with branch := feeder, reason := d.branchReason ⟨feeder, h⟩, outMv := d.recordMv feeder 0 }
    else f
  else f

/-- Write a first-fail record: it is staged, or, while one is staged or valid, counted and logged in full (R253, R254). -/
def Dev.firstFail (d : Dev) (t : Nat) (f : Failure) : Dev :=
  if d.seq.record = none ∧ d.seq.staged = none then d.seq' fun s => { s with staged := some f }
  else (d.seq' fun s => { s with events := satInc 16 s.events }).logEvent t 0x32 f.branch f.reason f.bytes

/-! ## On orders (R229 to R233) -/

/-- Send ABORT for the master's open transaction to every unit that was sent PREPARE, and end its entry FAILED (R282). -/
def Dev.abortTxn (d : Dev) (detail : Nat) : Dev :=
  match d.casc.txn with
  | none => d
  | some x =>
    if x.committed then d else
    let to' := (List.range 8).filter fun u => x.prepared.testBit u
    let d := d.casc' fun c => { c with
      txn := none, messages := (c.messages.filter fun m => m.tag ≠ x.tag) ++ to'.map fun u => ⟨u, 5, x.tag, []⟩ }
    match d.txnEntry x.tag with
    | some i => d.endEntry i .failed detail
    | none => d

/-- Issue an order of Table 10-7 with a new tag; the beacon repeats it (R266). Safe, Standby and Ship abort a prepare in progress
(Table 10-11). -/
def Dev.issueOrder (d : Dev) (order : Nat) : Dev :=
  if d.casc.role = 1 then
    (if 3 ≤ order then d.abortTxn 0x0B else d).casc' fun c => { c with order := order, orderTag := (c.orderTag + 1) % 256 }
  else d

/-- The order in progress: the one that waits while the sequencer is HELD. -/
def Seq.order (s : Seq) : SeqState := if s.state = .held then s.before else s.state

/-- Begin a state of the sequencer; while nRST is low it is held (R39, Table 9-3). The timer of the state before holds. -/
def Dev.seqBegin (d : Dev) (t : Nat) (st : SeqState) : Dev :=
  d.seq' fun s =>
    let s := s.sync t
    if d.power.nrstLow then { s with state := .held, before := st } else { s with state := st }

/-- On a master, whether every slave that is present reports idle (R243, R270). -/
def Dev.slavesIdle (d : Dev) : Bool := d.casc.role ≠ 1 || d.casc.slaves.toList.all fun x => !x.present || x.idle

/-- The branches whose slot is still to come: one that has been taken out of the sequence before its slot is not started (R228,
R255). -/
def Dev.seqTodo (d : Dev) : Nat := d.seq.todo &&& d.members

/-- The on order is complete: the timer has passed every slot and every branch of the sequence is good or skipped (R233). -/
def Dev.onOrderDone (d : Dev) : Bool :=
  d.seqTodo = 0 && !d.seq.awaitPulse && !d.seq.tapWait && d.slavesIdle &&
    allBranches.all fun b => !inMask d.seq.members b || inMask d.seq.todo b || d.judge[b].good || d.judge[b].skip

def Dev.onCheck (d : Dev) (t : Nat) : Dev :=
  if d.seq.state = .onOrder ∧ d.onOrderDone then
    let d := d.seq' fun s => { s.sync t with
      state := .idle, attempt := 0, groupRun := false, completed := satInc 32 s.completed }
    (d.wdhOrderDone).endAction 4 .applied 0
  else d

/-- Whether EXTEST, CLAMP or HIGHZ is in force: no branch turns on and a common start waits (R552). -/
def Dev.tapHolds (d : Dev) : Bool := d.tap.instr = 0x00 || d.tap.instr = 0x04 || d.tap.instr = 0x05

/-- A common start (R229) of a set of branches: the timer begins at 0 and every branch of the set waits for its slot. One that falls
due under EXTEST, CLAMP or HIGHZ waits (R552). -/
def Dev.commonStart (d : Dev) (t m : Nat) (st : SeqState) : Dev :=
  let d := (d.seqBegin t st).seq' fun s => { s with
    members := m, todo := m, timerUs := 0, awaitPulse := false, tapWait := d.tapHolds
    starts := if st = .onOrder then s.starts + 1 else s.starts }
  d.judgeAll fun j => { j with skip := false, counted := false }

/-- Begin the common start of the full sequence of this unit: at once when it stands alone; a master announces a Start order
and starts at the CSYNC pulse (R269); a slave starts only on an order (R268). -/
def Dev.startFull (d : Dev) (t : Nat) : Dev :=
  if d.casc.role = 0 then (d.commonStart t d.members .onOrder).onCheck t
  else if d.casc.role = 1 then
    ((d.seqBegin t .onOrder).seq' fun s => { s with members := d.members, todo := d.members, timerUs := 0, awaitPulse := true }).issueOrder 1
  else d

/-- Begin a new run (R246): ATTEMPT, the held first failure and the failed mask are cleared. -/
def Dev.newRun (d : Dev) (t : Nat) : Dev :=
  let d := d.seq' fun s =>
    { s with attempt := 0, starts := 0, held := none, failed := 0, finalFail := false, noRecord := false }
  let d := d.judgeAll fun j => { j with failed := false }
  d.startFull t

/-- SAFE_ON is over: the timer has passed every slot, and no branch of the set being started is still to become good: each is
good, skipped or failed (Table 9-3). -/
def Dev.safeOnDone (d : Dev) : Bool :=
  d.seqTodo = 0 && allBranches.all fun b => !inMask d.seq.members b || d.judge[b].good || !d.judge[b].counted

def Dev.safeCheck (d : Dev) (t : Nat) : Dev :=
  if d.seq.state = .safeOn ∧ d.safeOnDone then
    let d := d.seq' fun s => { s.sync t with
      state := .idle, finals := if s.finalFail then satInc 32 s.finals else s.finals, finalFail := false, noRecord := false }
    let d := if d.wdh.action = some 2 then d.wdhActionDone else d.wdhOrderDone
    if d.seq.resumeDue then
      ((d.seq' fun s => { s with resumeDue := false }).goState t .run).newRun t
    else d
  else d

/-- Enter SAFE_ON after the off order: the device is in SAFE, the first-fail record is written, and the safe set has its
common start (Table 9-3); a branch that failed since is in its failed mask (Table 9-4). A resume action that the last retry defeated
has failed (R502). -/
def Dev.enterSafeOn (d : Dev) (t : Nat) : Dev :=
  let d := if d.power.state = .safe then d else d.goState t .safe
  let d := if d.seq.finalFail ∧ !d.seq.resumeDue then d.endAction 4 .failed 9 else d
  let rec? := if d.seq.finalFail then d.seq.held.map fun f => { f with mask := d.seq.failed } else d.seq.cause
  let d := match rec? with
    | some f => d.firstFail t f
    | none => d
  let d := d.seq' fun s => { s with cause := none }
  (d.commonStart t (d.safeSet &&& d.members) .safeOn).safeCheck t

/-! ## Wake (R33) -/

/-- The on order of a wake (Table 9-3). Of a cascade, every unit holds CSYNC low for 5 µs; a slave searches for the link, and the
master issues its Start once the slaves are ready or the join timeout has run out (R561). -/
def Dev.wakeRun (d : Dev) (t : Nat) : Dev :=
  if d.casc.role = 0 then d.newRun t else
  let d := d.send .startPulse
  if d.casc.role = 2 then d.casc' fun c => { c with link := .search, validBeacons := 0, startArmed := false }
  else (d.casc' fun c => { c with joinDone := false }).seq' fun s => { s with startDue := true }

/-- A wake source: STANDBY ends with the root PLL relocked and a new run; during the off order of a STANDBY entry it is kept
(Table 9-4). -/
def Dev.wake (d : Dev) (t source : Nat) : Dev :=
  if d.power.state = .standby then
    ((d.power' fun p => { p with wakeSource := source }).goState t .run).wakeRun t
  else if d.seq.after = .standby ∧ d.seq.order = .offOrder then
    (d.power' fun p => { p with wakeSource := source }).seq' fun s => { s with wakeDue := true }
  else d

/-! ## Off orders (R247 to R250) -/

def SeqState.isOff (s : SeqState) : Bool := s = .abort || s = .offOrder || s = .safeOff

/-- R31: the off order of an abandoned ship entry is complete, and its action ends FAILED with detail 0x03. -/
def Dev.endShipEntry (d : Dev) : Dev :=
  if d.path.ship = .abandoned then (d.endAction 3 .failed 3).path' fun p => { p with ship := .none } else d

/-- What an off order leads to once it is complete (Table 9-3). -/
def Dev.offDone (d : Dev) (t : Nat) : Dev :=
  match d.seq.after with
  | .retry => d.seq' fun s => { s with state := .pause, after := .idle }
  | .safe => (d.seq' fun s => { s with after := .idle }).enterSafeOn t
  | .standby =>
    let d := (d.endAction 2 .applied 0).seq' fun s => { s with state := .idle, after := .idle }
    let d := (d.goState t .standby).clk' fun c => { c with pllLocked := false }
    if d.seq.wakeDue then (d.seq' fun s => { s with wakeDue := false }).wake t d.power.wakeSource else d
  | .ship => (d.seq' fun s => { s with state := .idle, after := .idle }).path' fun p => { p with ship := .committing }
  | .full =>
    let d := (d.seq' fun s => { s with state := .idle, after := .idle }).endShipEntry
    (if d.power.state = .safe then d.goState t .run else d).newRun t
  | .group =>
    let d := (d.seq' fun s => { s with after := .idle, groupRun := true }).wdh' fun w => { w with groupOn := true }
    (d.commonStart t (d.hostGroup &&& d.members) .onOrder).onCheck t
  | .idle => d.seq' fun s => { s with state := .idle }

def Dev.offCheck (d : Dev) (t : Nat) : Dev :=
  if d.seq.state.isOff ∧ d.seq.offTodo = 0 ∧ d.seq.offWait = 0 then (d.seq' fun s => s.sync t).offDone t else d

/-- Begin an off order over a mask, or merge it into the one in progress (R250): the off timer runs on, and the branches of
both are turned off. A branch never turned on and already discharged has nothing to wait for (R248). -/
def Dev.beginOff (d : Dev) (t mask : Nat) (st : SeqState) (after : AfterOff) : Dev :=
  let fresh := maskOf fun b => inMask mask b && (d.branchOn b || !d.judge[b].discharged)
  let merged := d.seq.order.isOff
  let d := (d.seqBegin t st).seq' fun s => { s with
    after := after, todo := 0, awaitPulse := false, tapWait := false
    offUs := if merged then s.offUs else 0
    offTodo := if merged then s.offTodo ||| maskDiff fresh s.offWait else fresh
    offWait := if merged then s.offWait else 0
    dto := if merged then s.dto else false }
  let d := if merged then d else d.judgeAll fun j => { j with dto := false }
  d.offCheck t

/-- The off order of the WD-H action 0x01 begins once the sequencer is IDLE. -/
def Dev.groupCheck (d : Dev) (t : Nat) : Dev :=
  if d.seq.groupDue ∧ d.seq.state = .idle then
    (d.seq' fun s => { s with groupDue := false }).beginOff t d.hostGroup .offOrder .group
  else d

/-- SAFE entry is in progress: its off order runs, and what follows it is SAFE (R36). -/
def Dev.enteringSafe (d : Dev) : Bool := d.seq.order = .safeOff

/-- Ship entry (R31, R87): nothing while DCIN is valid, a ship entry runs already, or SAFE is being entered, which ranks above it;
otherwise the off order of every branch, for which a lower-ranked transition is abandoned (R36). -/
def Dev.startShip (d : Dev) (t : Nat) : Dev :=
  if d.path.dcinValid ∨ d.enteringSafe ∨ d.path.ship ≠ .none ∨ !(d.inRun || d.power.state = .safe) then d
  else
    let d := ((d.endAction 2 .failed 0x0B).endAction 4 .failed 0x0B).seq' fun s => { s with wakeDue := false, resumeDue := false }
    let d := (d.gauge' fun g => { g with due := true, shipW := true }).life' fun l => { l with recordDue := true }
    (d.path' fun p => { p with ship := .offOrder }).beginOff t allMask .offOrder .ship

/-- A SHIP escalation of the same cycle as a SAFE or HALT one begins once SAFE has been entered (Table 17-5). -/
def Dev.shipCheck (d : Dev) (t : Nat) : Dev :=
  if d.seq.shipDue ∧ d.seq.state = .idle then (d.seq' fun s => { s with shipDue := false }).startShip t else d

/-- Move the sequencer on wherever its state's condition holds. -/
def Dev.seqCheck (d : Dev) (t : Nat) : Dev := (((((d.onCheck t).safeCheck t).offCheck t).wdhGroupCheck).groupCheck t).shipCheck t

/-- Abandon the STANDBY, SHIP and resume actions in progress: a higher-ranked transition wins (R36). -/
def Dev.abandonActions (d : Dev) : Dev :=
  let d := ((d.endAction 2 .failed 0x0B).endAction 3 .failed 0x0B).endAction 4 .failed 0x0B
  (d.path' fun p => { p with ship := .none }).seq' fun s => { s with wakeDue := false, resumeDue := false }

/-! ## SAFE (Table 2-2, R245, R252) -/

/-- Whether this unit is a slave whose link is up. -/
def Dev.slaveJoined (d : Dev) : Bool := d.casc.role = 2 && d.casc.link = .joined

/-- A reaction of SAFE: on a slave whose link is up it is requested of the master (R271, R439); in SAFE only the record is
written (Table 17-5); otherwise the off order of SAFE_OFF begins, and SAFE follows it. From the point of no return of a ship entry
on, the reaction is dropped with the core domain (R87). -/
def Dev.safeReaction (d : Dev) (t : Nat) (cause : Failure) : Dev :=
  if d.path.ship = .pastReturn then d
  else if d.slaveJoined then
    (d.casc' fun c => { c with safeReq := true }).seq' fun s => { s with cause := match s.cause with | none => some cause | x => x }
  else if d.power.state = .safe ∨ d.enteringSafe ∨ d.seq.order = .safeOn then d.firstFail t cause
  else
    let d := d.abandonActions.seq' fun s => { s with cause := some cause, finalFail := false, safeTick := t, shipDue := false }
    ((d.issueOrder 3).beginOff t (maskDiff allMask (d.standbySet ||| d.safeSet)) .safeOff .safe)

/-- STANDBY entry (Table 2-2): the off order of every branch outside the standby set. -/
def Dev.startStandby (d : Dev) (t : Nat) : Dev :=
  d.beginOff t (maskDiff allMask d.standbySet) .offOrder .standby

/-! ## Escalation (Table 17-2) -/

/-- The branch that a source names in a first-fail record: its own, for FS088 the rail that tripped on its stage, else none. -/
def Dev.recordBranch (d : Dev) (src : Nat) : Nat :=
  match sourceBranch src with
  | some b => b.val
  | none =>
    if src = 88 then
      match allRails.find? fun r => d.grove.rail[r].trip && d.grove.rail[r].reason = 0x0C with
      | some r => r.val
      | none => 0xFD
    else 0xFD

/-- The charger's enable becomes false and the charger goes to DISABLED (Table 17-2, code 0x2). -/
def Dev.disableCharger (d : Dev) (t : Nat) : Dev :=
  let d := d.setLive 0x2140 1 0
  d.loseCharger.chgDisable t 0x02

/-- The effect of an escalation code. Escalations of one heartwood tick count as those of one cycle of Table 17-5 (log entry 59). -/
def Dev.escalateEffect (d : Dev) (t src code : Nat) : Dev :=
  let reason := if h : src < 128 then d.faults.src[src].reason else 0
  let cause := d.blamed (d.failureNow t 2 (d.recordBranch src) 0 reason)
  match code with
  | 1 => if h : d.recordBranch src < 30 then ((d.loseTargets ⟨d.recordBranch src, h⟩).turnOff t ⟨d.recordBranch src, h⟩).settle else d
  | 2 => d.disableCharger t
  | 3 => d.safeReaction t cause
  | 4 => let m := maskDiff d.onMask d.safeSet
    ((((d.loseBranches m).fastOffMask t m).settle).safeReaction t cause)
  | 5 =>
    if (d.enteringSafe || d.seq.order = .safeOn) && d.seq.safeTick = t then d.seq' fun s => { s with shipDue := true }
    else d.startShip t
  | _ => d

/-- The kind 0x03 record of an applied escalation. -/
def Dev.logEscalation (d : Dev) (t src code : Nat) : Dev :=
  let reason := if h : src < 128 then d.faults.src[src].reason else 0
  d.logFault t 0x03 src (sourceClass src) reason code (bytesLE 4 (d.nat 0x2511 (src + 1)))

/-- A source becomes ESCALATED and its escalation is applied; during HOLDUP it is owed until the return (Table 17-5). -/
def Dev.escalate (d : Dev) (t src : Nat) : Dev :=
  let code := d.escalation src
  let d := (d.src' src fun s => { s with state := .escalated }).faults' fun f =>
    { f with escalations := satInc 32 f.escalations }
  if d.power.state = .holdup then d.faults' fun f => { f with owed := f.owed ++ [src] }
  else (d.logEscalation t src code).escalateEffect t src code

/-! ## Raising a source (R433 to R436, Table 17-1) -/


/-- A fault broadcast on CSYNC (R274). -/
def Dev.broadcast (d : Dev) : Dev :=
  if d.casc.role = 0 then d else (d.casc' fun c => { c with csyncLow := true }).send .broadcast

/-- An uncorrected or fatal fault wakes STANDBY (R33). -/
def Dev.faultWake (d : Dev) (t src : Nat) : Dev := d.when (sourceClass src ≠ classC) fun d => d.wake t 6

/-- Raise a source with its owner's reason. A further event of a source whose sticky bit is set changes nothing in the collector
(R433). `started` says that the sequencer counts the event as a failed start. A class U or F event wakes STANDBY (R33); a class F
one is broadcast to the cascade (R274) and escalates at once. -/
def Dev.raiseAs (d : Dev) (t src reason : Nat) (started : Bool) : Dev :=
  if src ≥ 120 then d
  else if d.sticky src then d.faultWake t src else
  let cls := sourceClass src
  let d := d.record t src reason started
  let d := d.faultWake t src
  if cls = classF then (d.broadcast).escalate t src else d

def Dev.raise (d : Dev) (t src reason : Nat) : Dev := d.raiseAs t src reason false

/-- A transient event (R435): counted and logged, handled as a corrected event for nFAULT and emergencies. Of a source whose
sticky bit is set it changes nothing (R433). -/
def Dev.transient (d : Dev) (t src reason : Nat) : Dev :=
  if d.sticky src then d.src' src fun s => { s with retrying := false } else
  let d := (d.src' src fun s => { s with count := satInc 16 s.count, retrying := false }).faults' fun f =>
    { f with transient := satInc 32 f.transient }
  let d := d.logFault t 0x02 src 3 reason 0xFF d.supplyBytes
  let d := d.when (d.nfc src) Dev.nfPulse
  d.when (d.emc src) fun d => d.emcy ⟨0xFF00 + src, d.errorRegister, 3, reason, t % 2 ^ 24⟩

/-- A first event of a source with a retry rule: the retry is awaited (R435). -/
def Dev.awaitRetry (d : Dev) (src : Nat) : Dev := d.src' src fun s => { s with retrying := true }
def Dev.retrying (d : Dev) (src : Nat) : Bool := if h : src < 128 then d.faults.src[src].retrying else false

/-! ## Failed starts (R244) -/

/-- Whether a failure of a branch now counts as a failed start: an order turned it on, or counted it, and it is not yet good. -/
def Dev.countsAsStart (d : Dev) (b : Branch) : Bool :=
  d.judge[b].counted && !d.judge[b].good && !(d.seq.order = .safeOn && d.seq.noRecord)

/-- SAFE entry by a failed order abandons a STANDBY or SHIP entry, but the resume action ends by its own rule (R502). -/
def Dev.abandonEntries (d : Dev) : Dev := (d.endAction 2 .failed 0x0B).endAction 3 .failed 0x0B

/-- The branch of this unit that failed is noted in the failed mask (R244). -/
def Dev.markFailed (d : Dev) (own : Option Branch) : Dev :=
  match own with
  | some x => (d.seq' fun s => { s with failed := s.failed ||| 2 ^ x.val }).judge' x fun j => { j with failed := true, counted := false }
  | none => d

/-- A failed start in an on order of the full sequence (Table 9-3): the first failure of the run is held; attempts left lead to
ABORT and a retry, none to SAFE. -/
def Dev.failedOnOrder (d : Dev) (t : Nat) (f : Failure) : Dev :=
  let first := d.blamed f
  let d := d.seq' fun s => { s with held := match s.held with | none => some first | x => x }
  let d := d.seq' fun s => { s with held := s.held.map fun f => { f with mask := s.failed, starts := s.starts } }
  if d.seq.attempt < d.nat 0x2300 1 then
    (d.issueOrder 2).beginOff t (maskDiff allMask d.standbySet) .abort .retry
  else
    let d := d.abandonEntries.seq' fun s => { s with finalFail := true }
    (d.issueOrder 3).beginOff t (maskDiff allMask (d.standbySet ||| d.safeSet)) .safeOff .safe

/-- A slave reports its failed start to the master and waits for the order (R243). -/
def Dev.failedOnSlave (d : Dev) (b reason : Nat) : Dev :=
  (d.seq' fun s => { s with todo := 0 }).casc' fun c =>
    { c with failPending := match c.failPending with | none => some (b, reason) | x => x
             lastFail := if c.lastFail.1 = 0xFF then (b, reason) else c.lastFail }

/-- A failed start of the group that the WD-H action 0x01 restarts makes the action 0x02. -/
def Dev.failedGroup (d : Dev) (t : Nat) : Dev :=
  let d := (d.seq' fun s => { s with groupRun := false }).wdh' fun w => { w with action := some 2 }
  d.safeReaction t (d.failureNow t 2 0xFE 0 d.wdh.reason)

/-- The branch of this unit that a failure names, if it is one of this unit. -/
def Failure.own (f : Failure) : Option Branch := if h : f.branch < 30 then (if f.unit = 0 then some ⟨f.branch, h⟩ else none) else none

/-- A failed start as it stood when it arose (R244, Table 9-3, Table 9-4); while HELD it is kept, and acted on when nRST is
released (R246). -/
def Dev.failedStartAs (d : Dev) (t : Nat) (f : Failure) : Dev :=
  let d := d.markFailed f.own
  match d.seq.state with
  | .onOrder =>
    if d.casc.role = 2 then d.failedOnSlave f.branch f.reason
    else if d.seq.groupRun then d.failedGroup t
    else d.failedOnOrder t f
  | .held => d.seq' fun s => { s with heldFail := s.heldFail ++ [f] }
  | .safeOn => (match f.own with | some x => d.turnOff t x | none => d).safeCheck t
  | _ => d

/-- A failed start now of the branch with code `b` on a unit: 0 this one, else a slave. -/
def Dev.failedStart (d : Dev) (t b unit reason : Nat) : Dev := d.failedStartAs t (d.failureNow t 1 b unit reason)

/-! ## Trips (R200, R216, R223) -/

/-- After a trip: the branch's targets fail, its source is raised, and the sequencer counts a failed start where it is one. -/
def Dev.tripped (d : Dev) (t : Nat) (b : Branch) (reason : Nat) (counts : Bool) : Dev :=
  let d := d.loseTargets b
  let d := d.raiseAs t (branchSource b) reason counts
  let d := if counts then d.failedStart t b.val 0 reason else d.judge' b fun j => { j with counted := false }
  (d.settle).seqCheck t

/-- A rail trip (R200): fast-off, an insertion in progress or owed is abandoned. -/
def Dev.tripRail (d : Dev) (t : Nat) (r : Rail) (reason : Nat) : Dev :=
  let counts := d.countsAsStart (railBranch r)
  let d := (d.abandonInsertions r).fastOffRail t r
  let d := d.rail' r fun x => { x with trip := true, reason := reason, tripTime := t }
  d.tripped t (railBranch r) reason counts

/-- A trip of an integrated channel (R216). -/
def Dev.tripChan (d : Dev) (t : Nat) (c : Integrated) (reason : Nat) : Dev :=
  let counts := d.countsAsStart (chanCode c)
  let d := d.turnOffChan c
  let d := d.chan' c fun x => { x with trip := true, reason := reason, tripTime := t, disch := d.dischargeEnabled c }
  d.tripped t (chanCode c) reason counts

/-- A trip of an external enable (R223). -/
def Dev.tripXe (d : Dev) (t : Nat) (n : Fin 8) (reason : Nat) : Dev :=
  let counts := d.countsAsStart (xeBranch n)
  let d := d.turnOffXe n
  let d := d.xe' n fun x => { x with trip := true, reason := reason, tripTime := t }
  d.tripped t (xeBranch n) reason counts

end Sys2Proof.Machine
end

