-- ==== Sys2Proof/Machine/Flags.lean ====
section
/-!
DEFINITION. Machine/Flags.lean: every status word that is computed from the state, bit by bit as its table gives it, and the
conditions that more than one chapter tests.
-/
namespace Sys2Proof.Machine

/-- A flag at a bit position. -/
def bit (n : Nat) (b : Bool) : Nat := if b then 2 ^ n else 0

/-- The number with bit n set for each index of a list of flags. -/
def bitsOf (l : List Bool) : Nat := (l.zipIdx.map fun x => bit x.2 x.1).sum

/-! ## Power path (chapter 4) -/

/-- The PATH field of Table 4-8. With both pairs on and the DCIN pair still ideal, for which the table has no code, it reads as DCIN
alone. DESIGN CHOICE, log entry 54. -/
def Path.pathCode (p : Path) (holdup : Bool) : Nat :=
  if holdup then 4
  else if p.dPair = .linear ∧ p.bPair ≠ .off then 3
  else if p.dPair ≠ .off then 1   -- also a supplement that finds the DCIN pair still ideal: log entry 54
  else if p.bPair ≠ .off then 2
  else 0

/-- Path state, 0x2101:08 (Table 4-8). -/
def Dev.pathState (d : Dev) : Nat :=
  bit 7 d.path.warning + bit 6 d.path.holdReady + bit 5 d.path.dcinValid + bit 4 d.path.batValid +
    d.path.pathCode (d.power.state = .holdup)

/-! ## Grove (chapters 5 to 7) -/

def Role.code : Role → Nat
  | .unwired => 0 | .available => 1 | .sapling => 2 | .retired => 3

def Firing.code : Firing → Nat
  | .firing => 0 | .shed => 1 | .ramping => 2 | .leaving => 3

/-- The phases of a rail that take interleave slots, in list order (R107). -/
def Dev.slots (d : Dev) (r : Rail) : List Nat :=
  d.grove.rail[r].pl.order.filter fun n =>
    if h : n < 20 then
      let x := d.grove.ph[n]
      x.role = .available && (x.fstate = .firing || x.fstate = .ramping)
    else false

/-- The interleave slot of a phase, if it has one. -/
def Dev.slotOf (d : Dev) (p : Phase) : Option Nat :=
  let l := d.slots (d.phaseRail p)
  if d.wired p ∧ p.val ∈ l then some (l.idxOf p.val) else none

/-- The offset of a phase's slot in taps: round(s × P ÷ N), halves up (R108). -/
def Dev.slotOffset (d : Dev) (p : Phase) : Nat :=
  match d.slotOf p with
  | none => 0xFFFFFFFF
  | some s =>
    let r := d.phaseRail p
    divRound (s * (32 * d.nat (0x2200 + r.val) 3)) (d.slots r).length

/-- Phase status, 0x2210+n:02 (Table 5-9). -/
def Dev.phaseStatus (d : Dev) (p : Phase) : Nat :=
  let x := d.grove.ph[p]
  let avail := x.role = .available
  (match d.slotOf p with | some s => s % 16 * 2 ^ 12 | none => 0) + bit 6 (x.markReason ≠ 0) +
    bit 5 (x.warned ≠ 0 || (0x11 ≤ x.markReason && x.markReason ≤ 0x14)) +
    bit 4 x.balSat + (if avail then x.fstate.code * 4 else 0) + x.role.code

/-- The masks of 0x2236:01 to :03. -/
def Dev.phaseMask (d : Dev) (f : PhaseSt → Bool) : Nat := bitsOf (d.grove.ph.toList.map f)
def Dev.firingMask (d : Dev) : Nat :=
  d.phaseMask fun x => x.role = .available && (x.fstate = .firing || x.fstate = .ramping)
/-- The rails under insertion, one deferred under R131 among them (DESIGN CHOICE, log entry 55). -/
def Dev.insertionMask (d : Dev) : Nat := bitsOf (d.grove.rail.toList.map fun x => x.pl.insertion.isSome)

/-- GR status, 0x2200+r:13 (Table 6-7). -/
def Dev.railStatus (d : Dev) (r : Rail) : Nat :=
  let l := d.grove.rail[r].lp
  bit 15 l.inBand + bit 14 l.eow + bit 13 l.isat + bit 12 l.osat + bit 11 (l.active ≠ l.configured) + bit 10 l.tuning +
    bit 9 (d.grove.rail[r].mode = .regulating && l.vref ≠ d.refGoal r) + (d.firingOf r).length % 16

/-- Protection status, 0x2200+r:3C (Table 7-6). -/
def Dev.protStatus (d : Dev) (r : Rail) : Nat :=
  let x := d.grove.rail[r]
  bit 15 x.trip + bit 14 (x.mode = .softStart) + bit 13 x.hold + bit 12 x.forecast + bit 11 x.brake + bit 10 x.skip +
    bit 9 x.localSense + bit 8 x.fcStuck + d.grove.lsf % 16

/-! ## Integrated rails (chapter 8) -/

/-- IB and LD status (Table 8-6); THRSKIP shows the throttle's buck skipping. -/
def ChanSt.status (x : ChanSt) (thrSkip : Bool) : Nat :=
  bit 15 x.trip + bit 14 x.sstart + bit 13 x.pgood + bit 12 x.hiccup + bit 11 x.skip + bit 10 (thrSkip && x.on) +
    bit 9 x.disch + bit 8 (x.on && !x.hiccup && x.refMv ≠ x.targetMv) + bit 7 x.dropout

/-- XE status, 0x2250+n:04. -/
def XeSt.status (x : XeSt) : Nat := bit 7 x.trip + bit 6 x.en + bit 5 x.pgIn + bit 4 x.pgood + bit 3 x.early

/-! ## Sequencer and supervision (chapter 9) -/

def SeqState.code : SeqState → Nat
  | .idle => 0 | .onOrder => 1 | .abort => 2 | .pause => 3 | .offOrder => 4 | .safeOff => 5 | .safeOn => 6 | .fastOff => 7
  | .held => 8

/-- Whether the master judges slaves by power-good only (R237): a cascade of five to eight devices. -/
def Dev.pgOnly (d : Dev) : Bool := d.casc.role = 1 && d.casc.units ≥ 5

/-- Sequencer status, 0x2300:03 (Table 9-8). -/
def Dev.seqStatus (d : Dev) : Nat :=
  d.seq.state.code * 2 ^ 12 + d.seq.attempt % 8 * 2 ^ 9 + bit 8 d.seq.cascade + bit 7 d.pgOnly +
    bit 6 d.seq.record.isSome + bit 5 d.seq.dto

/-- Judgement status, 0x2346 (Table 9-10). -/
def Dev.judgeStatus (d : Dev) (b : Branch) : Nat :=
  let j := d.judge[b]
  bit 7 j.failed + bit 6 j.fwin + bit 5 j.wwin + bit 4 j.good + bit 3 j.dto + bit 2 (d.branchOn b) + bit 1 j.skip

def Dev.wwinMask (d : Dev) : Nat := maskOf fun b => d.judge[b].wwin
def Dev.fwinMask (d : Dev) : Nat := maskOf fun b => d.judge[b].fwin

/-! ## Charger (chapter 11) -/

/-- The conditions field of 0x2141:02 (Table 11-4). -/
def Dev.chgConditions (d : Dev) : Nat :=
  bit 7 (!d.path.dcinValid) + bit 6 d.path.supplement + bit 5 d.path.warning + bit 4 d.chg.tempHold + bit 3 d.chg.timerHold +
    bit 2 d.chg.wdExpired + bit 1 d.chg.sharing + bit 0 d.th.throttle

/-- Whether a hold of Table 11-4 is present (R300). -/
def Dev.chgHeld (d : Dev) : Bool :=
  !d.path.dcinValid || d.path.supplement || d.path.warning || d.chg.tempHold || d.chg.timerHold

def ChgPhase.code : ChgPhase → Nat
  | .disabled => 0 | .wait => 1 | .precharge => 2 | .fastPulse => 3 | .fastCc => 4 | .cv => 5 | .done => 6 | .noPack => 7
  | .stopped => 8


/-- Whether the charger switches now: an active phase, no hold, no presence probe, no rest. -/
def Dev.chgSwitching (d : Dev) : Bool :=
  d.chg.phase.active && !d.chgHeld && d.chg.probe = .none && !d.chg.inRest && !d.chg.drvRestart

/-- The largest charge voltage, pre-charge and recharge thresholds per cell in mV (Table 11-1). -/
def cellMax (profile : Nat) : Nat := if profile = 1 then 4200 else 3650
def cellPre (profile : Nat) : Nat := if profile = 1 then 3000 else 2500
def cellRecharge (profile : Nat) : Nat := if profile = 1 then 4100 else 3400

def Dev.preThreshold (d : Dev) : Nat :=
  if d.nat 0x2140 6 = 0 then cellPre (d.nat 0x2140 4) * d.nat 0x2140 5 else d.nat 0x2140 6
def Dev.rechargeThreshold (d : Dev) : Nat :=
  if d.nat 0x2140 0x0B = 0 then cellRecharge (d.nat 0x2140 4) * d.nat 0x2140 5 else d.nat 0x2140 0x0B

/-- The current command of the present phase after throttle and input sharing (R291, R309), in mA. In CV the voltage-loop demand
is the smallest demand (R305); the spec states no value of it (log entry 3). A hold leaves no command (R301). -/
def Dev.chgCommand (d : Dev) : Nat :=
  let base := if d.chg.phase = .precharge then d.nat 0x2140 7 else if d.chg.phase.active then d.nat 0x2140 3 else 0
  let base := if d.th.throttle then base / 2 else base
  let base := if d.chg.sharing then min base d.chg.shareMA else base
  if d.chgHeld then 0 else if d.chg.phase = .cv then min base (Config.voltageDemand d.chg.mainMv (d.nat 0x2140 2)) else base

/-- The operating region that 0x2141:06 shows: off while no gate switches (Table 11-5). -/
def Dev.chgRegionShown (d : Dev) : Nat := if d.chgSwitching then d.chg.region else 0

/-! ## Fault collector (chapter 17) -/

def SrcState.code : SrcState → Nat
  | .clear => 0 | .raised => 1 | .timing => 2 | .acked => 3 | .escalated => 4

/-- The level of nFAULT (R440, R441): low in the minimum pulse, before the OTP checks are done, and as 0x2500:07 drives it. -/
def Dev.nFaultLow (d : Dev) : Bool := d.faults.pulse || d.int 0x2500 7 = 1

/-- The summary field of 0x2500:01 (Table 17-10). -/
def Dev.summary (d : Dev) : Nat :=
  let any (s : SrcState) := (List.range 128).any fun n => d.srcState n = s
  bit 15 (d.anySticky classF) + bit 14 (d.anySticky classU) + bit 13 (d.anySticky classC) + bit 12 (any .timing) +
    bit 11 (any .escalated) + bit 10 (!d.nFaultLow) + bit 9 d.faults.pulse

/-- A sticky word of 0x2500:02 to :05. -/
def Dev.stickyWord (d : Dev) (w : Nat) : Nat := bitsOf ((List.range 32).map fun b => d.sticky (32 * w + b))

/-- The declared totals of R218 in µW: the IB output power and the LD dissipation. -/
def Dev.ibDeclared (d : Dev) : Nat :=
  ((List.range 6).map fun n => d.nat (0x2240 + n) 1 * d.nat (0x2240 + n) 3).sum
def Dev.ldDeclared (d : Dev) : Nat :=
  ((List.range 8).map fun n =>
    if d.nat (0x2248 + n) 1 = 0 then 0 else (d.nat (0x2248 + n) 2 - d.nat (0x2248 + n) 1) * d.nat (0x2248 + n) 3).sum

end Sys2Proof.Machine
end

