-- ==== Sys2Proof/Machine/Loop.lean ====
section
/-!
DEFINITION. Machine/Loop.lean: the regulation loop of a grove rail (chapter 6): its samples, the ramp of V_ref, the compensator, the
band, and the High interval that its output fires.
-/
namespace Sys2Proof.Machine

/-- A setting of the record of a rail, 0x2200 + r. -/
def Dev.gr (d : Dev) (r : Rail) (sub : Nat) : Nat := d.nat (0x2200 + r.val) sub

/-! ## Minimum pulses and limits (R100, R151) -/

/-- The least number of taps of 1 ÷ 30.72 ns that last at least `ns` (R98, R100, which state no rounding: log entry 12). -/
def nsToTaps (ns : Nat) : Nat := (ns * 3072 + 99) / 100
def Dev.minHighTaps (d : Dev) : Nat := nsToTaps (d.nat 0x2230 7)
def Dev.minLowTaps (d : Dev) : Nat := nsToTaps (d.nat 0x2230 8)

/-- u_min and u_max in taps (R151). -/
def Dev.uMin (d : Dev) (_r : Rail) : Nat := d.minHighTaps
def Dev.uMax (d : Dev) (r : Rail) : Nat :=
  min (d.periodTaps r - d.minLowTaps) (d.gr r 0x10 * d.periodTaps r / 10000)

/-- The High interval that a phase fires: the compensator's output plus its trim, at least the minimum high pulse, and short enough
for the minimum low pulse (R100, R149). -/
def Dev.highTime (d : Dev) (p : Phase) (u : Nat) : Nat :=
  let most := d.periodTaps (d.phaseRail p) - d.minLowTaps
  min most (max d.minHighTaps ((u : Int) + d.grove.ph[p].trim).toNat)

/-- The High that each FIRING phase fires at its next slot edge (R148, R149). While pulse skipping it is u_min with no trim where the
newest error is at least 1, else the phase stays in mid (R185); while braking every phase is in mid (R181). -/
def Dev.fireOutput (d : Dev) (r : Rail) : Dev :=
  let x := d.grove.rail[r]
  (d.firingOf r).foldl (fun d p => d.ph' p fun s => { s with
    lowEnded := false
    high := if x.brake then 0 else if x.skip then (if x.lp.ePrev ≥ 1 then d.uMin r else 0) else d.highTime p x.lp.u }) d

/-! ## The compensator (R149 to R151) -/

/-- One low-pass stage: w + b × (x − w), with b = code ÷ 32768 (R149). A code of 32768 passes the input unchanged. -/
def poleStage (code : Nat) (w x : Int) : Int := if code = 32768 then x else w + Config.poleProduct code (x - w)

/-- The states after a sample with a given integral term: w1 and w2, clamped as R151 states, in 1/65536 tap. -/
def Loop.filtered (l : Loop) (e iNew : Int) (lo hi : Int) : Int × Int :=
  let y := 256 * (l.active.getD 0 0 : Int) * e + iNew + 4096 * (l.active.getD 2 0 : Int) * (e - l.ePrev)
  let w1 := clampInt lo hi (poleStage (l.active.getD 3 0) l.w1 y)
  (w1, clampInt lo hi (poleStage (l.active.getD 4 0) l.w2 w1))

/-- One sample of the compensator with error `e` (R149, R151): the integral term does not grow into a limit that the output
is beyond, and stays within ±I_max. The output is rounded to whole taps (R150). -/
def Loop.sample (l : Loop) (e : Int) (uMin uMax period : Nat) : Loop :=
  let one : Int := 65536
  let lo := ((uMin : Int) - l.uff) * one - period * one / 8
  let hi := ((uMax : Int) - l.uff) * one + period * one / 8
  let iMax := (l.active.getD 5 0 : Int) * one
  let cand := clampInt (-iMax) iMax (l.i + 16 * (l.active.getD 1 0 : Int) * e)
  let w2 := (l.filtered e cand lo hi).2
  let blocked := (l.uff * one + w2 > uMax * one && cand > l.i) || (l.uff * one + w2 < uMin * one && cand < l.i)
  let i := if blocked then l.i else cand
  let w := l.filtered e i lo hi
  let u := l.uff * one + w.2
  { l with i := i, w1 := w.1, w2 := w.2, ePrev := e, isat := i = iMax || i = -iMax, osat := u > uMax * one || u < uMin * one
           u := (divRoundInt (clampInt (uMin * one) (uMax * one) u) one).toNat }

/-- The counts of consecutive samples that the transient rules ask for (R172, R184, R186). -/
def Loop.counted (l : Loop) (uMin : Nat) : Loop :=
  let out := l.uff * 65536 + l.w2
  { l with below := if out < uMin * 65536 then l.below + 1 else 0
           above := if out ≥ (uMin + 8) * 65536 then l.above + 1 else 0
           atMin := if l.u ≤ uMin then l.atMin + 1 else 0 }

/-! ## Error, band and sample instant (R144 to R147, R155) -/

/-- The LSB of the error converter in µV (R144). -/
def Dev.lsbUv (d : Dev) (r : Rail) : Nat := match d.gr r 5 with | 0 => 500 | 1 => 1000 | _ => 2000

/-- Whether an edge at `x` cycles from the nominal instant blanks a sample moved by `m` cycles (R147). -/
def clearAt (edges : List Int) (m : Int) : Bool := edges.all fun x => (x - m).natAbs > 8

/-- By how many cycles a sample is moved (negative: earlier), or none where neither way is clear (R147). -/
def sampleMove (lead : Nat) (edges : List Int) : Option Int :=
  match (List.range (121 - lead)).find? fun m : Nat => clearAt edges (-(m : Int)) with
  | some m => some (-(m : Int))
  | none => ((List.range (lead - 59)).find? fun m : Nat => clearAt edges m).map fun m => (m : Int)

/-- The samples that lie within the last 1 ms of 960 000 PGCLK cycles. -/
def withinMs : Nat → List Taken → List Taken
  | _, [] => []
  | left, x :: l => if x.gap ≤ left then x :: withinMs (left - x.gap) l else [x]

/-- Whether the mean of the last 16 error samples is in the steady-state band (R155). -/
def Dev.meanInBand (d : Dev) (r : Rail) (hist : List Taken) : Bool :=
  let l := hist.take 16
  l.length = 16 && !(l.head?.map Taken.eow).getD true &&
    (l.map Taken.e).sum.natAbs * d.lsbUv r * d.ratio r * 10000 ≤ 16 * 1000 * (d.gr r 0x11 * d.railSetUv r)

/-! ## The ramp of V_ref (R139, R166, R172, R179) -/

/-- Toward a goal by at most `n` codes. -/
def moveToward (v goal n : Nat) : Nat := if v < goal then min goal (v + n) else max goal (v - n)

/-- The step interval in ns as a fraction: k × 250 µV ÷ slew rate in regulation (R139), else that of the soft start or soft stop. -/
def Dev.rampRate (d : Dev) (r : Rail) : Nat × Nat :=
  let x := d.grove.rail[r]
  if x.mode = .regulating then (d.ratio r * 250, d.gr r 7) else (x.lp.rampNum, x.lp.rampDen)

/-- V_ref after `gap` PGCLK cycles of 1 ÷ 0.96 ns: one code for each interval that has run out by this sample instant. The intervals
follow one another without a gap, as in Table 7-7. DEDUCED, log entry 56. -/
def Loop.ramp (l : Loop) (goal gap : Nat) (rate : Nat × Nat) : Loop :=
  if l.vref = goal ∨ rate.1 = 0 then { l with rampAcc := 0 } else
  let acc := l.rampAcc + 25 * gap * rate.2
  { l with vref := moveToward l.vref goal (acc / (24 * rate.1)), rampAcc := acc % (24 * rate.1) }

/-- The tracking error of R170: above the larger of 10 % of V_ref and 25 mV, and for how many cycles it has been so. -/
def Loop.tracked (l : Loop) (uv : Int) (gap : Nat) : Loop :=
  let err := (l.vref * 250 : Nat) - uv
  { l with track := if err * 10 > (l.vref * 250 : Nat) ∧ err > 25000 then some ((l.track.map (· + gap)).getD 0) else none }

/-! ## A sample (R144 to R153) -/

/-- What the converter sees at a sample: LS_r + c on local sense and in a check of a GS pin, else the sense pair (R188, R191). -/
def RailSt.seen (x : RailSt) (s : Sample) : Int :=
  if x.localSense ∨ s.check = some .remote then s.lsUv + x.corrUv else s.vdiffUv

/-- The error and EOW of a sample (R144, R145); during a check of LS_r the converter repeats its last sample (R192). -/
def Dev.judged (d : Dev) (r : Rail) (s : Sample) : Taken :=
  let x := d.grove.rail[r]
  let uv := x.seen s
  let raw := divRoundInt ((x.lp.vref * 250 : Nat) - uv) (d.lsbUv r)
  let now : Taken := { gap := s.gap, vref := x.lp.vref, e := clampInt (-256) 255 raw, eow := raw < -256 || raw > 255, uv := uv
                       diff := if x.localSense || s.check.isSome then none else some (s.vdiffUv - s.lsUv) }
  match s.check, x.lp.hist with
  | some .loc, h :: _ => { now with e := h.e, eow := h.eow, uv := h.uv }
  | _, _ => now

/-- What a judged sample leaves in the loop: EOW and the excursion count, the band, and the compensator, whose states hold while
braking goes on (R145, R155, R181). -/
def Dev.entered (d : Dev) (r : Rail) (l : Loop) (k : Taken) (edges : List Int) : Loop :=
  let brakes := d.grove.rail[r].brake && k.e < -(d.gr r 0x35 : Int)
  let hist := k :: withinMs (960000 - k.gap) l.hist
  let inBand := d.meanInBand r hist
  let move := sampleMove (d.gr r 6) edges
  let l := if brakes then { l with ePrev := k.e }
    else (l.sample k.e (d.uMin r) (d.uMax r) (d.periodTaps r)).counted (d.uMin r)
  { l with eow := k.eow, excursions := if k.eow then satInc 32 l.excursions else l.excursions, hist := hist
           inRun := if inBand then l.inRun + 1 else 0, inBand := inBand && (l.inBand || l.inRun + 1 ≥ 16)
           conflicts := if move = none then satInc 32 l.conflicts else l.conflicts
           lead := ((d.gr r 6 : Int) - move.getD 0).toNat }

/-- One sample of a rail that is on: V_ref moves, the error is judged, and the compensator's output fires. Leaving the band ends a
tuning run (Table 6-5). -/
def Dev.takeSample (t : Nat) (r : Rail) (d : Dev) (s : Sample) : Dev :=
  if d.grove.rail[r].mode = .off then d else
  let d := (d.lp' r fun l => l.ramp (d.refGoal r) s.gap (d.rampRate r)).updateFeedForward r
  let k := d.judged r s
  let was := d.grove.rail[r].lp.inBand
  let d := d.lp' r fun l =>
    let l := d.entered r l k s.edges
    if d.grove.rail[r].mode = .softStart then l.tracked k.uv s.gap else l
  let d := d.fireOutput r
  if was && !d.grove.rail[r].lp.inBand then d.abortTuning t r 0x15 else d

/-- The means of the last 1 ms: the output voltage where no sample had EOW (0x2200+r:14), and the local correction, which follows
only in band, with no EOW, on remote sense (R190). -/
def Dev.noteMeans (d : Dev) (r : Rail) : Dev :=
  let x := d.grove.rail[r]
  let h := x.lp.hist
  let n : Int := h.length
  let diffs := h.filterMap Taken.diff
  if h = [] ∨ h.any Taken.eow then d else
  d.rail' r fun x => { x with
    lp := { x.lp with outUv := (divRoundInt ((h.map Taken.uv).sum * d.ratio r) (1000 * n)).toNat }
    corrUv := if x.lp.inBand && !x.localSense && diffs ≠ [] then divRoundInt diffs.sum diffs.length else x.corrUv }

/-- The samples that a command carries, oldest first; a set-point target that V_ref reaches is reached (R140). -/
def Dev.runSamples (d : Dev) (t : Nat) (r : Rail) (l : List Sample) : Dev :=
  if l = [] ∨ d.grove.rail[r].mode = .off then d else ((l.foldl (Dev.takeSample t r) d).noteMeans r).settle

/-- The errors of the last two samples, newest first, and EOW of the newest. -/
def Loop.newest (l : Loop) : Option Taken := l.hist.head?
def Loop.second (l : Loop) : Option Taken := l.hist[1]?

end Sys2Proof.Machine
end

