-- ==== Sys2Proof/Machine/Integrated.lean ====
section
/-!
DEFINITION. Machine/Integrated.lean: the integrated bucks and LDOs and the external enables (chapter 8).
-/
namespace Sys2Proof.Machine

/-- A setting of the record of an integrated channel. -/
def Dev.ch (d : Dev) (c : Integrated) (sub : Nat) : Nat := d.nat (chanIndex c) sub

/-- Within ±2 % of the set-point in force. -/
def near2 (mv target : Nat) : Bool := ((mv : Int) - target).natAbs * 50 ≤ target

/-! ## Starts (R209, R211, R214, R222) -/

/-- The output in mV × 10 000 above which a channel trips by over-voltage, per mV of set-point. -/
def Dev.overFraction (d : Dev) (c : Integrated) : Nat := match c with | .ib _ => 10000 + d.ch c 8 | .ld _ => 11000

/-- A soft start of a channel: the reference ramps from the output read just before it to the set-point, at the rate of the set-point
over the soft-start time (R208, R209). -/
def Dev.rampChan (d : Dev) (c : Integrated) (x : ChanSt) (outMv : Nat) : ChanSt :=
  { x with sstart := true, refMv := outMv, outMv := outMv, targetMv := d.chanSetMv c, rampNum := d.chanSetMv c
           rampDen := max 1 (d.ch c 4), rampAcc := 0 }

/-- Start a channel: an output already too high trips it with reason 0x08, and it does not switch; a buck without its input trips
with reason 0x10 (R211). -/
def Dev.startChan (d : Dev) (t : Nat) (c : Integrated) (m : StartMeas) : Dev :=
  let target := d.chanSetMv c
  let d := d.chan' c fun x => { x with trip := false, outMv := m.outMv }
  if m.outMv * 10000 > d.overFraction c * target then d.tripChan t c 8
  else
    let d := d.chan' c fun x => { d.rampChan c x m.outMv with
      on := true, hiccup := false, recovery := false, consecutive := 0, pgood := false, uvArmed := false, disch := false }
    if (d.chan c).inLost then d.tripChan t c 0x10 else d

/-! ## References (R208, R209) -/

/-- What a set-point write does to a running channel: regulation and soft starts take the new target; a hiccup takes it at its
recovery, and a channel that is off at its next start. -/
def Dev.retargetChan (d : Dev) (c : Integrated) : Dev :=
  if (d.chan c).on ∧ !(d.chan c).hiccup then (d.chan' c fun x => { x with targetMv := d.chanSetMv c }).settle else d

/-- The reference after `us` microseconds: a soft start keeps its rate, and a slew moves in 5 mV steps at 1 mV/µs. -/
def ChanSt.moved (x : ChanSt) (us : Nat) : ChanSt :=
  if !x.on ∨ x.hiccup then x
  else if x.refMv = x.targetMv then { x with rampAcc := 0 }
  else if x.sstart then
    let acc := x.rampAcc + us * x.rampNum
    { x with refMv := moveToward x.refMv x.targetMv (acc / x.rampDen), rampAcc := acc % x.rampDen }
  else
    let acc := x.rampAcc + us
    { x with refMv := moveToward x.refMv x.targetMv (acc / 5 * 5), rampAcc := acc % 5 }

/-- The output and the input of a channel as last measured: PGOOD within ±2 % of the set-point, and the DROPOUT of an LDO whose
measured input is less than 200 mV above its output (R213, Table 8-6). -/
def ChanSt.measured (x : ChanSt) (outMv inMv : Nat) : ChanSt :=
  { x with outMv := outMv, inMv := inMv, pgood := x.on && near2 outMv x.targetMv, dropout := x.on && inMv ≠ 0 && inMv < outMv + 200 }

/-- The reference has moved on for `elapsedUs`; accepted work is reached when it reaches the new set-point (R208). -/
def Dev.ibLdSlewComplete (c : Integrated) (elapsedUs : Nat) (d : Dev) : Dev :=
  if (d.chan c).on then (d.chan' c fun x => x.moved elapsedUs).settle else d

/-- The soft start is complete with the output within ±2 % for 50 µs, `elapsedUs` after the reference was last moved (R209). -/
def Dev.ibLdSoftStartComplete (c : Integrated) (elapsedUs mv heldUs t : Nat) (d : Dev) : Dev :=
  let x := d.chan c
  if x.on ∧ x.sstart ∧ near2 mv x.targetMv ∧ heldUs ≥ 50 then
    ((d.chan' c fun x => { (x.moved elapsedUs).measured mv x.inMv with
      sstart := false, recovery := false, uvArmed := true, rampAcc := 0 }).settle).seqCheck t
  else d

/-! ## Hiccups and start timeouts (R210, R215) -/

/-- A hiccup, or a further one during a recovery: counted, and a trip with reason 0x04 beyond the limit. -/
def Dev.hiccupEvent (d : Dev) (t : Nat) (n : Fin 6) : Dev :=
  let d := d.ib' n fun x => { x with consecutive := x.consecutive + 1, hiccups := satInc 32 x.hiccups }
  if d.integ.ib[n].consecutive > d.ch (.ib n) 7 then d.tripChan t (.ib n) 4
  else d.ib' n fun x => { x with hiccup := true, sstart := false, recovery := false, uvArmed := false, pgood := false, refMv := 0 }

def Dev.ibLdStartTimeout (c : Integrated) (sinceUs t : Nat) (d : Dev) : Dev :=
  let x := d.chan c
  if !x.on ∨ !x.sstart ∨ sinceUs < d.ch c 4 + 1000 then d
  else match c, x.recovery with
    | .ib n, true => d.hiccupEvent t n
    | _, _ => d.tripChan t c 7

def Dev.hiccup (n : Fin 6) (cycles t : Nat) (d : Dev) : Dev :=
  let x := d.integ.ib[n]
  if !x.on ∨ x.hiccup ∨ cycles < 16 then d
  else if x.sstart ∧ !x.recovery then d.tripChan t (.ib n) 6
  else d.hiccupEvent t n

def Dev.hiccupRecovery (n : Fin 6) (offUs outMv : Nat) (d : Dev) : Dev :=
  if d.integ.ib[n].hiccup ∧ offUs ≥ 2000 then
    d.ib' n fun x => { d.rampChan (.ib n) x outMv with hiccup := false, recovery := true }
  else d

def Dev.hiccupCountReset (n : Fin 6) (mv heldUs : Nat) (d : Dev) : Dev :=
  let x := d.integ.ib[n]
  if x.on ∧ !x.hiccup ∧ near2 mv x.targetMv ∧ heldUs ≥ 1000 then d.ib' n fun x => { x with consecutive := 0 } else d

/-! ## Protection (R211, R213, R214) -/

/-- The conditions of R211. The input is lost below 4.2 V and present again above 4.4 V; a buck that is on without it trips. -/
def Dev.ibVoltageProtection (n : Fin 6) (c : IbCond) (t : Nat) (d : Dev) : Dev :=
  let x := d.integ.ib[n]
  match c with
  | .over mv us => if x.on ∧ mv * 10000 > (10000 + d.ch (.ib n) 8) * x.targetMv ∧ us ≥ 2 then d.tripChan t (.ib n) 2 else d
  | .under mv us =>
    if x.on ∧ x.uvArmed ∧ mv * 10000 < (10000 - d.ch (.ib n) 9) * x.targetMv ∧ us ≥ 20 then d.tripChan t (.ib n) 3 else d
  | .pvin mv =>
    let lost := mv < 4200 || (x.inLost && mv ≤ 4400)
    let d := d.ib' n fun x => { x with inLost := lost, inMv := mv }
    if x.on ∧ lost then d.tripChan t (.ib n) 0x10 else d

def Dev.ldoProtection (n : Fin 8) (c : LdCond) (t : Nat) (d : Dev) : Dev :=
  let x := d.integ.ld[n]
  match c with
  | .limit us => if x.on ∧ us ≥ 1000 then d.tripChan t (.ld n) (if x.sstart then 6 else 4) else d
  | .under mv us =>
    if x.on ∧ x.uvArmed ∧ mv * 10000 < (10000 - d.ch (.ld n) 6) * x.targetMv ∧ us ≥ 20 then d.tripChan t (.ld n) 3 else d
  | .over mv us => if x.on ∧ mv * 10 > 11 * x.targetMv ∧ us ≥ 2 then d.tripChan t (.ld n) 2 else d
  | .vin mv =>
    let d := d.ld' n fun x => x.measured x.outMv mv
    if x.on ∧ mv < 1400 then d.tripChan t (.ld n) 0x10 else d

def Dev.dischargeSwitchOpen (c : Integrated) (mv sinceUs : Nat) (d : Dev) : Dev :=
  if (d.chan c).disch ∧ (mv < 100 ∨ sinceUs ≥ 10000) then d.chan' c fun x => { x with disch := false, outMv := mv } else d

/-! ## Budget measurement (R221) -/

/-- The current of a channel, and the light-load skipping of a buck in mode 0: entered after 8 cycles with the inductor current at
zero, left at a cycle that needs more than 250 mA (R212). -/
def Dev.noteLoad (d : Dev) (m : ChanMeas) : Dev :=
  let skips := match m.chan with | .ib n => d.ch (.ib n) 5 = 0 | .ld _ => false
  d.chan' m.chan fun x => { x with
    outMA := m.mA, skip := x.on && !x.hiccup && skips && m.peakMA ≤ 250 && (x.skip || m.zeroCycles ≥ 8) }

/-- Note the loads of the channels, and write one log record for each overrun bit that sets. -/
def Dev.budgetMeasurement (ibMw ldMw : Nat) (channels : List ChanMeas) (t : Nat) (d : Dev) : Dev :=
  let d := channels.foldl Dev.noteLoad d
  let now := bit 0 (ibMw > 16000) + bit 1 (ldMw > 400)
  let set := fun k => now.testBit k && !d.integ.overrun.testBit k
  let d := d.integ' fun x => { x with ibMw := ibMw, ldMw := ldMw, overrun := now }
  let rec12 := bytesLE 4 ibMw ++ bytesLE 4 ldMw
  let d := d.when (set 0) fun d => d.logEvent t 0x12 0 0 rec12
  d.when (set 1) fun d => d.logEvent t 0x12 0 0 rec12

/-! ## External enables (R222, R223) -/

def Dev.pgMode (d : Dev) (n : Fin 8) : Nat := d.nat (0x2250 + n.val) 1
def Dev.pgDeglitch (d : Dev) (n : Fin 8) : Nat := d.nat (0x2250 + n.val) 2

/-- A channel is power-good, which is also its judgement. -/
def Dev.xeGood (d : Dev) (t : Nat) (n : Fin 8) : Dev :=
  let d := d.xe' n fun x => { x with pgood := true }
  (((d.judge' (xeBranch n) fun j => { j with good := true, counted := false }).settle).seqCheck t)

/-- Enable an external channel. A deglitched high that stands already in mode 0 makes it power-good (R222). -/
def Dev.startXe (d : Dev) (t : Nat) (n : Fin 8) : Dev :=
  let d := d.xe' n fun x => { x with trip := false, en := true, pgood := false }
  if d.pgMode n = 0 ∧ d.integ.xe[n].pgIn then d.xeGood t n else d

def Dev.xePowerGood (n : Fin 8) (heldUs t : Nat) (d : Dev) : Dev :=
  if d.pgMode n = 0 ∧ heldUs ≥ d.pgDeglitch n ∧ d.integ.xe[n].en then
    (d.xe' n fun x => { x with pgIn := true }).xeGood t n
  else d

/-- The PG timeout after enabling: mode 0 trips with reason 0x07; mode 1 counts as power-good, and after turn-off as
discharged. -/
def Dev.xePgTimeout (n : Fin 8) (sinceMs t : Nat) (d : Dev) : Dev :=
  if sinceMs < d.nat (0x2250 + n.val) 3 then d
  else if d.integ.xe[n].en then
    if d.integ.xe[n].pgood then d else if d.pgMode n = 0 then d.tripXe t n 7 else d.xeGood t n
  else if d.pgMode n = 1 then
    (((d.judge' (xeBranch n) fun j => { j with discharged := true }).seq' fun s =>
      { s with offWait := maskDiff s.offWait (2 ^ (22 + n.val)) }).settle).seqCheck t
  else d

/-- A deglitched low on XE_PGn: a power-good channel trips with reason 0x11, and one that is off is discharged. -/
def Dev.xePowerGoodLost (n : Fin 8) (heldUs t : Nat) (d : Dev) : Dev :=
  if d.pgMode n ≠ 0 ∨ heldUs < d.pgDeglitch n then d else
  let d := d.xe' n fun x => { x with pgIn := false }
  if d.integ.xe[n].en then
    if d.integ.xe[n].pgood then d.tripXe t n 0x11 else d
  else
    (((d.judge' (xeBranch n) fun j => { j with discharged := true }).seq' fun s =>
      { s with offWait := maskDiff s.offWait (2 ^ (22 + n.val)) }).settle).seqCheck t

/-- Power-good before enabling: PGEARLY, reason 0x12, and a log record of kind 0x33. -/
def Dev.xePgBeforeEnable (n : Fin 8) (heldUs t : Nat) (d : Dev) : Dev :=
  if d.pgMode n = 0 ∧ heldUs ≥ d.pgDeglitch n ∧ !d.integ.xe[n].en then
    (d.xe' n fun x => { x with pgIn := true, early := true, reason := 0x12 }).logEvent t 0x33 (22 + n.val) 0x12 []
  else d

/-! ## The meanings -/

def execIbLdSlewComplete (c : Integrated) (elapsedUs : Nat) (s : State) : Host.Outcome State Fault Refusal :=
  .next (s.core fun _ => Dev.ibLdSlewComplete c elapsedUs)
def execIbLdSoftStartComplete (c : Integrated) (elapsedUs mv heldUs : Nat) (s : State) : Host.Outcome State Fault Refusal :=
  .next (s.core (Dev.ibLdSoftStartComplete c elapsedUs mv heldUs))
def execIbLdStartTimeout (c : Integrated) (sinceUs : Nat) (s : State) : Host.Outcome State Fault Refusal :=
  .next (s.core (Dev.ibLdStartTimeout c sinceUs))
def execHiccup (n : Fin 6) (cycles : Nat) (s : State) : Host.Outcome State Fault Refusal := .next (s.core (Dev.hiccup n cycles))
def execHiccupRecovery (n : Fin 6) (offUs outMv : Nat) (s : State) : Host.Outcome State Fault Refusal :=
  .next (s.core fun _ => Dev.hiccupRecovery n offUs outMv)
def execHiccupCountReset (n : Fin 6) (mv heldUs : Nat) (s : State) : Host.Outcome State Fault Refusal :=
  .next (s.core fun _ => Dev.hiccupCountReset n mv heldUs)
def execIbVoltageProtection (n : Fin 6) (c : IbCond) (s : State) : Host.Outcome State Fault Refusal :=
  .next (s.core (Dev.ibVoltageProtection n c))
def execLdoProtection (n : Fin 8) (c : LdCond) (s : State) : Host.Outcome State Fault Refusal :=
  .next (s.core (Dev.ldoProtection n c))
def execDischargeSwitchOpen (c : Integrated) (mv sinceUs : Nat) (s : State) : Host.Outcome State Fault Refusal :=
  .next (s.core fun _ => Dev.dischargeSwitchOpen c mv sinceUs)
def execBudgetMeasurement (ibMw ldMw : Nat) (channels : List ChanMeas) (s : State) : Host.Outcome State Fault Refusal :=
  .next (s.core (Dev.budgetMeasurement ibMw ldMw channels))
def execXePowerGood (n : Fin 8) (heldUs : Nat) (s : State) : Host.Outcome State Fault Refusal :=
  .next (s.core (Dev.xePowerGood n heldUs))
def execXePgTimeout (n : Fin 8) (sinceMs : Nat) (s : State) : Host.Outcome State Fault Refusal :=
  .next (s.core (Dev.xePgTimeout n sinceMs))
def execXePowerGoodLost (n : Fin 8) (heldUs : Nat) (s : State) : Host.Outcome State Fault Refusal :=
  .next (s.core (Dev.xePowerGoodLost n heldUs))
def execXePgBeforeEnable (n : Fin 8) (heldUs : Nat) (s : State) : Host.Outcome State Fault Refusal :=
  .next (s.core (Dev.xePgBeforeEnable n heldUs))

end Sys2Proof.Machine
end

