-- ==== Sys2Proof/Machine/Grove.lean ====
section
/-!
DEFINITION. Machine/Grove.lean: the phase pool and phase placement (chapter 5): loss, retirement, insertion, shedding, rotation,
balance and health.
-/
namespace Sys2Proof.Machine

/-! ## Choosing phases -/

/-- The phase with the lowest stamp: the one longest in its firing state. Phases that entered it at one instant are stamped in
ascending number, so the lowest of them counts as the longest: the spec does not say which does. DESIGN CHOICE, log entry 55. -/
def Dev.longest (d : Dev) (l : List Phase) : Option Phase :=
  l.foldl (fun best p =>
    match best with
    | none => some p
    | some q => if d.grove.ph[p].stamp < d.grove.ph[q].stamp then some p else some q) none

/-! ## Insertion (R127 to R131) -/

/-- Whether an insertion on a rail has loaded its ramp and not completed it. -/
def Dev.rampInProgress (d : Dev) (r : Rail) : Bool :=
  match d.grove.rail[r].pl.insertion with
  | some i => i.begun
  | none => false

/-- Whether a shedding change is in progress on a rail: a phase is LEAVING (R113). -/
def Dev.shedChanging (d : Dev) (r : Rail) : Bool := (d.phasesOf r).any fun p => d.firingIs p .leaving

/-- Whether no phase of a rail may be shed: outside regulation, in a step hold, during an insertion's ramp (R111, R176, Table 5-6). -/
def Dev.sheddingSuspended (d : Dev) (r : Rail) : Bool :=
  d.grove.rail[r].mode ≠ .regulating || d.grove.rail[r].hold || d.rampInProgress r

/-- Whether an insertion on a rail must wait (R131). -/
def Dev.insertionDeferred (d : Dev) (r : Rail) : Bool :=
  d.path.warning || d.grove.rail[r].mode = .softStart || d.grove.rail[r].hold

/-- Load the ramp of the insertion that a rail holds: the role change is recorded and the sapling is RAMPING. A sapling that has
been retired since it was chosen gives way to the next choice of R128. -/
def Dev.beginRamp (d : Dev) (t : Nat) (r : Rail) : Dev :=
  match d.grove.rail[r].pl.insertion with
  | none => d
  | some i =>
    if i.begun then d else
    match d.saplingFor r (i.again i.replaces (some i.phase)) with
    | some p => ((d.abortTuning t r 0x14).joinList t r p i.replaces .ramping).pl' r fun s =>
        { s with insertion := some { i with phase := p.val, begun := true } }
    | none => d.pl' r fun s => { s with insertion := none }

/-- Start an insertion: at once on a rail that is off, deferred while R131 says so, else with its ramp. -/
def Dev.startInsertion (d : Dev) (t : Nat) (r : Rail) (o : Owed) : Dev :=
  if d.grove.rail[r].mode = .off then Dev.insertOff t r d o else
  match d.saplingFor r o with
  | none => d.pl' r fun s => { s with owed := s.owed ++ [o] }
  | some p =>
    let d := d.pl' r fun s => { s with insertion := some ⟨p.val, o.replaces, o.retiring, o.retireReason, false⟩ }
    if d.path.warning then d.path' fun p => { p with deferred := p.deferred ++ [.insertion r.val] }
    else if d.insertionDeferred r then d
    else d.beginRamp t r

/-- The insertion that replaces a marked phase (R123). -/
def retirement (p : Phase) (reason : Nat) : Owed :=
  { replaces := none, named := none, retiring := some p.val, retireReason := reason, again := false }

/-- The next insertion a rail owes while it has a sapling: one for a loss or begun before when the sapling mode allows it (R127),
else one for a marked phase. -/
def Dev.nextInsertion (d : Dev) (r : Rail) : Option Owed :=
  if (d.chooseSapling r).isNone then none else
  match d.grove.rail[r].pl.owed.find? d.owedRuns with
  | some o => some o
  | none =>
    if d.nat 0x2234 1 ≠ 2 then none else
    ((d.availableOf r).find? fun p => d.grove.ph[p].markReason ≠ 0 && d.grove.ph[p].leavingRetires = 0).map fun p =>
      retirement p d.grove.ph[p].markReason

/-- SAPLING_INSERTION (R129): a deferred insertion begins its ramp once nothing defers it; otherwise the next insertion the
rail owes starts. -/
def Dev.saplingInsertion (r : Rail) (t : Nat) (d : Dev) : Dev :=
  match d.grove.rail[r].pl.insertion with
  | some _ => if d.insertionDeferred r then d else d.beginRamp t r
  | none =>
    match d.nextInsertion r with
    | some o => (d.pl' r fun s => { s with owed := s.owed.erase o }).startInsertion t r o
    | none => d

/-- A phase that is to leave its rail for good does so where nothing suspends shedding: through LEAVING when it fires (R113), at
once when it is in mid. -/
def Dev.proceedLeaving (t : Nat) (d : Dev) (p : Phase) : Dev :=
  let x := d.grove.ph[p]
  let r := d.phaseRail p
  if x.leavingRetires = 0 ∨ x.role ≠ .available then d
  else if x.fstate = .shed ∨ d.grove.rail[r].mode = .off then d.retirePhase t p x.leavingRetires
  else if x.fstate = .firing ∧ !d.sheddingSuspended r then (d.abortTuning t r 0x14).setFiring p .leaving
  else d

/-- The phases of a rail that wait to leave go on once shedding resumes. -/
def Dev.resumeLeaving (d : Dev) (t : Nat) (r : Rail) : Dev := (d.phasesOf r).foldl (Dev.proceedLeaving t) d

/-- A marked AVAILABLE phase begins to leave its rail for good (R113, R123). -/
def Dev.leaveToRetire (d : Dev) (t : Nat) (p : Phase) (reason : Nat) : Dev :=
  Dev.proceedLeaving t (d.ph' p fun x => { x with leavingRetires := reason }) p

/-- The ramp is complete: the sapling is FIRING with trim 0, and the phase it replaces leaves (R129). -/
def Dev.insertionRampComplete (r : Rail) (t : Nat) (d : Dev) : Dev :=
  match d.grove.rail[r].pl.insertion with
  | none => d
  | some i =>
    if !i.begun then d else
    let d := d.pl' r fun s => { s with insertion := none }
    let d := (phasesIn [i.phase]).foldl (fun d p =>
      if d.firingIs p .ramping then (d.ph' p fun x => { x with trim := 0, balSat := false }).setFiring p .firing else d) d
    let d := (phasesIn i.retiring.toList).foldl (fun d p =>
      if d.roleIs p .available then d.leaveToRetire t p i.retireReason else d) d
    d.resumeLeaving t r

/-! ## Phase loss (R124, R125, R134) -/

/-- The retirement reason that a loss condition gives, when it is met. -/
def lossReason : LossCause → Nat
  | .stageFault flt n => if flt && n ≥ 4 then 1 else 0
  | .outOfRange n => if n ≥ 2 then 2 else 0
  | .repeatedLimit n => if n ≥ 16 then 3 else 0

/-- Whether a phase in its present role and state can meet a loss condition (R124). -/
def Dev.canLose (d : Dev) (p : Phase) (c : LossCause) : Bool :=
  match c with
  | .repeatedLimit _ => d.firingIs p .firing
  | .outOfRange _ => d.firingIs p .firing || d.firingIs p .shed || d.roleIs p .sapling
  | .stageFault _ _ => d.roleIs p .available || d.roleIs p .sapling

/-- An insertion owed for a lost phase takes its turn in ascending number of the lost phases, after those to be begun again
(Table 5-6). -/
def insertOwed (l : List Owed) (o : Owed) : List Owed :=
  match l with
  | [] => [o]
  | x :: r => if x.again || x.replaces.getD 0 < o.replaces.getD 0 then x :: insertOwed r o else o :: x :: r

/-- What a rail owes for a lost phase. The insertion whose sapling it was starts again with the next choice of R128; a FIRING
phase leaves its place for a sapling. A SHED phase, and one that was LEAVING and so had left its slot, owes none: the firing set is
unchanged (log entry 13). -/
def Dev.owe (d : Dev) (r : Rail) (p : Phase) (firing : Bool) : Dev :=
  d.pl' r fun s =>
    match s.insertion with
    | some i =>
      if i.phase = p.val then
        { s with insertion := none, owed := i.again (if i.begun then some p.val else i.replaces) none :: s.owed }
      else if firing then { s with owed := insertOwed s.owed ⟨some p.val, none, none, 0, false⟩ } else s
    | none => if firing then { s with owed := insertOwed s.owed ⟨some p.val, none, none, 0, false⟩ } else s

/-- Loss of a phase: mid at once, RETIRED and FSnn (R125). -/
def Dev.phaseLoss (p : Phase) (c : LossCause) (t : Nat) (d : Dev) : Dev :=
  let reason := lossReason c
  if reason = 0 ∨ !d.canLose p c then d else
  let r : Rail := d.phaseRail p
  let firing := d.firingIs p .firing
  let d' := (d.abortTuning t r 0x14).retireKeeping t p reason (firing || d.firingIs p .ramping)
  d'.owe r p firing

/-! ## Actions on 0x2234 (R133) -/

/-- Manual insert: refused unless the phase is a SAPLING and its rail has no insertion in progress. -/
def Dev.manualInsert (d : Dev) (t : Nat) (n : Int) : Except Nat Dev :=
  if h : 0 ≤ n ∧ n < 20 then
    let p : Phase := ⟨n.toNat, by omega⟩
    let r : Rail := d.phaseRail p
    if !d.roleIs p .sapling ∨ d.grove.rail[r].pl.insertion.isSome then .error 0x06090030
    else .ok (d.startInsertion t r ⟨none, some p.val, none, 0, true⟩)
  else .error 0x06090030

/-- Reinstate: a RETIRED phase returns to the role of its OTP declaration, its metrics cleared; an AVAILABLE one enters as SHED. Its
place is the end of the rotation list, where the spec names none. DESIGN CHOICE, log entry 55. -/
def Dev.reinstate (d : Dev) (t : Nat) (n : Int) : Except Nat Dev :=
  if h : 0 ≤ n ∧ n < 20 then
    let p : Phase := ⟨n.toNat, by omega⟩
    if !d.roleIs p .retired then .error 0x06090030
    else
      let role : Role := if d.sapDecl p then .sapling else .available
      let d := d.ph' p fun _ => { ({} : PhaseSt).takesRole role t with stamp := d.grove.nextStamp }
      let d := d.grove' fun g => { g with nextStamp := g.nextStamp + 1 }
      .ok (d.pl' (d.phaseRail p) fun s =>
        let rest := s.order.filter (· ≠ p.val)
        { s with order := if role = .available then rest ++ [p.val] else rest })
  else .error 0x06090030

/-- Retirement by shedding, only where the rail keeps its minimum available count without the phases that already leave (R123). -/
def Dev.shedToRetire (d : Dev) (t : Nat) (r : Rail) (p : Phase) (reason : Nat) : Dev :=
  if ((d.availableOf r).filter fun q => d.grove.ph[q].leavingRetires = 0).length > d.nat 0x2237 (r.val + 1) then
    d.leaveToRetire t p reason
  else d

/-- A phase marked for planned retirement (R122, R123): a SAPLING is RETIRED at once; an AVAILABLE phase is replaced by a
sapling in mode 2, once the insertions for loss have run, else shed when its rail keeps its minimum, else stays marked. -/
def Dev.planRetirement (d : Dev) (t : Nat) (p : Phase) (reason : Nat) : Dev :=
  let r : Rail := d.phaseRail p
  if d.roleIs p .sapling then d.retirePhase t p reason
  else if !d.roleIs p .available then d
  else
    let d := d.ph' p fun x => { x with markReason := reason }
    if d.grove.ph[p].leavingRetires ≠ 0 then Dev.proceedLeaving t d p
    else if d.grove.rail[r].pl.insertion.isSome then d
    else if (d.chooseSapling r).isNone ∨ d.nat 0x2234 1 ≠ 2 then d.shedToRetire t r p reason
    else if d.grove.rail[r].pl.owed.any d.owedRuns then d
    else d.startInsertion t r (retirement p reason)

/-- Retire: refused unless the phase is AVAILABLE or a SAPLING. -/
def Dev.retireAction (d : Dev) (t : Nat) (n : Int) : Except Nat Dev :=
  if h : 0 ≤ n ∧ n < 20 then
    let p : Phase := ⟨n.toNat, by omega⟩
    if d.roleIs p .available ∨ d.roleIs p .sapling then .ok (d.planRetirement t p 0x20) else .error 0x06090030
  else .error 0x06090030

/-! ## Health (R120 to R123) -/

/-- Whether metric `m` (0 to 3) of a phase lies beyond the warning (or, with `retire`, the retirement) threshold of 0x2235. -/
def Dev.beyond (d : Dev) (p : Phase) (m : Nat) (retire : Bool) : Bool :=
  let x := d.grove.ph[p]
  let o := ofBool retire
  match m with
  | 0 => x.m1 > d.nat 0x2235 (1 + o)
  | 1 => x.m2 < d.nat 0x2235 (3 + o) || x.m2 > d.nat 0x2235 (5 + o)
  | 2 => x.m3.natAbs * 10000 > d.nat 0x2235 (7 + o) * d.rating p
  | _ => x.m4 > d.nat 0x2235 (9 + o)

/-- Whether a metric applies to a phase (R122). -/
def Dev.metricApplies (d : Dev) (p : Phase) (m : Nat) : Bool :=
  d.roleIs p .available || (m = 2 && d.roleIs p .sapling)

def Dev.metricValue (d : Dev) (p : Phase) (m : Nat) : Int :=
  let x := d.grove.ph[p]
  match m with | 0 => x.m1 | 1 => x.m2 | 2 => x.m3 | _ => x.m4

/-! ## Samples of the current reports (R96, R97, R120) -/

/-- CSREF in µV (R95). -/
def csrefUv : Int := 1200000

/-- Whether a report sample is in range (R97). -/
def sampleOk (uv : Nat) : Bool := 250000 ≤ uv && uv ≤ 2750000

/-- The current in mA that a voltage in µV across the report gain of a phase stands for (R97). -/
def Dev.reportMA (d : Dev) (p : Phase) (uv : Int) : Int := uv * 1000 / d.int (0x2210 + p.val) 3

/-- The phase current of an average sample. -/
def Dev.phaseMA (d : Dev) (p : Phase) (uv : Nat) : Int := d.reportMA p (uv - csrefUv)

/-- The mean of a list of integers, 0 of none. -/
def meanInt (l : List Int) : Int := if l = [] then 0 else l.sum / l.length

/-- Cycles whose valley and peak samples are both in range. -/
def rippleOk (c : HealthCycle) : Bool := sampleOk c.valleyUv && sampleOk c.peakUv

/-- The ripple of a cycle in mA. -/
def Dev.rippleOf (d : Dev) (p : Phase) (c : HealthCycle) : Int := d.reportMA p ((c.peakUv : Int) - c.valleyUv)

/-- Whether a cycle counts for M2: current above 20 % of rating, ripple at least 16 converter steps of 2.5 V ÷ 4096 (Table 5-3). -/
def Dev.cycleOk (d : Dev) (p : Phase) (c : HealthCycle) : Bool :=
  rippleOk c && sampleOk c.averageUv && d.phaseMA p c.averageUv * 100 > 20 * d.rating p &&
    (c.peakUv - c.valleyUv) * 4096 ≥ 16 * 2500000 && 0 < d.rippleOf p c

/-- L_est ÷ L_declared in 0.01 % of one cycle, L_est = (VSYS − V_out) × t_high ÷ ripple with taps of 1 ÷ 30.72 ns. -/
def Dev.inductanceRatio (d : Dev) (p : Phase) (c : HealthCycle) : Int :=
  ((c.vsysMv : Int) - c.voutMv) * c.highTaps * 10000000 / (30720 * d.rippleOf p c * max 1 (d.int (0x2210 + p.val) 4))

/-- Whether a limit event of a phase counts for M4: FIRING, and the rail current per FIRING phase below 80 % of its rating. -/
def Dev.hitQualifies (d : Dev) (p : Phase) : Bool :=
  let r := d.phaseRail p
  d.firingIs p .firing && d.grove.rail[r].lp.railMA * 100 < 80 * ((d.firingOf r).length * d.rating p : Nat)

/-- The ripple and the metrics of one phase over the last second (Table 5-3); one without qualifying data keeps its value. -/
def Dev.updateMetrics (d : Dev) (m : HealthMeas) : Dev :=
  let p := m.phase
  let hold := d.grove.rail[d.phaseRail p].hold
  let ripples := (m.cycles.filter rippleOk).map (d.rippleOf p)
  let ratios := if d.firingIs p .firing && !hold then (m.cycles.filter (d.cycleOk p)).map (d.inductanceRatio p) else []
  let inMid := d.firingIs p .shed || d.roleIs p .sapling
  let offsets : List Int := if inMid then (m.offsets.filter fun o => sampleOk o.uv && o.sinceUs ≥ 20).map fun o => (o.uv : Int) else []
  let qualifies := d.hitQualifies p
  d.ph' p fun x => { x with
    rippleMA := if ripples = [] then x.rippleMA else meanInt ripples
    m1 := if x.effortNo = 0 then x.m1 else x.effortSum / x.effortNo
    m2 := if ratios = [] then x.m2 else min 0xFFFF (meanInt ratios).toNat
    m3 := if offsets = [] then x.m3 else d.reportMA p (meanInt offsets - csrefUv)
    m4 := if qualifies || x.hits ≠ 0 then min 0xFFFF x.hits else x.m4
    effortSum := 0, effortNo := 0, hits := 0 }

/-- One metric of one phase judged against its thresholds: the warning with its one record, and the persistence count. -/
def Dev.judgeMetric (t : Nat) (p : Phase) (d : Dev) (m : Nat) : Dev :=
  if !d.metricApplies p m then d else
  let warn := d.beyond p m false
  let had := d.grove.ph[p].warned.testBit m
  let d := d.when (warn && !had) fun d => d.logEvent t 0x20 p.val 0 ((m + 1) :: bytesOfInt 4 (d.metricValue p m))
  let beyond := d.beyond p m true
  d.ph' p fun x => { x with
    warned := if warn then x.warned ||| 2 ^ m else if had then x.warned - 2 ^ m else x.warned
    beyond := updList x.beyond m fun n => if beyond then n + 1 else 0 }

/-- The first metric that has stood beyond its retirement threshold for the persistence of 0x2234:05, if any. -/
def Dev.retireMetric (d : Dev) (p : Phase) : Option Nat :=
  (List.range 4).find? fun m => d.metricApplies p m && (d.grove.ph[p].beyond.getD m 0) ≥ d.nat 0x2234 5

def Dev.evaluatePhase (t : Nat) (d : Dev) (m : HealthMeas) : Dev :=
  let d := d.updateMetrics m
  let d := (List.range 4).foldl (Dev.judgeMetric t m.phase) d
  let marked := d.grove.ph[m.phase].markReason
  match d.retireMetric m.phase with
  | some k => d.planRetirement t m.phase (if marked = 0 then 0x11 + k else marked)
  | none => if marked ≠ 0 then d.planRetirement t m.phase marked else d

def Dev.healthEvaluation (ms : List HealthMeas) (t : Nat) (d : Dev) : Dev := ms.foldl (Dev.evaluatePhase t) d

/-! ## Shedding and rotation (R110 to R115) -/

/-- A phase comes from SHED to FIRING with its trim at 0 (R114). -/
def Dev.bringIn (d : Dev) (p : Phase) : Dev := (d.ph' p fun x => { x with trim := 0, balSat := false }).setFiring p .firing

/-- A FIRING phase begins to leave (R113). -/
def Dev.shedPhase (d : Dev) (p : Phase) : Dev := d.setFiring p .leaving

/-- The first SHED phase in rotation-list order. -/
def Dev.firstShed (d : Dev) (r : Rail) : Option Phase := (d.rotationList r).find? fun p => d.firingIs p .shed

/-- The current part of the add condition of R112. -/
def Dev.addCurrent (d : Dev) (r : Rail) (railMA : Int) : Bool :=
  railMA * 10000 > (d.nat 0x2231 (r.val + 1) * d.ratingSum (d.firingOf r) : Nat)

/-- The add condition of R112: a phase is SHED, and the current is above the add threshold. -/
def Dev.addCondition (d : Dev) (r : Rail) (railMA : Int) : Bool := (d.firstShed r).isSome && d.addCurrent r railMA

/-- A filtered rail current that has moved by more than 10 % of the firing rating since a run began ends it (Table 6-5). -/
def Dev.tuningCurrent (d : Dev) (t : Nat) (r : Rail) (railMA : Int) : Dev :=
  match d.grove.run with
  | some run =>
    if run.rail = r.val ∧ (railMA - run.startMA).natAbs * 10 > d.ratingSum (d.firingOf r) then d.abortTuning t r 0x12
    else d
  | none => d

/-- Pulse skipping ends, and with it the 0 A negative limit (R185, R186). -/
def RailSt.endSkip (x : RailSt) : RailSt := { x with skip := false, negZero := if x.skip then false else x.negZero }

/-- The evaluation of R112. The filtered current is kept in every mode; phases change only where shedding is not suspended. -/
def Dev.sheddingEvaluation (r : Rail) (railMA : Int) (sinceChangeUs t : Nat) (d : Dev) : Dev :=
  if d.grove.rail[r].mode = .off then d else
  let d := (d.lp' r fun l => { l with railMA := railMA }).tuningCurrent t r railMA
  if d.sheddingSuspended r then d else
  match d.firstShed r, d.addCondition r railMA with
  | some p, true => ((d.abortTuning t r 0x14).bringIn p).rail' r RailSt.endSkip
  | _, _ =>
    let f := d.firingOf r
    if f.length ≤ d.nat 0x2233 (r.val + 1) ∨ sinceChangeUs < d.nat 0x2230 1 * 1000 then d else
    match d.longest f with
    | none => d
    | some q =>
      if railMA * 10000 < (d.nat 0x2232 (r.val + 1) * d.ratingSum (f.filter (· ≠ q)) : Nat) then
        (d.abortTuning t r 0x14).shedPhase q
      else d

/-- A LEAVING phase goes to mid below 5 % of its rating, or after 4 cycles (R113): SHED, or RETIRED where it leaves for good. -/
def Dev.phaseLeavingEnd (p : Phase) (mA cycles t : Nat) (d : Dev) : Dev :=
  if !d.firingIs p .leaving ∨ (mA * 100 ≥ 5 * d.rating p ∧ cycles < 4) then d else
  let reason := d.grove.ph[p].leavingRetires
  if reason ≠ 0 then d.retirePhase t p reason else d.setFiring p .shed

/-- Whether a shed-set rotation must wait (R110). -/
def Dev.rotationWaits (d : Dev) (r : Rail) : Bool :=
  let x := d.grove.rail[r]
  x.mode ≠ .regulating || x.pl.insertion.isSome || x.hold || x.lp.tuning || d.shedChanging r || x.pl.rotating.isSome

def Dev.shedSetRotation (r : Rail) (sinceMs : Nat) (d : Dev) : Dev :=
  let interval := d.nat 0x2230 2
  if interval = 0 ∨ (sinceMs < interval ∧ !d.grove.rail[r].pl.rotateAgain) ∨ d.rotationWaits r then d else
  match d.longest (d.shedOf r) with
  | none => d
  | some p => (d.bringIn p).pl' r fun s => { s with rotating := some p.val, rotateAgain := false }

/-- The second half of a rotation; like every shedding it waits while shedding is suspended (R111, R176). -/
def Dev.shedSetRotationShed (r : Rail) (cycles : Nat) (d : Dev) : Dev :=
  match d.grove.rail[r].pl.rotating with
  | none => d
  | some n =>
    if cycles < 16 ∨ d.sheddingSuspended r then d else
    let d := d.pl' r fun s => { s with rotating := none }
    match d.longest ((d.firingOf r).filter fun p => p.val ≠ n) with
    | some p => d.shedPhase p
    | none => d

/-! ## Balance (R116 to R118) -/

/-- Whether balance is enabled on a rail (R117): not while the trims hold in pulse skipping (R185). The 16 cycles between the two
halves of a rotation count as a shed change. DESIGN CHOICE, log entry 55. -/
def Dev.balanceEnabled (d : Dev) (r : Rail) (railMA : Int) : Bool :=
  let x := d.grove.rail[r]
  let f := d.firingOf r
  (x.mode = .regulating || x.mode = .softStop) && !x.hold && !x.skip && !d.rampInProgress r && !d.shedChanging r &&
    x.pl.rotating.isNone && f.length ≥ 2 &&
    f.any fun p => (f.all fun q => d.rating p ≤ d.rating q) && railMA * 10 ≥ (f.length * d.rating p : Nat)

/-- The step of one phase: round(gain × e ÷ rating) with e zero inside the deadband, over the common denominator of weights. -/
def Dev.balanceStep (d : Dev) (iRail wSum : Int) (p : Phase) (i : Int) : Int :=
  let w := d.int (0x2210 + p.val) 7
  let e := iRail * w - i * wSum
  if (e.natAbs : Int) * 10000 ≤ d.int 0x2230 5 * d.rating p * wSum then 0
  else divRoundInt (d.int 0x2230 6 * e) (wSum * d.rating p)

/-- The trim limit d_max in taps (R116). -/
def Dev.trimMax (d : Dev) (highTaps : Nat) : Nat := max 1 (d.nat 0x2230 0x0A * highTaps / 10000)

/-- The in-range average samples of a reading as currents (R97). -/
def Dev.readingMA (d : Dev) (x : PhaseReading) : List Int := (x.averageUv.filter sampleOk).map (d.phaseMA x.phase)

/-- The phase currents of a rail: each the last average sample that was in range (0x2210+n:06). -/
def Dev.phaseReadings (d : Dev) (r : Rail) (l : List PhaseReading) : Dev :=
  l.foldl (fun d c =>
    match (d.readingMA c).getLast? with
    | some i => if d.ofRail r c.phase then d.ph' c.phase fun x => { x with currentMA := i } else d
    | none => d) d

/-- The trim of one phase after a step; one that would make the High shorter than its minimum stays (R118). -/
def PhaseSt.trimmed (x : PhaseSt) (step dMax : Int) (highTaps minHigh : Nat) : PhaseSt :=
  let v := clampInt (-dMax) dMax (x.trim + step)
  let v := if (highTaps : Int) + v < minHigh then x.trim else v
  { x with trim := v, balSat := (v.natAbs : Int) = dMax, effortSum := x.effortSum + v.natAbs * 10000 / dMax.toNat
           effortNo := x.effortNo + 1 }

/-- One update of the balance: the currents of the interval, and on a rail where balance is enabled a step of every FIRING phase's
trim; the new trims fire with the compensator's output (R116 to R118). -/
def Dev.balanceUpdate (r : Rail) (railMA : Int) (samples : List Sample) (readings : List PhaseReading) (t : Nat) (d : Dev) : Dev :=
  let d := (d.runSamples t r samples).phaseReadings r readings
  if !d.balanceEnabled r railMA then d else
  let f := (readings.filter fun c => d.firingIs c.phase .firing && d.ofRail r c.phase && d.readingMA c ≠ []).map fun c =>
    (c.phase, meanInt (d.readingMA c))
  if f = [] then d else
  let highTaps := d.grove.rail[r].lp.u
  let iRail := (f.map fun c => c.2).sum
  let wSum := (f.map fun c => d.int (0x2210 + c.1.val) 7).sum
  let steps := f.map fun c => (c.1, d.balanceStep iRail wSum c.1 c.2)
  let m := divRoundInt (steps.map fun s => s.2).sum f.length
  let d := steps.foldl (fun d s => d.ph' s.1 fun x => x.trimmed (s.2 - m) (d.trimMax highTaps) highTaps d.minHighTaps) d
  d.fireOutput r

/-! ## The meanings -/

def execPhaseLoss (p : Phase) (cause : LossCause) (s : State) : Host.Outcome State Fault Refusal :=
  .next (s.core (Dev.phaseLoss p cause))
def execSaplingInsertion (r : Rail) (s : State) : Host.Outcome State Fault Refusal := .next (s.core (Dev.saplingInsertion r))
def execInsertionRampComplete (r : Rail) (s : State) : Host.Outcome State Fault Refusal :=
  .next (s.core (Dev.insertionRampComplete r))
def execHealthEvaluation (m : List HealthMeas) (s : State) : Host.Outcome State Fault Refusal :=
  .next (s.core (Dev.healthEvaluation m))
def execSheddingEvaluation (r : Rail) (railMA : Int) (sinceChangeUs : Nat) (s : State) : Host.Outcome State Fault Refusal :=
  .next (s.core (Dev.sheddingEvaluation r railMA sinceChangeUs))
def execPhaseLeavingEnd (p : Phase) (mA cycles : Nat) (s : State) : Host.Outcome State Fault Refusal :=
  .next (s.core (Dev.phaseLeavingEnd p mA cycles))
def execShedSetRotation (r : Rail) (sinceMs : Nat) (s : State) : Host.Outcome State Fault Refusal :=
  .next (s.core fun _ => Dev.shedSetRotation r sinceMs)
def execShedSetRotationShed (r : Rail) (cycles : Nat) (s : State) : Host.Outcome State Fault Refusal :=
  .next (s.core fun _ => Dev.shedSetRotationShed r cycles)
def execBalanceUpdate (r : Rail) (railMA : Int) (samples : List Sample) (readings : List PhaseReading) (s : State) :
    Host.Outcome State Fault Refusal :=
  .next (s.core (Dev.balanceUpdate r railMA samples readings))

end Sys2Proof.Machine
end

