-- ==== Sys2Proof/Machine/PowerPath.lean ====
section
/-!
DEFINITION. Machine/PowerPath.lean: the trunk and power path (chapter 4): input validity, the two MOSFET pairs and the
supplement, HOLDUP, VPRE and the HOLD store, brown-out warning and ship mode.
-/
namespace Sys2Proof.Machine

/-! ## The two pairs -/

/-- The DCIN pair as R68 drives it: an ideal diode while DCIN is valid and nothing holds it off. -/
def Path.dcinPair (p : Path) : Pair := if p.dcinValid ∧ p.dLock = .none ∧ !p.trunkOv then .ideal else .off

/-- The trunk voltage below which a pair turns on with its gate ramped, in mV (R70). -/
def rampBelowMv : Nat := 10000

/-- Drive the DCIN pair. A turn-on below 10.0 V on the trunk is ramped at 2.0 V/ms, every other one at full gate drive (R70). -/
def Path.driveD (p : Path) (x : Pair) : Path :=
  { p with dPair := x, dRamp := if x = .off then false else if p.dPair = .off then p.vsysMv < rampBelowMv else p.dRamp }

/-- Drive the battery pair, its turn-on ramped by the same rule. -/
def Path.driveB (p : Path) (x : Pair) : Path :=
  { p with bPair := x, bRamp := if x = .off then false else if p.bPair = .off then p.vsysMv < rampBelowMv else p.bRamp }

/-- Both pairs off, and no supplement. -/
def Path.pairsOff (p : Path) : Path := { (p.driveD .off).driveB .off with supplement := false }

/-- Whether the battery pair may turn on: BATSNS valid (R72, R580), no trunk over-voltage, not in NO_PACK (R313). -/
def Dev.pairReady (d : Dev) : Bool := d.path.batValid && !d.path.trunkOv && d.chg.phase ≠ .noPack

/-- A supplement trigger of R72: the battery pair turns on and the supplement is counted (R76); without effect while a
supplement is in progress or the pair may not turn on. -/
def Dev.supplementTrigger (d : Dev) : Dev :=
  if d.path.supplement ∨ !d.pairReady then d
  else d.path' fun p => { p.driveB .ideal with supplement := true, supplements := satInc 32 p.supplements }

/-- The battery pair conducts as an ideal diode while DCIN is not valid (R580): a supplement that is not counted. -/
def Dev.supplementQuiet (d : Dev) : Dev :=
  if d.path.dcinValid ∨ d.path.supplement ∨ !d.pairReady then d
  else d.path' fun p => { p.driveB .ideal with supplement := true }

/-- The battery pair off and the supplement over (R75). A DCIN pair that is off returns under R68 as the trunk falls below
node D; one that shared is an ideal diode again. -/
def Path.endSupplement (p : Path) : Path :=
  let q := { p.driveB .off with supplement := false, dLock := if p.dLock = PairLock.dissipation then PairLock.reverse else p.dLock }
  q.driveD q.dcinPair

/-! ## NO_PACK (R313) -/

/-- The charger enters NO_PACK: the session is discarded, the sink is on unless BATSNS is already below 16.0 V, and the battery
pair is held off. -/
def Dev.enterNoPack (d : Dev) (t : Nat) : Dev :=
  let d := (d.chgPhase t .noPack).chg' fun c => { c with
    sink := d.path.batMv ≥ 16000, probe := .none, sessionS := 0, pulses := 0, region := 0, stopReason := 0x05 }
  let d := d.path' fun p => { p.driveB .off with supplement := false }
  d.gaugeAbsent

/-- BATSNS becoming invalid while the charger does not switch leads to NO_PACK (Table 11-3). -/
def Dev.noPackByVoltage (d : Dev) (t : Nat) : Dev :=
  if d.chg.phase ∈ [.wait, .precharge, .fastPulse, .fastCc, .cv, .done] ∧ !d.chgSwitching ∧ d.chg.probe = .none then
    d.enterNoPack t
  else d

/-! ## HOLDUP (R30, R82) -/

/-- What a HOLDUP entry clears besides the branches (Table 2-7): the unlock, telemetry, and the watchdog's tally board. -/
def Dev.holdupClears (d : Dev) : Dev :=
  let d := d.dict' fun x => { x with unlocked := false }
  { d with
    pool := { d.pool with buffers := [] }
    wdh := { d.wdh.cleared with action := if d.wdh.action = some 0 then some 0 else none, groupOn := false } }

/-- HOLDUP entry: fast-off of every branch, the sequencer idle with its attempt and held failure lost (Table 9-4), actions in
progress abandoned, a fault broadcast to the cascade (R274). -/
def Dev.enterHoldup (d : Dev) (t : Nat) : Dev :=
  if d.power.state = .holdup ∨ d.path.dcinValid ∨ d.path.batValid ∨ d.path.ship = .pastReturn then d else
  let d := d.abandonActions
  let before := if d.seq.order = .safeOff then PState.safe else if d.power.state = .idle then .run else d.power.state
  let d := (d.loseBranches allMask).fastOffMask t allMask
  let d := d.seq' fun s => { s.sync t with
    state := .idle, attempt := 0, todo := 0, awaitPulse := false, tapWait := false, offTodo := 0, offWait := 0, after := .idle
    held := none, cause := none, heldFail := [], finalFail := false, wakeDue := false, resumeDue := false
    groupDue := false, groupRun := false, shipDue := false }
  let d := if before = .safe then d.goState t .safe else d
  let d := (d.goState t .holdup).power' fun p => { p with beforeHoldup := before, holdupEntry := t }
  let d := (d.gauge' fun g => { g with due := true }).life' fun l => { l with recordDue := true }
  (d.holdupClears.settle).broadcast

/-- The order in which escalations owed from HOLDUP are applied: HALT, SAFE, SHIP, then BRANCH and CHARGER alongside. -/
def escOrder : List Nat := [4, 3, 5, 1, 2, 0]

def Dev.payOwed (d : Dev) (t : Nat) : Dev :=
  let owed := d.faults.owed
  let d := d.faults' fun f => { f with owed := [] }
  (escOrder.flatMap fun c => owed.filter fun n => d.escalation n = c).foldl (fun d n =>
    (d.logEscalation t n (d.escalation n)).escalateEffect t n (d.escalation n)) d

/-- Keep the duration of a HOLDUP that ends now (0x2102:04, R82), in µs. -/
def Dev.noteHoldup (d : Dev) (t : Nat) : Dev :=
  if d.power.state ≠ .holdup then d
  else d.path' fun p => { p with holdupUs := (t - d.power.holdupEntry) * 1000000 / 32768 }

/-- An input valid again: HOLDUP returns to the state before it, with the full sequence, or the standby or safe set alone
(R30, Table 9-3), and applies what it owes. The duration is kept in 0x2102:04 (R82). -/
def Dev.leaveHoldup (d : Dev) (t : Nat) : Dev :=
  if d.power.state ≠ .holdup then d else
  let d := d.noteHoldup t
  let before := d.power.beforeHoldup
  let d := d.goState t before
  let d := match before with
    | .standby => ((d.seq' fun s => { s with noRecord := true }).commonStart t (d.standbySet &&& d.members) .safeOn).safeCheck t
    | .safe => ((d.seq' fun s => { s with noRecord := true }).commonStart t (d.safeSet &&& d.members) .safeOn).safeCheck t
    | _ => d.newRun t
  d.payOwed t

/-! ## Input events (R67, Table 4-2) -/

/-- SHIP ends (R89): the core domain may power up again; the device power-on reset follows when VPRE has risen. The first wake
source is kept, and of two in one heartwood tick nWAKE. -/
def Body.endShip (b : Body) (source : Nat) : Body :=
  if b.hw.thermalLatch ∨ !b.hw.powered ∨ b.d.power.state ≠ .ship then b
  else if b.hw.shipHold then
    { b with hw := { b.hw with shipHold := false, wakeTick := b.hw.counter }, d := b.d.power' fun p => { p with wakeSource := source } }
  else if source = 1 ∧ b.hw.wakeTick = b.hw.counter then { b with d := b.d.power' fun p => { p with wakeSource := 1 } }
  else b

/-- DCIN becoming valid abandons a ship entry before its point of no return (R31): the off order completes, the action ends
FAILED with detail 0x03, and the full sequence runs. -/
def Dev.abandonShip (d : Dev) (t : Nat) : Dev :=
  match d.path.ship with
  | .offOrder => (d.path' fun p => { p with ship := .abandoned }).seq' fun s => { s with after := .full }
  | .committing =>
    let d := (d.path' fun p => { p with ship := .none }).endAction 3 .failed 3
    (d.seq' fun s => { s with after := .full }).offDone t
  | _ => d

/-- DCIN becomes valid. A pack that carries the trunk at or above DCIN leaves the pair off until the trunk falls below node D
(R68). HOLDUP returns to the state before it; else STANDBY wakes. -/
def Dev.dcinBecomesValid (d : Dev) (t mv : Nat) : Dev :=
  let d := d.path' fun p =>
    let q := { p with dcinValid := true, dcinMv := mv, dLock := if p.supplement ∧ p.batMv ≥ mv then .reverse else .none }
    q.driveD q.dcinPair
  let d := d.abandonShip t
  if d.power.state = .holdup then d.leaveHoldup t else d.wake t 2

def dcinValid (mv heldUs : Nat) (b : Body) : Body :=
  if mv < 18000 ∨ mv > 60500 ∨ heldUs < 10000 ∨ b.d.path.dcinValid ∨ !b.hw.powered then b
  else if b.d.power.coreOn then b.onDev fun t d => d.dcinBecomesValid t mv
  else ({ b with d := b.d.path' fun p => { p with dcinValid := true, dcinMv := mv, dLock := .none } }).endShip 2

/-- An input invalid by its level: below `low` for 20 µs, or above 62.0 V for 1 µs. -/
def invalidLevel (low mv heldUs : Nat) : Bool := (mv < low && heldUs ≥ 20) || (mv > 62000 && heldUs ≥ 1)

def Dev.dcinBecomesInvalid (d : Dev) (t mv : Nat) : Dev :=
  let d := d.path' fun p => { p.driveD .off with
    dcinValid := false, dcinMv := mv, dLock := if mv > 62000 then .overVoltage else .none }
  let d := d.when (!d.path.batValid) fun d => d.path' fun p => { p.driveB .off with supplement := false }
  let d := d.supplementTrigger
  let d := d.when (mv > 62000) fun d => d.raise t 50 0
  d.enterHoldup t

def dcinInvalid (mv heldUs : Nat) (b : Body) : Body :=
  if !invalidLevel 17000 mv heldUs then b
  else if b.d.power.coreOn then b.onDev fun t d => d.dcinBecomesInvalid t mv
  else { b with d := b.d.path' fun p => { p with dcinValid := false, dcinMv := mv } }

def Dev.batBecomesValid (d : Dev) (t mv : Nat) : Dev :=
  (((d.path' fun p => { p with batValid := true, batMv := mv }).supplementQuiet).gaugePresent).leaveHoldup t

def batsnsValid (mv heldUs : Nat) (b : Body) : Body :=
  if mv < 17000 ∨ mv > 60500 ∨ heldUs < 10000 ∨ !b.hw.powered then b
  else if b.d.power.coreOn then b.onDev fun t d => d.batBecomesValid t mv
  else { b with d := b.d.path' fun p => { p with batValid := true, batMv := mv } }

def Dev.batBecomesInvalid (d : Dev) (t mv : Nat) : Dev :=
  let d := ((d.path' fun p => { p with batMv := mv }).noPackByVoltage t).gaugeAbsent
  let d := d.path' fun p =>
    let p := { p with batValid := false }
    if p.dcinValid then p else { p.driveB .off with supplement := false }
  d.enterHoldup t

def batsnsInvalid (mv heldUs : Nat) (b : Body) : Body :=
  if !invalidLevel 16000 mv heldUs then b
  else if b.d.power.coreOn then b.onDev fun t d => d.batBecomesInvalid t mv
  else { b with d := b.d.path' fun p => { p with batValid := false, batMv := mv } }

/-! ## Trunk levels (Table 4-2) -/

def Dev.trunkLow (mv heldUs t : Nat) (d : Dev) : Dev :=
  if mv < 17000 ∧ heldUs ≥ 20 then (d.readTrunk t mv).raise t 54 0 else d

/-- Trunk over-voltage: both pairs off, FS055. -/
def Dev.trunkOverVoltage (mv heldUs t : Nat) (d : Dev) : Dev :=
  if mv > 62500 ∧ heldUs ≥ 1 then
    (d.path' fun p => { p.pairsOff with vsysMv := mv, trunkOv := true }).raise t 55 0
  else d

/-- Each pair returns under its own input once VSYS has stayed below 60.5 V for 10 ms (R67). -/
def Dev.trunkOverVoltageRecovery (mv heldUs : Nat) (d : Dev) : Dev :=
  if d.path.trunkOv ∧ mv < 60500 ∧ heldUs ≥ 10000 then
    (d.path' fun p =>
      let q := { p with vsysMv := mv, trunkOv := false }
      q.driveD q.dcinPair).supplementQuiet
  else d

def Dev.trunkDroop (mv averageMv t : Nat) (d : Dev) : Dev :=
  if averageMv > mv + 1000 then (d.readTrunk t mv).supplementTrigger else d

/-! ## The DCIN pair (R68, R69, R73, R74) -/

/-- The DCIN current that a sense voltage in µV stands for, with the declared sense resistance in µΩ (R69). -/
def Dev.dcinCurrent (d : Dev) (senseUv : Int) : Int := senseUv * 1000 / max 1 (d.int 0x2100 1)

/-- The DCIN pair off on reverse current, with FS051 (R68). -/
def Dev.dcinReverseOff (d : Dev) (t : Nat) : Dev :=
  (d.path' fun p => { p.driveD .off with dLock := .reverse }).raise t 51 0

def Dev.dcinReverseCurrent (senseUv : Int) (t : Nat) (d : Dev) : Dev :=
  if senseUv < -2000 ∧ d.path.dPair ≠ .off then
    ((d.path' fun p => { p with dcinMA := d.dcinCurrent senseUv }).supplementTrigger).dcinReverseOff t
  else d

def Dev.dcinPairReturn (nodeDMv trunkMv heldUs : Nat) (d : Dev) : Dev :=
  if d.path.dLock = .reverse ∧ trunkMv + 50 ≤ nodeDMv ∧ heldUs ≥ 100 then
    d.path' fun p =>
      let q := { p with vsysMv := trunkMv, dLock := .none }
      q.driveD q.dcinPair
  else d

/-- The DCIN current reaches its limit: the pair runs linear and the supplement is triggered. A pack at or above node D takes
the whole trunk (R73), and the DCIN pair turns off under R68. Below the limit a linear pair is an ideal diode again. -/
def Dev.dcinCurrentLimit (mA nodeDMv batMv t : Nat) (d : Dev) : Dev :=
  if d.path.dPair = .off then d
  else if mA < d.nat 0x2100 2 then
    d.path' fun p => { p with dcinMA := mA, batMv := batMv, dPair := if p.dPair = .linear then .ideal else p.dPair }
  else
    let d := (d.path' fun p => { p with dPair := .linear, dcinMA := mA, batMv := batMv }).supplementTrigger
    if d.path.supplement ∧ batMv ≥ nodeDMv then d.dcinReverseOff t else d

def Dev.dcinLinearModeDissipation (nodeDMv trunkMv mA heldUs t : Nat) (d : Dev) : Dev :=
  if d.path.dPair = .linear ∧ d.path.supplement ∧ (nodeDMv - trunkMv) * mA > d.nat 0x2100 3 * 1000 ∧ heldUs ≥ 100 then
    (d.path' fun p => { p.driveD .off with dLock := .dissipation }).raise t 52 0
  else d

/-- A supplement ends (R75): DCIN and BATSNS valid and the pack discharge below 90 % of the limit for 10 ms. -/
def Dev.supplementEnd (dischargeMA : Int) (heldUs : Nat) (d : Dev) : Dev :=
  if d.path.supplement ∧ d.path.dcinValid ∧ d.path.batValid ∧ dischargeMA * 100 < 90 * d.int 0x2100 2 ∧ heldUs ≥ 10000 then
    d.path' Path.endSupplement
  else d

/-- FS053 (R90): the condition is rechecked after 10 ms (Table 17-6); found again it is raised, else it was transient. -/
def Dev.batteryPairFault (dropMv packMA : Nat) (persists : Bool) (t : Nat) (d : Dev) : Dev :=
  if d.path.bPair = .off ∨ dropMv ≤ 300 ∨ packMA ≤ 1000 then d
  else if persists then d.raise t 53 0
  else d.transient t 53 0

/-! ## VPRE and HOLD (R77 to R85) -/

def Dev.vpreOverVoltage (mv heldUs t : Nat) (d : Dev) : Dev :=
  if mv > 5500 ∧ heldUs ≥ 10 then (d.path' fun p => { p with vpreMv := mv }).raise t 59 0 else d

/-- A reading of HOLD: the store is ready while it stands above 11.4 V (R78). -/
def Dev.holdIsReady (mv : Nat) (d : Dev) : Dev :=
  d.path' fun p => { p with holdMv := mv, holdReady := mv > 11400, holdSeen := p.holdSeen || mv > 11400 }

/-- 20 mA × time ÷ 4.0 V (R79); a result below 220 µF raises FS057. -/
def Dev.holdCapacitance (riseUs t : Nat) (d : Dev) : Dev :=
  if d.path.capTimed then d else
  let c := min (riseUs / 200) 0xFFFF
  let d := d.path' fun p => { p with capUf := c, capTimed := true }
  d.when (c < 220) fun d => d.raise t 57 0

def Dev.holdChargeTimeout (sinceUs t : Nat) (d : Dev) : Dev :=
  if sinceUs ≥ 3000000 ∧ !d.path.holdSeen then d.raise t 58 0 else d

def Dev.brownOutWarning (vpreMv : Nat) (d : Dev) : Dev :=
  if 4200 < vpreMv ∧ vpreMv < 4550 then d.path' fun p => { p with vpreMv := vpreMv, warning := true } else d

/-- The deferred actions start in the order in which they were deferred (R84): an insertion loads its ramp unless something
else defers it; tuning runs, of which one runs at a time, head the turn in that order. -/
def Dev.startDeferred (d : Dev) (t : Nat) : Dev :=
  let l := d.path.deferred
  let d := d.path' fun p => { p with deferred := [] }
  l.foldl (fun d a =>
    match a with
    | .insertion n => if h : n < 8 then (if d.insertionDeferred ⟨n, h⟩ then d else d.beginRamp t ⟨n, h⟩) else d
    | .tuning n => d.grove' fun g => { g with runNext := g.runNext.filter (· ≠ n) ++ [n] }) d

/-- Brown-out warning ends after VPRE has stayed above 4.65 V for 2 ms (R84); FS056 and one record with the duration (R85). -/
def Dev.brownOutWarningEnd (vpreMv durationUs stableUs t : Nat) (d : Dev) : Dev :=
  if !d.path.warning ∨ vpreMv ≤ 4650 ∨ stableUs < 2000 then d else
  let d := d.path' fun p => { p with vpreMv := vpreMv, warning := false, warnings := satInc 16 p.warnings }
  let d := d.raise t 56 0
  ((d.logEvent t 0x10 0 0 (bytesLE 4 durationUs)).payEnds).startDeferred t

/-! ## Ship mode (R87, R89) -/

/-- Whether no commit is in flight, and no gauge-store or service-life write is due (Table 4-4). -/
def Dev.commitsDone (d : Dev) : Bool :=
  d.nv.waiting = [] && !d.gauge.due && d.gauge.writing = none && !d.life.recordDue

/-- The point of no return (R87): the off order is complete, the commits in flight have finished, and the commit of the APPLIED
outcome is admitted. -/
def Dev.shipPointOfNoReturn (d : Dev) : Dev :=
  if d.path.ship = .committing ∧ d.commitsDone ∧ d.shipCommitAdmitted entryUs then
    let d := (d.entriesWhere fun e => e.action = 3 && e.state = .prepared).foldl (fun d i => d.endNow i .applied 0) d
    d.path' fun p => { p with ship := .pastReturn }
  else d

/-- The heartwood takes the battery pair and the core domain goes off (Table 4-4). DCIN that became valid after the point of no
return ends SHIP (R31). -/
def shipEntryComplete (b : Body) : Body :=
  if b.d.path.ship ≠ .pastReturn then b else
  let hw := { b.hw with shipHold := true, stateBeforeShip := b.d.power.code }
  let b : Body := { b with hw := hw, d := (b.d.goState b.hw.counter .ship).unpowered }
  if b.d.path.dcinValid then b.endShip 2 else b

/-- nWAKE low: 50 ms ends SHIP (R89), 1 ms wakes STANDBY (R33). -/
def nwakeLow (heldUs : Nat) (b : Body) : Body :=
  if b.d.power.coreOn then
    if heldUs ≥ 1000 then b.onDev fun t d => d.wake t 1 else b
  else if heldUs ≥ 50000 then b.endShip 1
  else b

/-! ## The meanings -/

def execDcinValid (mv heldUs : Nat) (s : State) : Host.Outcome State Fault Refusal := .next (s.on (dcinValid mv heldUs))
def execDcinInvalid (mv heldUs : Nat) (s : State) : Host.Outcome State Fault Refusal := .next (s.on (dcinInvalid mv heldUs))
def execBatsnsValid (mv heldUs : Nat) (s : State) : Host.Outcome State Fault Refusal := .next (s.on (batsnsValid mv heldUs))
def execBatsnsInvalid (mv heldUs : Nat) (s : State) : Host.Outcome State Fault Refusal :=
  .next (s.on (batsnsInvalid mv heldUs))
def execTrunkLow (mv heldUs : Nat) (s : State) : Host.Outcome State Fault Refusal := .next (s.core (Dev.trunkLow mv heldUs))
def execTrunkOverVoltage (mv heldUs : Nat) (s : State) : Host.Outcome State Fault Refusal :=
  .next (s.core (Dev.trunkOverVoltage mv heldUs))
def execTrunkOverVoltageRecovery (mv heldUs : Nat) (s : State) : Host.Outcome State Fault Refusal :=
  .next (s.core fun _ => Dev.trunkOverVoltageRecovery mv heldUs)
def execTrunkDroop (mv averageMv : Nat) (s : State) : Host.Outcome State Fault Refusal :=
  .next (s.core (Dev.trunkDroop mv averageMv))
def execDcinReverseCurrent (senseUv : Int) (s : State) : Host.Outcome State Fault Refusal :=
  .next (s.core (Dev.dcinReverseCurrent senseUv))
def execDcinPairReturn (nodeDMv trunkMv heldUs : Nat) (s : State) : Host.Outcome State Fault Refusal :=
  .next (s.core fun _ => Dev.dcinPairReturn nodeDMv trunkMv heldUs)
def execDcinCurrentLimit (mA nodeDMv batMv : Nat) (s : State) : Host.Outcome State Fault Refusal :=
  .next (s.core (Dev.dcinCurrentLimit mA nodeDMv batMv))
def execDcinLinearModeDissipation (nodeDMv trunkMv mA heldUs : Nat) (s : State) : Host.Outcome State Fault Refusal :=
  .next (s.core (Dev.dcinLinearModeDissipation nodeDMv trunkMv mA heldUs))
def execSupplementEnd (dischargeMA : Int) (heldUs : Nat) (s : State) : Host.Outcome State Fault Refusal :=
  .next (s.core fun _ => Dev.supplementEnd dischargeMA heldUs)
def execBatteryPairFault (dropMv packMA : Nat) (persists : Bool) (s : State) : Host.Outcome State Fault Refusal :=
  .next (s.core (Dev.batteryPairFault dropMv packMA persists))
def execVpreOverVoltage (mv heldUs : Nat) (s : State) : Host.Outcome State Fault Refusal :=
  .next (s.core (Dev.vpreOverVoltage mv heldUs))
def execHoldReady (mv : Nat) (s : State) : Host.Outcome State Fault Refusal := .next (s.core fun _ => Dev.holdIsReady mv)
def execHoldCapacitanceMeasurement (riseUs : Nat) (s : State) : Host.Outcome State Fault Refusal :=
  .next (s.core (Dev.holdCapacitance riseUs))
def execHoldChargeTimeout (sinceUs : Nat) (s : State) : Host.Outcome State Fault Refusal :=
  .next (s.core (Dev.holdChargeTimeout sinceUs))
def execBrownOutWarning (vpreMv : Nat) (s : State) : Host.Outcome State Fault Refusal :=
  .next (s.core fun _ => Dev.brownOutWarning vpreMv)
def execBrownOutWarningEnd (vpreMv durationUs stableUs : Nat) (s : State) : Host.Outcome State Fault Refusal :=
  .next (s.core (Dev.brownOutWarningEnd vpreMv durationUs stableUs))
def execShipPointOfNoReturn (s : State) : Host.Outcome State Fault Refusal :=
  .next (s.core fun _ => Dev.shipPointOfNoReturn)
def execShipEntryComplete (s : State) : Host.Outcome State Fault Refusal := .next (s.coreBody shipEntryComplete)
def execNwakeLow (heldUs : Nat) (s : State) : Host.Outcome State Fault Refusal := .next (s.on (nwakeLow heldUs))

end Sys2Proof.Machine
end

