-- ==== Sys2Proof/Machine/Storage.lean ====
section
/-!
DEFINITION. Machine/Storage.lean: commits to non-volatile storage (chapter 20): verification, remapping to spare pages, and the
commits of the first-fail record, the growth-ring log and the service-life counters.
-/
namespace Sys2Proof.Machine

/-! ## Commits (R512, R513) -/

/-- The regions of Table 20-1 that commits write, as injection targets number them (Table 21-2). -/
def regImage : Nat := 0
def regRecords : Nat := 1
def regJournal : Nat := 2
def regLog : Nat := 3
def regGauge : Nat := 4
def regHost : Nat := 5

/-- Free spare pages, 0x2600:01. -/
def Nv.freeSpares (n : Nv) : Nat := 96 - n.remap.length

/-- Programmed pages are counted (0x2700:07). -/
def Dev.wrotePages (d : Dev) (n : Nat) : Dev := d.life' fun l => { l with pageWrites := satAdd 64 l.pageWrites n }

def Dev.countFailedVer (d : Dev) (n : Nat) : Dev := d.nv' fun v => { v with failedVer := satAdd 32 v.failedVer n }

/-! ## Device records (R516) -/

/-- The two copies, the later one first. -/
def Twin.inOrder {α : Type} (x : Twin α) : Copy α × Copy α := if x.second then (x.c1, x.c0) else (x.c0, x.c1)

/-- The content of the newest valid copy. -/
def Twin.newest {α : Type} (x : Twin α) : Option α :=
  match x.inOrder with
  | (.held a, _) => some a
  | (_, .held a) => some a
  | _ => none

/-- Whether the next write goes to copy 1: always the copy that does not hold the newest valid record. -/
def Twin.target {α : Type} (x : Twin α) : Bool :=
  match x.inOrder with
  | (.held _, _) => !x.second
  | (_, .held _) => x.second
  | _ => false

/-- A write of the content: the copy holds it, or is unreadable where its commit failed. -/
def Twin.put {α : Type} (x : Twin α) (v : α) (ok : Bool) : Twin α :=
  let c := if ok then .held v else .bad
  { c0 := if x.target then x.c0 else c, c1 := if x.target then c else x.c1, second := if ok then x.target else x.second }

/-- A page of a copy cannot be read any more (R521). -/
def Twin.lose {α : Type} (x : Twin α) (second : Bool) : Twin α := if second then { x with c1 := .bad } else { x with c0 := .bad }

/-- What start-up uses in place of the working value (R516), and whether it raises FS105: the other copy where the later one is
not valid; the default where neither is. -/
def Twin.startUp {α : Type} (x : Twin α) (default : α) : Option α × Bool :=
  match x.inOrder with
  | (.held _, _) => (none, false)
  | (_, .held a) => (some a, false)
  | (.blank, .blank) => (none, false)
  | _ => (some default, true)

/-- What each record holds (Table 20-4), and its default. -/
def Dev.roleContent (d : Dev) : List RoleRec := d.grove.ph.toList.map fun x => ⟨x.recorded, x.reason, x.roleTime⟩
def roleDefault : List RoleRec := List.replicate 20 ⟨none, 0, 0⟩
def Dev.failContent (d : Dev) : Option Failure × Nat := (d.seq.record, d.seq.events)
def Dev.miscContent (d : Dev) : MiscRec :=
  { broken := bitsOf (d.th.sensor.toList.map fun x => x.broken && !x.inTest), protection := d.nv.protection, hidden := d.nv.hidden }
def miscDefault : MiscRec := ⟨0, 0, 0⟩
def Dev.lifeContent (d : Dev) : Life := { d.life.wholeHours with recordDue := false }
def lifeDefault : Life := { powerOns := 0 }

/-- A page of the device records is lost to its owner. -/
def Records.losePage (r : Records) (page : Nat) : Records :=
  if page < 104 then { r with remap := r.remap.lose (100 ≤ page) }
  else if page < 112 then { r with roles := r.roles.lose (108 ≤ page) }
  else if page < 114 then { r with fail := r.fail.lose (page = 113) }
  else if page < 116 then { r with misc := r.misc.lose (page = 115) }
  else if page < 124 then { r with life := r.life.lose (120 ≤ page) }
  else r

/-- A logical page moves to the lowest-numbered free spare page; using the last one raises FS104 (R512, R523). `none` when no
spare page is free. -/
def Dev.remapPage (d : Dev) (t page : Nat) : Option Dev :=
  if d.nv.freeSpares = 0 then none else
  let table := d.nv.remap ++ [page]
  let d : Dev := { (d.nv' fun v => { v with remap := table }) with recs := { d.recs with remap := d.recs.remap.put table true } }
  let d := d.wrotePages 5
  some (if d.nv.freeSpares = 0 then d.raise t 104 0 else d)

/-- The commit fails: FS103. -/
def Dev.commitFails (d : Dev) (t : Nat) : Dev × Bool := (d.raise t 103 0, false)

/-- One commit of `pages` pages to a region, with what its verification found on logical page `page`; whether it succeeded. An
injected verification failure takes the place of the real outcome (Table 21-2), and its writes are not counted (R541). -/
def Dev.commitTo (d : Dev) (t region page pages : Nat) (v : Verify) : Dev × Bool :=
  let x := d.inject [0x20, 0x21] (0x300 + region) fun _ => true
  let d := x.2.wrotePages pages
  match x.1 with
  | some (0x20, _) => ((d.countFailedVer 1).transient t 103 0, true)
  | some _ => (d.countFailedVer 2).commitFails t
  | none => match v with
    | .first => (d, true)
    | .second => (((d.countFailedVer 1).wrotePages 1).transient t 103 0, true)
    | .spare =>
      let d := (d.countFailedVer 2).wrotePages 1
      match d.remapPage t page with
      | some d => (d, true)
      | none => d.commitFails t
    | .failed => ((d.countFailedVer 2).wrotePages 1).commitFails t

/-! ## First-fail record (R252 to R254) -/

/-- Whether a master still has to read the branch and the reason of a record with GET_FAIL (R270). -/
def Dev.readsFailure (d : Dev) (f : Failure) : Bool := d.casc.messages.any fun m => m.type = 7 && m.addr = f.unit && f.unit ≠ 0

/-- The staged record is committed once admitted, and after GET_FAIL has answered for it; a failed commit leaves no record. -/
def Dev.firstFailRecordCommit (v : Verify) (t : Nat) (d : Dev) : Dev :=
  match d.seq.staged with
  | none => d
  | some f =>
    if !d.commitAdmitted recordUs || d.readsFailure f then d else
    let x := d.commitTo t regRecords (112 + ofBool d.recs.fail.target) 1 v
    let d := x.1.seq' fun s => { s with staged := none }
    let d := if x.2 then d.seq' fun s => { s with record := some f } else d
    { d with recs := { d.recs with fail := d.recs.fail.put (some f, d.seq.events) x.2 } }

/-- The clear action of 0x2310:04 with value true: the record, its validity and its event count are cleared. -/
def Dev.clearRecordAction (d : Dev) : Dev := d.seq' fun s => { s with record := none, staged := none, events := 0 }

/-! ## Growth-ring log (R448, R517) -/

/-- The logical page that the record with a sequence number takes: 256 to 639 in turn. -/
def logPage (seq : Nat) : Nat := 256 + (seq + 383) % 384

/-- Append a record with the next sequence number; the region holds the newest 384. -/
def Nv.append (n : Nv) (r : LogRec) : Nv :=
  let seq := n.newest + 1
  { n with newest := seq, log := (n.log ++ [(seq, r)]).drop (n.log.length + 1 - 384) }

/-- The record that waits longest is committed once admitted; a record whose commit fails is lost. -/
def Dev.logRecordCommit (v : Verify) (t : Nat) (d : Dev) : Dev :=
  match d.nv.logQueue with
  | [] => d
  | r :: rest =>
    if !d.commitAdmitted logUs then d else
    let x := (d.nv' fun n => { n with logQueue := rest }).commitTo t regLog (logPage (d.nv.newest + 1)) 1 v
    if x.2 then x.1.nv' fun n => n.append r else x.1

/-! ## Service life (R542, R543) -/

/-- Operating seconds: they and those of the phases that fire accumulate, and whole hours move to the counters, which makes a
record write due. -/
def Dev.operatingHour (seconds : Nat) (d : Dev) : Dev :=
  if !(d.inRun || d.power.state = .safe) then d else
  let firing := allPhases.map fun p => ofBool (d.firingIs p .firing || d.firingIs p .ramping)
  let total := d.life.seconds + seconds
  d.life' fun l =>
    let fs := (l.firingS.zip firing).map fun x => x.1 + x.2 * seconds
    { l with
      hours := satAdd 32 l.hours (total / 3600)
      seconds := total % 3600
      firing := (l.firing.zip fs).map fun x => satAdd 32 x.1 (x.2 / 3600)
      firingS := fs.map (· % 3600)
      recordDue := l.recordDue || total ≥ 3600 }

def Dev.serviceLifeRecordWrite (v : Verify) (t : Nat) (d : Dev) : Dev :=
  if !d.life.recordDue || !d.shipCommitAdmitted recordUs then d else
  let x := (d.life' fun l => { l with recordDue := false }).commitTo t regRecords (116 + 4 * ofBool d.recs.life.target) 4 v
  let d := if x.2 then x.1.life' fun l => { l with lastWrite := t } else x.1
  { d with recs := { d.recs with life := d.recs.life.put d.lifeContent x.2 } }

/-- A commit of the device records finishes, known by a page of the record: a staged first-fail record or the service-life record
takes its own way; of the others the copy in turn is written where the content has changed (Table 20-4). -/
def Dev.recordCommit (page : Nat) (v : Verify) (t : Nat) (d : Dev) : Dev :=
  if 112 ≤ page ∧ page < 114 ∧ d.seq.staged.isSome then d.firstFailRecordCommit v t
  else if 116 ≤ page ∧ page < 124 then d.serviceLifeRecordWrite v t
  else if !d.commitAdmitted recordUs then d
  else if 104 ≤ page ∧ page < 112 ∧ d.recs.roles.newest.getD roleDefault ≠ d.roleContent then
    let x := d.commitTo t regRecords (104 + 4 * ofBool d.recs.roles.target + page % 4) 4 v
    { x.1 with recs := { x.1.recs with roles := x.1.recs.roles.put d.roleContent x.2 } }
  else if 112 ≤ page ∧ page < 114 ∧ d.recs.fail.newest.getD (none, 0) ≠ d.failContent then
    let x := d.commitTo t regRecords (112 + ofBool d.recs.fail.target) 1 v
    { x.1 with recs := { x.1.recs with fail := x.1.recs.fail.put d.failContent x.2 } }
  else if 114 ≤ page ∧ page < 116 ∧ d.recs.misc.newest.getD miscDefault ≠ d.miscContent then
    let x := d.commitTo t regRecords (114 + ofBool d.recs.misc.target) 1 v
    { x.1 with recs := { x.1.recs with misc := x.1.recs.misc.put d.miscContent x.2 } }
  else d

/-! ## The commands -/

def execFirstFailRecordCommit (v : Verify) (s : State) : Host.Outcome State Fault Refusal :=
  .next (s.core (Dev.firstFailRecordCommit v))
def execLogRecordCommit (v : Verify) (s : State) : Host.Outcome State Fault Refusal := .next (s.core (Dev.logRecordCommit v))
def execOperatingHour (seconds : Nat) (s : State) : Host.Outcome State Fault Refusal :=
  .next (s.core fun _ => Dev.operatingHour seconds)
def execServiceLifeRecordWrite (v : Verify) (s : State) : Host.Outcome State Fault Refusal :=
  .next (s.core (Dev.serviceLifeRecordWrite v))

end Sys2Proof.Machine
end

