-- ==== Sys2Proof/Machine/Rails.lean ====
section
/-!
DEFINITION. Machine/Rails.lean: set-point and coefficients of a grove rail (chapter 6), its soft start and turn-off, transients, sense
checks and protection (chapter 7). A command that a sample decides carries the samples up to that one; earlier samples of it decide
nothing else (log entry 56).
-/
namespace Sys2Proof.Machine

/-! ## Soft start (R166 to R171, R193) -/

/-- What the sense check before the start gives (R193): the reason of a trip, or whether the start runs on local sense. -/
def startSense (mode : Nat) (remoteOk localOk : Bool) : Except Nat Bool :=
  if mode = 0 || remoteOk then .ok false
  else if mode = 2 then .error 0x0A
  else if localOk then .ok true else .error 0x0B

/-- The start code of V_ref (R166). -/
def startCode (mode preBiasUv target : Nat) : Nat := if mode = 0 then min (preBiasUv / 250) target else 0

/-- Every AVAILABLE phase of a rail is brought in, with its trim at 0. -/
def Dev.bringAllIn (d : Dev) (r : Rail) : Dev :=
  (d.availableOf r).foldl (fun d p =>
    if d.firingIs p .shed then d.bringIn p else d.ph' p fun x => { x with trim := 0, balSat := false }) d

/-- The loop at the start of a soft start (R153, R154, R166): states at 0, a set committed while off taken over, and the step
interval: soft-start time ÷ target code. -/
def Loop.started (l : Loop) (start target timeUs : Nat) : Loop :=
  { l.cleared with vref := start, target := target, rampNum := 1000 * timeUs, rampDen := max 1 target
                   active := l.committed.getD l.active, configured := l.committed.getD l.configured, committed := none }

/-- The soft start of a rail that the sequencer or an action turns on; one whose stage report tripped it and is not yet cool
fails it (R368). -/
def Dev.startRail (d : Dev) (t : Nat) (r : Rail) (m : StartMeas) : Dev :=
  let d := d.rail' r fun x => { x with trip := false, preBiasUv := m.preBiasUv, localSense := false, gsP := 0, gsN := 0 }
  if r.val ∈ d.th.hotStages then d.tripRail t r 0x0C else
  match startSense (d.gr r 0x3A) m.remoteOk m.localOk with
  | .error reason => d.tripRail t r reason
  | .ok onLocal =>
    let target := d.railSetCode r
    if m.preBiasUv * 10000 > (10000 + d.gr r 0x27) * target * 250 then d.tripRail t r 8
    else
      let d := d.bringAllIn r
      let start := startCode (d.gr r 0x22) m.preBiasUv target
      let d := (d.rail' r fun x => { x with
        mode := .softStart, negZero := d.gr r 0x22 = 0, uvArmed := false, localSense := onLocal
        corrUv := if onLocal then 0 else x.corrUv, lp := x.lp.started start target (d.gr r 0x20) }).updateFeedForward r
      if onLocal then (d.rail' r fun x => { x with reason := 9 }).raise t (20 + r.val) 9 else d

/-- The soft start is complete: the normal negative limit returns, under-voltage protection arms, and what it suspended acts. -/
def RailSt.startDone (x : RailSt) : RailSt :=
  { x with mode := .regulating, negZero := false, uvArmed := true, lp := { x.lp with rampAcc := 0, track := none } }

/-- V_ref has reached its target; with INBAND set the soft start is complete (R169). -/
def Dev.softStartComplete (r : Rail) (samples : List Sample) (t : Nat) (d : Dev) : Dev :=
  let d := d.runSamples t r samples
  let x := d.grove.rail[r]
  if x.mode = .softStart ∧ x.lp.vref = x.lp.target ∧ x.lp.inBand then
    (((d.rail' r RailSt.startDone).resumeLeaving t r).settle).seqCheck t
  else d

/-- The settle timeout after V_ref has reached its target (R169). -/
def Dev.startSettleTimeout (r : Rail) (samples : List Sample) (sinceUs t : Nat) (d : Dev) : Dev :=
  let d := d.runSamples t r samples
  let x := d.grove.rail[r]
  if x.mode = .softStart ∧ x.lp.vref = x.lp.target ∧ sinceUs ≥ d.gr r 0x21 then d.tripRail t r 7 else d

/-- The tracking error has been exceeded for 20 µs, 19 200 PGCLK cycles, with the current limit acting in every cycle of them (R170). -/
def Dev.shortInSoftStart (r : Rail) (samples : List Sample) (limitEveryCycle : Bool) (t : Nat) (d : Dev) : Dev :=
  let d := d.runSamples t r samples
  let x := d.grove.rail[r]
  if x.mode = .softStart ∧ x.lp.track.getD 0 ≥ 19200 ∧ limitEveryCycle then d.tripRail t r 6 else d

/-! ## Set-point and slew (R137 to R140) -/

/-- What a set-point write does to the loop once the value is in force: a regulating rail slews from its present V_ref, a starting
one changes its target, and any other keeps the value for its next start. A write ends a tuning run. -/
def Dev.retargetRail (d : Dev) (t : Nat) (r : Rail) : Dev :=
  let d := d.abortTuning t r 0x13
  let m := d.grove.rail[r].mode
  if m = .regulating ∨ m = .softStart then (d.lp' r fun l => { l with target := d.railSetCode r }).settle else d

/-- V_ref steps toward its target with the samples; accepted work is reached with the last step (R139, R140). -/
def Dev.grSlewComplete (r : Rail) (samples : List Sample) (t : Nat) (d : Dev) : Dev := d.runSamples t r samples

/-! ## Coefficients (R154) -/

/-- The shadow set: the effective values of subindices 08 to 0D. -/
def Dev.shadowSet (d : Dev) (r : Rail) : List Nat := [8, 9, 0x0A, 0x0B, 0x0C, 0x0D].map fun k => d.gr r k

def Dev.commitCoefficients (d : Dev) (r : Rail) : Dev :=
  let set := d.shadowSet r
  if d.grove.rail[r].mode = .off then d.lp' r fun l => { l with committed := some set }
  else d.lp' r fun l => { l with active := set, configured := set }

/-! ## Soft stop (R172) -/

/-- The rail goes to mid at the end of its soft stop. -/
def Dev.endSoftStop (d : Dev) (t : Nat) (r : Rail) : Dev := ((d.phasesMid t r).rail' r RailSt.stopped).settleInsertions t r

/-- V_ref has fallen to 10 % of the target, or the output has been at u_min for 4 samples (R172). -/
def Dev.softStopEnd (r : Rail) (samples : List Sample) (t : Nat) (d : Dev) : Dev :=
  let d := d.runSamples t r samples
  let x := d.grove.rail[r]
  if x.mode = .softStop ∧ (x.lp.vref * 10 ≤ x.lp.target ∨ x.lp.atMin ≥ 4) then ((d.endSoftStop t r).settle).seqCheck t else d

/-! ## Step-fire (R174 to R176) -/

/-- Count `k` transient events of one kind of 0x2200+r:3E. -/
def Dev.countTransients (d : Dev) (r : Rail) (i k : Nat) : Dev :=
  d.rail' r fun x => { x with counts := updList x.counts i fun n => satAdd 32 n k }
def Dev.countTransient (d : Dev) (r : Rail) (i : Nat) : Dev := d.countTransients r i 1

/-- The firing order of a step-fire event: the FIRING and SHED phases of the rotation list from the step-order pointer on, wrapping
at its end (R109, R175). -/
def Dev.fireOrder (d : Dev) (r : Rail) : List Phase :=
  let l := d.rotationList r
  let k := d.grove.rail[r].pl.pointer % max 1 l.length
  (l.drop k ++ l.take k).filter fun p => d.firingIs p .firing || d.firingIs p .shed

/-- The step High: the pulse width of 0x2200+r:2F in taps, at most u_max (R175). -/
def Dev.stepTaps (d : Dev) (r : Rail) : Nat := min (divRound (d.gr r 0x2F * 3072) 100) (d.uMax r)

/-- The pointer moves on by one list position (R109). -/
def Dev.advancePointer (d : Dev) (r : Rail) : Dev :=
  if !d.flag 0x2230 3 then d
  else d.pl' r fun s => { s with pointer := (s.pointer + 1) % max 1 (d.rotationList r).length }

/-- Bring every SHED phase of a rail in (R114). -/
def Dev.bringShedIn (d : Dev) (r : Rail) : Dev := (d.shedOf r).foldl (fun d p => d.bringIn p) d

/-- A step-fire event (R175): every FIRING and SHED phase fires a step pulse in firing order, SHED ones become FIRING, and the pointer
moves on. While braking each pulse is dropped and counted (R180); SHED phases still come in and the pointer stays. DESIGN CHOICE, log
entry 55. -/
def Dev.firePulses (d : Dev) (r : Rail) : Dev :=
  let order := d.fireOrder r
  let d := d.bringShedIn r
  if d.grove.rail[r].brake then d.countTransients r 2 order.length else
  let high := d.stepTaps r
  let d := (d.rail' r fun x => { x with fired := order.map fun p => p.val }).advancePointer r
  order.foldl (fun d p => d.ph' p fun x => { x with high := high }) d

/-- A step hold begins or starts again (R176); it ends pulse skipping (R186). -/
def Dev.stepHold (d : Dev) (r : Rail) : Dev := d.rail' r fun x => { x.endSkip with hold := true }

/-- The trigger of sensed step-fire (R174). -/
def Dev.stepTrigger (d : Dev) (r : Rail) : Bool :=
  let l := d.grove.rail[r].lp
  let thr : Int := d.gr r 0x2E
  (d.gr r 0x2D).testBit 7 &&
    match l.newest, l.second with
    | some x, some y => (x.e ≥ thr && y.e ≥ thr) || (x.e = 255 && x.eow)
    | some x, none => x.e = 255 && x.eow
    | none, _ => false

/-- Sensed step-fire (R174 to R176): in regulation, a trigger begins or restarts the hold and is counted; in a hold it fires only
when one period has passed since the last step pulse. -/
def Dev.stepFire (r : Rail) (samples : List Sample) (periodPassed : Bool) (t : Nat) (d : Dev) : Dev :=
  let d := d.runSamples t r samples
  if d.grove.rail[r].mode ≠ .regulating ∨ !d.stepTrigger r then d else
  let fires := !d.grove.rail[r].hold || periodPassed
  let d := ((d.abortTuning t r 0x10).countTransient r 0).stepHold r
  if fires then d.firePulses r else d

/-- The step hold ends, and what waited for it goes on (R176). -/
def Dev.stepHoldEnd (r : Rail) (sinceUs t : Nat) (d : Dev) : Dev :=
  if d.grove.rail[r].hold ∧ !d.grove.rail[r].forecast ∧ sinceUs ≥ d.gr r 0x31 then
    (d.rail' r fun x => { x with hold := false }).resumeLeaving t r
  else d

/-! ## Forecast inputs (R177 to R180) -/


/-- The inputs that a rail responds to (Table 7-5). -/
def Dev.lsfMask (d : Dev) (r : Rail) : Nat := d.gr r 0x2D % 16
def Dev.fpulse (d : Dev) (r : Rail) : Bool := (d.gr r 0x2D).testBit 6

/-- A forecast starts: FCAST, V_ref raised, the SHED phases brought in, which is a shed change to a tuning run, a step hold, and the
pulse where FPULSE asks for it. -/
def Dev.beginForecast (d : Dev) (t : Nat) (r : Rail) : Dev :=
  let cap := d.forecastCap r
  let off := d.gr r 0x33
  let d := (d.countTransient r 1).stepHold r
  let d := d.when (d.shedOf r ≠ []) fun d => (d.abortTuning t r 0x14).bringShedIn r
  (d.rail' r fun x => { x with
    forecast := true, fcOff := off, fcPulse := d.fpulse r
    lp := { x.lp with vref := max x.lp.vref (min (x.lp.vref + off) cap), rampAcc := 0 } }).updateFeedForward r

/-- A rising edge of an LSF input, accepted after 3 PGCLK cycles (R177, R178). For an edge of another masked input the one-period rule
is judged at the recognised edge. DESIGN CHOICE, log entry 55. -/
def Dev.forecastStart (r : Rail) (input : Fin 4) (pgclk : Nat) (periodPassed : Bool) (t : Nat) (d : Dev) : Dev :=
  if pgclk < 3 then d else
  let x := d.grove.rail[r]
  let d := d.grove' fun g => { g with lsf := g.lsf ||| 2 ^ input.val }
  if x.mode ≠ .regulating ∨ !(d.lsfMask r).testBit input.val ∨ x.fcIgnored.testBit input.val then d
  else if x.forecast then d.rail' r fun x => { x with fcPulse := x.fcPulse || (d.fpulse r && periodPassed) }
  else d.beginForecast t r

/-- The forecast pulse falls due (R178). One due in the same cycle as a sensed trigger that fired is one event with it (R203). -/
def Dev.forecastPulse (r : Rail) (sinceNs : Nat) (withTrigger : Bool) (t : Nat) (d : Dev) : Dev :=
  if !d.grove.rail[r].fcPulse ∨ sinceNs < d.gr r 0x32 then d else
  let d := d.rail' r fun x => { x with fcPulse := false }
  if withTrigger then d else ((d.abortTuning t r 0x10).stepHold r).firePulses r

/-- A forecast ends: V_ref slews back to its target from here (R179). -/
def RailSt.forecastOver (x : RailSt) : RailSt :=
  if x.forecast then { x with forecast := false, fcOff := 0, lp := { x.lp with rampAcc := 0 } } else x

/-- Levels of the inputs: an input that has been low is ignored no longer; with every masked input low, FCSTUCK clears and a
forecast ends, after which V_ref slews back to its target. -/
def Dev.forecastEnd (r : Rail) (levels : Fin 16) (d : Dev) : Dev :=
  let d := d.grove' fun g => { g with lsf := levels.val }
  let low := levels.val &&& d.lsfMask r = 0
  d.rail' r fun x =>
    let x := { x with fcIgnored := x.fcIgnored &&& levels.val, fcStuck := x.fcStuck && !low }
    if low then x.forecastOver else x

def Dev.forecastStuck (r : Rail) (activeUs : Nat) (d : Dev) : Dev :=
  if d.grove.rail[r].forecast ∧ activeUs > 10000 then
    d.rail' r fun x => { x.forecastOver with fcStuck := true, fcIgnored := d.grove.lsf &&& d.lsfMask r }
  else d

/-! ## Braking (R181 to R183) -/

/-- Whether the newest sample starts a brake (R181). -/
def Dev.brakeTrigger (d : Dev) (r : Rail) : Bool :=
  match d.grove.rail[r].lp.newest with
  | some x => x.e ≤ -(d.gr r 0x34 : Int) || (x.e = -256 && x.eow)
  | none => false

/-- Braking starts: every phase goes to mid (R181). -/
def Dev.brakingStart (r : Rail) (samples : List Sample) (periodPassed : Bool) (t : Nat) (d : Dev) : Dev :=
  let d := d.runSamples t r samples
  let x := d.grove.rail[r]
  if x.mode ≠ .regulating ∨ d.gr r 0x34 = 0 ∨ x.brake ∨ (x.brakeRest ∧ !periodPassed) ∨ !d.brakeTrigger r then d
  else ((d.countTransient r 3).rail' r fun x => { x with brake := true, brakeRest := false }).fireOutput r

/-- A brake ends: the phases resume with the newest compensator result, and no new brake starts for one period (R182). -/
def Dev.endBrake (d : Dev) (r : Rail) : Dev := (d.rail' r fun x => { x with brake := false, brakeRest := true }).fireOutput r

def Dev.brakingEnd (r : Rail) (samples : List Sample) (t : Nat) (d : Dev) : Dev :=
  let d := d.runSamples t r samples
  match d.grove.rail[r].lp.newest with
  | some x => if d.grove.rail[r].brake ∧ x.e ≥ -(d.gr r 0x35 : Int) then d.endBrake r else d
  | none => d

def Dev.brakeTimeout (r : Rail) (sinceUs : Nat) (d : Dev) : Dev :=
  if d.grove.rail[r].brake ∧ sinceUs ≥ d.gr r 0x36 then (d.endBrake r).countTransient r 4 else d

/-! ## Pulse skipping (R184 to R186) -/

/-- Pulse skipping begins (R184). -/
def Dev.pulseSkippingEntry (r : Rail) (samples : List Sample) (t : Nat) (d : Dev) : Dev :=
  let d := d.runSamples t r samples
  let x := d.grove.rail[r]
  if d.flag (0x2200 + r.val) 0x37 ∧ x.mode = .regulating ∧ !x.skip ∧ (d.firingOf r).length = d.nat 0x2233 (r.val + 1) ∧
      !x.hold ∧ !x.forecast ∧ !x.brake ∧ x.lp.below ≥ d.gr r 0x38 then
    ((d.countTransient r 5).rail' r fun x => { x with skip := true, negZero := true }).fireOutput r
  else d

/-- Whether the newest sample or the output ends pulse skipping, or the add condition of R112 does (R186). -/
def Dev.skipOver (d : Dev) (r : Rail) (railMA : Int) : Bool :=
  let l := d.grove.rail[r].lp
  (match l.newest with | some x => x.e ≥ (d.gr r 0x39 : Int) | none => false) || l.above ≥ 4 || d.addCondition r railMA

def Dev.pulseSkippingExit (r : Rail) (samples : List Sample) (railMA : Int) (t : Nat) (d : Dev) : Dev :=
  let d := d.runSamples t r samples
  if d.grove.rail[r].skip ∧ d.skipOver r railMA then (d.rail' r RailSt.endSkip).fireOutput r else d

/-! ## Sense loss (R188 to R192) -/

/-- Loss of remote sense while the rail is on (R191). -/
def Dev.senseLost (d : Dev) (t : Nat) (r : Rail) : Dev :=
  if d.gr r 0x3A = 2 then d.tripRail t r 0x0A
  else (d.rail' r fun x => { x with localSense := true, gsP := 0, gsN := 0, reason := 9 }).raise t (20 + r.val) 9

/-- Whether the checks of remote sense run: mode 1 or 2, the rail on, soft stop included, remote sense not lost. -/
def Dev.senseChecked (d : Dev) (r : Rail) : Bool :=
  d.gr r 0x3A ≠ 0 && d.grove.rail[r].mode ≠ .off && !d.grove.rail[r].localSense

def Dev.senseCheck (r : Rail) (pin : SensePin) (moveMv t : Nat) (d : Dev) : Dev :=
  if !d.senseChecked r then d else
  let d := d.rail' r fun x =>
    match pin with
    | .gsP => { x with gsP := if moveMv > 100 then x.gsP + 1 else 0 }
    | .gsN => { x with gsN := if moveMv > 100 then x.gsN + 1 else 0 }
  if d.grove.rail[r].gsP ≥ 2 ∨ d.grove.rail[r].gsN ≥ 2 then d.senseLost t r else d

def Dev.senseMismatch (r : Rail) (differenceUv heldUs t : Nat) (d : Dev) : Dev :=
  if d.senseChecked r ∧ differenceUv * 20 > d.grove.rail[r].lp.vref * 250 ∧ heldUs ≥ 50 then d.senseLost t r else d

def Dev.localSenseCheck (r : Rail) (moveMv t : Nat) (d : Dev) : Dev :=
  if d.grove.rail[r].localSense ∧ d.grove.rail[r].mode ≠ .off ∧ moveMv > 100 then d.tripRail t r 0x0B else d

/-! ## Protection (R126, R194 to R199) -/

/-- Whether the generator drives a phase: FIRING, RAMPING or LEAVING on a rail that is not off. -/
def Dev.driven (d : Dev) (p : Phase) : Bool :=
  d.wired p && d.roleIs p .available && d.grove.ph[p].fstate ≠ .shed && d.grove.rail[d.phaseRail p].mode ≠ .off

def Dev.phaseCurrentLimit (p : Phase) (mA pgclkSinceRise : Nat) (d : Dev) : Dev :=
  let r : Rail := d.phaseRail p
  if d.driven p ∧ pgclkSinceRise ≥ 16 ∧ mA * 10000 ≥ d.gr r 0x25 * d.rating p then
    let hit := ofBool (d.hitQualifies p)
    (d.countTransient r 6).ph' p fun x => { x with high := min x.high (32 * pgclkSinceRise), hits := x.hits + hit }
  else d

def Dev.negativeCurrentLimit (p : Phase) (mA : Int) (d : Dev) : Dev :=
  let r : Rail := d.phaseRail p
  let limit : Int := if d.grove.rail[r].negZero then 0 else d.gr r 0x26 * d.rating p
  if d.driven p ∧ mA * 10000 ≤ -limit then (d.countTransient r 7).ph' p fun x => { x with lowEnded := true } else d

/-- The reference V_hi of the over-voltage threshold: the target in a soft start, else the highest V_ref of the last 1 ms (R196). -/
def RailSt.vHi (x : RailSt) : Nat :=
  if x.mode = .softStart then x.lp.target else (x.lp.hist.map Taken.vref).foldl max x.lp.vref

def Dev.railOverVoltage (r : Rail) (senseUv heldNs t : Nat) (d : Dev) : Dev :=
  let x := d.grove.rail[r]
  let vHi := x.vHi
  if x.mode ≠ .off ∧ senseUv * 10000 > (10000 + d.gr r 0x27) * vHi * 250 ∧ heldNs ≥ d.gr r 0x28 then d.tripRail t r 2 else d

def Dev.railUnderVoltage (r : Rail) (senseUv heldUs t : Nat) (d : Dev) : Dev :=
  let x := d.grove.rail[r]
  if x.mode = .regulating ∧ x.uvArmed ∧ senseUv * 10000 < (10000 - d.gr r 0x29) * x.lp.vref * 250 ∧ heldUs ≥ d.gr r 0x2A then
    d.tripRail t r 3
  else d

def Dev.railOverCurrent (r : Rail) (railMA : Int) (heldUs t : Nat) (d : Dev) : Dev :=
  let d := d.lp' r fun l => { l with railMA := railMA }
  if d.grove.rail[r].mode ≠ .off ∧ railMA * 10000 > (d.gr r 0x2B * d.ratingSum (d.availableOf r) : Nat) ∧ heldUs ≥ d.gr r 0x2C then
    d.tripRail t r 4
  else d

/-- Whether a phase's report explains FLT of its rail: a present loss condition, or the kept fault of a phase retired with
reason 0x01 that is still sampled (R126). -/
def Dev.explains (d : Dev) (r : Rail) (x : Phase × Nat) : Bool :=
  d.ofRail r x.1 && x.2 > 2900 && (!d.roleIs x.1 .retired || d.grove.ph[x.1].faultKept)

/-- A retired phase whose sample has fallen to 2.90 V is sampled no longer (R126). -/
def Dev.faultFallen (d : Dev) (x : Phase × Nat) : Dev :=
  if x.2 ≤ 2900 then d.ph' x.1 fun s => { s with faultKept := false } else d

/-- FLT of a rail high for 2 µs: a fault of the rail unless a stage explains it (R126, R199). -/
def Dev.railStageFault (r : Rail) (heldNs : Nat) (reportsMv : List (Phase × Nat)) (t : Nat) (d : Dev) : Dev :=
  let d := reportsMv.foldl Dev.faultFallen d
  if heldNs < 2000 ∨ reportsMv.any (d.explains r) then d else d.tripRail t r 5

/-! ## The meanings -/

def execRailStageFault (r : Rail) (heldNs : Nat) (reportsMv : List (Phase × Nat)) (s : State) :
    Host.Outcome State Fault Refusal := .next (s.core (Dev.railStageFault r heldNs reportsMv))
def execGrSlewComplete (r : Rail) (samples : List Sample) (s : State) : Host.Outcome State Fault Refusal :=
  .next (s.core (Dev.grSlewComplete r samples))
def execSoftStartComplete (r : Rail) (samples : List Sample) (s : State) : Host.Outcome State Fault Refusal :=
  .next (s.core (Dev.softStartComplete r samples))
def execStartSettleTimeout (r : Rail) (samples : List Sample) (sinceUs : Nat) (s : State) : Host.Outcome State Fault Refusal :=
  .next (s.core (Dev.startSettleTimeout r samples sinceUs))
def execShortInSoftStart (r : Rail) (samples : List Sample) (limitEveryCycle : Bool) (s : State) :
    Host.Outcome State Fault Refusal := .next (s.core (Dev.shortInSoftStart r samples limitEveryCycle))
def execSoftStopEnd (r : Rail) (samples : List Sample) (s : State) : Host.Outcome State Fault Refusal :=
  .next (s.core (Dev.softStopEnd r samples))
def execStepFire (r : Rail) (samples : List Sample) (periodPassed : Bool) (s : State) : Host.Outcome State Fault Refusal :=
  .next (s.core (Dev.stepFire r samples periodPassed))
def execStepHoldEnd (r : Rail) (sinceUs : Nat) (s : State) : Host.Outcome State Fault Refusal :=
  .next (s.core (Dev.stepHoldEnd r sinceUs))
def execForecastStart (r : Rail) (input : Fin 4) (pgclk : Nat) (periodPassed : Bool) (s : State) :
    Host.Outcome State Fault Refusal := .next (s.core (Dev.forecastStart r input pgclk periodPassed))
def execForecastPulse (r : Rail) (sinceNs : Nat) (withTrigger : Bool) (s : State) : Host.Outcome State Fault Refusal :=
  .next (s.core (Dev.forecastPulse r sinceNs withTrigger))
def execForecastEnd (r : Rail) (levels : Fin 16) (s : State) : Host.Outcome State Fault Refusal :=
  .next (s.core fun _ => Dev.forecastEnd r levels)
def execForecastStuck (r : Rail) (activeUs : Nat) (s : State) : Host.Outcome State Fault Refusal :=
  .next (s.core fun _ => Dev.forecastStuck r activeUs)
def execBrakingStart (r : Rail) (samples : List Sample) (periodPassed : Bool) (s : State) : Host.Outcome State Fault Refusal :=
  .next (s.core (Dev.brakingStart r samples periodPassed))
def execBrakingEnd (r : Rail) (samples : List Sample) (s : State) : Host.Outcome State Fault Refusal :=
  .next (s.core (Dev.brakingEnd r samples))
def execBrakeTimeout (r : Rail) (sinceUs : Nat) (s : State) : Host.Outcome State Fault Refusal :=
  .next (s.core fun _ => Dev.brakeTimeout r sinceUs)
def execPulseSkippingEntry (r : Rail) (samples : List Sample) (s : State) : Host.Outcome State Fault Refusal :=
  .next (s.core (Dev.pulseSkippingEntry r samples))
def execPulseSkippingExit (r : Rail) (samples : List Sample) (railMA : Int) (s : State) : Host.Outcome State Fault Refusal :=
  .next (s.core (Dev.pulseSkippingExit r samples railMA))
def execSenseCheck (r : Rail) (pin : SensePin) (moveMv : Nat) (s : State) : Host.Outcome State Fault Refusal :=
  .next (s.core (Dev.senseCheck r pin moveMv))
def execSenseMismatch (r : Rail) (differenceUv heldUs : Nat) (s : State) : Host.Outcome State Fault Refusal :=
  .next (s.core (Dev.senseMismatch r differenceUv heldUs))
def execLocalSenseCheck (r : Rail) (moveMv : Nat) (s : State) : Host.Outcome State Fault Refusal :=
  .next (s.core (Dev.localSenseCheck r moveMv))
def execPhaseCurrentLimit (p : Phase) (mA pgclkSinceRise : Nat) (s : State) : Host.Outcome State Fault Refusal :=
  .next (s.core fun _ => Dev.phaseCurrentLimit p mA pgclkSinceRise)
def execNegativeCurrentLimit (p : Phase) (mA : Int) (s : State) : Host.Outcome State Fault Refusal :=
  .next (s.core fun _ => Dev.negativeCurrentLimit p mA)
def execRailOverVoltage (r : Rail) (senseUv heldNs : Nat) (s : State) : Host.Outcome State Fault Refusal :=
  .next (s.core (Dev.railOverVoltage r senseUv heldNs))
def execRailUnderVoltage (r : Rail) (senseUv heldUs : Nat) (s : State) : Host.Outcome State Fault Refusal :=
  .next (s.core (Dev.railUnderVoltage r senseUv heldUs))
def execRailOverCurrent (r : Rail) (railMA : Int) (heldUs : Nat) (s : State) : Host.Outcome State Fault Refusal :=
  .next (s.core (Dev.railOverCurrent r railMA heldUs))

end Sys2Proof.Machine
end

