-- ==== Sys2Proof/Machine/Tuning.lean ====
section
/-!
DEFINITION. Machine/Tuning.lean: on-line identification and bounded retuning of the grove loops (R157 to R163).
-/
namespace Sys2Proof.Machine

/-! ## Targets and the turn (R156 to R158) -/

/-- The sample rate of a rail in Hz: S × 960 MHz ÷ period. -/
def Dev.sampleRate (d : Dev) (r : Rail) : Nat := d.gr r 4 * 960000000 / d.gr r 3

/-- The target crossover in Hz: the object, or f_s ÷ 40 when it is 0. -/
def Dev.targetCrossover (d : Dev) (r : Rail) : Nat :=
  let v := d.nat 0x2239 (r.val + 1)
  if v = 0 then d.sampleRate r / 40 else v

/-- The guards of R158 but for the brown-out warning, which defers the run (R84). -/
def Dev.tuningGuards (d : Dev) (c : TuneCand) : Bool :=
  d.inRun && d.grove.rail[c.rail].mode = .regulating && d.grove.rail[c.rail].lp.inBand && c.inBandMs ≥ 100 && c.quietMs ≥ 100

/-- Whether a rail is due (R157): placed first, or its interval has passed; one that was skipped is tried again after 1 s. -/
def Dev.tuningDue (d : Dev) (c : TuneCand) : Bool :=
  (c.rail.val ∈ d.grove.runNext || c.sinceLastS ≥ d.nat 0x2238 2) && c.sinceTriedMs ≥ 1000

/-- The turn of R157: the rails placed first, then ascending from the rail after the one last run. -/
def Dev.tuningTurn (d : Dev) : List Nat := d.grove.runNext ++ (List.range 8).map fun k => (d.grove.lastRun + 1 + k) % 8

/-- The first rail of the turn that is due and whose guards hold. -/
def Dev.tuningChoice (d : Dev) (turn : List TuneCand) : Option TuneCand :=
  (d.tuningTurn.filterMap fun n => turn.find? fun c => c.rail.val = n).find? fun c => d.tuningDue c && d.tuningGuards c

/-! ## The tones (R159) -/

/-- The frequency of tone `n` (0 to 7): f_t × 2^(m ÷ 2) with m = n − 4. -/
def toneHz (ft n : Nat) : Nat :=
  let even := ft * 2 ^ (n / 2) / 4
  if n % 2 = 0 then even else Config.timesRootTwo even

/-- The largest component of V_diff that a tone may cause: 0.5 % of V_ref, in µV. -/
def Dev.toneLimitUv (d : Dev) (r : Rail) : Nat := d.grove.rail[r].lp.vref * 250 / 200

/-- A due rail whose guards hold, first in its turn, starts its identification with the first tone; a brown-out warning defers it. -/
def Dev.tuningRunStart (r : Rail) (turn : List TuneCand) (railMA : Int) (trunkMv t : Nat) (d : Dev) : Dev :=
  if d.nat 0x2238 1 = 0 ∨ d.grove.run ≠ none ∨ (d.tuningChoice turn).map TuneCand.rail ≠ some r then d
  else if d.path.warning then d.path' fun p => { p with deferred := p.deferred ++ [.tuning r.val] }
  else
    let d := d.readTrunk t trunkMv
    let first := toneHz (d.targetCrossover r) 0
    let limit := d.toneLimitUv r
    let d := d.grove' fun g => { g with
      runNext := g.runNext.filter (· ≠ r.val), lastRun := r.val
      run := some ⟨r.val, .tones 0, g.rail[r].lp.active, railMA, trunkMv, first, limit, []⟩ }
    d.lp' r fun l => { l with tuning := true, railMA := railMA }

/-- A write of a rail number to 0x2238:03. -/
def Dev.runNowWrite (d : Dev) (v : Int) : Except Nat Dev :=
  if d.nat 0x2238 1 = 0 ∨ d.grove.run.isSome then .error 0x08000022
  else .ok (d.grove' fun g => { g with runNext := v.toNat :: g.runNext.filter (· ≠ v.toNat) })

def TuneStage.next : TuneStage → TuneStage
  | .tones n => if n ≥ 7 then .fitting else .tones (n + 1)
  | s => s

/-- The run in progress on a rail. -/
def Dev.runOn (d : Dev) (r : Rail) : Option TuneRun :=
  match d.grove.run with
  | some run => if run.rail = r.val then some run else none
  | none => none

/-- A tone ends: its phasors are kept, and the next tone begins (R159); after the eighth the injection is 0 (Table 6-4). -/
def Dev.toneEnd (r : Rail) (p : Phasors) (d : Dev) : Dev :=
  match d.runOn r with
  | some run =>
    match run.stage with
    | .tones n =>
      let hz := if n ≥ 7 then 0 else toneHz (d.targetCrossover r) (n + 1)
      let limit := if n ≥ 7 then 0 else d.toneLimitUv r
      d.grove' fun g => { g with
        run := some { run with stage := run.stage.next, toneHz := hz, limitUv := limit, tones := run.tones ++ [p] } }
    | _ => d
  | none => d

/-! ## Design and prediction (R160, R161) -/

/-- A run ends with an outcome of Table 6-5. -/
def Dev.endRun (d : Dev) (t : Nat) (r : Rail) (outcome : Nat) : Dev :=
  let d := d.grove' fun g => { g with
    run := none, result := upd g.result r fun x => { x with outcome := outcome, time := t } }
  d.lp' r fun l => { l with tuning := false }

/-- G_m = VSYS ÷ (P × LSB), in LSB per tap (R160). -/
def Dev.plantGm (d : Dev) (r : Rail) : Rat := (d.path.vsysMv * 1000 : Nat) / (d.periodTaps r * d.lsbUv r : Nat)

/-- f_s in Hz. -/
def Dev.fsHz (d : Dev) (r : Rail) : Rat := (d.gr r 4 * 960000000 : Nat) / (d.gr r 3 : Nat)

/-- Magnitude and angle in degrees of the fitted plant at a frequency (R160): R_c × C and R × C in 10⁻¹² s, L × C in 10⁻¹⁸ s². -/
def plantAt (plant : List Nat) (gm f : Rat) : Rat × Rat :=
  let w := 2 * Config.piR * f
  let c : Rat := plant.getD 1 0
  let num := w * plant.getD 2 0 * c / 10 ^ 12
  let im := w * (plant.getD 2 0 + plant.getD 3 0) * c / 10 ^ 12
  let re := 1 - w * w * plant.getD 0 0 * c / 10 ^ 18
  (gm * Config.sqrtR (1 + num * num) / Config.sqrtR (re * re + im * im),
   Config.argDeg num 1 - Config.argDeg im re - 180 / Config.piR * w * plant.getD 4 0 / 10 ^ 12)

/-- A real coefficient as a code of Table 6-2, to the nearest (log entry 12). -/
def quantise (scale : Nat) (x : Rat) : Nat := (x * scale + 1 / 2).floor.toNat

/-- design() of R161: the codes of Kp, Ki, Kd, b1 and b2, or none where θ is not between 0° and 90°. -/
def Dev.design (d : Dev) (r : Rail) (plant : List Nat) : Option (List Nat) :=
  let fs := d.fsHz r
  let ft : Rat := d.targetCrossover r
  let ratio : Rat := d.nat 0x2238 7 / 100
  let fp := ratio * ft
  let p := plantAt plant (d.plantGm r) ft
  let lag := 2 * Config.argDeg (ft / fp) 1
  let theta := (d.nat 0x2238 5 : Rat) / 10 + 5 - 180 - p.2 + lag
  if theta ≤ 0 ∨ theta ≥ 90 then none else
  let m := (1 + (ft / fp) ^ 2) / p.1
  let kp := m * Config.cosDeg theta
  let y := kp / 2
  let x := m * Config.sinDeg theta + y
  let ki := y * 2 * Config.piR * ft / fs
  let kd := x * fs / (2 * Config.piR * ft)
  let b := quantise 32768 (1 - Config.expR (-2 * Config.piR * fp / fs))
  some [quantise 256 kp, quantise 4096 ki, quantise 16 kd, b, b]

/-- Clamp a designed coefficient to the configured one within the bound, then to its format (R161). -/
def clampCoeff (base bound lo hi v : Nat) : Nat :=
  let low := (base * (10000 - bound) + 9999) / 10000
  let high := base * (10000 + bound) / 10000
  max lo (min hi (max low (min high v)))

/-- The designed set clamped to the bound and to Table 6-2, I_max kept. -/
def Dev.clampedSet (d : Dev) (r : Rail) (set : List Nat) : List Nat :=
  let l := d.grove.rail[r].lp
  (List.range 5).map (fun i =>
    clampCoeff (l.configured.getD i 0) (d.nat 0x2238 4) (if i ≥ 3 then 1 else 0) (if i ≥ 3 then 32768 else 65535) (set.getD i 0)) ++
    [l.active.getD 5 0]

/-- Whether every coefficient of a set lies within 2 % of the active one. -/
def nearActive (new act : List Nat) : Bool :=
  (new.zip act).all fun x => ((x.1 : Int) - x.2).natAbs * 50 ≤ x.2

/-- The new set goes into force, and its verification injects a tone at the predicted crossover (R161, R162). -/
def Dev.applyRetune (d : Dev) (r : Rail) (run : TuneRun) (plant new : List Nat) : Dev :=
  let old := d.grove.rail[r].lp.active
  let hz := Config.predictCrossover plant new (d.plantGm r) (d.fsHz r)
  let limit := d.toneLimitUv r
  let d := d.lp' r fun l => { l with active := new }
  d.grove' fun g => { g with run := some { run with stage := .verifying, before := old, toneHz := hz, limitUv := limit } }

/-- retune() of R161, from the fitted plant. -/
def Dev.retune (d : Dev) (t : Nat) (r : Rail) (run : TuneRun) (plant : List Nat) : Dev :=
  match d.design r plant with
  | none => d.endRun t r 4
  | some set =>
    let new := d.clampedSet r set
    let gm := d.plantGm r
    let fs := d.fsHz r
    if Config.predictPm plant new gm fs < d.nat 0x2238 5 ∨ Config.predictGm plant new gm fs < d.nat 0x2238 6 then d.endRun t r 4
    else if nearActive new d.grove.rail[r].lp.active then d.endRun t r 3
    else d.applyRetune r run plant new

def Phasors.list (p : Phasors) : List Int := [p.xRe, p.xIm, p.yRe, p.yIm]

/-- The fit and the margins (R160): reported in 0x223A to 0x223C and 0x223F; mode 1 ends here, mode 2 retunes. -/
def Dev.identificationComplete (r : Rail) (t : Nat) (d : Dev) : Dev :=
  match d.runOn r with
  | none => d
  | some run =>
    if run.stage ≠ .fitting then d else
    let ph := run.tones.map Phasors.list
    let hz := (List.range 8).map (toneHz (d.targetCrossover r))
    let plant := (List.range 5).map (Config.fitPlant ph d.grove.rail[r].lp.active (d.plantGm r))
    let d := d.grove' fun g => { g with
      result := upd g.result r fun x => { x with
        crossover := Config.loopCrossover ph hz, pm := Config.loopPm ph hz, gm := Config.loopGm ph hz
        plant := [plant.getD 0 0, plant.getD 1 0, plant.getD 2 0 + plant.getD 3 0, plant.getD 4 0] } }
    if d.nat 0x2238 1 ≠ 2 then d.endRun t r 1 else d.retune t r run plant

/-- The verification tone has ended (R162). A revert restores the set from before the retune, also where a coefficient commit came
during the verification, of which R162 says nothing. DESIGN CHOICE, log entry 55. -/
def Dev.verificationComplete (r : Rail) (pm : Int) (crossoverHz t : Nat) (d : Dev) : Dev :=
  match d.runOn r with
  | none => d
  | some run =>
    if run.stage ≠ .verifying then d else
    let target := d.targetCrossover r
    let new := d.grove.rail[r].lp.active
    if pm ≥ d.nat 0x2238 5 ∧ ((crossoverHz : Int) - target).natAbs * 4 ≤ target then
      (d.logRetune t r 0x02 run.before new).endRun t r 0x02
    else
      let d := (d.logRetune t r 0x20 run.before new).endRun t r 0x20
      d.lp' r fun l => { l with active := run.before }

/-! ## The meanings -/

def execTuningRunStart (r : Rail) (turn : List TuneCand) (railMA : Int) (trunkMv : Nat) (s : State) :
    Host.Outcome State Fault Refusal :=
  .next (s.core (Dev.tuningRunStart r turn railMA trunkMv))
def execToneEnd (r : Rail) (phasors : Phasors) (s : State) : Host.Outcome State Fault Refusal :=
  .next (s.core fun _ => Dev.toneEnd r phasors)
def execIdentificationComplete (r : Rail) (s : State) : Host.Outcome State Fault Refusal :=
  .next (s.core (Dev.identificationComplete r))
def execVerificationComplete (r : Rail) (pm : Int) (crossoverHz : Nat) (s : State) : Host.Outcome State Fault Refusal :=
  .next (s.core (Dev.verificationComplete r pm crossoverHz))

end Sys2Proof.Machine
end

