-- ==== Sys2Proof/Machine/Sequencer.lean ====
section
/-!
DEFINITION. Machine/Sequencer.lean: the commands of the sequencer and supervisor (chapter 9): slots of on orders and groups of
off orders, judgement of branches, failed starts by deadline, the retry pause, discharge timeouts and the windows.
-/
namespace Sys2Proof.Machine

/-! ## On orders (R229 to R232) -/

/-- The judge's record of a branch that is about to start: its windows and filters are clear, and nothing is left to discharge. -/
def BranchJ.starting (j : BranchJ) : BranchJ :=
  { j.filtersCleared with good := false, inWindow := 0, wwin := false, fwin := false, offRefMv := 0, discharged := true }

/-- Start a branch that is off, by its own kind (R166, R209, R222). -/
def Dev.startBranch (d : Dev) (t : Nat) (b : Branch) (m : StartMeas) : Dev :=
  let d := d.judge' b BranchJ.starting
  byBranch b (fun r => d.startRail t r m) (fun c => d.startChan t c m) (fun n => d.startXe t n)

/-- What happens to a branch when its slot is reached. -/
def Dev.reachSlot (d : Dev) (t : Nat) (b : Branch) (m : StartMeas) : Dev :=
  if d.branchOn b then d.judge' b fun j => { j with counted := !j.good }
  else if d.cannotStart b then d.judge' b fun j => { j with skip := true }
  else (d.judge' b fun j => { j with counted := true }).startBranch t b m

def Dev.slotTurnOn (b : Branch) (timerUs : Nat) (m : StartMeas) (t : Nat) (d : Dev) : Dev :=
  if !(d.seq.state = .onOrder || d.seq.state = .safeOn) || d.seq.awaitPulse || d.seq.tapWait || !inMask d.seqTodo b ||
      timerUs < 50 * d.onDelay b || timerUs < d.seq.timerUs || d.tapHolds then d
  else
    let d := d.seq' fun s => { s with timerUs := timerUs, timerTick := t, todo := maskDiff s.todo (2 ^ b.val) }
    ((d.reachSlot t b m).settle).seqCheck t

/-- Whether every declared slave is present, idle and READY (R269). -/
def Dev.slavesReady (d : Dev) : Bool :=
  (List.finRange 8).all fun u => u.val = 0 || u.val ≥ d.casc.units ||
    (d.casc.slaves[u].present && d.casc.slaves[u].ready && d.casc.slaves[u].idle)

/-- The common start after a device power-on reset (R230); a master waits for its slaves or the join timeout (R269). A common start
that the test port has held up takes place once no instruction of R552 is in force. -/
def Dev.firstStart (vsysMv t : Nat) (d : Dev) : Dev :=
  let d := d.readTrunk t vsysMv
  if d.seq.tapWait then
    if d.tapHolds || !(d.seq.state = .onOrder || d.seq.state = .safeOn) then d
    else (d.seq' fun s => { s with tapWait := false, timerUs := 0, timerTick := t }).seqCheck t
  else if !d.seq.startDue || !d.otp.boardOk || vsysMv < 17000 || !d.inRun || d.seq.state ≠ .idle || d.tapHolds ||
      (d.casc.role = 1 && !d.slavesReady && !d.casc.joinDone) then d
  else
    let d := (d.seq' fun s => { s with startDue := false }).casc' fun c => { c with joinDone := true }
    (d.newRun t).seqCheck t

/-! ## Off orders (R247 to R249) -/

/-- The smallest off-delay among the branches of a mask. -/
def Dev.nextOff (d : Dev) (m : Nat) : Option Nat :=
  (allBranches.filter (inMask m)).foldl (fun x b => some (match x with
    | none => d.offDelay b
    | some y => min y (d.offDelay b))) none

/-- Turn off one branch of a group: the entries that want it on or at a set-point lose it. -/
def Dev.groupMember (t : Nat) (d : Dev) (b : Branch) : Dev := if d.branchOn b then (d.loseTargets b).turnOff t b else d

def Dev.offGroup (timerUs t : Nat) (d : Dev) : Dev :=
  match d.nextOff d.seq.offTodo with
  | none => d
  | some delay =>
    if !d.seq.state.isOff || d.seq.offWait ≠ 0 || timerUs < 50 * delay || timerUs < d.seq.offUs then d
    else
      let group := maskOf fun b => inMask d.seq.offTodo b && d.offDelay b = delay
      let d := d.seq' fun s => { s with offUs := timerUs, timerTick := t, offTodo := maskDiff s.offTodo group }
      let d := (allBranches.filter (inMask group)).foldl (Dev.groupMember t) d
      let d := d.seq' fun s => { s with offWait := maskOf fun b => inMask group b && !d.judge[b].discharged }
      (d.settle).seqCheck t

/-- A branch of the present group has been discharged or has timed out. -/
def Dev.groupDone (d : Dev) (b : Branch) : Dev := d.seq' fun s => { s with offWait := maskDiff s.offWait (2 ^ b.val) }

/-- Whether an output is below the discharge threshold of a branch (R248). -/
def Dev.belowThreshold (d : Dev) (b : Branch) (mv : Nat) : Bool :=
  mv * 10000 < d.nat 0x2303 (b.val + 1) * d.judge[b].offRefMv

/-- Whether a branch that is off is found discharged: by its output, or an XE branch by its power-good input in PG mode 0 and by the
PG timeout in mode 1 (R223). -/
def Dev.foundDischarged (d : Dev) (b : Branch) (sinceMs mv : Nat) : Bool :=
  byBranch b (fun _ => d.belowThreshold b mv) (fun _ => d.belowThreshold b mv)
    (fun n => if d.pgMode n = 0 then !d.integ.xe[n].pgIn else sinceMs ≥ d.nat (0x2250 + n.val) 3)

def Dev.discharge (d : Dev) (b : Branch) : Dev := (d.judge' b fun j => { j with discharged := true }).groupDone b

/-- Whether a branch-off target of an entry being applied waits for a branch to be discharged (R501). -/
def Dev.offAwaited (d : Dev) (b : Branch) : Bool :=
  d.jour.entries.any fun e => e.state = .prepared && e.going && e.targets.zipIdx.any fun x =>
    x.1.unit = 0 && x.1.kind = 3 && x.1.branch = some b && !e.reached.testBit x.2

def Dev.dischargeTimeout (b : Branch) (sinceMs mv t : Nat) (d : Dev) : Dev :=
  if !(inMask d.seq.offWait b || d.offAwaited b) || sinceMs < d.nat 0x2304 (b.val + 1) || d.branchOn b then d
  else if d.foundDischarged b sinceMs mv then ((d.discharge b).settle).seqCheck t
  else
    let d := (d.judge' b fun j => { j with dto := true, outMv := mv }).seq' fun s => { s with dto := true }
    (((d.logEvent t 0x31 b.val 0 (bytesLE 2 mv)).groupDone b).settle).seqCheck t

/-! ## Judgement (R238 to R242) -/

/-- Whether an output lies inside a window of a branch: `idx` 0x2341 warning, 0x2342 fault (R240). -/
def Dev.inWindow (d : Dev) (idx : Nat) (b : Branch) (mv : Nat) : Bool :=
  ((mv : Int) - d.refMv b).natAbs * 10000 ≤ d.nat idx (b.val + 1) * d.refMv b

/-- Whether a branch's own soft start is complete. -/
def Dev.softDone (d : Dev) (b : Branch) : Bool :=
  byBranch b (fun r => d.grove.rail[r].mode = .regulating) (fun c => (d.chan c).on && !(d.chan c).sstart) (fun _ => true)

/-- One conversion of a branch that is not yet good: three in a row inside the fault window make it good. -/
def BranchJ.towardGood (j : BranchJ) (inside : Bool) : BranchJ :=
  if !inside then { j with inWindow := 0 }
  else if j.inWindow ≥ 2 then { j with good := true, counted := false, inWindow := 0, wOut := 0, fOut := 0, wIn := 0, fIn := 0 }
  else { j with inWindow := j.inWindow + 1 }

/-- One conversion of a good branch: the windows' filters count, and ten in a row inside clear a window's flag. -/
def BranchJ.windows (j : BranchJ) (w f : Bool) : BranchJ :=
  let wIn := if w then min 10 (j.wIn + 1) else 0
  let fIn := if f then min 10 (j.fIn + 1) else 0
  { j with wOut := if w then 0 else j.wOut + 1, fOut := if f then 0 else j.fOut + 1, wIn := wIn, fIn := fIn
           wwin := j.wwin && wIn < 10, fwin := j.fwin && fIn < 10 }

/-- A converted output is readable in the branch's own record too: that of a grove rail where its own samples give none, or one of
the last 1 ms had EOW (0x2200+r:14). -/
def Dev.noteOutput (d : Dev) (b : Branch) (mv : Nat) : Dev :=
  byBranch b (fun r => d.lp' r fun l => if l.hist = [] ∨ l.hist.any Taken.eow then { l with outUv := 1000 * mv } else l)
    (fun c => d.chan' c fun x => x.measured mv x.inMv) (fun _ => d)

/-- Judge one conversion. With both converters excluded no reading counts, and a branch that is on is outside its windows
(Table 14-6). -/
def Dev.judgeReading (d : Dev) (x : Branch × Nat) : Dev :=
  let b := x.1
  if b.val ≥ 22 then d else
  let blind := d.conv.a.excluded && d.conv.b.excluded
  let d := if blind then d else (d.noteOutput b x.2).judge' b fun j => { j with outMv := x.2 }
  if d.branchOn b then
    if d.judge[b].good then d.judge' b fun j => j.windows (!blind && d.inWindow 0x2341 b x.2) (!blind && d.inWindow 0x2342 b x.2)
    else if d.softDone b then d.judge' b fun j => j.towardGood (!blind && d.inWindow 0x2342 b x.2)
    else d
  else if !blind && !d.judge[b].discharged && d.belowThreshold b x.2 then d.discharge b
  else d

/-- The conversions of 100 µs; HKADC-A makes none in STANDBY (R241). -/
def Dev.judgementConversion (readings : List (Branch × Nat)) (t : Nat) (d : Dev) : Dev :=
  if d.power.state = .standby then d else ((readings.foldl Dev.judgeReading d).settle).seqCheck t

/-- Not good by the judge deadline: a failed start with reason 0x20 (R239), the failure of an action (R234), or in a return
from HOLDUP a fault of the branch's own source (R245). Where the branch's own start timeout ends in the same 100 µs, that one fails
it, with its own reason (R239). -/
def Dev.judgeDeadline (b : Branch) (sinceMs : Nat) (ownEnds : Bool) (t : Nat) (d : Dev) : Dev :=
  if ownEnds || !d.branchOn b || d.judge[b].good || sinceMs < d.nat 0x2345 (b.val + 1) then d
  else if d.countsAsStart b then (d.failedStart t b.val 0 0x20).seqCheck t
  else
    let d' := (((d.loseTargets b).turnOff t b).judge' b fun j => { j with counted := false }).when d.judge[b].counted fun x =>
      x.raise t (branchSource b) 0x20
    (d'.settle).seqCheck t

def Dev.retryPauseEnd (sinceMs t : Nat) (d : Dev) : Dev :=
  if d.seq.state ≠ .pause || sinceMs < d.nat 0x2300 2 || d.casc.role = 2 || !d.slavesIdle then d
  else ((d.seq' fun s => { s with attempt := s.attempt + 1 }).startFull t).seqCheck t

/-- Outside the warning window for the warning filter time: a flag and a log record, no fault (R240). No filter runs in STANDBY
(R241). -/
def Dev.warningWindow (b : Branch) (mv t : Nat) (d : Dev) : Dev :=
  let j := d.judge[b]
  if b.val ≥ 22 ∨ d.power.state = .standby ∨ !d.branchOn b ∨ !j.good ∨ j.wwin ∨ j.wOut < d.nat 0x2343 (b.val + 1) then d
  else (d.judge' b fun j => { j with wwin := true, wIn := 0 }).logEvent t 0x30 b.val 0 (bytesLE 2 mv)

/-- Outside the fault window for the fault filter time: the branch's own source is raised (R240). -/
def Dev.faultWindow (b : Branch) (mv t : Nat) (d : Dev) : Dev :=
  let j := d.judge[b]
  if b.val ≥ 22 ∨ d.power.state = .standby ∨ !d.branchOn b ∨ !j.good ∨ j.fwin ∨ j.fOut < d.nat 0x2344 (b.val + 1) then d
  else ((d.judge' b fun j => { j with fwin := true, fIn := 0, outMv := mv }).raise t (branchSource b) 0).seqCheck t

/-! ## The commands -/

def execSlotTurnOn (b : Branch) (timerUs : Nat) (m : StartMeas) (s : State) : Host.Outcome State Fault Refusal :=
  .next (s.core (Dev.slotTurnOn b timerUs m))
def execOffGroup (timerUs : Nat) (s : State) : Host.Outcome State Fault Refusal := .next (s.core (Dev.offGroup timerUs))
def execCommonStart (vsysMv : Nat) (s : State) : Host.Outcome State Fault Refusal := .next (s.core (Dev.firstStart vsysMv))
def execJudgementConversion (readings : List (Branch × Nat)) (s : State) : Host.Outcome State Fault Refusal :=
  .next (s.core (Dev.judgementConversion readings))
def execJudgeDeadline (b : Branch) (sinceMs : Nat) (ownEnds : Bool) (s : State) : Host.Outcome State Fault Refusal :=
  .next (s.core (Dev.judgeDeadline b sinceMs ownEnds))
def execRetryPauseEnd (sinceMs : Nat) (s : State) : Host.Outcome State Fault Refusal :=
  .next (s.core (Dev.retryPauseEnd sinceMs))
def execDischargeTimeout (b : Branch) (sinceMs mv : Nat) (s : State) : Host.Outcome State Fault Refusal :=
  .next (s.core (Dev.dischargeTimeout b sinceMs mv))
def execWarningWindow (b : Branch) (mv : Nat) (s : State) : Host.Outcome State Fault Refusal :=
  .next (s.core (Dev.warningWindow b mv))
def execFaultWindow (b : Branch) (mv : Nat) (s : State) : Host.Outcome State Fault Refusal :=
  .next (s.core (Dev.faultWindow b mv))

end Sys2Proof.Machine
end

