-- ==== Sys2Proof/Machine/Gauge.lean ====
section
/-!
DEFINITION. Machine/Gauge.lean: the battery gauge (chapter 12). A state of charge inside a computation is an exact fraction of
the full charge capacity; it becomes a count of beads by rounding down and a reading in 0.01 % by rounding down.
-/
namespace Sys2Proof.Machine

/-! ## Settings and units -/

def Dev.gs (d : Dev) (sub : Nat) : Int := d.int 0x2180 sub

/-- Beads in one mAh: 3.6 A·s times the shunt in µΩ, in nV·s (R11). -/
def Dev.beadsPerMAh (d : Dev) : Int := 3600 * d.gs 1

/-- Beads in mAh, cut toward 0, which no rule states (DESIGN CHOICE, log entry 12). -/
def Dev.toMAh (d : Dev) (beads : Int) : Int := if d.beadsPerMAh = 0 then 0 else Int.tdiv beads d.beadsPerMAh

/-- The design capacity in beads. -/
def Dev.designBeads (d : Dev) : Int := d.gs 3 * d.beadsPerMAh

/-- The points of an OCV table: absolute SoC in 0.01 % and cell voltage in mV (R335). -/
def ocvPoints (v : Nat) : List (Nat × Nat) := (List.range 32).map fun i => (v / 2 ^ (32 * i) % 65536, v / 2 ^ (32 * i + 16) % 65536)

def risingPoints : List (Nat × Nat) → Bool
  | a :: b :: r => a.1 < b.1 && a.2 < b.2 && risingPoints (b :: r)
  | _ => true

/-- Whether a table is valid (R335). -/
def ocvValid (v : Nat) : Bool :=
  let p := ocvPoints v
  (p.head?.map Prod.fst) = some 0 && (p.getLast?.map Prod.fst) = some 10000 && risingPoints p

def Dev.ocvTable (d : Dev) : Nat := d.nat 0x2182 1

/-- Whether the gauge is configured (R333). -/
def Dev.gaugeReady (d : Dev) : Bool := d.gs 2 ≠ 0 && d.gs 3 ≠ 0 && ocvValid d.ocvTable

/-- The inverse OCV over a table, as a fraction of the capacity; `mv` is the cell voltage (R336). -/
def ocvOf : List (Nat × Nat) → Rat → Rat
  | a :: b :: r, mv =>
    if mv < a.2 then (a.1 : Rat) / 10000
    else if mv ≤ b.2 then
      ((a.1 : Rat) + (mv - a.2) * ((b.1 : Rat) - a.1) / ((b.2 : Rat) - a.2)) / 10000
    else ocvOf (b :: r) mv
  | [a], _ => (a.1 : Rat) / 10000
  | [], _ => 0

def Dev.ocv (d : Dev) (mv : Rat) : Rat := ocvOf (ocvPoints d.ocvTable) mv

/-- The cell voltage in mV for a pack voltage. -/
def Dev.cellMv (d : Dev) (packMv : Rat) : Rat := packMv / d.gs 2

/-- The corrected cell voltage of R340: the drop over the impedance terms is taken off. -/
def Dev.loadedCellMv (d : Dev) (mainMv : Nat) (packMA : Int) : Rat :=
  let r : Nat := d.gauge.rS.value + d.gauge.rF.value + d.gauge.rL.value
  d.cellMv ((mainMv : Rat) - (packMA : Rat) * r / 1000000)

/-- A fraction as a reading in 0.01 %. -/
def fraction (x : Rat) : Nat := (Rat.floor (x * 10000)).toNat

/-- The beads that a fraction of the full charge capacity is. -/
def Dev.beadsAt (d : Dev) (x : Rat) : Int := Rat.floor (x * d.gauge.fcc)

/-- RC ÷ FCC. -/
def Dev.absSoc (d : Dev) : Rat := if d.gauge.fcc = 0 then 0 else (d.gauge.rc : Rat) / d.gauge.fcc

/-- The reserve as a fraction. -/
def Dev.reserve (d : Dev) : Rat := (d.gs 4 : Rat) / 10000

/-- The reported state of charge, 0x2181:07 (R332). -/
def Dev.soc (d : Dev) : Nat :=
  if d.gauge.fcc = 0 || !d.gaugeReady then 0 else
  fraction (max 0 (min 1 ((d.absSoc - d.reserve) / (1 - d.reserve))))

/-- The reference impedance in force (R351). -/
def Dev.rRefNow (d : Dev) : Nat := if d.gs 0x0C = 0 then d.gauge.rRef else (d.gs 0x0C).toNat

/-- The state of health, 0x2181:08 (R351). -/
def Dev.soh (d : Dev) : Nat :=
  if !d.gaugeReady || d.designBeads = 0 then 0 else
  let cap : Rat := min 1 ((d.gauge.fcc : Rat) / d.designBeads)
  let imp : Rat := if d.rRefNow = 0 ∨ d.gauge.sohImp = 0 then 1 else min 1 ((d.rRefNow : Rat) / d.gauge.sohImp)
  fraction (min cap imp)

/-! ## What the gauge accepts (R348) -/

/-- The remote inputs of the charging window (0x2142:04). -/
def Dev.windowInputs (d : Dev) : List (Fin 28) :=
  (if (d.nat 0x2142 4).testBit 0 then [12] else []) ++ (if (d.nat 0x2142 4).testBit 1 then [13] else [])

/-- ESTVALID, which stays clear while the gauge is not configured (R333). -/
def Dev.estimateValid (d : Dev) : Bool := d.gauge.estValid && d.gaugeReady

/-- Whether the estimates run: they pause in a core restart and in STANDBY. -/
def Dev.estimatesRun (d : Dev) : Bool := d.coresRun && d.power.state ≠ .standby

/-- ACCEPT. -/
def Dev.gaugeAccepts (d : Dev) : Bool :=
  d.gauge.present && d.estimateValid && !d.gauge.vunav && !d.gauge.frozen && !d.gauge.ovr &&
    d.windowInputs.all fun n => !d.th.sensor[n].broken

/-- The highest reading of the selected inputs (R347). -/
def Dev.packTemp (d : Dev) : Int :=
  match d.windowInputs.map fun n => d.th.sensor[n].reading with
  | [] => 0
  | x :: r => r.foldl max x

/-- When the gauge stops accepting measurements, FAST_PULSE becomes FAST_CC at once (R304); a hold and a core restart put the
change off (R18, R300). -/
def Dev.acceptCheck (d : Dev) (t : Nat) : Dev :=
  if d.chg.phase = .fastPulse ∧ !d.gaugeAccepts ∧ !d.chgHeld ∧ d.coresRun then d.chgPhase t .fastCc else d

/-! ## Learning (R349, R350) -/

def Dev.storeDue (d : Dev) : Dev := d.gauge' fun g => { g with due := true, counted := false }

/-- The FCC that an accepted span gives: a quarter of the difference, half while RELEARN is set, within 20 % to 120 % of the
design capacity. -/
def Dev.learned (d : Dev) (cNew : Int) : Int :=
  let step := if d.gauge.relearn then 2 else 4
  let x := d.gauge.fcc + (cNew - d.gauge.fcc) / step
  clampInt (d.designBeads / 5) (d.designBeads * 6 / 5) x

/-- A later anchor closes the open span when it is wide enough, and opens the next one. -/
def Dev.anchorAt (d : Dev) (t soc : Nat) : Dev :=
  let open' (d : Dev) := d.gauge' fun g => { g with anchor := some (soc, g.count) }
  match d.gauge.anchor with
  | none => open' d
  | some (s0, c0) =>
    let dSoc := ((soc : Int) - s0).natAbs
    if dSoc < d.nat 0x2184 6 ∨ dSoc = 0 then d else
    let dq := ((d.gauge.count - c0).natAbs : Int)
    let cNew := dq * 10000 / dSoc
    let lim : Int := if d.gauge.relearn then 25 else 10
    let d' := d.gauge' fun g => { g with spanMAh := d.toMAh dq, spanSoc := dSoc, spanTime := t }
    if ((cNew - d.gauge.fcc).natAbs : Int) * 100 ≤ lim * d.gauge.fcc then
      let fcc := d.learned cNew
      let d' := d'.gauge' fun g => { g with fcc := fcc, rc := clampInt 0 fcc g.rc, relearn := false, disagree := false
                                            spanOk := satInc 32 g.spanOk, badRun := 0 }
      open' d'.storeDue
    else
      let d' := d'.gauge' fun g => { g with spanBad := satInc 32 g.spanBad, badRun := g.badRun + 1 }
      let d' := if d'.gauge.badRun ≥ 3 then (d'.gauge' fun g => { g with badRun := 0 }).raise t 78 0 else d'
      open' d'

/-- The charger reaches DONE: RC becomes FCC, an anchor at 100 %, and the store is written (R349, R353). -/
def Dev.gaugeDone (d : Dev) (t : Nat) : Dev :=
  (((d.gauge' fun g => { g with rc := g.fcc }).anchorAt t 10000).storeDue)

/-! ## The Abacus (R322 to R327) -/

def Dev.modulatorCalibration (m : Modulator) (offsetNv againNv : Int) (t : Nat) (d : Dev) : Dev :=
  let setOff (d : Dev) (v : Int) := d.gauge' fun g => match m with
    | .modA => { g with offA := v }
    | .modB => { g with offB := v }
  let excl := match m with
    | .modA => d.gauge.exclA
    | .modB => d.gauge.exclB
  if excl then d
  else if offsetNv.natAbs ≤ 50000 then setOff d offsetNv
  else if againNv.natAbs ≤ 50000 then (setOff d againNv).transient t 71 0
  else
    let d := d.gauge' fun g => match m with
      | .modA => { g with exclA := true }
      | .modB => { g with exclB := true }
    (setOff d againNv).raise t 71 0

def Dev.shuntOverRange (uv : Int) (heldUs t : Nat) (d : Dev) : Dev :=
  if uv.natAbs ≤ 100000 then d else
  let d := d.gauge' fun g => { g with ovr := true, anchor := none }
  (if heldUs ≥ 1000 then d.raise t 72 0 else d).acceptCheck t

/-- The offset-corrected results of a frame, by its number in the second: modulator A calibrates in the first 40 frames, B in the
40 from frame 2000, and each new offset holds from the next frame on (R323). -/
def Gauge.corrected (g : Gauge) (i : Nat) (x : Int × Int) : Option Int × Option Int :=
  (if g.exclA ∨ i < 40 then none else some (x.1 - g.offA),
   if g.exclB ∨ 2000 ≤ i ∧ i < 2040 then none else some (x.2 - if i < 2000 then g.offBOld else g.offB))

/-- The contributions of frames in 1/80 nV, newest first, before the limit to full scale (R324, R327): the mean of two results, a
single one, or, with none, the mean of the 40 contributions before. -/
def Gauge.contributions (g : Gauge) (i : Nat) (tail : List Int) : List (Int × Int) → List Int → List Int × List Int
  | [], acc => (acc, tail)
  | x :: r, acc =>
    match g.corrected i x with
    | (none, none) => g.contributions (i + 1) tail r (tail.sum / 40 :: acc)
    | (a, b) =>
      let v : Int := match a, b with
        | some a, some b => 40 * (a + b)
        | some a, none => 80 * a
        | none, some b => 80 * b
        | none, none => 0
      g.contributions (i + 1) ((v :: tail).take 40) r (v :: acc)

/-- The sums of the two modulators over the frames in which both integrated, and how many those are. -/
def Gauge.shared (g : Gauge) (l : List (Int × Int)) : Int × Int × Nat :=
  l.zipIdx.foldl (fun s x =>
    match g.corrected x.2 x.1 with
    | (some a, some b) => (s.1 + a, s.2.1 + b, s.2.2 + 1)
    | _ => s) (0, 0, 0)

/-- Full scale, 100 mV, in 1/80 nV. -/
def fullScale : Int := 8000000000

/-- What the frames of a second give (R323 to R327): a bead is 320000 contributions of 1/80 nV for 250 µs, and 1 nV across 1 µΩ is
1 mA. A current is cut toward 0 (DESIGN CHOICE, log entry 12). -/
def Dev.secondOf (d : Dev) (l : List (Int × Int)) : GaugeSum :=
  let g := d.gauge
  let x := g.contributions 0 g.tail l []
  let c := x.1.map fun v => clampInt (-fullScale) fullScale v
  let total := g.part + c.sum
  let unit := 80 * d.gs 1
  let s := g.shared l
  { delta := total / 320000, part := total % 320000, tail := x.2
    frameMA := Int.tdiv (c.headD 0) unit, meanMA := Int.tdiv c.sum (unit * max 1 c.length)
    overRange := x.1.any fun v => v.natAbs > fullScale.natAbs
    quiet := c.all fun v => v.natAbs < (unit * d.gs 7).natAbs
    steady := c.all fun v => (v * c.length - c.sum).natAbs * 10 ≤ c.sum.natAbs
    disagree := (s.1 - s.2.1).natAbs * 1000 > s.2.2 * 5000000 + 5 * max s.1.natAbs s.2.1.natAbs }

/-- The comparison of the modulators over one second, done again in the next one before FS070 is lasting (R327, R435). -/
def Dev.compareModulators (d : Dev) (t : Nat) (disagree : Bool) : Dev :=
  if d.gauge.disagreed then
    let d := d.gauge' fun g => { g with disagreed := false }
    if disagree then d.raise t 70 0 else d.transient t 70 0
  else if disagree then (d.awaitRetry 70).gauge' fun g => { g with disagreed := true }
  else d

/-! ## The gauge's second (R331, R334, R339 to R341) -/

/-- The change of the count goes to RC, clamped, and its discharge toward the next cycle. -/
def Gauge.addCharge (g : Gauge) (delta : Int) : Gauge :=
  let toward := if delta < 0 then g.toward - delta else g.toward
  let n := if g.fcc ≤ 0 then 0 else toward / g.fcc
  { g with rc := clampInt 0 g.fcc (g.rc + delta), toward := toward - n * g.fcc, cycles := satAdd 32 g.cycles n.toNat }

/-- The voltage bound that exists in this second: rested, or steady under load. -/
def Dev.boundNow (d : Dev) (mainMv : Nat) (steady : Bool) : Option Rat :=
  let tol : Rat := d.gs 6
  if !d.estimateValid || d.gauge.frozen || d.gauge.vunav || d.gauge.emptied then none
  else if d.gauge.rested then some (d.ocv (d.cellMv mainMv - tol))
  else if steady && !d.gauge.fresh then some (d.ocv (d.loadedCellMv mainMv d.gauge.meanMA - 2 * tol))
  else none

/-- The bound raises RC, never lowers it; a large raise is a disagreement (R341). -/
def Dev.applyBound (d : Dev) (t : Nat) (b : Rat) : Dev :=
  let d := d.gauge' fun g => { g with bound := fraction b }
  if b ≤ d.absSoc then d else
  let before := d.absSoc
  let large := b - before > (d.gs 9 : Rat) / 10000
  let d := d.gauge' fun g => { g with rc := d.beadsAt b, vbound := true
                                      disagree := g.disagree || large, relearn := g.relearn || large }
  if large then (d.raise t 79 0).logEvent t 0x50 0 0 (bytesLE 2 (fraction before) ++ bytesLE 2 (fraction b)) else d

/-- A rested pack whose voltage fixes its charge to 2 % is a learning anchor. -/
def Dev.restedAnchor (d : Dev) (t mainMv : Nat) : Dev :=
  if !d.gauge.rested || d.gauge.frozen || d.gauge.vunav || !d.estimateValid then d else
  let v := d.cellMv mainMv
  let soc := d.ocv v
  if soc - d.ocv (v - d.gs 6) ≤ 2 / 100 then d.anchorAt t (fraction soc) else d

/-- The store interval runs; a write falls due when RC has changed (R353). -/
def Dev.storeSecond (d : Dev) : Dev :=
  if d.gauge.sinceWrite + 1 ≥ d.nat 0x2180 0x0A then
    let d := if d.gauge.rc ≠ d.gauge.rcWritten ∧ !d.gauge.due then d.storeDue else d
    d.gauge' fun g => { g with sinceWrite := 0 }
  else d.gauge' fun g => { g with sinceWrite := g.sinceWrite + 1 }

/-- The estimates of one second, by the control cores. -/
def Dev.estimate (d : Dev) (t mainMv : Nat) (steady : Bool) : Dev :=
  let delta := d.gauge.unadded
  let d := d.gauge' fun g => { g with unadded := 0 }
  let d := if d.gauge.frozen || !d.gaugeReady then d else d.gauge' fun g => g.addCharge delta
  let d := d.gauge' fun g => { g with rested := g.present && g.restS ≥ d.nat 0x2180 8, vbound := false, bound := 0xFFFF }
  let d := match d.boundNow mainMv steady with
    | some b => d.applyBound t b
    | none => d
  let d := (d.restedAnchor t mainMv).gauge' fun g => { g with emptied := false, fresh := false }
  (d.storeSecond).acceptCheck t

/-- The Abacus after a second: the count saturates at the limits of its type. -/
def Gauge.counted1 (g : Gauge) (x : GaugeSum) : Gauge :=
  { g with
    count := clampInt (-(2 ^ 63)) (2 ^ 63 - 1) (g.count + x.delta), unadded := g.unadded + x.delta, part := x.part
    tail := x.tail, offBOld := g.offB, restS := if x.quiet then g.restS + 1 else 0, meanMA := x.meanMA, frameMA := x.frameMA
    ovr := x.overRange, anchor := if x.overRange then none else g.anchor }

/-- One second of the Abacus, which is also one of a charge session. The count goes on in hardware; the estimates pause in a core
restart and in STANDBY, and resume from the count. -/
def Dev.gaugeSecond (m : GaugeMeas) (t : Nat) (d : Dev) : Dev :=
  let x := d.secondOf m.frames
  let d := ((d.gauge' fun g => g.counted1 x).sessionSecond).compareModulators t x.disagree
  if d.estimatesRun then d.estimate t m.mainMv x.steady else d

/-! ## Empty (R342) -/

/-- The end-of-discharge voltage; 0 stands for the 0 % voltage of the table. -/
def Dev.endOfDischarge (d : Dev) : Nat :=
  if d.gs 5 ≠ 0 then d.nat 0x2180 5
  else d.nat 0x2180 2 * ((ocvPoints d.ocvTable).head?.map Prod.snd).getD 0

def Dev.emptyRequest (mainMv ownMainMv heldMs : Nat) (packMA : Int) (t : Nat) (d : Dev) : Dev :=
  let v := if d.gauge.vunav then ownMainMv else mainMv
  if !d.gauge.present || d.gauge.empty || packMA ≥ 0 || heldMs < 1000 || v > d.endOfDischarge || !d.estimatesRun then d else
  let level := d.beadsAt d.reserve
  let large := (d.gauge.rc : Rat) - level > (d.gs 9 : Rat) / 10000 * d.gauge.fcc
  let d := d.gauge' fun g => { g with empty := true, emptied := true, rc := level
                                      disagree := g.disagree || large, relearn := g.relearn || large }
  (d.storeDue.raise t 75 0).seqCheck t

/-! ## Estimates (R338, R355) -/

/-- An insertion estimate: RC from the table, with the uncertainty that the tolerance leaves. -/
def Dev.insertion (d : Dev) (t : Nat) (v tol : Rat) (quality : Nat) : Dev :=
  let x := d.ocv v
  d.gauge' fun g => { g with
    rc := d.beadsAt x, uncertainty := fraction (x - d.ocv (v - tol)), estValid := true, frozen := false, quality := quality
    estTime := t, waiting := false, wakeDue := false, empty := false }

def Dev.insertionEstimate (mainMv restMs t : Nat) (d : Dev) : Dev :=
  if !d.gauge.waiting || !d.gauge.present || !d.gaugeReady || restMs < 2000 || !d.estimatesRun then d
  else d.insertion t (d.cellMv mainMv) (d.gs 6) 0x01

def Dev.insertionEstimateUnderLoad (mainMv : Nat) (packMA : Int) (waitedMs steadyMs t : Nat) (d : Dev) : Dev :=
  if !d.gauge.waiting || !d.gauge.present || !d.gaugeReady || waitedMs < 10000 || steadyMs < 1000 || !d.estimatesRun then d
  else d.insertion t (d.loadedCellMv mainMv packMA) (2 * d.gs 6) 0x02

def Dev.wakeEstimate (mainMv restMs : Nat) (d : Dev) : Dev :=
  if !d.gauge.wakeDue || !d.gauge.present || !d.gaugeReady || restMs < 2000 || !d.estimatesRun then d else
  let lim := d.beadsAt ((d.gauge.uncertainty : Rat) / 10000)
  let want := d.beadsAt (d.ocv (d.cellMv mainMv))
  d.gauge' fun g => { g with rc := clampInt 0 g.fcc (g.rc + clampInt (-lim) lim (want - g.rc)), uncertainty := 0
                             quality := 0x03, wakeDue := false }

/-! ## Impedance (R345 to R347) -/

/-- A natural step: 2 A between two consecutive frames, after 10 ms of frames within ±200 mA of their mean (R345). -/
def naturalStep (before : List Int) (nowMA : Int) : Bool :=
  (nowMA - before.getLastD 0).natAbs ≥ 2000 && before.length ≥ 40 &&
    before.all fun v => (v * before.length - before.sum).natAbs ≤ 200 * before.length

/-- An edge starts a measurement, with the means of the four frames before it; dropped in a core restart. A natural step in the
frame of a charger edge, which lasts 250 µs, is that edge (Table 12-3). -/
def Dev.impedanceEdge (charger : Bool) (before : List Int) (nowMA : Int) (mainUv : List Int) (t : Nat) (d : Dev) : Dev :=
  let same := match d.gauge.meas with
    | some m => m.charger && t - m.edgeTime ≤ 8
    | none => false
  if !d.coresRun || !d.gaugeAccepts || (!charger && (same || !naturalStep before nowMA)) then d
  else d.gauge' fun g => { g with meas := some {
    v0 := meanInt mainUv, i0 := meanInt (before.drop (before.length - 4)), charger := charger, edgeTime := t } }

/-- One value of a term: the first four are taken whole, then an eighth of the difference within 0.5 to 2 times. -/
def Term.accept (x : Term) (v : Nat) : Option Term :=
  if x.taken < 4 then some { value := v, taken := x.taken + 1 }
  else if 2 * v ≥ x.value ∧ v ≤ 2 * x.value then
    some { value := (((x.value : Int) + ((v : Int) - x.value) / 8)).toNat, taken := x.taken + 1 }
  else none

/-- A term in µΩ from a voltage change in µV and a current change in mA. -/
def termOf (dv di : Int) : Nat := if di = 0 then 0 else (Int.tdiv (dv * 1000) di).toNat

/-- Count a value of a term as accepted or rejected; whether it was accepted. -/
def Dev.takeTerm (d : Dev) (t : Nat) (get : Gauge → Term) (put : Term → Gauge → Gauge) (v : Nat) : Dev × Bool :=
  match (get d.gauge).accept v with
  | some x =>
    ((d.gauge' (put x)).gauge' fun g => { g with accepted := satInc 32 g.accepted, accTemp := d.packTemp, accTime := t }, true)
  | none => (d.gauge' fun g => { g with rejected := satInc 32 g.rejected }, false)

/-- R_ref and the impedance term of the state of health follow a measurement between 20 °C and 30 °C whose R_s and R_f are
accepted (R351). -/
def Dev.healthTerms (d : Dev) (accepted : Bool) : Dev :=
  if !accepted ∨ d.packTemp < 320 ∨ d.packTemp > 480 then d else
  let r := d.gauge.rS.value + d.gauge.rF.value
  d.gauge' fun g => { g with sohImp := r, rRef := if g.rRefDue && d.gs 0x0C = 0 then r else g.rRef
                             rRefDue := g.rRefDue && d.gs 0x0C ≠ 0 }

/-- Whether frames stay within ±5 % of the step around the current at 1 ms (R345). -/
def ImpMeas.inBand (m : ImpMeas) (frames : List Int) : Bool :=
  frames.all fun v => (v - m.i1).natAbs * 20 ≤ (m.i1 - m.i0).natAbs

/-- An instant of a measurement, with MAIN and the frames since the instant before, the last of which gives its current. -/
def Dev.impedanceMeasurementInstant (k : Fin 3) (uv : Int) (frames : List Int) (t : Nat) (d : Dev) : Dev :=
  match d.gauge.meas with
  | none => d
  | some m =>
    let mA := frames.getLastD 0
    let drop := d.gauge' fun g => { g with meas := none }
    if m.next ≠ k.val then d
    else if k = 0 then
      if (mA - m.i0).natAbs < 2000 then drop
      else d.gauge' fun g => { g with meas := some { m with i1 := mA, v1 := uv, next := 1 } }
    else if !m.inBand frames then drop
    else if k = 1 then
      let di := m.i1 - m.i0
      let x := d.takeTerm t Gauge.rS (fun x g => { g with rS := x }) (termOf (m.v1 - m.v0) di)
      let y := x.1.takeTerm t Gauge.rF (fun x g => { g with rF := x }) (termOf (uv - m.v1) di)
      (y.1.healthTerms (x.2 && y.2)).gauge' fun g => { g with meas := some { m with v10 := uv, next := 2 } }
    else
      let x := d.takeTerm t Gauge.rL (fun x g => { g with rL := x }) (termOf (uv - m.v10) (m.i1 - m.i0))
      x.1.gauge' fun g => { g with meas := none }

/-! ## The gauge store (R352 to R354) -/

/-- The newer valid copy. -/
def Gauge.newest (g : Gauge) : Option (Nat × StoreCopy) :=
  match g.copy0, g.copy1 with
  | none, none => none
  | some a, none => some (0, a)
  | none, some b => some (1, b)
  | some a, some b => if (b.seq - a.seq : Int) % 2 ^ 32 < 2 ^ 31 ∧ b.seq ≠ a.seq then some (1, b) else some (0, a)

/-- The record of the present working state. -/
def Dev.storeRecord (d : Dev) (t : Nat) : StoreCopy :=
  let g := d.gauge
  { seq := (match g.newest with | some x => (x.2.seq + 1) % 2 ^ 32 | none => 1)
    time := t, count := g.count, rc := g.rc, fcc := d.toMAh g.fcc, rRef := d.rRefNow
    terms := [g.rS.value, g.rF.value, g.rL.value], cycles := g.cycles, toward := d.toMAh g.toward, shunt := d.nat 0x2180 1
    anchor := g.anchor, present := g.present, disagree := g.disagree, relearn := g.relearn, estValid := g.estValid
    shipW := g.shipW }

/-- A due write starts once admitted; one that waits in a brown-out warning is counted. -/
def Dev.gaugeStoreWrite (t : Nat) (d : Dev) : Dev :=
  if !d.gauge.due || d.gauge.writing.isSome then d
  else if !d.shipCommitAdmitted gaugeUs then
    if d.path.warning ∧ !d.gauge.counted then
      d.gauge' fun g => { g with deferred := satInc 32 g.deferred, counted := true }
    else d
  else
    let r := d.storeRecord t
    d.gauge' fun g => { g with writing := some r, due := false, counted := false, shipW := false }

/-- The write completes on the copy that does not hold the newest valid record; a failed commit raises FS074. -/
def Dev.gaugeStoreWriteComplete (v : Verify) (t : Nat) (d : Dev) : Dev :=
  match d.gauge.writing with
  | none => d
  | some r =>
    let to1 := match d.gauge.newest with | some (0, _) => true | _ => false
    let x := (d.gauge' fun g => { g with writing := none }).commitTo t regGauge (if to1 then 656 else 640) 2 v
    if x.2 then
      x.1.gauge' fun g =>
        if to1 then { g with copy1 := some r, rcWritten := r.rc } else { g with copy0 := some r, rcWritten := r.rc }
    else (x.1.gauge' fun g => if to1 then { g with copy1 := none } else { g with copy0 := none }).raise t 74 0

/-! ## Writes (R330, R333, R335) -/

/-- The new-pack values (R333). -/
def Dev.newPackValues (d : Dev) : Dev :=
  d.gauge' fun g => { g with
    fcc := d.designBeads, rc := clampInt 0 d.designBeads g.rc, rS := {}, rF := {}, rL := {}, rRef := 0, rRefDue := true
    sohImp := 0, cycles := 0, disagree := false, relearn := false, quality := 0x05, meas := none, anchor := none
    waiting := g.present, wakeDue := false, fresh := true }

/-- A new shunt resistance: every charge in beads is scaled, so that what it stands for is unchanged (R330). -/
def Dev.rescaleShunt (d : Dev) (old new : Int) : Dev :=
  if old = 0 then d else
  let s (x : Int) : Int := x * new / old
  (d.gauge' fun g => { g with
    count := s g.count, part := s g.part, rc := s g.rc, fcc := s g.fcc, toward := s g.toward, rcWritten := s g.rcWritten
    unadded := s g.unadded, meas := none, anchor := none, fresh := true }).chg' fun c => { c with sessionStart := s c.sessionStart }

/-- HKADC-A stops or starts supplying the pack voltage (R344). -/
def Dev.packVoltage (d : Dev) (t : Nat) (available : Bool) : Dev :=
  if available then d.gauge' fun g => { g with vunav := false }
  else if d.gauge.vunav then d
  else ((d.gauge' fun g => { g with vunav := true, disagree := true, meas := none }).raise t 76 0).acceptCheck t

/-- Gauge flags, 0x2181:01 (Table 12-8). CALA and CALB stand inside a second and read 0 between the commands. -/
def Dev.gaugeFlags (d : Dev) : Nat :=
  let g := d.gauge
  bit 15 g.present + bit 14 d.estimateValid + bit 13 d.gaugeAccepts + bit 12 g.rested + bit 11 g.disagree + bit 10 g.relearn +
    bit 9 g.empty + bit 8 g.vbound + bit 7 g.ovr + bit 4 g.vunav + bit 3 g.frozen + bit 2 (g.exclA || g.exclB)

/-! ## The commands -/

def execModulatorCalibration (m : Modulator) (offsetNv againNv : Int) (s : State) : Host.Outcome State Fault Refusal :=
  .next (s.core (Dev.modulatorCalibration m offsetNv againNv))
def execShuntOverRange (uv : Int) (heldUs : Nat) (s : State) : Host.Outcome State Fault Refusal :=
  .next (s.core (Dev.shuntOverRange uv heldUs))
def execGaugeSecond (m : GaugeMeas) (s : State) : Host.Outcome State Fault Refusal := .next (s.core (Dev.gaugeSecond m))
def execEmptyRequest (mainMv ownMainMv heldMs : Nat) (packMA : Int) (s : State) : Host.Outcome State Fault Refusal :=
  .next (s.core (Dev.emptyRequest mainMv ownMainMv heldMs packMA))
def execInsertionEstimate (mainMv restMs : Nat) (s : State) : Host.Outcome State Fault Refusal :=
  .next (s.core (Dev.insertionEstimate mainMv restMs))
def execInsertionEstimateUnderLoad (mainMv : Nat) (packMA : Int) (waitedMs steadyMs : Nat) (s : State) :
    Host.Outcome State Fault Refusal := .next (s.core (Dev.insertionEstimateUnderLoad mainMv packMA waitedMs steadyMs))
def execWakeEstimate (mainMv restMs : Nat) (s : State) : Host.Outcome State Fault Refusal :=
  .next (s.core fun _ => Dev.wakeEstimate mainMv restMs)
def execImpedanceEdge (charger : Bool) (before : List Int) (nowMA : Int) (mainUv : List Int) (s : State) :
    Host.Outcome State Fault Refusal := .next (s.core (Dev.impedanceEdge charger before nowMA mainUv))
def execImpedanceMeasurementInstant (k : Fin 3) (uv : Int) (frames : List Int) (s : State) :
    Host.Outcome State Fault Refusal := .next (s.core (Dev.impedanceMeasurementInstant k uv frames))
def execGaugeStoreWrite (s : State) : Host.Outcome State Fault Refusal := .next (s.core Dev.gaugeStoreWrite)
def execGaugeStoreWriteComplete (v : Verify) (s : State) : Host.Outcome State Fault Refusal :=
  .next (s.core (Dev.gaugeStoreWriteComplete v))

end Sys2Proof.Machine
end

