-- ==== Sys2Proof/Machine/Charger.lean ====
section
/-!
DEFINITION. Machine/Charger.lean: the battery charger (chapter 11): its phases, the pack-loss comparators and the probe, input
sharing, the timeouts, its watchdog and its fault stops.
-/
namespace Sys2Proof.Machine

def Dev.cg (d : Dev) (sub : Nat) : Nat := d.nat 0x2140 sub

/-! ## Starting (R298, Table 11-3) -/

/-- The start conditions. -/
def Dev.chgMayStart (d : Dev) : Bool :=
  d.inRun && d.path.dcinValid && !d.chgHeld && d.gauge.present && d.estimateValid && !d.timersBusy

/-- An edge of R303, at which TM7 is set to 0 to issue the measurement triggers; each pulse that begins is counted. -/
def Dev.edge (d : Dev) (rest : Bool) : Dev :=
  let d := d.chg' fun c => { c with inRest := rest, pulses := if rest then c.pulses else satInc 32 c.pulses }
  d.timer' 7 fun x => { x with regs := { x.regs with cnt := 0, up := true, cmp := 469 } }

/-- FAST_PULSE when pulses are set and the gauge accepts measurements, else FAST_CC; a pulse begins (R303, R304). -/
def Dev.enterFast (d : Dev) (t : Nat) : Dev :=
  if d.cg 8 ≠ 0 ∧ d.gaugeAccepts then (d.chgPhase t .fastPulse).edge false else d.chgPhase t .fastCc

/-- A session starts: time, pulses and charge begin at 0. -/
def Dev.startSession (d : Dev) (t mainMv vsysMv nodeBMv : Nat) : Dev :=
  let d := d.takeTimers
  let d := d.chg' fun c => { c with sessionS := 0, pulses := 0, sessionStart := d.gauge.count
                                    region := chgRegion vsysMv nodeBMv }
  if mainMv < d.preThreshold then d.chgPhase t .precharge else d.enterFast t

/-- DONE: the charger stops switching, releases the timers, and the gauge takes its anchor (R305, R349). -/
def Dev.enterDone (d : Dev) (t : Nat) : Dev :=
  (((d.chgPhase t .done).releaseTimers).chg' fun c => { c with region := 0 }).gaugeDone t

def Dev.noteMain (d : Dev) (mainMv : Nat) : Dev := d.chg' fun c => { c with mainMv := mainMv }

def Dev.chargeSessionStart (mainMv vsysMv nodeBMv t : Nat) (d : Dev) : Dev :=
  let d := d.noteMain mainMv
  if d.chg.phase ≠ .wait || !d.chgMayStart || !d.coresRun then d
  else if mainMv ≥ d.rechargeThreshold then d.enterDone t
  else d.startSession t mainMv vsysMv nodeBMv

def Dev.recharge (mainMv heldMs vsysMv nodeBMv t : Nat) (d : Dev) : Dev :=
  let d := d.noteMain mainMv
  if d.chg.phase ≠ .done || !d.chgMayStart || !d.coresRun || mainMv ≥ d.rechargeThreshold || heldMs < 10000 then d
  else d.startSession t mainMv vsysMv nodeBMv

/-! ## Phases (R302 to R307)

The control cores change phases and watch the timeouts, so all of this waits in a core restart (R18); the edges, which the
hardware paces, do not. No phase changes while a hold is present (R300). -/

def Dev.prechargeEnd (mainMv heldMs t : Nat) (d : Dev) : Dev :=
  let d := d.noteMain mainMv
  if d.chg.phase ≠ .precharge || d.chgHeld || !d.coresRun || mainMv < d.preThreshold + 200 || heldMs < 1000 then d
  else d.enterFast t

/-- A pulse or rest edge. An edge that falls due in a hold waits (R301, Table 11-6). -/
def Dev.pulseEdge (d : Dev) : Dev :=
  if d.chg.phase ≠ .fastPulse || d.chgHeld || d.chg.probe ≠ .none then d else d.edge (!d.chg.inRest)

def Dev.fastPulseReturn (t : Nat) (d : Dev) : Dev :=
  if d.chg.phase = .fastCc ∧ !d.chgHeld ∧ d.coresRun ∧ d.chg.probe = .none ∧ d.cg 8 ≠ 0 ∧ d.gaugeAccepts then d.enterFast t else d

/-- MAIN has reached the charge voltage in a fast phase that switches. -/
def Dev.cvReached (d : Dev) : Bool :=
  (d.chg.phase = .fastPulse || d.chg.phase = .fastCc) && d.chgSwitching && d.coresRun && d.chg.mainMv ≥ d.cg 2

def Dev.cvEntry (mainMv t : Nat) (d : Dev) : Dev :=
  let d := d.noteMain mainMv
  if d.cvReached then d.chgPhase t .cv else d

/-- Neither throttle nor input sharing changes the termination level. -/
def Dev.termination (mA heldMs t : Nat) (d : Dev) : Dev :=
  if d.chg.phase ≠ .cv || d.chgHeld || !d.coresRun || mA * d.cg 0x0A ≥ d.cg 3 || heldMs < 30000 then d else
  (d.chg' fun c => { c with completed := satInc 32 c.completed, stopReason := 0x01, currentMA := mA }).enterDone t

/-- A fault stop of the charger: STOPPED with its reason, and its source. -/
def Dev.chgFault (d : Dev) (t src reason : Nat) : Dev := ((d.chgStop t reason).raise t src reason).seqCheck t

def Dev.prechargeTimeout (sessionS t : Nat) (d : Dev) : Dev :=
  if d.chg.phase ≠ .precharge || d.chgHeld || !d.coresRun || sessionS ≤ 60 * d.cg 0x0C then d
  else (d.chg' fun c => { c with sessionS := sessionS }).chgFault t 64 0x03

def Dev.chargeTimeout (sessionS t : Nat) (d : Dev) : Dev :=
  if !d.chg.phase.active || d.chgHeld || !d.coresRun || sessionS ≤ 60 * d.cg 0x0D then d
  else (d.chg' fun c => { c with sessionS := sessionS }).chgFault t 65 0x04

/-! ## Input sharing (R294) -/

/-- The DCIN current is held to 95 % of the limit by a demand that the charge command is the smaller of. -/
def Dev.inputSharing (dcinMA demandMA : Nat) (d : Dev) : Dev :=
  let d := d.path' fun p => { p with dcinMA := dcinMA }
  let above := 100 * dcinMA > 95 * d.nat 0x2100 2
  let d := d.chg' fun c => { c with shareMA := demandMA, sharing := false }
  d.chg' fun c => { c with sharing := c.phase.active && (above || demandMA < d.chgCommand) }

/-! ## Loss of the pack (R311 to R313) -/

/-- Whether a comparator's condition holds. -/
def Dev.packLost (d : Dev) : PackLoss → Bool
  | .overVoltage nodeBMv => 100 * nodeBMv > 105 * d.cg 2
  | .collapse mA cmdMA cycles rising edgeRecent => 5 * mA < cmdMA && cmdMA ≥ 1000 && cycles ≥ 2 && rising && !edgeRecent

def Dev.packLossComparator (k : PackLoss) (d : Dev) : Dev :=
  if !d.chgSwitching || !d.packLost k then d
  else d.chg' fun c => { c with probe := (match k with | .overVoltage _ => .overVoltage | .collapse .. => .collapse)
                                sink := true }

def Dev.presenceProbeEnd (fallMv t : Nat) (d : Dev) : Dev :=
  match d.chg.probe with
  | .none => d
  | p =>
    let d := d.chg' fun c => { c with probe := .none, sink := false }
    if fallMv > 500 then ((d.enterNoPack t).raise t 61 0x05).seqCheck t
    else match p with
      | .overVoltage => d.chgFault t 62 0x06
      | _ => d.chgFault t 63 0x08

/-- The presence sink ends; a pack that stayed valid through it becomes present again (R337). -/
def Dev.noPackSinkEnd (batMv sinceMs : Nat) (d : Dev) : Dev :=
  if d.chg.phase ≠ .noPack || !d.chg.sink || (batMv ≥ 16000 && sinceMs < 2000) then d else
  let d := (d.chg' fun c => { c with sink := false }).path' fun p => { p with batMv := batMv }
  if d.path.batValid then d.gaugePresent else d

/-- NO_PACK ends after 2 s of valid BATSNS and a new insertion estimate; the battery pair is released. -/
def Dev.noPackExit (validMs t : Nat) (d : Dev) : Dev :=
  if d.chg.phase ≠ .noPack || validMs < 2000 || !d.path.batValid || !d.estimateValid || d.chg.sink || !d.coresRun then d
  else ((d.chgPhase t .wait).takeTimers).supplementQuiet

/-! ## Watchdog (R314 to R316) -/

/-- The charger takes a new value of its enable. -/
def Dev.applyEnable (d : Dev) (t reason : Nat) : Dev :=
  if d.flag 0x2140 1 then
    if d.chg.phase = .disabled ∧ d.inRun then (d.chgPhase t .wait).takeTimers else d
  else d.chgDisable t reason

/-- The safe defaults replace the live values, and the phase goes on with them: a safe voltage below MAIN ends a fast charge. -/
def Dev.chargerWatchdogExpiry (sinceS t : Nat) (d : Dev) : Dev :=
  if d.nat 0x2142 5 = 0 || sinceS < d.nat 0x2142 6 || !d.coresRun then d else
  let d := d.loseCharger
  let d := ((d.setLive 0x2140 1 (d.int 0x2143 1)).setLive 0x2140 2 (d.int 0x2143 2)).setLive 0x2140 3 (d.int 0x2143 3)
  let d := ((d.chg' fun c => { c with wdExpired := true }).raise t 66 0).applyEnable t 0x0C
  if d.cvReached then d.chgPhase t .cv else d

/-- A heartbeat from the watched client restarts the timeout and clears WDEXP (R314, R316). -/
def Dev.chargerHeartbeat (d : Dev) (t node : Nat) : Dev :=
  if d.nat 0x2142 5 = 0 ∨ d.nat 0x2142 5 ≠ node then d else d.chg' fun c => { c with wdExpired := false, wdStart := t }

/-! ## Fault stops (Table 11-7) -/

/-- Whether HKADC-A supplies MAIN: neither the converter nor its MAIN channel is excluded. -/
def Dev.mainAvailable (d : Dev) : Bool := !d.conv.a.excluded && d.conv.excludedNode ≠ some 0x16

def Dev.chargerFaultStop (k : ChargerFault) (t : Nat) (d : Dev) : Dev :=
  if !d.chg.phase.active then d else
  match k with
  | .phaseOverCurrent cycles => if cycles ≥ 16 then d.chgFault t 60 0x07 else d
  | .gateDrive mv us =>
    if mv ≥ 8000 ∨ us < 10 then d
    else if d.chg.drvRestart then d
    else (d.awaitRetry 67).chg' fun c => { c with drvRestart := true }
  | .imbalance diffMA cmdMA ms => if 100 * diffMA > 25 * cmdMA ∧ ms ≥ 10 then d.chgFault t 68 0x0D else d
  | .crossCheck ownMv adcMv ms =>
    if d.mainAvailable ∧ 1000 * ((ownMv : Int) - adcMv).natAbs > 8 * adcMv ∧ ms ≥ 1000 then d.chgFault t 69 0x0A else d

/-- CHG_DRV after its one restart: still low, the stop is lasting; recovered, the event was transient. -/
def Dev.chgDrvRestart (mv t : Nat) (d : Dev) : Dev :=
  if !d.chg.drvRestart then d else
  let d := d.chg' fun c => { c with drvRestart := false }
  if mv < 8000 then d.chgFault t 67 0x09 else d.transient t 67 0x09

/-! ## The commands -/

def execChargeSessionStart (mainMv vsysMv nodeBMv : Nat) (s : State) : Host.Outcome State Fault Refusal :=
  .next (s.core (Dev.chargeSessionStart mainMv vsysMv nodeBMv))
def execPrechargeEnd (mainMv heldMs : Nat) (s : State) : Host.Outcome State Fault Refusal :=
  .next (s.core (Dev.prechargeEnd mainMv heldMs))
def execPulseEdge (s : State) : Host.Outcome State Fault Refusal := .next (s.core fun _ => Dev.pulseEdge)
def execCvEntry (mainMv : Nat) (s : State) : Host.Outcome State Fault Refusal := .next (s.core (Dev.cvEntry mainMv))
def execTermination (mA heldMs : Nat) (s : State) : Host.Outcome State Fault Refusal :=
  .next (s.core (Dev.termination mA heldMs))
def execRecharge (mainMv heldMs vsysMv nodeBMv : Nat) (s : State) : Host.Outcome State Fault Refusal :=
  .next (s.core (Dev.recharge mainMv heldMs vsysMv nodeBMv))
def execPrechargeTimeout (sessionS : Nat) (s : State) : Host.Outcome State Fault Refusal :=
  .next (s.core (Dev.prechargeTimeout sessionS))
def execChargeTimeout (sessionS : Nat) (s : State) : Host.Outcome State Fault Refusal :=
  .next (s.core (Dev.chargeTimeout sessionS))
def execInputSharing (dcinMA demandMA : Nat) (s : State) : Host.Outcome State Fault Refusal :=
  .next (s.core fun _ => Dev.inputSharing dcinMA demandMA)
def execPackLossComparator (k : PackLoss) (s : State) : Host.Outcome State Fault Refusal :=
  .next (s.core fun _ => Dev.packLossComparator k)
def execPresenceProbeEnd (fallMv : Nat) (s : State) : Host.Outcome State Fault Refusal :=
  .next (s.core (Dev.presenceProbeEnd fallMv))
def execNoPackSinkEnd (batMv sinceMs : Nat) (s : State) : Host.Outcome State Fault Refusal :=
  .next (s.core fun _ => Dev.noPackSinkEnd batMv sinceMs)
def execNoPackExit (validMs : Nat) (s : State) : Host.Outcome State Fault Refusal := .next (s.core (Dev.noPackExit validMs))
def execChargerWatchdogExpiry (sinceS : Nat) (s : State) : Host.Outcome State Fault Refusal :=
  .next (s.core (Dev.chargerWatchdogExpiry sinceS))
def execChargerFaultStop (k : ChargerFault) (s : State) : Host.Outcome State Fault Refusal :=
  .next (s.core (Dev.chargerFaultStop k))
def execFastPulseReturn (s : State) : Host.Outcome State Fault Refusal := .next (s.core Dev.fastPulseReturn)
def execChgDrvRestart (mv : Nat) (s : State) : Host.Outcome State Fault Refusal := .next (s.core (Dev.chgDrvRestart mv))

end Sys2Proof.Machine
end

