-- ==== Sys2Proof/Machine/Thermal.lean ====
section
/-!
DEFINITION. Machine/Thermal.lean: temperature sensing and thermal management (chapter 13). Temperatures are in 1/16 °C.
-/
namespace Sys2Proof.Machine

/-! ## Sensors (Table 13-1) -/

def allSensors : List (Fin 28) := List.finRange 28
def dieSensors : List (Fin 28) := allSensors.filter fun n => n.val < 12

/-- Whether two die sensors are neighbours: beside each other in a row, or opposite each other (R359). -/
def dieNeighbours (a b : Nat) : Bool :=
  a < 12 && b < 12 && ((a / 6 = b / 6 && (a + 1 = b || b + 1 = a)) || a + 6 = b || b + 6 = a)

def Dev.goodNeighbours (d : Dev) (n : Fin 28) : List (Fin 28) :=
  dieSensors.filter fun k => dieNeighbours n.val k.val && !d.th.sensor[k].broken

/-- Twice the median of a list: the middle value, or the sum of the two middle ones; `none` of an empty list. -/
def twiceMedian (l : List Int) : Option Int :=
  let s := l.insertionSort (· ≤ ·)
  let n := s.length
  if n = 0 then none else some (s.getD ((n - 1) / 2) 0 + s.getD (n / 2) 0)

/-- The learned offset of a sensor, twice: the mean of its last 64 normal differences, within ±18 °C (R370). -/
def Sensor.twiceOffset (x : Sensor) : Int :=
  if x.history = [] then 0 else clampInt (-576) 576 (x.history.sum / x.history.length)

/-- The groups of 0x2400 to 0x2402: 0 die, 1 remote, 2 stage. -/
def groupOf (n : Fin 28) : Fin 3 := if n.val < 12 then 0 else if n.val < 20 then 1 else 2
def Dev.thr (d : Dev) (g : Fin 3) (sub : Nat) : Int := d.int (0x2400 + g.val) sub
/-- The number of a sensor inside its group. -/
def sensorNo (n : Fin 28) : Nat := if n.val < 12 then n.val else if n.val < 20 then n.val - 12 else n.val - 20
def Dev.isMember (d : Dev) (n : Fin 28) : Bool := (d.nat (0x2400 + (groupOf n).val) 7).testBit (sensorNo n)

/-- The members of a group that take part in its thresholds: broken remote and stage inputs have left it (R361). -/
def Dev.groupMembers (d : Dev) (g : Fin 3) : List (Fin 28) :=
  allSensors.filter fun n => groupOf n = g && d.isMember n && (g = 0 || !d.th.sensor[n].broken)

/-! ## Injected readings (Table 21-2, R547) -/

/-- A reading with an armed offset added, held below the shutdown threshold of its group; whether one was added. -/
def Dev.injectOffset (d : Dev) (n : Fin 28) (v : Int) : (Int × Bool) × Dev :=
  let x := d.inject [0x30] (0x400 + n.val) fun _ => true
  match x.1 with
  | none => ((v, false), x.2)
  | some (_, p) => ((min (v + p) (d.thr (groupOf n) 3 - 1), true), x.2)

/-! ## Throttle (R366) -/

/-- Whether a throttle is in force: a group's condition, missing die results, or no good die sensor left. -/
def Dev.throttleDue (d : Dev) : Bool :=
  d.th.group.toList.any (fun g => g.throttle) || d.th.missing ||
    (d.th.checked && dieSensors.all fun n => d.th.sensor[n].broken)

/-- Enter or leave the throttle. -/
def Dev.throttleCheck (d : Dev) (t : Nat) : Dev :=
  if d.throttleDue = d.th.throttle then d
  else if d.throttleDue then
    (d.th' fun x => { x with throttle := true, throttleTime := t, throttleCount := satInc 32 x.throttleCount }).raise t 85 0
  else d.th' fun x => { x with throttle := false }

/-! ## Thresholds (R364, R365) -/

/-- A condition sets at the threshold and clears when every member is below it by its hysteresis. -/
def condition (l : List Int) (now : Bool) (at' hyst : Int) : Bool := l.any (fun v => v ≥ at') || (now && l.any fun v => v ≥ at' - hyst)

/-- The warning of a group: FS084 and a log record that names the sensor. -/
def Dev.warnGroup (d : Dev) (t : Nat) (g : Fin 3) : Dev :=
  let l := d.groupMembers g
  let now := condition (l.map fun n => d.th.sensor[n].reading) d.th.group[g].warn (d.thr g 1) (d.thr g 4)
  let rises := now && !d.th.group[g].warn
  let d := d.th' fun x => { x with group := upd x.group g fun y => { y with warn := now } }
  if !rises then d else
  match l.find? fun n => d.th.sensor[n].reading ≥ d.thr g 1 with
  | some n => (d.raise t 84 0).logEvent t 0x40 n.val 0 (bytesOfInt 2 d.th.sensor[n].reading)
  | none => d

def Dev.throttleGroup (d : Dev) (g : Fin 3) : Dev :=
  let now := condition ((d.groupMembers g).map fun n => d.th.sensor[n].reading) d.th.group[g].throttle (d.thr g 2) (d.thr g 5)
  d.th' fun x => { x with group := upd x.group g fun y => { y with throttle := now } }

/-- Count the consecutive samples of each member at the shutdown threshold. -/
def Dev.countShutdown (d : Dev) (g : Fin 3) : Dev :=
  (allSensors.filter fun n => groupOf n = g).foldl (fun d n =>
    let hot := decide (n ∈ d.groupMembers g) && decide (d.th.sensor[n].reading ≥ d.thr g 3)
    d.sensor' n fun x => { x with shut := if hot then min 2 (x.shut + 1) else 0 }) d

/-- The members whose second consecutive sample has reached shutdown. -/
def Dev.shutdownOf (d : Dev) (g : Fin 3) : List (Fin 28) := (d.groupMembers g).filter fun n => d.th.sensor[n].shut ≥ 2

/-- The thresholds of one group after a sample. -/
def Dev.judgeGroup (d : Dev) (t : Nat) (g : Fin 3) : Dev :=
  (((d.warnGroup t g).throttleGroup g).throttleCheck t).countShutdown g

/-! ## Non-volatile writes (R372) -/

def Dev.nvTemperature (d : Dev) (t : Nat) : Dev :=
  let l := dieSensors.map fun n => d.th.sensor[n].reading
  let out := l.any fun v => v > 1840 || v < -640
  let back := l.all fun v => v ≤ 1792 && v ≥ -592
  if out ∧ !d.th.nvBlocked then (d.th' fun x => { x with nvBlocked := true }).raise t 90 0
  else if back then d.th' fun x => { x with nvBlocked := false } else d

/-- Whether a member calls for the 500 µs interval (R362). -/
def Dev.fastDie (d : Dev) : Bool :=
  (d.groupMembers 0).any fun n =>
    let v := d.th.sensor[n].reading
    v > d.thr 0 1 || [1, 2, 3].any fun k => (v - d.thr 0 k).natAbs ≤ 128

/-! ## The thermal latch (R35, R368, Table 13-2) -/

/-- The integrated channels of a die sensor's region. -/
def hotChannels (n : Nat) : List Integrated :=
  match n with
  | 3 => [.ib 0, .ib 1]
  | 4 => [.ib 2, .ib 3]
  | 5 => [.ib 4, .ib 5]
  | 6 => (List.finRange 8).map .ld
  | _ => []

/-- The device's part of the latch: channels of the hot regions trip with reason 0x0C (R215), every branch is off at once, one log
record is written if R80 admits it, and the core domain is off with everything that it drives. -/
def Dev.latch (d : Dev) (t : Nat) (n : Fin 28) (hot : List (Fin 28)) : Dev :=
  let admitted := d.path.holdSeen && d.holdBudget ≥ logUs + 500
  let record : LogRec := ⟨0x40, n.val, t, 0xFF, 0, d.stateCode, 0xFF, bytesOfInt 2 d.th.sensor[n].reading⟩
  let d := (d.raise t (if n.val < 12 then 86 else 87) 0).abandonActions
  let d := (hot.flatMap fun k => hotChannels k.val).foldl (fun d c => if (d.chan c).on then d.tripChan t c 0x0C else d) d
  let d := (d.loseBranches allMask).fastOffMask t allMask
  let d := if admitted then (d.nv' fun v => v.append record).wrotePages 1 else d
  let d := d.life' fun l => { l with latches := satInc 16 l.latches }
  (d.goState t .off).unpowered

/-- The thermal latch sets, if a member has reached shutdown. -/
def latchIf (g : Fin 3) (b : Body) : Body :=
  match b.d.shutdownOf g with
  | [] => b
  | n :: r => { b with hw := { b.hw with thermalLatch := true }, d := b.d.latch b.hw.counter n (n :: r) }

/-! ## Die samples (R363, R369, R370) -/

/-- Cross-check one good sensor against the median of the neighbours that were good before the sample. -/
def Dev.crossCheck (before : Dev) (raw : List (Int × Bool)) (t : Nat) (d : Dev) (n : Fin 28) : Dev :=
  let s := d.th.sensor[n]
  let near := (before.goodNeighbours n).map fun k => (raw.getD k.val (0, false)).1
  let r := raw.getD n.val (0, false)
  match twiceMedian near with
  | none => d.sensor' n fun x => { x with suspect := false, grad := false, bad := 0 }
  | some m =>
    if s.broken then d else
    let diff := 2 * r.1 - m
    let excess : Int := (diff.natAbs : Int) - 576
    if excess ≤ 0 then d.sensor' n fun x =>
      { x with suspect := false, grad := false, bad := 0, history := if r.2 then x.history else (diff :: x.history).take 64 }
    else if excess ≤ 128 then d.sensor' n fun x => { x with suspect := false, grad := true, bad := 0 }
    else
      let breaks := s.bad ≥ 2
      let d := d.sensor' n fun x => { x with suspect := !breaks, grad := false, bad := x.bad + 1, broken := breaks
                                             inTest := breaks && d.power.test }
      let d := d.raise t 89 0
      if breaks then d.raise t 80 0 else d

/-- Whether a broken sensor has a broken neighbour. -/
def Dev.brokenPair (d : Dev) (n : Fin 28) : Bool :=
  d.th.sensor[n].broken && dieSensors.any fun k => dieNeighbours n.val k.val && d.th.sensor[k].broken

/-- The reading of one die sensor after substitution. -/
def Dev.substitute (raw : List (Int × Bool)) (d : Dev) (n : Fin 28) : Dev :=
  let s := d.th.sensor[n]
  let own (k : Fin 28) : Int := (raw.getD k.val (0, false)).1
  let put (v : Int) (model maxsub : Bool) := d.sensor' n fun x => { x with reading := v, model := model, maxsub := maxsub }
  if !d.th.checked ∨ !s.broken ∧ !s.suspect then put (own n) false false
  else if d.brokenPair n then
    match (dieSensors.filter fun k => !d.th.sensor[k].broken && !d.th.sensor[k].suspect).map own with
    | [] => d
    | x :: r => put (r.foldl max x) false true
  else match twiceMedian ((d.goodNeighbours n).map own) with
    | some m => put ((m + s.twiceOffset) / 2) true false
    | none => d

/-- The readings of a die sample with armed offsets added. -/
def Dev.injectAll (d : Dev) (base : Nat) (l : List Int) : List (Int × Bool) × Dev :=
  (l.zipIdx).foldl (fun x y =>
    if h : base + y.2 < 28 then
      let z := x.2.injectOffset ⟨base + y.2, h⟩ y.1
      (x.1 ++ [z.1], z.2)
    else x) ([], d)

/-- Lifetime readings and time at warning; an injected sample is not counted (R541). -/
def Dev.lifeDie (d : Dev) (injected : Bool) : Dev :=
  if injected then d else
  let l := dieSensors.map fun n => d.th.sensor[n].reading
  let hot := l.any fun v => v ≥ d.thr 0 1
  let halves := if hot then d.life.warnHalves + (if d.th.fast then 1 else 16) else d.life.warnHalves
  d.life' fun x => { x with maxDie := l.foldl max x.maxDie, warnS := satAdd 32 x.warnS (halves / 2000)
                            warnHalves := halves % 2000 }

/-- A sample of the die group: cross-check, substitution, thresholds. Until the first cross-check after a reset every sensor counts
as good. FS081 is raised as a pair of neighbours becomes broken. -/
def Dev.dieSample (temps : List Int) (t : Nat) (d : Dev) : Dev :=
  let y := d.injectAll 0 (temps.take 12)
  let before := y.2.th' fun x => { x with missing := false, checked := x.checked || d.coresRun }
  let d := if before.coresRun then dieSensors.foldl (before.crossCheck y.1 t) before else before
  let d := dieSensors.foldl (Dev.substitute y.1) d
  let d := if dieSensors.any fun n => d.brokenPair n && !before.brokenPair n then d.raise t 81 0 else d
  let d := d.lifeDie (y.1.any Prod.snd)
  let d := d.th' fun x => { x with fast := d.fastDie }
  (d.nvTemperature t).judgeGroup t 0

/-! ## Remote and stage samples (R360, R361) -/

/-- One sample of an input that can be declared broken: two out of range declare it, ten in range return it. -/
def Dev.rangeSample (d : Dev) (t : Nat) (n : Fin 28) (inRange : Bool) (v : Int) (src : Nat) : Dev :=
  let s := d.th.sensor[n]
  if inRange then
    d.sensor' n fun x =>
      let broken := x.broken && x.inRange + 1 < 10
      { x with bad := 0, inRange := if x.broken then x.inRange + 1 else 0, broken := broken
               reading := if broken then x.reading else v }
  else
    let breaks := !s.broken && s.bad ≥ 1
    let d' := d.sensor' n fun x => { x with bad := x.bad + 1, inRange := 0, broken := x.broken || breaks
                                            inTest := if breaks then d.power.test else x.inTest }
    if breaks then d'.raise t src 0 else d'

/-- Whether both converters are excluded: every TN and TMON input then counts as broken (Table 14-6). -/
def Dev.noConverter (d : Dev) : Bool := d.conv.a.excluded && d.conv.b.excluded

def Dev.remoteInput (t : Nat) (d : Dev) (x : Nat × Nat) : Dev :=
  if h : x.2 < 8 then
    let n : Fin 28 := ⟨12 + x.2, by omega⟩
    if !d.isMember n ∧ n ∉ d.windowInputs then d else
    let inRange := decide (x.1 * 100 ≤ 97 * 4096) && decide (x.1 * 100 ≥ 3 * 4096) && !d.noConverter
    let y := d.injectOffset n (Config.ntcTemp x.1 (d.nat 0x2404 (x.2 + 1)) (d.nat 0x2405 (x.2 + 1)))
    y.2.rangeSample t n inRange y.1.1 82
  else d

/-- The charging window on the selected inputs (R308). -/
def Dev.tempWindow (d : Dev) : Dev :=
  let lo := d.int 0x2142 1
  let hi := d.int 0x2142 2
  let h := d.int 0x2142 3
  let out := d.windowInputs.any fun n => d.th.sensor[n].broken || d.th.sensor[n].reading < lo || d.th.sensor[n].reading > hi
  let inner := d.windowInputs.all fun n =>
    !d.th.sensor[n].broken && d.th.sensor[n].reading ≥ lo + h && d.th.sensor[n].reading ≤ hi - h
  d.chg' fun c =>
    if out then { c with tempHold := true, tempIn := 0 }
    else if !c.tempHold then c
    else if !inner then { c with tempIn := 0 }
    else if c.tempIn ≥ 9 then { c with tempHold := false, tempIn := 0 }
    else { c with tempIn := c.tempIn + 1 }

def Dev.remoteSample (ratios : List Nat) (t : Nat) (d : Dev) : Dev :=
  let d := (ratios.take 8).zipIdx.foldl (Dev.remoteInput t) d
  ((d.tempWindow).acceptCheck t).judgeGroup t 1

/-- The temperature of a stage report (R361). -/
def Dev.stageTemp (d : Dev) (n mv : Nat) : Int :=
  ((mv : Int) - d.nat 0x2406 (n + 1)) * 16000 / d.nat 0x2407 (n + 1)

def Dev.stageInput (t : Nat) (d : Dev) (x : Nat × Nat) : Dev :=
  if h : x.2 < 8 then
    let n : Fin 28 := ⟨20 + x.2, by omega⟩
    if !d.isMember n then d else
    let inRange := decide (x.1 ≥ 250) && decide (x.1 ≤ 2750) && !d.noConverter
    let y := d.injectOffset n (d.stageTemp x.2 x.1)
    y.2.rangeSample t n inRange y.1.1 83
  else d

/-- Shutdown of one stage: only its rail trips (R368). -/
def Dev.stageShutdown (t : Nat) (d : Dev) (r : Rail) : Dev :=
  let n : Fin 28 := ⟨20 + r.val, by omega⟩
  if d.th.sensor[n].shut < 2 ∨ r.val ∈ d.th.hotStages then
    (if d.th.sensor[n].reading < d.thr 2 3 - d.thr 2 6 ∧ !d.th.sensor[n].broken then
      d.th' fun x => { x with hotStages := x.hotStages.filter (· ≠ r.val) } else d)
  else
    let d := d.th' fun x => { x with hotStages := r.val :: x.hotStages }
    let d := if d.grove.rail[r].mode = .off then d else d.tripRail t r 0x0C
    (d.raise t 88 0x0C).seqCheck t

def Dev.stageSample (mv : List Nat) (t : Nat) (d : Dev) : Dev :=
  let d := ((mv.take 8).zipIdx.foldl (Dev.stageInput t) d).judgeGroup t 2
  allRails.foldl (Dev.stageShutdown t) d

/-! ## Other commands -/

/-- The reinstate action of 0x240C:06 (R371). -/
def Dev.reinstateSensor (d : Dev) (n : Nat) : Except Nat Dev :=
  if h : n < 12 then
    let k : Fin 28 := ⟨n, by omega⟩
    if d.th.sensor[k].broken then
      .ok (d.sensor' k fun x => { x with broken := false, inTest := false, suspect := false, bad := 0, history := [] })
    else .error 0x06090030
  else .error 0x06090030

def Dev.dieConverterMissing (intervals t : Nat) (d : Dev) : Dev :=
  if intervals < 2 then d else ((d.th' fun x => { x with missing := true }).raise t 91 0).throttleCheck t

/-- Thermal flags, 0x240C:01 (Table 13-8). -/
def Dev.thermalFlags (d : Dev) : Nat :=
  let g := d.th.group
  bit 8 d.th.nvBlocked + bit 7 d.th.throttle + bit 6 d.th.fast + bit 5 g[2].warn + bit 4 g[2].throttle + bit 3 g[1].warn +
    bit 2 g[1].throttle + bit 1 g[0].warn + bit 0 g[0].throttle

/-- Sensor status, 0x240B (Table 13-9). -/
def Sensor.status (x : Sensor) : Nat := bit 7 x.broken + bit 6 x.suspect + bit 5 x.grad + bit 4 x.model + bit 3 x.maxsub

/-! ## The commands -/

/-- The states in which a group is sampled (R363). -/
def Dev.sampled (d : Dev) (die : Bool) : Bool :=
  d.inRun || d.power.state = .safe || d.power.state = .holdup || (die && d.power.state = .standby)

def execDieSample (temps : List Int) (s : State) : Host.Outcome State Fault Refusal :=
  .next (s.coreBody fun b => if b.d.sampled true then latchIf 0 (b.onDev (Dev.dieSample temps)) else b)
def execRemoteSample (ratios : List Nat) (s : State) : Host.Outcome State Fault Refusal :=
  .next (s.coreBody fun b => if b.d.sampled false then latchIf 1 (b.onDev (Dev.remoteSample ratios)) else b)
def execStageSample (mv : List Nat) (s : State) : Host.Outcome State Fault Refusal :=
  .next (s.core fun t d => if d.sampled false then d.stageSample mv t else d)
def execDieConverterMissing (intervals : Nat) (s : State) : Host.Outcome State Fault Refusal :=
  .next (s.core (Dev.dieConverterMissing intervals))

end Sys2Proof.Machine
end

