-- ==== Sys2Proof/Machine/Pool.lean ====
section
/-!
DEFINITION. Machine/Pool.lean: the telemetry pool (R479 to R485): opening, filling, reclaiming and freeing buffers.
-/
namespace Sys2Proof.Machine

def Dev.pool' (d : Dev) (f : Pool → Pool) : Dev := { d with pool := f d.pool }

def Dev.prioOf (d : Dev) (c : Nat) : Nat := d.nat (0x2590 + c) 2
def Dev.reservedOf (d : Dev) (c : Nat) : Nat := d.nat (0x2590 + c) 3
def Pool.held (p : Pool) (c : Nat) : Nat := (p.buffers.filter fun b => b.chan = c).length
/-- A buffer that is filled, not open and not under transfer. -/
def Buffer.reclaimable (b : Buffer) : Bool := !b.isOpen && !b.transfer
def Pool.filled (p : Pool) (c : Nat) : Nat := (p.buffers.filter fun b => b.chan = c && b.reclaimable).length
def Pool.chan' (p : Pool) (c : Nat) (f : Chan → Chan) : Pool :=
  if h : c < 24 then { p with chans := upd p.chans ⟨c, h⟩ f } else p

/-- The age of a channel's oldest reclaimable buffer: its place among the buffers in use. -/
def Pool.oldest (p : Pool) (c : Nat) : Option Nat := p.buffers.findIdx? fun b => b.chan = c && b.reclaimable

/-- The channels a channel may take a buffer from (R482). -/
def Dev.candidates (d : Dev) (c : Nat) : List Nat :=
  let below := d.pool.held c < d.reservedOf c
  (List.range 24).filter fun k =>
    d.pool.held k > d.reservedOf k && (below || d.prioOf k ≤ d.prioOf c) && (d.pool.oldest k).isSome

/-- The channel that loses a buffer: the lowest priority, and among equals the one whose oldest is oldest. -/
def Dev.victim (d : Dev) (c : Nat) : Option Nat :=
  match d.candidates c with
  | [] => if (d.pool.oldest c).isSome then some c else none
  | l => l.foldl (fun best k => match best with
      | none => some k
      | some b =>
        if d.prioOf k < d.prioOf b ∨ (d.prioOf k = d.prioOf b ∧ (d.pool.oldest k).getD 0 < (d.pool.oldest b).getD 0) then some k
        else some b) none

/-- Free one buffer for a channel, counting its loss; `none` when no buffer can be taken. -/
def Dev.reclaim (d : Dev) (c : Nat) : Option Dev :=
  match d.victim c with
  | none => none
  | some k =>
    match d.pool.oldest k with
    | none => none
    | some i =>
      let used := ((d.pool.buffers[i]?).map fun b => b.bytes.length).getD 0
      some (d.pool' fun p =>
        { (p.chan' k fun x => { x with lostBuffers := satInc 32 x.lostBuffers, lostBytes := satAdd 32 x.lostBytes used
                                       loss := true }) with
          buffers := p.buffers.eraseIdx i, reclaims := satInc 32 p.reclaims })

/-- Open a buffer for a channel with a first entry; its sequence number follows the channel's last one (R483). -/
def Pool.openBuffer (p : Pool) (c t : Nat) (bytes : List Nat) : Pool :=
  let seq := if h : c < 24 then p.chans[c].seq else 0
  { (p.chan' c fun x => { x with seq := (x.seq + 1) % 65536 }) with
    buffers := p.buffers ++ [{ chan := c, seq := seq, bytes := bytes, time := t, isOpen := true, transfer := false,
                               isPartial := false }] }

/-- Close the open buffer of a channel; PARTIAL says that a read closed it before it was full (Table 18-11). -/
def Pool.close (p : Pool) (c : Nat) (partly : Bool) : Pool :=
  { p with buffers := p.buffers.map fun b =>
      if b.chan = c ∧ b.isOpen then { b with isOpen := false, isPartial := partly && b.bytes.length < 256 } else b }

/-- Whether a channel's open buffer has room for an entry. -/
def Pool.fits (p : Pool) (c n : Nat) : Bool := p.buffers.any fun b => b.chan = c && b.isOpen && b.bytes.length + n ≤ 256

/-- Append an entry to a channel, never splitting it (R480); an entry that finds no buffer is dropped and counted. -/
def Dev.poolAppend (d : Dev) (t c : Nat) (bytes : List Nat) : Dev :=
  if d.pool.fits c bytes.length then
    d.pool' fun p => { p with buffers := p.buffers.map fun b =>
      if b.chan = c ∧ b.isOpen then { b with bytes := b.bytes ++ bytes } else b }
  else
    let d := d.pool' fun p => p.close c false
    if d.pool.buffers.length < 384 then d.pool' fun p => p.openBuffer c t bytes
    else match d.reclaim c with
      | some d => d.pool' fun p => p.openBuffer c t bytes
      | none => d.pool' fun p => p.chan' c fun x => { x with dropped := satInc 32 x.dropped }

/-- Free every buffer of a channel without counting a loss (R485). -/
def Dev.freeChannel (d : Dev) (c : Nat) : Dev := d.pool' fun p => { p with buffers := p.buffers.filter fun b => b.chan ≠ c }

/-! ## Reading (R484, Table 18-11) -/

/-- A channel's oldest filled buffer that is not under transfer. -/
def Pool.next (p : Pool) (c : Nat) : Option Buffer := p.buffers.find? fun b => b.chan = c && b.reclaimable

/-- The buffer a read of a channel transfers: its oldest filled one, else its open one, closed with PARTIAL. -/
def Dev.pickBuffer (d : Dev) (c : Nat) : Except Nat (Dev × Buffer) :=
  match d.pool.next c with
  | some b => .ok (d, b)
  | none =>
    let d := d.pool' fun p => p.close c true
    match d.pool.next c with
    | some b => .ok (d, b)
    | none => .error 0x08000024

/-- The descriptor and the payload of a buffer, 272 bytes. -/
def Buffer.read (b : Buffer) (loss : Bool) : List Nat :=
  [b.chan, ofBool loss + 2 * ofBool b.isPartial] ++ bytesLE 2 b.seq ++ bytesLE 2 b.bytes.length ++ [0, 0] ++ bytesLE 8 b.time ++
    (b.bytes ++ List.replicate (256 - b.bytes.length) 0).take 256

def Dev.lossOf (d : Dev) (c : Nat) : Bool := if h : c < 24 then d.pool.chans[c].loss else false

/-- The last segment of a transfer has been sent: the buffer is freed, and LOSS counts from here. -/
def Dev.freeBuffer (d : Dev) (c seq : Nat) : Dev :=
  d.pool' fun p => { (p.chan' c fun x => { x with loss := false }) with
    buffers := p.buffers.filter fun b => !(b.chan = c && b.seq = seq && !b.isOpen) }

def Dev.markTransfer (d : Dev) (c seq : Nat) (on : Bool) : Dev :=
  d.pool' fun p => { p with buffers := p.buffers.map fun b =>
    if b.chan = c ∧ b.seq = seq ∧ !b.isOpen then { b with transfer := on } else b }

/-- A buffer whose session is gone is a filled one again. -/
def Dev.releaseTransfers (d : Dev) : Dev :=
  let l := (d.portA.sessions ++ d.portB.sessions).filterMap Session.buffer
  d.pool' fun p => { p with buffers := p.buffers.map fun b => { b with transfer := b.transfer && l.contains (b.chan, b.seq) } }

end Sys2Proof.Machine
end

