-- ==== Sys2Proof/Machine/Timers.lean ====
section
/-!
DEFINITION. Machine/Timers.lean: TM0 to TM7 (chapter 15) and the trigger events they give HKADC-B.
-/
namespace Sys2Proof.Machine

def Dev.tm (d : Dev) (n : TimerNo) (sub : Nat) : Nat := d.nat (0x2481 + n.val) sub
/-- The control word of a timer but for RUN, which `Timer.run` holds. -/
def Dev.tmCtl (d : Dev) (n : TimerNo) : Nat := d.tm n 1 % 32768
def Dev.tmRegs (d : Dev) (n : TimerNo) (f : TimerRegs → TimerRegs) : Dev := d.timer' n fun x => { x with regs := f x.regs }
/-- RSV: the charger holds the timer. -/
def Dev.tmReserved (d : Dev) (n : TimerNo) : Bool := d.timer[n].saved.isSome
def Dev.tmWake (d : Dev) (n : TimerNo) : Bool := (d.tmCtl n).testBit 14
/-- Whether a timer counts now: in STANDBY only with WAKE set (R407). -/
def Dev.tmCounts (d : Dev) (n : TimerNo) : Bool := d.timer[n].run && (d.power.state ≠ .standby || d.tmWake n)

/-- PSC, TOP and CMP as written take effect. -/
def Dev.loadTimer (d : Dev) (n : TimerNo) : Dev :=
  if d.tmReserved n then d else d.tmRegs n fun r => { r with psc := d.tm n 2, top := d.tm n 3, cmp := d.tm n 4 }

/-! ## Events -/

/-- A trigger event reaches HKADC-B in mode 0x02: it starts one pass, or is missed while a pass runs (R387). -/
def Dev.hkTrigger (d : Dev) (code : Nat) : Dev :=
  if d.nat 0x2441 1 ≠ 2 || d.nat 0x2441 3 ≠ code || d.conv.taken || d.conv.b.excluded || d.power.state = .standby then d
  else if d.conv.running then d.conv' fun c => { c with missed := satInc 32 c.missed }
  else d.conv' fun c => { c with running := true, b := { c.b with entry := 0 } }

/-- An event of a timer: a converter trigger, and a wake where WAKE is set (R33). -/
def Dev.timerEvent (d : Dev) (t : Nat) (n : TimerNo) (code : Nat) : Dev :=
  (d.hkTrigger code).when (d.tmWake n) fun d => d.wake t 5

/-- The compare value that the charger loads into TM7 after one has matched (Table 15-1). -/
def nextCompare (cmp : Nat) : Nat := if cmp = 469 then 4688 else if cmp = 4688 then 46875 else 469

def Dev.timerCompareMatch (n : TimerNo) (t : Nat) (d : Dev) : Dev :=
  let r := d.timer[n].regs
  if !d.tmCounts n || r.cmp > r.top then d else
  let d := d.tmRegs n fun r => { r with cmf := true, cnt := r.cmp, cmp := if n = 7 && d.tmReserved n then nextCompare r.cmp else r.cmp }
  if !d.tmReserved n && (d.tmCtl n).testBit 9 then d.timerEvent t n n.val else d

/-- A turn-around, at the top while counting up and at the bottom while counting down: HPC advances, the direction changes, and at
the bottom the settings written meanwhile take effect. -/
def Dev.turnAround (n : TimerNo) (top : Bool) (t : Nat) (d : Dev) : Dev :=
  if !d.tmCounts n || d.timer[n].regs.up ≠ top then d else
  let d := d.tmRegs n fun r => { r with cnt := if top then r.top else 0, up := !top, hpc := (r.hpc + 1) % 256
                                        ttf := r.ttf || top, tbf := r.tbf || !top }
  let d := if top then d else d.loadTimer n
  if !d.tmReserved n && (d.tmCtl n).testBit (if top then 8 else 7) then d.timerEvent t n (0x10 + n.val) else d

/-- Whether an accepted edge is of the kind that EDGE selects. -/
def edgeSelected (edge : Nat) (rising : Bool) : Bool := edge = 2 || (edge = 0 && rising) || (edge = 1 && !rising)

/-- Input capture (R404): the word of Table 15-3. -/
def Dev.capture (n : Fin 4) (rising : Bool) (samples counter : Nat) (d : Dev) : Dev :=
  let k : TimerNo := ⟨n.val, by omega⟩
  let ctl := d.tmCtl k
  if !d.tmCounts k || ctl / 4096 % 4 ≠ 2 || samples < d.tm k 8 || !edgeSelected (ctl / 1024 % 4) rising then d else
  d.tmRegs k fun r =>
    if (r.edges + 1) % 2 ^ d.tm k 9 ≠ 0 then { r with edges := r.edges + 1 }
    else { r with edges := r.edges + 1, cnt := counter % 65536, cpf := true, ovc := r.ovc || r.cpf
                  word := r.hpc * 2 ^ 24 + ofBool r.up * 2 ^ 16 + counter % 65536 }

/-- The level of TIOn in output mode (R403). -/
def Dev.tioLevel (d : Dev) (n : Fin 4) : Bool :=
  let k : TimerNo := ⟨n.val, by omega⟩
  let r := d.timer[k].regs
  decide (r.cnt < r.cmp) != (d.tmCtl k).testBit 6

/-! ## Starting and stopping (R406) -/

/-- RUN is set; a timer that starts restarts its edge count, and from a counter of 0 its half-period count. One whose counter stands
above TOP counts down first (R400). -/
def Timer.start (x : Timer) : Timer :=
  if x.run then x
  else { x with run := true, regs := { x.regs with
    edges := 0, hpc := if x.regs.cnt = 0 then 0 else x.regs.hpc
    up := if x.regs.cnt > x.regs.top then false else x.regs.up || x.regs.cnt = 0 } }

/-- The charger takes TM6 and TM7 once the host has stopped them (R298). -/
def Dev.afterStop (d : Dev) : Dev :=
  if d.chg.timerHold ∧ !d.timersBusy then
    (if d.chg.phase = .disabled ∨ d.chg.phase = .done then d.chg' fun c => { c with timerHold := false } else d.takeTimers)
  else d

def Dev.setRun (d : Dev) (n : TimerNo) (on : Bool) : Dev :=
  if on then d.timer' n Timer.start else (d.timer' n fun x => { x with run := false }).afterStop

/-- A global start or stop; one that names a reserved timer is refused whole. -/
def Dev.globalRun (d : Dev) (mask : Nat) (on : Bool) : Except Nat Dev :=
  let l := (List.finRange 8).filter fun n => mask.testBit n.val
  if l.any d.tmReserved then .error 0x08000022 else .ok (l.foldl (fun d n => d.setRun n on) d)

/-! ## Writes to a record (R400, R402, R408) -/

/-- The checks of a write to a timer's record against its state: step 9 of Table 18-4. -/
def Dev.timerMayWrite (d : Dev) (n : TimerNo) (sub : Nat) (v : Nat) : Bool :=
  !d.tmReserved n &&
    (!d.timer[n].run || (sub ≠ 5 && sub ≠ 8 && sub ≠ 9 && (sub ≠ 1 || v / 1024 % 16 = d.tmCtl n / 1024 % 16)))

/-- Clear the flags written 1 (R402). -/
def TimerRegs.clearFlags (r : TimerRegs) (v : Nat) : TimerRegs :=
  { r with cmf := r.cmf && !v.testBit 7, ttf := r.ttf && !v.testBit 6, tbf := r.tbf && !v.testBit 5
           cpf := r.cpf && !v.testBit 4, ovc := r.ovc && !v.testBit 3 }

/-- The effect of a write to a subindex of a timer's record that has passed its checks. -/
def Dev.timerWritten (d : Dev) (n : TimerNo) (sub v : Nat) : Dev :=
  if sub = 1 then (d.setLive (0x2481 + n.val) 1 (v % 32768 : Nat)).setRun n (v.testBit 15)
  else if sub = 5 then d.tmRegs n fun r => { r with cnt := v % 65536 }
  else if sub = 6 then d.tmRegs n fun r => r.clearFlags v
  else
    let d := d.setLive (0x2481 + n.val) sub v
    if d.timer[n].run then d else d.loadTimer n

/-! ## Loading (column L of Table 2-7) -/

/-- The control word as store parameters saves it, RUN with it. -/
def Dev.tmControl (d : Dev) (n : TimerNo) : Nat := d.tmCtl n + bit 15 d.timer[n].run

/-- The timers take the settings that have just been loaded, and a stored RUN starts its timer. -/
def Dev.loadTimers (d : Dev) : Dev :=
  (List.finRange 8).foldl (fun d n => (d.loadTimer n).when ((d.tm n 1).testBit 15) fun d => d.timer' n Timer.start) d

/-! ## Reads -/

/-- Flags, 0x2481+n:06 (Table 15-5). -/
def Dev.timerFlags (d : Dev) (n : TimerNo) : Nat :=
  let r := d.timer[n].regs
  bit 7 r.cmf + bit 6 r.ttf + bit 5 r.tbf + bit 4 r.cpf + bit 3 r.ovc + bit 2 r.up + bit 1 (d.tmReserved n)

/-- A subindex of a timer's record; while reserved it reads what the charger loaded (R408). -/
def Dev.timerRead (d : Dev) (n : TimerNo) (sub : Nat) : Nat :=
  let x := d.timer[n]
  match sub with
  | 1 => (if d.tmReserved n then 0 else d.tmCtl n) + bit 15 x.run
  | 2 => if d.tmReserved n then x.regs.psc else d.tm n 2
  | 3 => if d.tmReserved n then x.regs.top else d.tm n 3
  | 4 => if d.tmReserved n then x.regs.cmp else d.tm n 4
  | 5 => x.regs.cnt
  | 6 => d.timerFlags n
  | 7 => x.regs.word
  | k => d.tm n k

/-! ## The commands -/

def execTimerCompareMatch (n : TimerNo) (s : State) : Host.Outcome State Fault Refusal :=
  .next (s.core (Dev.timerCompareMatch n))
def execTurnAround (n : TimerNo) (top : Bool) (s : State) : Host.Outcome State Fault Refusal :=
  .next (s.core (Dev.turnAround n top))
def execCapture (n : Fin 4) (rising : Bool) (samples counter : Nat) (s : State) : Host.Outcome State Fault Refusal :=
  .next (s.core fun _ => Dev.capture n rising samples counter)

end Sys2Proof.Machine
end

