-- ==== Sys2Proof/Machine/Converters.lean ====
section
/-!
DEFINITION. Machine/Converters.lean: HKADC-A and HKADC-B (chapter 14): regular and injected sequences, the data register, the
cross-check and exclusions. A node is written as an entry of Table 14-2 with channel and member alone.
-/
namespace Sys2Proof.Machine

/-! ## Channels (Table 14-1) -/

/-- The members of a bank channel; 1 for a channel that is no bank. -/
def bankSize (ch : Nat) : Nat :=
  if ch = 0x0E then 6 else if ch = 0x0C ∨ ch = 0x0D ∨ (0x0F ≤ ch ∧ ch ≤ 0x12) then 8 else 1
def isBank (ch : Nat) : Bool := bankSize ch > 1

/-- Sample cycles of an SMP code (Table 14-3) and the least a channel admits. -/
def sampleCycles (smp : Nat) : Nat := if smp < 4 then 2 * (smp + 1) else 2 ^ smp
def minCycles (ch : Nat) : Nat := if ch ≤ 0x0D ∨ ch = 0x1A ∨ ch = 0x1D ∨ ch = 0x1E then 2 else 16

def entryCh (e : Nat) : Nat := e % 32
def entrySub (e : Nat) : Nat := e / 256 % 8
def entryScan (e : Nat) : Bool := e.testBit 11
def entryDiff (e : Nat) : Bool := e.testBit 15

/-- Whether HKADC-B accepts an entry of its regular sequence (R379); reserved bits are masked before (R5). -/
def entryValid (e : Nat) : Bool :=
  let ch := entryCh e
  (!entryDiff e || ch = 0x08 || ch = 0x0A) && (isBank ch || (!entryScan e && entrySub e = 0)) && entrySub e < bankSize ch &&
    sampleCycles (e / 4096 % 8) ≥ minCycles ch && ch ≠ 0x11 && ch ≠ 0x1F

/-- The channels of HKADC-A's regular sequence (Table 14-4). -/
def tableA : List Nat :=
  [0x0C, 0x0D, 0x0E, 0x0F, 0x10, 0x11, 0x12, 0x16, 0x17, 0x14, 0x15, 0x18, 0x19, 0x1D, 0x1A, 0x1F]

/-- The rotating nodes of HKADC-B's injected sequence (R386): 52 in all. -/
def rotation : List Nat :=
  [0x14, 0x15, 0x18, 0x19, 0x1D, 0x1A] ++
    [0x0C, 0x0D, 0x0E, 0x0F, 0x10, 0x12].flatMap fun ch => (List.range (bankSize ch)).map fun m => m * 256 + ch

/-! ## Exclusion (Table 14-6) -/

/-- HKADC-B's host sequence stops and its mode reads 0x00. -/
def Dev.stopHost (d : Dev) : Dev :=
  (d.setLive 0x2441 1 0).conv' fun c => { c with running := false, finishing := false }

/-- With both converters excluded every TN and TMON input counts as broken (Table 14-6, R361). -/
def Dev.inputsLost (d : Dev) (t : Nat) : Dev :=
  if !d.noConverter then d else
  let d := (allSensors.filter fun n => n.val ≥ 12).foldl (fun d n => d.sensor' n fun x => { x with broken := true, inRange := 0 }) d
  (((d.raise t 82 0).raise t 83 0).tempWindow).acceptCheck t

def Dev.excludeA (d : Dev) (t : Nat) : Dev :=
  if d.conv.a.excluded then d else
  let d := d.conv' fun c => { c with a := { c.a with excluded := true, inTest := d.power.test } }
  let d := if d.conv.b.excluded then d else d.stopHost.conv' fun c =>
    { c with taken := true, b := { c.b with entry := 0, scan := 0, ranInPass := false } }
  ((d.raise t 93 0).packVoltage t false).inputsLost t

def Dev.excludeB (d : Dev) (t : Nat) : Dev :=
  if d.conv.b.excluded then d else
  let d := d.stopHost.conv' fun c => { c with taken := false, b := { c.b with excluded := true, inTest := d.power.test } }
  (d.raise t 94 0).inputsLost t

/-- The channel of HKADC-A for a node; a second one excludes HKADC-A whole (R392). -/
def Dev.excludeNode (d : Dev) (t node : Nat) : Dev :=
  match d.conv.excludedNode with
  | some n => if n = node then d else d.excludeA t
  | none =>
    let d := (d.conv' fun c => { c with excludedNode := some node, nodeInTest := d.power.test }).raise t 95 0
    if node = 0x16 then d.packVoltage t false else d

/-- One check conversion: two in a row outside 2048 ± 12 fail (R391). -/
def Converter.checked (x : Converter) (code : Nat) : Converter :=
  { x with check := code, checkFails := if 2036 ≤ code ∧ code ≤ 2060 then 0 else x.checkFails + 1 }
def Converter.failsCheck (x : Converter) : Bool := x.checkFails ≥ 2

/-- Exclude every converter that has failed its check. -/
def Dev.checkExclusions (d : Dev) (t : Nat) : Dev :=
  let d := if d.conv.b.failsCheck then d.excludeB t else d
  if d.conv.a.failsCheck then d.excludeA t else d

/-! ## Injected runs (R381, R385) -/

/-- A fifth pending request of HKADC-A's injected sequence is refused: the gauge then gives up its measurement. -/
def Dev.injectedTrigger (c : Conv) (q : Requester) (d : Dev) : Dev :=
  if d.power.state = .standby then d else
  let refuse (d : Dev) := d.conv' fun x => { x with refused := satInc 32 x.refused }
  match c with
  | .cA =>
    if d.conv.a.excluded && !d.conv.taken then d
    else if d.conv.a.pending.length ≥ 4 then
      let d := refuse d
      if q = .gauge then d.gauge' fun g => { g with meas := none } else d
    else d.conv' fun x => { x with a := { x.a with pending := x.a.pending ++ [q] } }
  | .cB =>
    if d.conv.b.excluded || d.conv.taken then d
    else if !d.conv.b.inject then d.conv' fun x => { x with b := { x.b with inject := true } }
    else if d.conv.b.pending = [] then d.conv' fun x => { x with b := { x.b with pending := [q] } }
    else refuse d

/-- The end of a regular conversion of the sequence of Table 14-4: the pending requests then have their one run of the pass. -/
def Converter.stepA (x : Converter) (code : Int) : Converter :=
  let wraps := x.entry ≥ 15
  let ran := if wraps then false else x.ranInPass
  let runs := x.pending ≠ [] && !ran
  { x with last := code, entry := if wraps then 0 else x.entry + 1, passes := if wraps then satInc 32 x.passes else x.passes
           scan := if wraps then x.scan + 1 else x.scan
           inject := runs, ranInPass := ran || runs, pending := if runs then [] else x.pending }

/-! ## Regular results (R382, R383, R388, R389) -/

/-- The member of a bank that an entry converts in a pass. -/
def entryMember (e pass : Nat) : Nat := if entryScan e then pass % bankSize (entryCh e) else entrySub e

/-- A stuck channel's code replaces a result (Table 21-2, kind 0x40). -/
def Dev.stuck (d : Dev) (conv ch member : Nat) (code : Int) : Int × Dev :=
  let x := d.inject [0x40] (0x500 + conv * 128 + ch) fun p =>
    !isBank ch || (p % 4294967296).toNat / 65536 % 8 = member
  match x.1 with
  | some (_, p) => (p % 65536, x.2)
  | none => (code, x.2)

/-- A code as it stands in the data register (R383). -/
def alignCode (left signed : Bool) (code : Int) : Nat :=
  let c : Int := if signed then code else code % 4096
  ((if left then c * 16 else c) % 65536).toNat

/-- The stream word of a result (Table 14-5). -/
def streamWord (entry pass : Nat) (ovr : Bool) (value : Nat) : Nat :=
  entry % 16 * 2 ^ 28 + bit 27 ovr + bit 26 (entry = 0) + pass % 1024 * 2 ^ 16 + value

/-- A result of HKADC-B's host sequence goes to the bound channel or to the data register. -/
def Dev.deliver (d : Dev) (t word : Nat) : Dev :=
  let ch := d.nat 0x2441 5
  if ch < 24 then
    if d.coresRun then (d.conv' fun c => { c with word := word, lost := false, full := false }).poolAppend t ch (bytesLE 4 word)
    else d.conv' fun c => { c with word := word, lost := true, overruns := satInc 32 c.overruns }
  else d.conv' fun c => { c with word := word, full := true, lost := false }

/-- The next entry of the host sequence; in mode 0x02 a pass is followed by a wait for the next trigger. -/
def Hkadc.advance (c : Hkadc) (len mode : Nat) : Hkadc :=
  let wraps := c.b.entry + 1 ≥ len
  let b := { c.b with
    entry := if wraps then 0 else c.b.entry + 1, passes := if wraps then satInc 32 c.b.passes else c.b.passes
    scan := if wraps then c.b.scan + 1 else c.b.scan }
  { c with b := b, running := c.running && !(wraps && mode = 2), finishing := false }

/-- A conversion of HKADC-B's host sequence ends. -/
def Dev.hostResult (d : Dev) (t : Nat) (code : Int) : Dev :=
  let e := d.nat 0x2442 (d.conv.b.entry + 1)
  let x := d.stuck 1 (entryCh e) (entryMember e d.conv.b.scan) code
  let signed := entryDiff e || entryCh e = 0x13
  let value := alignCode (d.nat 0x2441 4 = 1) signed x.1
  let ovr := d.conv.lost || (d.conv.full && d.nat 0x2441 5 ≥ 24)
  let word := streamWord d.conv.b.entry d.conv.b.passes ovr value
  let d := (x.2.deliver t word).conv' fun c => c.advance (d.nat 0x2441 2) (d.nat 0x2441 1)
  d.conv' fun c => { c with b := { c.b with last := value } }

/-- A code as a voltage in mV, of a channel with a full scale in mV (Table 14-1), to the nearest (log entry 12). -/
def codeMv (full : Nat) (code : Int) : Nat := (code.toNat * full + 2048) / 4096

/-- A result of a supply channel stands in the power-path readings (0x2101:01 to :06): DCIN, BATSNS, VSYS, VPRE and HOLD. -/
def Dev.supplyReading (d : Dev) (t ch : Nat) (code : Int) : Dev :=
  match ch with
  | 0x14 => d.path' fun p => { p with dcinMv := codeMv 80000 code }
  | 0x15 => (d.path' fun p => { p with batMv := codeMv 80000 code }).chgReading
  | 0x17 => d.readTrunk t (codeMv 80000 code)
  | 0x18 => d.path' fun p => { p with vpreMv := codeMv 10000 code }
  | 0x19 => d.holdIsReady (codeMv 20000 code)
  | _ => d

/-- The fixed sequence of Table 14-4, on HKADC-A or on HKADC-B in its place; entry 15 is a check conversion. A channel of HKADC-A
that is excluded gives no reading. -/
def Dev.fixedResult (d : Dev) (t : Nat) (onB : Bool) (code : Int) : Dev :=
  let x := if onB then d.conv.b else d.conv.a
  let ch := tableA.getD x.entry 0x1F
  let y := d.stuck (ofBool onB) ch (x.scan % bankSize ch) code
  let y := if !onB && d.conv.excludedNode = some ch then y else (y.1, y.2.supplyReading t ch y.1)
  let put (d : Dev) (f : Converter → Converter) :=
    d.conv' fun c => if onB then { c with b := f c.b } else { c with a := f c.a }
  let d := if x.entry = 15 then put y.2 fun c => c.checked y.1.toNat else y.2
  let d := put d fun c =>
    let c := { c with pending := d.conv.a.pending }
    c.stepA y.1
  let d := d.conv' fun c => { c with a := { c.a with pending := (if onB then c.b else c.a).pending } }
  let d := if onB then d.conv' fun c => { c with b := { c.b with pending := [] } } else d
  d.checkExclusions t

/-- A regular conversion ends. Nothing converts in STANDBY (R390). -/
def Dev.regularConversionEnd (c : Conv) (code : Int) (t : Nat) (d : Dev) : Dev :=
  if d.power.state = .standby then d else
  match c with
  | .cA => if d.conv.a.excluded then d else d.fixedResult t false code
  | .cB =>
    if d.conv.b.excluded then d
    else if d.conv.taken then d.fixedResult t true code
    else if d.conv.running || d.conv.finishing then d.hostResult t code
    else d

/-! ## Cross-check (R386, R392) -/

/-- The node that the rotation, or an exclusion, puts fourth. -/
def Dev.rotatingNode (d : Dev) : Nat :=
  match d.conv.excludedNode with
  | some n => n
  | none => rotation.getD d.conv.rotate 0x14

/-- Compare one node: the third difference in a row above 16 codes is a disagreement, attributed to HKADC-A's channel unless a
converter is excluded, as one is whose check failed in the same run (Table 14-7). -/
def Dev.compareNode (t : Nat) (d : Dev) (x : Nat × Nat × Nat) : Dev :=
  if d.conv.excludedNode = some x.1 then d else
  let differs := ((x.2.1 : Int) - x.2.2).natAbs > 16
  let n := if differs then ((d.conv.counts.get x.1).getD 0) + 1 else 0
  let d := d.conv' fun c => { c with counts := if n = 0 ∨ n ≥ 3 then c.counts.erase x.1 else c.counts.set x.1 n }
  if n < 3 then d else
  let d := (d.conv' fun c => { c with disagreements := satInc 32 c.disagreements }).raise t 92 0
  if !d.conv.a.excluded && !d.conv.b.excluded then d.excludeNode t x.1 else d

/-- An injected run of HKADC-B: the check conversions of both, the four comparisons, and the next rotating node. -/
def Dev.crossCheckRun (m : CrossMeas) (t : Nat) (d : Dev) : Dev :=
  if d.power.state = .standby || d.conv.b.excluded || d.conv.taken || !d.coresRun then d else
  let node := d.rotatingNode
  let d := d.conv' fun c => { c with
    a := if c.a.excluded then c.a else c.a.checked m.checkA, b := { c.b.checked m.checkB with
      inject := c.b.pending ≠ [], pending := [] }
    rotate := if c.excludedNode.isSome then c.rotate else (c.rotate + 1) % 52 }
  let d := if d.conv.excludedNode = some node then d.supplyReading t node m.nodeB else d
  [(0x16, m.mainB, m.mainA), (0x17, m.vsysB, m.vsysA), (0x1F, m.checkB, m.checkA), (node, m.nodeB, m.nodeA)].foldl
    (Dev.compareNode t) (d.checkExclusions t)

/-! ## Host configuration (R387) -/

/-- The state checks of a write to HKADC-B's configuration. -/
def Dev.hkMayWrite (d : Dev) (idx sub : Nat) (v : Nat) : Bool :=
  if idx = 0x2441 ∧ sub = 1 then v = 0 || (d.nat 0x2441 2 ≠ 0 && !d.conv.b.excluded && !d.conv.taken)
  else d.nat 0x2441 1 = 0

/-- A mode that has passed its checks: 0x01 starts at once, 0x02 waits for its trigger, 0x00 lets one result still come. -/
def Dev.hkMode (d : Dev) (mode : Nat) : Dev :=
  let was := d.conv.running
  (d.setLive 0x2441 1 mode).conv' fun c => { c with
    running := mode = 1, finishing := mode = 0 && was
    b := { c.b with entry := if mode = 0 then c.b.entry else 0, scan := if mode = 0 then c.b.scan else 0 } }

/-- The loaded mode takes effect after a reset; one that R387 does not admit reads 0x00. -/
def Dev.hkLoaded (d : Dev) : Dev :=
  let mode := d.nat 0x2441 1
  if mode = 0 then d else if d.hkMayWrite 0x2441 1 mode then d.hkMode mode else d.hkMode 0

/-- A read of 0x2443:01 takes the result while no channel is bound (R389). -/
def Dev.takeResult (d : Dev) : Dev :=
  if d.nat 0x2441 5 < 24 then d else d.conv' fun c => { c with full := false }

/-- Converter status, 0x2440:01 and :02 (Table 14-10). -/
def Dev.convStatus (d : Dev) (onB : Bool) : Nat :=
  let asleep := d.power.state = .standby
  if onB then bit 7 d.conv.b.excluded + bit 6 ((d.conv.running || d.conv.taken) && !asleep && !d.conv.b.excluded) +
    bit 5 d.conv.b.inject + bit 4 d.conv.taken
  else bit 7 d.conv.a.excluded + bit 6 (!d.conv.a.excluded && !asleep) + bit 5 d.conv.a.inject

/-! ## The commands -/

def execInjectedTrigger (c : Conv) (q : Requester) (s : State) : Host.Outcome State Fault Refusal :=
  .next (s.core fun _ => Dev.injectedTrigger c q)
def execRegularConversionEnd (c : Conv) (code : Int) (s : State) : Host.Outcome State Fault Refusal :=
  .next (s.core (Dev.regularConversionEnd c code))
def execCrossCheckRun (m : CrossMeas) (s : State) : Host.Outcome State Fault Refusal := .next (s.core (Dev.crossCheckRun m))

end Sys2Proof.Machine
end

