-- ==== Sys2Proof/Machine/Checks.lean ====
section
/-!
DEFINITION. Machine/Checks.lean: the rules across objects that a write meets at steps 10 and 11 of Table 18-4, judged on effective
values, and the same rules over a stored image or an OTP board configuration (R220, R236, R527, R578).
-/
namespace Sys2Proof.Machine

/-! ## Reserved bits -/

/-- The configuration word of a source after a write: CLASS and RETRY stay, and so does ESC of a class F source (R438). -/
def sourceWord (n v : Nat) : Nat :=
  let esc := if sourceClass n = classF then sourceEsc n else v % 16
  sourceClass n * 0x4000 + v / 0x1000 % 4 * 0x1000 + ofBool (sourceRetry n) * 0x800 + esc

/-- Keep the bits of a mask. -/
def keepBits (v : Int) (m : Nat) : Int := (v.toNat &&& m : Nat)

/-- A value without the bits of reserved and read-only fields, which a write, a stored image and an OTP entry leave at what they
read as (R5, R438). -/
def maskReserved (idx sub : Nat) (v : Int) : Int :=
  if idx = 0x2007 then keepBits v (if sub ≤ 16 then 0x8F else 0x0C)
  else if idx = 0x2142 ∧ sub = 4 then keepBits v 3
  else if 0x2200 ≤ idx ∧ idx ≤ 0x2207 ∧ sub = 0x2D then keepBits v 0xCF
  else if idx = 0x2300 ∧ (sub = 6 ∨ sub = 7) then keepBits v (2 ^ 30 - 1)
  else if idx = 0x24C4 ∧ sub = 7 then keepBits v (2 ^ 30 - 1)
  else if idx = 0x24C4 ∧ sub = 4 then (v.toNat % 65536 ||| 1 : Nat)
  else if (idx = 0x2401 ∨ idx = 0x2402) ∧ sub = 7 then keepBits v 0xFF
  else if 0x2210 ≤ idx ∧ idx ≤ 0x2223 ∧ sub = 1 then keepBits v 0xC7
  else if idx = 0x2442 then keepBits v 0xFF1F
  else if 0x2481 ≤ idx ∧ idx ≤ 0x2488 ∧ sub = 1 then keepBits v 0xFFC0
  else if 0x2481 ≤ idx ∧ idx ≤ 0x2488 ∧ sub = 6 then keepBits v 0xF8
  else if idx = 0x2510 ∧ 1 ≤ sub ∧ sub ≤ 120 then sourceWord (sub - 1) v.toNat
  else v

/-- A setting entry without the bits of reserved fields. -/
def maskEntry (e : Nat × Int) : Nat × Int := (e.1, maskReserved (e.1 / 256) (e.1 % 256) e.2)

/-! ## The rules -/

/-- R69: the sense voltage of the input current limit lies between 5.0 mV and 50.0 mV (µΩ × mA is nV). -/
def Dev.senseOk (d : Dev) : Bool :=
  let nv := d.nat 0x2100 1 * d.nat 0x2100 2
  5000000 ≤ nv && nv ≤ 50000000

/-- R328: the shunt voltage at the declared peak current is at most 80 mV. -/
def Dev.shuntOk (d : Dev) : Bool := d.nat 0x2180 1 * d.nat 0x2180 0x0B ≤ 80000000

/-- Rule 1 of Table 6-3: S samples in each switching period, at most 16 MS/s. -/
def Dev.samplingOk (d : Dev) (r : Rail) : Bool := 60 * d.gr r 4 ≤ d.gr r 3

/-- Rule 2 of Table 6-3: the target crossover is at most a tenth of the sample rate. -/
def Dev.crossoverOk (d : Dev) (r : Rail) : Bool :=
  10 * d.nat 0x2239 (r.val + 1) * d.gr r 3 ≤ 960000000 * d.gr r 4

/-- R115: the drop threshold is at least 10.00 % below the add threshold. -/
def Dev.sheddingOk (d : Dev) (r : Rail) : Bool := d.nat 0x2232 (r.val + 1) + 1000 ≤ d.nat 0x2231 (r.val + 1)

/-- R183: a brake that is enabled ends below its entry threshold. -/
def Dev.brakeOk (d : Dev) (r : Rail) : Bool := d.gr r 0x34 = 0 || d.gr r 0x35 < d.gr r 0x34

/-- R207: the ratio of set-point to declared input lies from 8.50 % to 89.50 %. -/
def Dev.dutyOk (d : Dev) (n : Fin 6) : Bool :=
  let v := d.nat (0x2240 + n.val) 1
  let i := d.nat (0x2240 + n.val) 2
  v = 0 || (850 * i ≤ 10000 * v && 10000 * v ≤ 8950 * i)

/-- R213: the declared input is at least the set-point plus 300 mV. -/
def Dev.headroomOk (d : Dev) (n : Fin 8) : Bool :=
  let v := d.nat (0x2248 + n.val) 1
  v = 0 || v + 300 ≤ d.nat (0x2248 + n.val) 2

/-- The refusal cause of 0x2010:05 on the effective values: duty, headroom, then the budgets of R218; 0 with none. -/
def Dev.budgetCause (d : Dev) : Nat :=
  if (List.finRange 6).any fun n => !d.dutyOk n then 3
  else if (List.finRange 8).any fun n => !d.headroomOk n then 4
  else if d.ibDeclared > 16000000 then 1
  else if d.ldDeclared > 400000 then 2
  else 0

/-- R236 for one branch: what must hold of a fed branch in the sequence. -/
def Dev.feedOk (d : Dev) (b : Branch) : Bool :=
  let f := d.nat 0x2305 (b.val + 1)
  if h : f < 30 then
    let g : Branch := ⟨f, h⟩
    d.onDelay b = 0xFFFF ||
      (d.onDelay g ≠ 0xFFFF && d.onDelay b > d.onDelay g && d.offDelay b < d.offDelay g &&
        (!inMask d.standbySet b || inMask d.standbySet g) && (!inMask d.safeSet b || inMask d.safeSet g))
  else true

def Dev.feedsOk (d : Dev) : Bool := allBranches.all d.feedOk

/-- R240: the warning window is not wider than the fault window. -/
def Dev.windowsOk (d : Dev) (k : Nat) : Bool := d.nat 0x2341 k ≤ d.nat 0x2342 k

/-- R364: warning < throttle < shutdown. -/
def Dev.thresholdsOk (d : Dev) (g : Fin 3) : Bool := d.thr g 1 < d.thr g 2 && d.thr g 2 < d.thr g 3

/-- R414. -/
def Dev.lateOk (d : Dev) : Bool := d.nat 0x24C4 2 + 500 ≤ d.nat 0x24C4 3

/-- The node-ID of client `k` (1 to 4): 0 when its entry registers none (R459). -/
def Dev.clientNode (d : Dev) (k : Nat) : Nat :=
  let v := d.nat 0x1016 k
  if v % 65536 = 0 then 0 else v / 65536 % 256

/-- R459: no entry names this device or a node that another entry names. -/
def Dev.clientsOk (d : Dev) : Bool :=
  let l := ([1, 2, 3, 4].map fun k => d.nat 0x1016 k / 65536 % 256).filter (· ≠ 0)
  l.Nodup && !l.contains d.dict.nodeId

/-- R314: the watched client is a registered heartbeat consumer. -/
def Dev.watchdogClientOk (d : Dev) : Bool :=
  let n := d.nat 0x2142 5
  n = 0 || [1, 2, 3, 4].any fun k => d.clientNode k = n

/-- R296 and Table 11-1. A profile, cell count, voltage or current of 0 is not yet set, and bounds nothing. -/
def Dev.chargeOk (d : Dev) : Bool :=
  let profile := d.nat 0x2140 4
  let cells := d.nat 0x2140 5
  let v := d.nat 0x2140 2
  let i := d.nat 0x2140 3
  (profile = 0 || cells = 0 || (if profile = 1 then 5 ≤ cells && cells ≤ 14 else 6 ≤ cells && cells ≤ 16)) &&
    (v = 0 || (20000 ≤ v && v ≤ 58800 && (profile = 0 || cells = 0 || v ≤ cells * cellMax profile))) &&
    (i = 0 || (500 ≤ i && i ≤ 40000 && d.nat 0x2140 7 ≤ i && i * d.nat 0x2140 0x0F ≤ 60000000)) &&
    (v = 0 || profile = 0 || cells = 0 || (d.preThreshold < d.rechargeThreshold && d.rechargeThreshold < v))

/-- R481: the reserved minima of all channels fit the pool. -/
def Dev.reservedTotal (d : Dev) : Nat := ((List.range 24).map d.reservedOf).sum
def Dev.reservedOk (d : Dev) : Bool := d.reservedTotal ≤ 384

/-- R452: not both ports are disabled. -/
def Dev.portsOk (d : Dev) : Bool := d.flag 0x2004 4 || d.flag 0x2005 4

/-! ## Mapping entries (R472, R473) -/

def entryIndex (e : Nat) : Nat := e / 65536
def entrySubindex (e : Nat) : Nat := e / 256 % 256

/-- The size in bytes of what a mapping entry maps; `none` where it cannot be mapped. -/
def mappedBytes (rx : Bool) (e : Nat) : Option Nat :=
  match row (entryIndex e) (entrySubindex e) with
  | none => none
  | some r =>
    if r.ty = .d ∨ (r.acc ≠ .rwp ∧ (rx ∨ r.acc ≠ .rwro)) ∨ e % 256 ≠ 8 * r.size then none else some r.size

/-- The entries of a mapping in order: 0x1600 + p or 0x1A00 + p. -/
def Dev.mapping (d : Dev) (idx count : Nat) : List Nat := (List.range count).map fun i => d.nat idx (i + 1)

/-- The check of a whole mapping when its count is written. -/
def Dev.mappingCheck (d : Dev) (idx count : Nat) : Option Nat :=
  let rx := idx < 0x1800
  let l := (d.mapping idx count).map (mappedBytes rx)
  if l.any Option.isNone then some 0x06040041
  else if (l.map fun x => x.getD 0).sum > 64 then some 0x06040042
  else none

/-- The rules of a journaled RPDO (R474): its first entry is the sequence number, the others are journaled objects, and its
client is registered. -/
def Dev.journaledMapOk (d : Dev) (p : Nat) : Bool :=
  let l := d.mapping (0x1600 + p) (d.nat (0x1600 + p) 0)
  let journaled (e : Nat) : Bool := match row (entryIndex e) (entrySubindex e) with | some r => r.journaled | none => false
  (match l with | e :: r => e = 0x26450120 && r.all journaled | [] => false) &&
    d.clientNode (d.nat 0x2007 (p + 1) % 4 + 1) ≠ 0

/-! ## The list of rules -/

/-- A rule across objects: whether it holds, the objects whose write it refuses with which abort, and the objects it relates, whose
stored-image entries are refused as a group (R578). -/
structure Rule where
  ok : Dev → Bool
  write : Nat → Nat → Bool
  code : Nat
  group : Nat → Nat → Bool := write

def isFeedObject (idx sub : Nat) : Bool :=
  idx = 0x2301 || idx = 0x2302 || idx = 0x2305 || (idx = 0x2300 && (sub = 6 || sub = 7))

/-- Whether an object is one of subindices 01 to 03 of an IB or LD record, a submission of R219. -/
def isBudgetObject (idx sub : Nat) : Bool := 0x2240 ≤ idx && idx ≤ 0x224F && idx ≠ 0x2246 && idx ≠ 0x2247 && 1 ≤ sub && sub ≤ 3

def railRules (r : Rail) : List Rule :=
  let idx := 0x2200 + r.val
  let sub := r.val + 1
  [{ ok := fun d => d.samplingOk r, write := fun i s => i = idx && (s = 3 || s = 4), code := 0x06090030 },
   { ok := fun d => d.crossoverOk r, write := fun i s => i = 0x2239 && s = sub, code := 0x06090030,
     group := fun i s => (i = 0x2239 && s = sub) || (i = idx && (s = 3 || s = 4)) },
   { ok := fun d => d.sheddingOk r, write := fun i s => (i = 0x2231 || i = 0x2232) && s = sub, code := 0x06090030 },
   { ok := fun d => d.brakeOk r, write := fun i s => i = idx && (s = 0x34 || s = 0x35), code := 0x06090030 }]

def windowRule (k : Nat) : Rule :=
  { ok := fun d => d.windowsOk k, write := fun i s => (i = 0x2341 || i = 0x2342) && s = k, code := 0x06090030 }

def thresholdRule (g : Fin 3) : Rule :=
  { ok := fun d => d.thresholdsOk g, write := fun i s => i = 0x2400 + g.val && 1 ≤ s && s ≤ 3, code := 0x06090030 }

def clientRule : Rule := { ok := fun d => d.clientsOk, write := fun i _ => i = 0x1016, code := 0x06040043 }

/-- Every rule across objects but the budget, the feeds and the mappings. -/
def crossRules : List Rule :=
  [{ ok := fun d => d.senseOk, write := fun i s => i = 0x2100 && (s = 1 || s = 2), code := 0x06090030 },
   { ok := fun d => d.shuntOk, write := fun i s => i = 0x2180 && (s = 1 || s = 0x0B), code := 0x06090030 }] ++
  allRails.flatMap railRules ++ ((List.range 22).map fun k => windowRule (k + 1)) ++ (List.finRange 3).map thresholdRule ++
  [{ ok := fun d => d.lateOk, write := fun i s => i = 0x24C4 && (s = 2 || s = 3), code := 0x06090030 },
   clientRule,
   { ok := fun d => d.watchdogClientOk, write := fun i s => i = 0x2142 && s = 5, code := 0x06090030,
     group := fun i s => (i = 0x2142 && s = 5) || i = 0x1016 },
   { ok := fun d => d.chargeOk, code := 0x06090030
     write := fun i s => i = 0x2140 && ((2 ≤ s && s ≤ 7) || s = 0x0B || s = 0x0F) },
   { ok := fun d => d.reservedOk, write := fun i s => 0x2590 ≤ i && i ≤ 0x25A7 && s = 3, code := 0x06090030 },
   { ok := fun d => d.portsOk, write := fun i s => (i = 0x2004 || i = 0x2005) && s = 4, code := 0x06090030 }]

def feedRule : Rule := { ok := fun d => d.feedsOk, write := isFeedObject, code := 0x06090030 }

/-- The rules of R473 and R474 over the mapping of RPDO or TPDO `p`, as they stand in a configuration that no write makes: the count
fits the entries, and the journaled RPDO that is in use keeps its rules. -/
def mappingRules (p : Nat) : List Rule :=
  [{ ok := fun d => let n := d.nat (0x1600 + p) 0; n = 0 || (d.mappingCheck (0x1600 + p) n).isNone
     write := fun i _ => i = 0x1600 + p, code := 0x06040041 },
   { ok := fun d => let n := d.nat (0x1A00 + p) 0; n = 0 || (d.mappingCheck (0x1A00 + p) n).isNone
     write := fun i _ => i = 0x1A00 + p, code := 0x06040041 },
   { ok := fun d => (d.nat (0x1400 + p) 1).testBit 31 || !(d.nat 0x2007 (p + 1)).testBit 7 || d.journaledMapOk p
     write := fun i s => i = 0x1400 + p && s = 1, code := 0x06040043
     group := fun i s => (i = 0x1400 + p && s = 1) || i = 0x1600 + p || (i = 0x2007 && s = p + 1) || i = 0x1016 }]

/-- The rules that a stored image and an OTP board configuration meet (R527, R578). -/
def imageRules : List Rule := crossRules ++ (List.range 16).flatMap mappingRules

/-- Step 10 of Table 18-4 for an object: the abort of the first broken rule that relates it. -/
def Dev.step10 (d : Dev) (idx sub : Nat) : Option Nat :=
  match (feedRule :: crossRules).find? fun r => r.write idx sub && !r.ok d with
  | some r => some r.code
  | none => if isBudgetObject idx sub && d.budgetCause ≥ 3 then some 0x06090030 else none

/-- Step 11: the integrated-power budget. -/
def Dev.step11 (d : Dev) (idx sub : Nat) : Option Nat :=
  if isBudgetObject idx sub && d.budgetCause ≠ 0 then some 0x0F000002 else none

/-! ## Stored image (R24, R220, R236, R578) -/

/-- A refused stored-image entry (log record kind 0x11). -/
def Dev.logRefused (d : Dev) (t k : Nat) : Dev := d.logEvent t 0x11 (k / 256) 0 (bytesLE 2 (k % 256))

/-- The image in force without the entries of a group, with one record naming the first of them. -/
def Dev.dropGroup (d : Dev) (t : Nat) (relates : Nat → Nat → Bool) : Dev :=
  match d.dict.image.find? fun e => relates (e.1 / 256) (e.1 % 256) with
  | none => d
  | some e =>
    (d.dict' fun x => { x with image := x.image.filter fun e => !relates (e.1 / 256) (e.1 % 256) }).logRefused t e.1

/-- Load a set of entries as the stored-image layer: entries above their ceiling, and groups that break the budget, the feed
rules or another rule across objects, are left out. Judged with no live value in force. -/
def Dev.loadImage (d : Dev) (t : Nat) (entries : ObjMap) : Dev :=
  let entries := entries.map maskEntry
  let bad := entries.filter fun e => !withinCeiling d (e.1 / 256) (e.1 % 256) e.2
  let d := d.dict' fun x => { x with image := entries.filter fun e => withinCeiling d (e.1 / 256) (e.1 % 256) e.2 }
  let d := bad.foldl (fun d e => d.logRefused t e.1) d
  let cause := d.budgetCause
  let d := if cause = 0 then d else (d.dropGroup t isBudgetObject).integ' fun x => { x with refusal := cause }
  (feedRule :: imageRules).foldl (fun d r => if r.ok d then d else d.dropGroup t r.group) d

/-- The rules over communication objects alone, judged again when those objects are rebuilt (Table 18-2). -/
def Dev.checkComm (d : Dev) (t : Nat) : Dev :=
  (clientRule :: (List.range 16).flatMap mappingRules).foldl
    (fun d r => if r.ok d then d else d.dropGroup t fun i s => i < 0x2000 && r.group i s) d

end Sys2Proof.Machine
end

