-- ==== Sys2Proof/Machine/OtpImage.lean ====
section
/-!
DEFINITION. Machine/OtpImage.lean: the OTP board configuration (Tables 20-5 to 20-9): its words and bytes, its entries, its CRC
slots, the check of R529 and what a sound region gives the device.
-/
namespace Sys2Proof.Machine

/-! ## Words and bytes -/

/-- OTP words by word number, row × 8 + word; a word that is not listed is blank. -/
abbrev Words := List (Nat × Nat)

def Words.get (m : Words) (w : Nat) : Nat := ((m.find? fun e => e.1 = w).map Prod.snd).getD 0
def Words.set (m : Words) (w v : Nat) : Words :=
  if v = 0 then m.filter fun e => e.1 ≠ w else (w, v) :: m.filter fun e => e.1 ≠ w

/-- Byte `b` of row `r`. -/
def Words.byte (m : Words) (r b : Nat) : Nat := m.get (r * 8 + b / 8) / 256 ^ (b % 8) % 256

/-- The number spelled by `n` bytes from byte `b` of row `r`, least significant first. -/
def Words.field (m : Words) (r b n : Nat) : Nat := ofBytesLE ((List.range n).map fun i => m.byte (r + (b + i) / 64) ((b + i) % 64))

/-- The bytes of a run of words. -/
def Words.bytes (m : Words) (first count : Nat) : List Nat := (List.range count).flatMap fun i => bytesLE 8 (m.get (first + i))

/-! ## Entries (Table 20-5, R527) -/

/-- A value entry or a ceiling for one subindex. -/
abbrev OtpEntry := (Nat × Int) × Bool

/-- The size in bytes of an object's values in a setting entry. -/
def entrySize (idx : Nat) (r : Row) : Nat :=
  if r.size ≠ 0 then r.size else if idx = 0x2182 then 128 else if 0x2590 ≤ idx ∧ idx ≤ 0x25A7 then 32 else 0

/-- The settings whose home chapters permit a ceiling (R22). -/
def permitsCeiling (idx sub : Nat) : Bool :=
  (idx = 0x2100 && (sub = 2 || sub = 3)) || (0x2210 ≤ idx && idx ≤ 0x2223 && sub = 5) ||
    (0x2200 ≤ idx && idx ≤ 0x2207 && (sub = 1 || sub = 0x10 || sub = 0x25 || sub = 0x2B)) ||
    (0x2240 ≤ idx && idx ≤ 0x224F && (sub = 1 || sub = 3)) || isBranchMask idx sub || (idx = 0x2142 && sub = 2) ||
    (idx = 0x2140 && (sub = 2 || sub = 3)) || (0x2400 ≤ idx && idx ≤ 0x2402 && sub = 3) || (idx = 0x24C4 && sub = 1)

/-- A value as its object's type reads it. -/
def typedValue (r : Row) (size v : Nat) : Int := if r.ty = .s then signExtend (8 * size) v else v

/-- The values of one entry from its bytes; `none` where R527 refuses it. -/
def entryValues (idx sub size : Nat) (ceil : Bool) : Nat → List Nat → Option (List OtpEntry)
  | 0, _ => some []
  | n + 1, bytes =>
    match row idx sub with
    | none => none
    | some r =>
      if !r.stored ∨ entrySize idx r ≠ size ∨ size = 0 ∨ (ceil ∧ !permitsCeiling idx sub) then none
      else (entryValues idx (sub + 1) size ceil n (bytes.drop size)).map fun l =>
        ((key idx sub, typedValue r size (ofBytesLE (bytes.take size))), ceil) :: l

/-- The entries from a word onward, up to the all-zero word or the end of row 126. -/
def parseEntries (m : Words) : Nat → Nat → Option (List OtpEntry)
  | 0, _ => some []
  | fuel + 1, w =>
    let head := m.get w
    if w ≥ 1016 ∨ head = 0 then some [] else
    let idx := head % 65536
    let count := head / 2 ^ 24 % 256
    let size := head / 2 ^ 32 % 32768
    let words := (6 + count * size + 7) / 8
    if count = 0 ∨ w + words > 1016 then none else
    match entryValues idx (head / 65536 % 256) size (head.testBit 47) count ((m.bytes w words).drop 6) with
    | none => none
    | some l => (parseEntries m fuel (w + words)).map fun r => l ++ r

/-- Value entries: the later one of a subindex takes effect. -/
def otpValues (l : List OtpEntry) : ObjMap :=
  l.foldl (fun m e => if e.2 then m else m.set e.1.1 (maskEntry e.1).2) []

/-- Ceilings: the smallest takes effect, and of branch masks the intersection. -/
def otpCeilings (l : List OtpEntry) : ObjMap :=
  l.foldl (fun m e =>
    if !e.2 then m else
    match m.get e.1.1 with
    | none => m.set e.1.1 e.1.2
    | some c =>
      m.set e.1.1 (if isBranchMask (e.1.1 / 256) (e.1.1 % 256) then ((c.toNat &&& e.1.2.toNat : Nat) : Int) else min c e.1.2)) []

/-! ## CRC slots (R528) -/

def boardCrc (m : Words) : Nat := crc32 (m.bytes 384 632)
/-- The content of a CRC slot: the CRC and its complement. -/
def crcSlot (crc : Nat) : Nat := crc + (2 ^ 32 - 1 - crc) * 2 ^ 32
/-- The slots written, 0x2680:06. -/
def rounds (m : Words) : Nat := ((List.range 4).filter fun k => m.get (1016 + k) ≠ 0).length
/-- The lowest blank slot. -/
def blankSlot (m : Words) : Option Nat := (List.range 4).find? fun k => m.get (1016 + k) = 0
/-- The slot that holds the valid CRC: the highest-numbered one that is not blank. -/
def validSlot (m : Words) : Option Nat := (List.range 4).reverse.find? fun k => m.get (1016 + k) ≠ 0
def crcMatches (m : Words) : Bool :=
  match validSlot m with
  | none => false
  | some k => m.get (1016 + k) = crcSlot (boardCrc m)

/-! ## The header (Table 20-9) -/

def hdrXtal (m : Words) : Bool := (m.byte 48 1).testBit 0
def hdrNode (m : Words) : Option Nat :=
  let n := m.byte 48 2
  if (m.byte 48 1).testBit 1 ∧ 1 ≤ n ∧ n ≤ 127 then some n else none
def hdrWindow (m : Words) : Nat := m.byte 48 3 % 4
/-- The WD-C period; 0, and a value outside 2 to 256, leaves the ROM default of 32 ms. -/
def hdrPeriod (m : Words) : Nat :=
  let p := m.field 48 4 2
  if 2 ≤ p ∧ p ≤ 256 then p else 32

/-- The objects the header sets: the phase wiring and the charger's safe defaults. -/
def headerValues (m : Words) : ObjMap :=
  let wiring := (List.range 20).foldl (fun o n => ObjMap.set o (key (0x2210 + n) 1) ((m.byte 48 (14 + n) &&& 0xC7 : Nat))) []
  ((ObjMap.set wiring (key 0x2143 1) (ofBool (m.byte 48 6 ≠ 0))).set (key 0x2143 2) (m.field 48 8 2)).set (key 0x2143 3)
    (signExtend 32 (m.field 48 10 4))

/-- The integrator key (row 49): absent while the key or its complement is blank or the two do not match (R527, R530). -/
def otpKey (m : Words) : Option Nat :=
  let k := m.field 49 0 4
  let c := m.field 49 4 4
  if k ≠ 0 ∧ c ≠ 0 ∧ k + c = 2 ^ 32 - 1 then some k else none

/-! ## The check (R529) -/

/-- R103 for one rail. -/
def Dev.wiringOk (d : Dev) (r : Rail) : Bool :=
  let l := d.phasesOf r
  l = [] || (l.length ≤ 12 && l.any fun p => !d.sapDecl p)

/-- The device with only a region's own entries and ceilings over the ROM defaults. -/
def Dev.withBoard (d : Dev) (m : Words) (l : List OtpEntry) : Dev :=
  let vals := (headerValues m).foldl (fun o e => o.set e.1 e.2) (otpValues l)
  d.dict' fun x => { x with otp := vals, ceil := otpCeilings l, image := [], live := [] }

/-- Whether every value lies within its ceiling and every other rule across objects holds. -/
def Dev.boardRulesOk (d : Dev) : Bool :=
  (d.dict.otp.all fun e => withinCeiling d (e.1 / 256) (e.1 % 256) e.2) && imageRules.all fun r => r.ok d

/-- Whether the safe defaults lie within the ceilings of the objects they replace (R317). -/
def Dev.safeDefaultsOk (d : Dev) : Bool :=
  withinCeiling d 0x2140 2 (d.int 0x2143 2) && withinCeiling d 0x2140 3 (d.int 0x2143 3)

/-- The cause, as CAUSE of Table 20-16, for which the contents of a region fail R529, its CRC apart; 0 when they pass. -/
def Dev.boardContents (d : Dev) (m : Words) : Nat :=
  match parseEntries m 616 400 with
  | none =>
    if allRails.all fun r => (d.withBoard m []).wiringOk r then 6 else 3
  | some l =>
    let x := d.withBoard m l
    if !(allRails.all fun r => x.wiringOk r) then 3
    else if x.budgetCause ≠ 0 || !x.feedsOk then 4
    else if !x.safeDefaultsOk then 5
    else if !x.boardRulesOk || m.byte 48 0 ≠ 1 then 6
    else 0

/-- The whole check of the board-configuration region. -/
def Dev.boardCheck (d : Dev) (m : Words) (badWord : Bool) : Nat :=
  if badWord then 1
  else if m = [] then 0
  else if !crcMatches m then 2
  else d.boardContents m

/-- A sound region gives its values, its ceilings and its header to the device; a failed one gives the restrictive defaults of
Table 20-11. The key is judged on its own (R530). -/
def Dev.applyBoard (d : Dev) (m : Words) (sound : Bool) : Dev :=
  let l := ((if sound then parseEntries m 616 400 else none)).getD []
  let d := if sound && m ≠ [] then d.withBoard m l
    else d.dict' fun x => { x with otp := [], ceil := [], image := [], live := [] }
  let d := d.dict' fun x => { x with key := otpKey m }
  let hdr := sound && m ≠ []
  let node := if hdr then hdrNode m else none
  let d := d.dict' fun x => { x with nodeId := node.getD (0x20 + d.straps.node), nodeFromOtp := node.isSome }
  let d := d.otp' fun x => { x with wdcCode := if hdr then hdrWindow m else 0, wdcMs := if hdr then hdrPeriod m else 32 }
  d.clk' fun c => { c with crystalWanted := hdr && hdrXtal m }

end Sys2Proof.Machine
end

