-- ==== Sys2Proof/Machine/Restart.lean ====
section
/-!
DEFINITION. Machine/Restart.lean: what each column of Table 2-7 does to the state: a core restart, the reset of nRST and NMT
reset-node, NMT reset-communication, and the rebuilding of the core domain at a device power-on reset.
-/
namespace Sys2Proof.Machine

/-! ## Core restart (R18 to R20) -/

/-- Sessions, queued frames and PDO data waiting for a SYNC are lost (R19). -/
def PortSt.restarted (p : PortSt) : PortSt := { p with sessions := [], queued := 0, syncRpdo := [] }

/-- A tuning run in progress ends with outcome 0x16 and starts again from its beginning; the rail keeps the set in force (R20,
R163). -/
def Dev.restartTuning (d : Dev) (t : Nat) : Dev :=
  match d.grove.run with
  | none => d
  | some run =>
    let d := d.grove' fun g => { g with run := none, runNext := run.rail :: g.runNext.filter (· ≠ run.rail) }
    if h : run.rail < 8 then
      let r : Rail := ⟨run.rail, h⟩
      let d := d.grove' fun g => { g with result := upd g.result r fun x => { x with outcome := 0x16, time := t } }
      d.lp' r fun l => { l with tuning := false }
    else d

/-- A shed-set rotation in progress and an insertion whose ramp is not loaded start again from their beginning, with the phase set
in force; a ramp already loaded completes in hardware (R20, R131). -/
def Placement.restarted (x : Placement) : Placement :=
  let x := { x with rotating := none, rotateAgain := x.rotateAgain || x.rotating.isSome }
  match x.insertion with
  | some i =>
    if i.begun then x else
    let manual := i.replaces = none ∧ i.retiring = none
    { x with insertion := none, owed := i.again i.replaces (if manual then some i.phase else none) :: x.owed }
  | none => x

/-- The programming in progress stops with result 0x0A (Table 20-13). -/
def Dev.stopProgramming (d : Dev) : Dev :=
  if d.otp.prog.isNone then d else d.otp' fun o => { o with prog := none, lastResult := 0x0A }

/-- The core-restart column of Table 2-7, under which a buffer under transfer stays filled (Table 18-13); replay of the journal
follows (R504), and WD-C starts its first period (R418). -/
def Dev.coreRestart (d : Dev) (t : Nat) : Dev :=
  let d := ((d.endTest.restartTuning t).stopProgramming).dict' fun x => { x with unlocked := false }
  let d := allRails.foldl (fun d r => d.pl' r Placement.restarted) d
  let d := d.test' fun x => { x with held := [], lateDue := false, lateMsg := none }
  { d with
    portA := d.portA.restarted, portB := d.portB.restarted
    pool := { d.pool with
      buffers := (d.pool.buffers.filter Buffer.transfer).map fun b => { b with transfer := false } }
    wdc := { d.wdc with first := true }, jour := { d.jour with replayDue := true }, nv := { d.nv with waiting := [] } }

/-! ## Settings (R21, R515) -/

/-- The bank with format, CRC and the later sequence number. -/
def Nv.current (n : Nv) : Option (Fin 2) :=
  let a := n.banks[0]
  let b := n.banks[1]
  let va := !a.blank && a.ok
  let vb := !b.blank && b.ok
  if va && vb then (if ((b.seq : Int) - (a.seq : Int)) % 4294967296 < 2147483648 then some 1 else some 0)
  else if va then some 0
  else if vb then some 1
  else none

/-- The live layer is discarded and the stored image loaded (column L); with no valid bank and not both blank, FS105. -/
def Dev.reloadSettings (d : Dev) (t : Nat) : Dev :=
  let d := (d.dict' fun x => { x with live := [], image := [] }).otp' fun o => { o with staged := [] }
  if !d.otp.boardOk then d.setLive 0x2500 7 1 else
  match d.nv.current with
  | some i => (d.nv' fun n => { n with imageStatus := i.val + 1 }).loadImage t d.nv.banks[i].entries
  | none =>
    if d.nv.banks[0].blank && d.nv.banks[1].blank then d.nv' fun n => { n with imageStatus := 0 }
    else (d.nv' fun n => { n with imageStatus := 0xFF }).raise t 105 1

/-- A stored or OTP table found invalid raises FS077 (R335). -/
def Dev.checkOcv (d : Dev) (t : Nat) : Dev := if d.ocvTable ≠ 0 && !ocvValid d.ocvTable then d.raise t 77 0 else d

/-! ## Ports (R452, R457) -/

def portIndex : Port → Nat
  | .a => 0x2004 | .b => 0x2005

/-- The port settings written since take effect; a port held off or off the bus starts again. -/
def Dev.latchPort (d : Dev) (p : Port) : Dev :=
  let i := portIndex p
  Dev.releaseTransfers <| d.port' p fun x => { x.restarted with
    enabled := d.flag i 4, nominal := d.nat i 1, dataRate := d.nat i 2, brs := d.flag i 3
    busOff := false, heldOff := false, passive := false, warning := false, txErr := 0, rxErr := 0, nmt := .init, syncs := 0 }

/-- A port leaves INITIALISATION with a boot-up message. -/
def Dev.bootPort (d : Dev) (p : Port) : Dev :=
  if !(d.port p).enabled then d else (d.port' p fun x => { x with nmt := .preOp }).send (.bootUp p)

/-- NMT reset-communication (Table 18-2): the communication objects are rebuilt, the receiving port initialises. -/
def Dev.resetCommunication (d : Dev) (t : Nat) (p : Port) : Dev :=
  let d := d.dict' fun x => { x with
    live := x.live.filter fun e => e.1 ≥ 0x2000 * 256, unlocked := false, clients := Vector.replicate 4 {}, tpdoLast := []
    image := x.image.filter fun e => e.1 ≥ 0x2000 * 256 }
  let d := match (if d.otp.boardOk then d.nv.current else none) with
    | some i =>
      let l : ObjMap := d.nv.banks[i].entries.filter fun e => e.1 < 0x2000 * 256
      let d := d.dict' fun x => { x with image := l ++ x.image }
      d.checkComm t
    | none => d
  (d.latchPort p).bootPort p

/-! ## nRST and NMT reset-node -/

/-- A timer whose settings are rebuilt: it is stopped, and its capture word alone stays (last row of Table 2-7). -/
def Timer.reset (x : Timer) : Timer := { regs := { word := (x.saved.getD x.regs).word } }

/-- The column of nRST and NMT reset-node in Table 2-7. -/
def Dev.domainReset (d : Dev) (t : Nat) : Dev :=
  let d := ((((d.coreRestart t).reloadSettings t).life' Life.wholeHours).dict' fun x => { x with seqRpdo := 0 })
  let d := { d with timer := d.timer.map Timer.reset, tap := { d.tap with keyed := false }, pool := { d.pool with buffers := [] } }
  let d := d.conv' fun c => { c with running := false, finishing := false, b := { c.b with entry := if c.taken then c.b.entry else 0 } }
  let d := d.loadTimers.hkLoaded
  let d := (d.chgClear t 0x0B).chg' fun c => { c with wdStart := t }
  let d := (d.wdh' Wdh.cleared).latchWdh.dict' fun x => { x with clients := Vector.replicate 4 {}, tpdoLast := [] }
  (((d.th' fun x => { x with checked := false }).latchPort .a).latchPort .b).wdhCheck

def Dev.bootBoth (d : Dev) : Dev := (d.bootPort .a).bootPort .b

/-! ## Device power-on reset (R37, column of Table 2-7) -/

/-- A strap is the majority of its 15 samples; the second result says whether any sample differed (R61). -/
def strapBit (l : List Nat) (i : Nat) : Bool × Bool :=
  let n := (l.filter fun x => x.testBit i).length
  (n ≥ 8, n ≠ 0 && n ≠ l.length)

def sampleStraps (node addr : List Nat) : Straps :=
  let v (l : List Nat) := bitsOf ([0, 1, 2].map fun i => (strapBit l i).1)
  let x (l : List Nat) := bitsOf ([0, 1, 2].map fun i => (strapBit l i).2)
  { node := v node, addr := v addr, disagree := x addr * 8 + x node }

/-- The role of a phase: that of a recorded change, else of the OTP declaration (R105). -/
def Dev.initPhase (d : Dev) (p : Phase) (x : PhaseSt) : PhaseSt :=
  let role : Role := if !d.wired p then .unwired else x.recorded.getD (if d.sapDecl p then .sapling else .available)
  { role := role, recorded := x.recorded, reason := x.reason, roleTime := x.roleTime
    faultKept := role = .retired && x.reason = 1 }

/-- A rail as it starts: its rotation list in ascending phase number (R107), its coefficients the configured ones. -/
def Dev.initRail (d : Dev) (r : Rail) : RailSt :=
  let set := d.shadowSet r
  { lp := { active := set, configured := set }, pl := { order := (d.availableOf r).map Fin.val } }

def Dev.initGrove (d : Dev) (old : Grove) : Dev :=
  let d := { d with grove := { insertions := old.insertions, retirements := old.retirements } }
  let d := allPhases.foldl (fun d p => d.ph' p fun _ => d.initPhase p old.ph[p]) d
  allRails.foldl (fun d r => d.rail' r fun _ => d.initRail r) d

/-- The eight check conversions of one converter (R391). -/
def startCheck (l : List Nat) : Converter × Bool :=
  l.foldl (fun x c =>
    let y := x.1.checked c
    (y, x.2 || y.failsCheck)) ({}, false)

def Dev.checkConverters (d : Dev) (t : Nat) (a b : List Nat) : Dev :=
  let x := startCheck a
  let y := startCheck b
  let d := d.conv' fun c => { c with a := { x.1 with checkFails := 0 }, b := { y.1 with checkFails := 0 } }
  let d := if y.2 then d.excludeB t else d
  if x.2 then d.excludeA t else d

/-- The gauge restores its newest copy, and accounts for the time since its write by Table 12-2 (R354). -/
def Dev.restoreGauge (d : Dev) (t : Nat) (cold ship : Bool) : Dev :=
  let here := d.path.batValid
  match d.gauge.newest with
  | none => (d.gauge' fun g => { g with present := here }).newPackValues.raise t 73 0
  | some (_, c) =>
    let term (v : Nat) : Term := { value := v, taken := if v = 0 then 0 else 4 }
    let unit : Int := 3600 * c.shunt
    let dt := t - c.time
    let drain : Int := 6 * c.shunt * dt / (1000 * 32768)
    let unc : Nat := if ship && c.shipW then 10 * dt / (32768 * 86400)
      else if c.fcc ≤ 0 then 10000
      else min 10000 (10000 * dt * d.nat 0x2180 0x0B / (32768 * 3600 * c.fcc.toNat))
    let d := d.gauge' fun g => { g with
      count := c.count, rc := if ship && c.shipW then max 0 (c.rc - drain) else c.rc
      fcc := c.fcc * unit, rRef := c.rRef, rS := term (c.terms.getD 0 0), rF := term (c.terms.getD 1 0)
      rL := term (c.terms.getD 2 0), cycles := c.cycles, toward := c.toward * unit, disagree := c.disagree, relearn := c.relearn
      present := here, estValid := c.estValid && !cold, uncertainty := if cold then 0 else min 65535 unc
      quality := if cold then 0 else 0x04, wakeDue := !cold && c.estValid && here
      waiting := (cold || !c.estValid) && here, frozen := !here || !c.estValid, fresh := true }
    let d := if c.shunt = d.nat 0x2180 1 then d else d.rescaleShunt c.shunt (d.int 0x2180 1)
    let d := d.gauge' fun g => { g with rcWritten := g.rc }
    if here then d else d.gaugeAbsent

/-- The cascade role (Table 10-1). -/
def Dev.initCascade (d : Dev) : Dev :=
  { d with casc := { units := d.nat 0x2380 1,
                       role := if d.straps.addr ≠ 0 then 2 else if d.nat 0x2380 1 ≥ 2 then 1 else 0 } }


/-- The regions are checked (R529) and their values or restrictive defaults applied (R531). -/
def Dev.checkRegions (d : Dev) (t : Nat) (p : PowerOn) : Dev :=
  let m := d.otp.words
  let cause := d.boardCheck m p.boardBadWord
  let sound := cause = 0 && p.trimsBad = 0
  let status (c : Nat) := if c = 0 then 0x40 else 0xC0 + c % 8
  let d := d.otp' fun o => { o with
    image := m, trims := status p.trimsBad, repair := status p.repairBad, boardFailed := cause ≠ 0, boardEmpty := m = []
    boardCause := cause, boardOk := sound, corrected := satAdd 32 o.corrected p.corrected }
  let d := d.applyBoard m sound
  let bad := (if p.trimsBad ≠ 0 then [1] else []) ++ (if p.repairBad ≠ 0 then [2] else []) ++ (if cause ≠ 0 then [3] else [])
  bad.foldl (fun d r => d.raise t 106 r) d

/-- The device records at start-up: each is taken from the newest valid copy, and FS105 tells of one that has none (R516). -/
def Dev.restoreRecords (d : Dev) (t : Nat) : Dev :=
  let lost (d : Dev) (b : Bool) : Dev := d.when b fun d => d.raise t 105 2
  let r := d.recs
  let x := r.remap.startUp []
  let d := lost (match x.1 with | some l => d.nv' fun n => { n with remap := l } | none => d) x.2
  let x := r.roles.startUp roleDefault
  let d := lost (match x.1 with
    | some l => d.grove' fun g => { g with
        ph := (g.ph.zip (Vector.ofFn fun (i : Fin 20) => i)).map fun y => match l[y.2.val]? with
          | some c => { y.1 with recorded := c.role, reason := c.reason, roleTime := c.time }
          | none => y.1 }
    | none => d) x.2
  let x := r.fail.startUp (none, 0)
  let d := lost (match x.1 with | some c => d.seq' fun s => { s with record := c.1, events := c.2 } | none => d) x.2
  let x := r.misc.startUp miscDefault
  let d := lost (match x.1 with
    | some c => (d.nv' fun n => { n with protection := c.protection, hidden := c.hidden }).th' fun h => { h with
        sensor := (h.sensor.zip (Vector.ofFn fun (i : Fin 28) => i)).map fun y => { y.1 with broken := c.broken.testBit y.2.val } }
    | none => d) x.2
  let x := r.life.startUp lifeDefault
  lost (match x.1 with | some c => { d with life := c } | none => d) x.2

/-- The device power-on reset of the core domain, up to the boot-up messages. The journal replay and the common start follow as
commands of their own. -/
def Dev.powerOnReset (d : Dev) (t : Nat) (cold : Bool) (p : PowerOn) : Dev :=
  let ship := d.power.state = .ship
  let d := { d.kept with straps := sampleStraps p.node p.addr }
  let d := (d.path' fun x => { x with
      vpreMv := p.vpreMv, holdMv := p.holdMv, vsysMv := p.vsysMv, capTimed := p.holdMv ≥ 6000 }).power' fun x => { x with lastTime := t }
  let d := (d.checkRegions t p).restoreRecords t
  let old := d.grove
  let d := d.initCascade
  let d := (d.reloadSettings t).initCascade.latchWdh
  let d := (((d.initGrove old).checkConverters t p.checkA p.checkB).checkOcv t).loadTimers.hkLoaded
  let d := (d.path' fun x => x.driveD x.dcinPair).supplementQuiet
  let d := (d.restoreGauge t cold ship).chg' fun c => { c with wdStart := t }
  let d := d.chgClear t 0
  let d := d.life' fun l => { l with powerOns := satInc 32 l.powerOns }
  ((d.latchPort .a).latchPort .b).bootBoth

end Sys2Proof.Machine
end

