-- ==== Sys2Proof/Machine/Watchdogs.lean ====
section
/-!
DEFINITION. Machine/Watchdogs.lean: WD-C and WD-H (chapter 16). Ticks count from the start of the present period.
-/
namespace Sys2Proof.Machine

/-! ## Core restarts of the whole body -/

/-- A reset is recorded in the heartwood retained registers (0x2041). -/
def Heartwood.caused (h : Heartwood) (cause : Nat) : Heartwood := { h with lastCause := cause, lastResetTime := h.counter }

/-- A core restart with its cause (Table 2-3). -/
def Body.restart (b : Body) (cause : Nat) : Body := { b with hw := b.hw.caused cause, d := b.d.coreRestart b.hw.counter }

/-! ## WD-C (R415 to R419) -/

/-- The ticks of the present WD-C period: 256 ms in the first one. -/
def Dev.wdcPeriod (d : Dev) : Nat := wdTicks (if d.wdc.first then 256 else d.otp.wdcMs)

/-- The tick at which its window opens (Table 16-1); at once in the first period. -/
def Dev.wdcOpens (d : Dev) : Nat := if d.wdc.first then 0 else (d.otp.wdcCode % 4 + 2) * d.wdcPeriod / 8

/-- WD-C counts unless the cores are held. -/
def Dev.wdcRuns (d : Dev) : Bool := d.power.coreOn && !d.power.nrstLow && !d.wdc.halted

/-- A WD-C failure: core restart with cause 0x04, its source, and the retained count (R417). -/
def Body.wdcFails (b : Body) (reason : Nat) : Body :=
  let b := b.restart 0x04
  let hw := { b.hw with wdcResets := satInc 16 b.hw.wdcResets, wdcTime := b.hw.counter }
  let d := ({ b.d with wdc := { b.d.wdc with reason := reason } }).raise b.hw.counter (115 + reason) reason
  { b with hw := hw, d := d }

/-- A stamped write of the service register (R416). -/
def wdcService (key stamp : Nat) (b : Body) : Body :=
  if !b.d.wdcRuns then b
  else if key ≠ 0x5EED then b.wdcFails 2
  else if stamp < b.d.wdcOpens || stamp ≥ b.d.wdcPeriod then b
  else { b with d := { b.d with wdc := { b.d.wdc with first := false } } }

/-- Tick N is reached without a service. -/
def wdcExpiry (tick : Nat) (b : Body) : Body := if b.d.wdcRuns && tick ≥ b.d.wdcPeriod then b.wdcFails 1 else b

/-! ## WD-H (R420 to R429) -/

/-- Whether debug access is open (R553). -/
def Dev.debugOpen (d : Dev) : Bool := !d.tap.lockBlown && (d.dict.key.isNone || d.tap.keyed)

/-- WD-H freezes while HFRZ is high and debug access is open (R428). -/
def Dev.wdhFrozen (d : Dev) : Bool := d.wdh.hfrz && d.debugOpen

/-- Whether check-ins are judged (R421). -/
def Dev.wdhJudges (d : Dev) : Bool := d.wdh.armed && !d.wdhHeld && !d.wdhFrozen && d.wdh.action.isNone

/-- A period begins with the limits and the mask as written now; the first one, of grace, is set by arming (R429). -/
def Dev.wdhPeriod (d : Dev) : Dev :=
  let n := wdTicks (d.nat 0x24C4 1)
  d.wdh' fun w => { w with
    grace := false, tally := 0, early := n * d.nat 0x24C4 2 / 10000, late := n * d.nat 0x24C4 3 / 10000
    mask := d.nat 0x24C4 4 % 65536 ||| 1 }

/-- Begin the failure action of Table 16-3; in SAFE, actions 0x01 and 0x02 give the pulse of action 0x00 (Table 16-4). -/
def Dev.wdhAct (d : Dev) (t reason : Nat) : Dev :=
  let code := d.nat 0x24C4 6
  let code := if d.power.state = .safe || d.enteringSafe || d.seq.order = .safeOn then 0 else code
  let d := d.latchWdh.wdh' fun w => { w with action := some code, groupOn := false }
  match code with
  | 0 => d.wdh' fun w => { w with hrstLow := true, readBack := false }
  | 1 => (d.seq' fun s => { s with groupDue := true }).seqCheck t
  | _ => d.safeReaction t (d.failureNow t 2 0xFE 0 reason)

/-- A WD-H failure (R423, R426): the period ends, FS118 is raised, which also wakes STANDBY, and the action follows. -/
def Body.wdhFails (b : Body) (reason task missing : Nat) : Body :=
  let t := b.hw.counter
  let d := b.d.wdh' fun w => { w with
    armed := false, armDue := false, grace := false, tally := 0, reason := reason, task := task, missing := missing, failTime := t }
  { b with hw := { b.hw with wdhFails := satInc 16 b.hw.wdhFails }, d := (d.raise t 118 reason).wdhAct t reason }

/-- The form of a check-in (R420). -/
def checkInTask (v : Int) : Option Nat := if 0x7A110000 ≤ v ∧ v ≤ 0x7A11000F then some (v - 0x7A110000).toNat else none

def Dev.ignoreCheckIn (d : Dev) : Dev := d.wdh' fun w => { w with ignored := satInc 32 w.ignored }

/-- A stamped check-in, judged by the first matching row of Table 16-2; the abort of the write, if it is refused. -/
def Body.checkIn (b : Body) (v : Int) (stamp : Nat) : Body × Option Nat :=
  let w := b.d.wdh
  match checkInTask v with
  | none => (if b.d.wdhJudges then b.wdhFails 5 0xFF 0 else { b with d := b.d.ignoreCheckIn }, some 0x06090030)
  | some k =>
    if !b.d.wdhJudges then ({ b with d := b.d.ignoreCheckIn }, none)
    else if !w.mask.testBit k then (b.wdhFails 4 k 0, none)
    else if w.tally.testBit k then (b.wdhFails 3 k 0, none)
    else if stamp < w.early then (b.wdhFails 1 k 0, none)
    else if stamp ≥ w.late then (b.wdhFails 2 0xFF (w.mask &&& (65535 - w.tally)), none)
    else
      let d := b.d.wdh' fun w => { w with tally := w.tally + 2 ^ k, last := v.toNat }
      ({ b with d := if d.wdh.tally = w.mask then d.wdhPeriod else d }, none)

/-- Tick L, or the end of grace, is reached before completion. -/
def wdhLate (grace : Bool) (tick : Nat) (b : Body) : Body :=
  if !b.d.wdhJudges || b.d.wdh.grace ≠ grace || tick < b.d.wdh.late then b
  else b.wdhFails 2 0xFF (b.d.wdh.mask &&& (65535 - b.d.wdh.tally))

def Dev.nhrstPulseEnd (sinceMs : Nat) (d : Dev) : Dev :=
  if !d.wdh.hrstLow || sinceMs < d.wdh.width then d
  else (d.wdh' fun w => { w with hrstLow := false }).wdhActionDone

/-- FS119 once per pulse (R427). -/
def Dev.nhrstReadBack (high : Bool) (t : Nat) (d : Dev) : Dev :=
  if !d.wdh.hrstLow || !high || d.wdh.readBack then d
  else (d.wdh' fun w => { w with readBack := true }).raise t 119 0

def Dev.hfrzLevel (high : Bool) (d : Dev) : Dev := d.wdh' fun w => { w with hfrz := high }

/-- WD-H status, 0x24C6:01 (Table 16-7), but for WINDOW, which follows the present tick. -/
def Dev.wdhStatus (d : Dev) : Nat :=
  bit 15 d.wdh.armed + bit 14 d.wdh.grace + bit 13 d.wdhHeld + bit 12 d.wdhFrozen + bit 11 d.wdh.action.isSome

/-! ## The commands -/

def execWdCService (key stamp : Nat) (s : State) : Host.Outcome State Fault Refusal := .next (s.coreBody (wdcService key stamp))
def execWdCExpiry (tick : Nat) (s : State) : Host.Outcome State Fault Refusal := .next (s.coreBody (wdcExpiry tick))
def execWdHMissing (tick : Nat) (s : State) : Host.Outcome State Fault Refusal := .next (s.coreBody (wdhLate false tick))
def execGraceEnd (tick : Nat) (s : State) : Host.Outcome State Fault Refusal := .next (s.coreBody (wdhLate true tick))
def execNhrstPulseEnd (sinceMs : Nat) (s : State) : Host.Outcome State Fault Refusal :=
  .next (s.core fun _ => Dev.nhrstPulseEnd sinceMs)
def execNhrstReadBack (high : Bool) (s : State) : Host.Outcome State Fault Refusal := .next (s.core (Dev.nhrstReadBack high))
def execHfrz (high : Bool) (s : State) : Host.Outcome State Fault Refusal := .next (s.core fun _ => Dev.hfrzLevel high)

end Sys2Proof.Machine
end

