-- ==== Sys2Proof/Machine/Resets.lean ====
section
/-!
DEFINITION. Machine/Resets.lean: the resets, clocks and wakes of chapter 2, and the word errors of the SRAM.
-/
namespace Sys2Proof.Machine

/-! ## Power-on and brown-out (R37, R66, R86) -/

/-- The supply level at which the heartwood domain starts and the one below which it resets, in mV (R66). -/
def heartwoodStartMv : Nat := 10000
def heartwoodResetMv : Nat := 8000

/-- The heartwood domain as its power-on reset leaves it; a thermal latch that it releases is its cause (R35, Table 2-3). -/
def Heartwood.resets (h : Heartwood) (powered : Bool) : Heartwood :=
  { powered := powered, lastCause := if h.thermalLatch then 0x09 else 0x01, powerOnCount := 0 }

/-- OFF: both domains are without supply. -/
def Dev.off (d : Dev) : Dev :=
  (((d.power' fun p => { p with state := .off, brownOut := false }).unpowered).path' fun p => { p with dcinValid := false, batValid := false })

/-- The higher of DCIN and BATSNS crosses a level of R66: below 8.0 V the heartwood domain undergoes its power-on reset and has no
supply; it starts again above 10.0 V, with the cause that the reset left. -/
def heartwoodReset (dcinMv batMv : Nat) (b : Body) : Body :=
  let v := max dcinMv batMv
  if v < heartwoodResetMv ∧ b.hw.powered then { b with hw := b.hw.resets false, d := b.d.off }
  else if v > heartwoodStartMv ∧ !b.hw.powered then { b with hw := { b.hw with powered := true } }
  else b

/-- The level that VPRE must exceed for the core domain to leave its reset, as the table of operations gives it. -/
def vpreRelease : Nat := 4650

/-- A device power-on reset, once VPRE has risen on an unpowered core domain that neither the latch nor SHIP holds off. It
completes a heartwood power-on or a brown-out reset, whose cause then stands (R37, R38). -/
def devicePowerOn (p : PowerOn) (b : Body) : Body :=
  if b.d.power.coreOn || !b.hw.powered || b.hw.thermalLatch || b.hw.shipHold || p.vpreMv ≤ vpreRelease then b else
  let cold := b.hw.powerOnCount = 0
  let cause := if cold then b.hw.lastCause else if b.d.power.brownOut then 0x03 else 0x02
  let hw := { b.hw.caused cause with powerOnCount := satInc 16 b.hw.powerOnCount }
  { b with hw := hw, d := b.d.powerOnReset b.hw.counter cold p }

/-- VPRE below its reset level: every pin of the core domain returns to its reset state at once (R59), and the domain is in reset
until VPRE recovers. Past the point of no return of a ship entry, the entry completes instead (R87). -/
def Dev.brownOutReset (vpreMv t : Nat) (d : Dev) : Dev :=
  if vpreMv ≥ 4200 ∨ d.path.ship = .pastReturn then d else
  let d := (d.noteHoldup t).life' fun l => { l with brownOuts := satInc 32 l.brownOuts }
  (d.power' fun p => { p with brownOut := true, test := false }).unpowered

/-! ## nRST and the control cores (R39, R572) -/

/-- The states of the sequencer that nRST holds (Table 9-3). -/
def SeqState.holds (s : SeqState) : Bool := s ∈ [.onOrder, .abort, .pause, .offOrder, .safeOn, .safeOff]

/-- A slave that resets searches for its link again, unless it stands in CONFLICT (R262, R276), and applies no cascade entry until
the master tells it to (R284). -/
def Dev.cascadeReset (d : Dev) : Dev :=
  let d := d.casc' fun c => { c with
    link := if c.link = .conflict then .conflict else .search, validBeacons := 0, startArmed := false, announced := false, segments := []
    segCount := 0, segGot := 0, vote := 0, voteTag := 0xFFFF, replyDue := false }
  d.jour' fun j => { j with entries := j.entries.map fun e => if e.cascade then { e with going := false } else e }

/-- How long nRST must be low: 1200 BCLK cycles, in STANDBY 250 cycles of the reference (R572). -/
def Dev.nrstCycles (d : Dev) : Nat := if d.power.state = .standby then 250 else 1200

/-- nRST is low: the cores are in reset and serve nothing, TEST ends, and the sequencer holds. Hardware goes on with the values
last loaded (R18); what the reset rebuilds is rebuilt at the release. -/
def nrstLow (cycles : Nat) (b : Body) : Body :=
  if cycles < b.d.nrstCycles || b.d.power.nrstLow then b else
  let d := b.d.endTest.power' fun p => { p with nrstLow := true }
  { b with hw := b.hw.caused 0x06
           d := if d.seq.state.holds then d.seq' fun s => { s.sync b.hw.counter with before := s.state, state := .held } else d }

/-- nRST is released: the restart takes its effects, the ports boot, the sequencer resumes, and the failed starts that arose
meanwhile are acted on as they stood (R246). -/
def Dev.nrstRelease (t : Nat) (d : Dev) : Dev :=
  if !d.power.nrstLow then d else
  let d := ((((d.domainReset t).cascadeReset).power' fun p => { p with nrstLow := false })).bootBoth
  let fails := d.seq.heldFail
  let d := if d.seq.state = .held then d.seq' fun s => { s.sync t with state := s.before, heldFail := [] } else d
  (fails.foldl (fun d f => d.failedStartAs t f) d).seqCheck t

/-- NMT reset-node of the whole device: as nRST, and the ports boot at once (Table 2-3). -/
def resetNode (b : Body) : Body :=
  { b with hw := b.hw.caused 0x07, d := ((b.d.domainReset b.hw.counter).cascadeReset).bootBoth }

/-- The cores disagree: a core restart. The first mismatch is transient unless another follows within 1 s (FS107). -/
def lockstepMismatch (b : Body) : Body :=
  if b.d.power.nrstLow then b else   -- the wider reset of nRST stands (R38)
  let again := b.d.power.lockstepWindow
  let b := b.restart 0x05
  let d := if again then b.d.raise b.hw.counter 107 0 else if b.d.sticky 107 then b.d else b.d.awaitRetry 107
  { b with d := d.power' fun p => { p with lockstepWindow := true } }

def Dev.lockstepWindowEnd (sinceMs t : Nat) (d : Dev) : Dev :=
  if !d.power.lockstepWindow || sinceMs < 1000 then d else
  let d := d.power' fun p => { p with lockstepWindow := false }
  if d.retrying 107 then d.transient t 107 0 else d

/-! ## Clocks (R40 to R45, R573) -/

/-- The crystal of the reference: used once stable within 10 ms. -/
def Dev.crystalStable (sinceUs : Nat) (d : Dev) : Dev :=
  if d.clk.crystalWanted && sinceUs ≤ 10000 then d.clk' fun c => { c with crystal := true, crystalWanted := false } else d

/-- A unit of a cascade on the internal RC raises FS112 with reason 0x04 (R259). -/
def Dev.rcInCascade (d : Dev) (t : Nat) : Dev :=
  if d.casc.role = 0 then d else (d.casc' fun c => { c with linkReason := 4 }).raise t 112 4

def Dev.crystalStartTimeout (sinceUs t : Nat) (d : Dev) : Dev :=
  if d.clk.crystalWanted && sinceUs ≥ 10000 then (d.clk' fun c => { c with crystalWanted := false }).raise t 96 0 |>.rcInCascade t else d

def Dev.crystalStop (t : Nat) (d : Dev) : Dev :=
  if d.clk.crystal then ((d.clk' fun c => { c with crystal := false }).raise t 96 0).rcInCascade t else d

/-- Every phase to mid (R42), then FS097 with its escalation. -/
def Dev.pllLockLoss (t : Nat) (d : Dev) : Dev :=
  let d := ((d.clk' fun c => { c with pllLocked := false }).loseBranches 0xFF).fastOffMask t 0xFF
  ((d.settle).raise t 97 0).seqCheck t

/-- A window of R43; one that fails is repeated in the next window (the retry of FS098), and then measured (R44). -/
def Dev.wdoscCrossCheck (count t : Nat) (d : Dev) : Dev :=
  if d.power.state = .standby then d else
  let bad := count < 96 || count > 160
  let d := d.clk' fun c => { c with wdoscCount := count }
  if bad then
    if d.retrying 98 then d.clk' fun c => { c with measuring := true }
    else if d.sticky 98 then d else d.awaitRetry 98
  else if d.retrying 98 && !d.clk.measuring then d.transient t 98 0
  else d

/-- The naming of R44: 1 WDOSC, 2 BCLK, 3 both or neither. -/
def deviating (wdosc bclk : Nat) : Nat :=
  let w := ((wdosc : Int) - 1000).natAbs > 250
  let c := ((bclk : Int) - 937500).natAbs * 4 > 937500
  if w && !c then 1 else if c && !w then 2 else 3

def Dev.clockDeviation (wdosc bclk t : Nat) (d : Dev) : Dev :=
  if !d.clk.measuring then d
  else ((d.clk' fun c => { c with measuring := false }).raise t 98 (deviating wdosc bclk)).seqCheck t

/-- The 32.768 kHz crystal stops (R45). -/
def heartwoodCrystalStop (b : Body) : Body :=
  if !b.hw.powered || !b.hw.crystalRunning then b else
  let b := { b with hw := { b.hw with crystalRunning := false, fallback := true } }
  if b.d.power.coreOn then b.onDev fun t d => d.raise t 99 0 else b

def heartwoodCrystalStable (sinceUs : Nat) (b : Body) : Body :=
  if !b.hw.powered || b.hw.fallback || sinceUs > 2000000 then b else { b with hw := { b.hw with crystalRunning := true } }

def heartwoodCrystalTimeout (sinceUs : Nat) (b : Body) : Body :=
  if !b.hw.powered || b.hw.crystalRunning || sinceUs < 2000000 then b else
  let b := { b with hw := { b.hw with fallback := true } }
  if b.d.power.coreOn then b.onDev fun t d => d.raise t 99 0 else b

/-! ## IDLE, wakes, TIME -/

/-- IDLE ends at a frame or an interrupt (Table 2-2). -/
def Dev.leaveIdle (d : Dev) (t : Nat) : Dev := d.power' fun p => p.leaveIdle t

/-- No pending core work: CCLK to the cores is gated. -/
def Dev.idleEntry (t : Nat) (d : Dev) : Dev :=
  if d.power.state ≠ .run || !d.coresRun || d.portA.sessions ≠ [] || d.portB.sessions ≠ [] || d.jour.replayDue ||
      (d.indicesWhere fun e => !e.state.ended) ≠ [] || d.otp.prog.isSome then d
  else d.goState t .idle

/-- A falling edge on the receive input of a port; the frame that causes it is lost (R33). -/
def Dev.canRxWake (p : Port) (t : Nat) (d : Dev) : Dev :=
  if d.power.state = .standby || (d.seq.after = .standby && d.seq.state = .offOrder) then d.wake t (3 + portNo p) else d

/-- The cores are held by the debugger: WD-C holds with them (R419, R554). -/
def Dev.haltCores (d : Dev) : Dev :=
  { (d.tap' fun x => { x with halted := true, haltDue := false }).power' (fun p => { p with coresStopped := true }) with
    wdc := { d.wdc with halted := true } }

/-- The wake of R34 at the opening of the WD-C window: WD-C is serviced, which ends its first period, and nothing is recorded; a
halt asked for meanwhile takes effect (R562). -/
def Dev.standbyWdCWake (d : Dev) : Dev :=
  if d.power.state ≠ .standby || !d.coresRun then d
  else if d.tap.haltDue then d.haltCores
  else { d with wdc := { d.wdc with first := false } }

def Dev.cascadeCsyncWake (lowNs t : Nat) (d : Dev) : Dev :=
  if d.power.state ≠ .standby || d.casc.role = 0 || lowNs < 2000 then d else d.wake t 7

/-- Whether a port consumes SYNC and TIME (Table 18-3). -/
def PortSt.consumes (p : PortSt) : Bool := p.live && (p.nmt = .preOp || p.nmt = .operational)

/-- A TIME object (R47), where 0x1012 sets the device up as a consumer. -/
def Dev.timeObject (port : Port) (value t : Nat) (d : Dev) : Dev :=
  if !d.served || !(d.port port).consumes || !(d.nat 0x1012 0).testBit 31 then d
  else (d.leaveIdle t).clk' fun c => { c with lastTimeValue := value % 2 ^ 48, counterAtTime := t }

/-! ## SRAM (Table 17-6) -/

def Dev.sramWordError (e : SramError) (t : Nat) (d : Dev) : Dev :=
  match e with
  | .correctable => d.raise t 100 0
  | .uncorrectable false => d.transient t 101 0
  | .uncorrectable true => (d.raise t 101 0).seqCheck t

/-! ## The commands -/

def execHeartwoodPowerOnReset (dcinMv batMv : Nat) (s : State) : Host.Outcome State Fault Refusal :=
  .next (s.on (heartwoodReset dcinMv batMv))
def execDevicePowerOnReset (p : PowerOn) (s : State) : Host.Outcome State Fault Refusal := .next (s.on (devicePowerOn p))
def execBrownOutReset (vpreMv : Nat) (s : State) : Host.Outcome State Fault Refusal := .next (s.core (Dev.brownOutReset vpreMv))
def execNrstLow (cycles : Nat) (s : State) : Host.Outcome State Fault Refusal := .next (s.coreBody (nrstLow cycles))
def execNrstRelease (s : State) : Host.Outcome State Fault Refusal := .next (s.core Dev.nrstRelease)
def execLockstepMismatch (s : State) : Host.Outcome State Fault Refusal := .next (s.coreBody lockstepMismatch)
def execLockstepRetryWindowEnd (sinceMs : Nat) (s : State) : Host.Outcome State Fault Refusal :=
  .next (s.core (Dev.lockstepWindowEnd sinceMs))
def execCrystalStable (sinceUs : Nat) (s : State) : Host.Outcome State Fault Refusal :=
  .next (s.core fun _ => Dev.crystalStable sinceUs)
def execCrystalStartTimeout (sinceUs : Nat) (s : State) : Host.Outcome State Fault Refusal :=
  .next (s.core (Dev.crystalStartTimeout sinceUs))
def execCrystalStop (s : State) : Host.Outcome State Fault Refusal := .next (s.core Dev.crystalStop)
def execPllLockLoss (s : State) : Host.Outcome State Fault Refusal := .next (s.core Dev.pllLockLoss)
def execWdoscCrossCheck (count : Nat) (s : State) : Host.Outcome State Fault Refusal := .next (s.core (Dev.wdoscCrossCheck count))
def execClockDeviationMeasurement (wdosc bclk : Nat) (s : State) : Host.Outcome State Fault Refusal :=
  .next (s.core (Dev.clockDeviation wdosc bclk))
def execHeartwoodCrystalStop (s : State) : Host.Outcome State Fault Refusal := .next (s.on heartwoodCrystalStop)
def execHeartwoodCrystalStable (sinceUs : Nat) (s : State) : Host.Outcome State Fault Refusal :=
  .next (s.on (heartwoodCrystalStable sinceUs))
def execHeartwoodCrystalTimeout (sinceUs : Nat) (s : State) : Host.Outcome State Fault Refusal :=
  .next (s.on (heartwoodCrystalTimeout sinceUs))
def execTimeObject (port : Port) (value : Nat) (s : State) : Host.Outcome State Fault Refusal :=
  .next (s.core (Dev.timeObject port value))
def execCanRxWake (port : Port) (s : State) : Host.Outcome State Fault Refusal := .next (s.core (Dev.canRxWake port))
def execStandbyWdCWake (s : State) : Host.Outcome State Fault Refusal := .next (s.core fun _ => Dev.standbyWdCWake)
def execIdleEntry (s : State) : Host.Outcome State Fault Refusal := .next (s.core Dev.idleEntry)
def execCascadeCsyncWake (lowNs : Nat) (s : State) : Host.Outcome State Fault Refusal := .next (s.core (Dev.cascadeCsyncWake lowNs))
def execSramWordError (e : SramError) (s : State) : Host.Outcome State Fault Refusal := .next (s.core (Dev.sramWordError e))

end Sys2Proof.Machine
end

