-- ==== Sys2Proof/Machine/Faults.lean ====
section
/-!
DEFINITION. Machine/Faults.lean: the fault collector's timers, acknowledgement, clearing, nFAULT and emergency messages (chapter 17).
-/
namespace Sys2Proof.Machine

/-- The reaction timer of a source runs out: it escalates (Table 17-1). -/
def Dev.reactionTimerExpiry (src : Source) (sinceUs t : Nat) (d : Dev) : Dev :=
  if d.srcState src.val = .timing && sinceUs ≥ d.nat 0x2511 (src.val + 1) then (d.escalate t src.val).seqCheck t else d

/-- A source in TIMING becomes ACKED, with its log record (Table 17-1, kind 0x04). -/
def Dev.acked (d : Dev) (t n : Nat) (w : Who) : Dev :=
  let reason := if h : n < 128 then d.faults.src[n].reason else 0
  (d.src' n fun s => { s with state := .acked }).logFault t 0x04 n (sourceClass n) reason 0xFF [portNo w.port, w.node]

/-- An acknowledgement written to 0x2500:06 (R437). -/
def Dev.acknowledge (d : Dev) (t : Nat) (w : Who) (v : Nat) : Except Nat Dev :=
  if d.srcState v = .timing then .ok (d.acked t v w) else .error 0x08000022

/-- Clear one sticky bit (R434): a source in TIMING is acknowledged first. The count of 0x2513 stays. -/
def Dev.clearSource (t : Nat) (w : Who) (d : Dev) (n : Nat) : Dev :=
  if !d.sticky n then d else
  let d := if d.srcState n = .timing then d.acked t n w else d
  d.src' n fun s => { s with state := .clear, reason := 0 }

def Dev.anyUF (d : Dev) : Bool := d.anySticky classU || d.anySticky classF

/-- A write of ones to sticky word `k`; the clearing of the last U or F bit sends the emergency message 0x0000 (R434, R444).
No rule states the class byte of that message: a free value (log entry 3). -/
def Dev.clearSticky (d : Dev) (t : Nat) (w : Who) (k v : Nat) : Dev :=
  let before := d.anyUF
  let d := ((List.range 32).filter fun b => v.testBit b).foldl (fun d b => d.clearSource t w (32 * k + b)) d
  if before && !d.anyUF then
    let x := d.draw
    x.2.emcy ⟨0, x.2.errorRegister, x.1 % 256, 0, t % 2 ^ 24⟩
  else d

/-- The minimum pulse on nFAULT ends (R440). -/
def Dev.nfaultPulseEnd (sinceUs : Nat) (d : Dev) : Dev :=
  if sinceUs ≥ 100 then d.faults' fun f => { f with pulse := false } else d

/-- The emergency message that waits longest on a port is sent once the inhibit time has passed (R443, R444). Bit 31 of
0x1014 set makes the object invalid, and nothing is sent. -/
def Dev.emergencyMessage (p : Port) (sinceLast : Nat) (d : Dev) : Dev :=
  let q := match p with | .a => d.faults.emcyA | .b => d.faults.emcyB
  match q with
  | [] => d
  | e :: r =>
    if !d.coresRun || d.power.state = .standby || !(d.port p).sendsEmcy || sinceLast < d.nat 0x1015 0 then d else
    let d := d.faults' fun f => match p with
      | .a => { f with emcyA := r }
      | .b => { f with emcyB := r }
    if (d.nat 0x1014 0).testBit 31 then d else d.send (.emcy p e)

/-- Whether a configuration word may be written to a source: none to a reserved one, BRANCH only to a branch's source, and no
reserved escalation code (R438, R447, Table 17-2). -/
def sourceWordOk (n v : Nat) : Bool :=
  n < 120 && (v % 16 ≠ 1 || (20 ≤ n && n < 50) || n = 88 || sourceClass n = classF) &&
    (v % 16 ≤ 5 || sourceClass n = classF)

def execReactionTimerExpiry (src : Source) (sinceUs : Nat) (s : State) : Host.Outcome State Fault Refusal :=
  .next (s.core (Dev.reactionTimerExpiry src sinceUs))
def execNfaultPulseEnd (sinceUs : Nat) (s : State) : Host.Outcome State Fault Refusal :=
  .next (s.core fun _ => Dev.nfaultPulseEnd sinceUs)
def execEmergencyMessage (port : Port) (sinceLast100us : Nat) (s : State) : Host.Outcome State Fault Refusal :=
  .next (s.core fun _ => Dev.emergencyMessage port sinceLast100us)

end Sys2Proof.Machine
end

