-- ==== Sys2Proof/Machine/Access.lean ====
section
/-!
DEFINITION. Machine/Access.lean: what a read of each object returns: the views of the machine's registers that the object tables
of the chapters give, the running values of set-points, and the effective values of settings.
-/
namespace Sys2Proof.Machine

/-- The value of a DOMAIN made of equal elements of `n` bytes. -/
def domainOf (n : Nat) (l : List Int) : Int := ofBytesLE (l.flatMap (bytesOfInt n))

def natDomain (n : Nat) (l : List Nat) : Int := ofBytesLE (l.flatMap (bytesLE n))

/-- The `k`th of a list of numbers. -/
def pick (l : List Int) (k : Nat) : Option Int := l[k]?

/-! ## Chapters 2 to 4 and 18 -/

/-- Access status, 0x2002:02. A lockout shows before an unlock that it does not end. -/
def Dev.accessStatus (d : Dev) : Nat :=
  if d.dict.key.isNone then 2 else if d.dict.lockout then 3 else if d.dict.unlocked then 1 else 0

/-- Port status, 0x2004:06. -/
def PortSt.status (p : PortSt) (standby : Bool) : Nat :=
  bit 7 (p.busOff || p.heldOff) + bit 6 p.passive + bit 5 p.warning + bit 4 (!p.enabled) + bit 3 standby

/-- NMT state as the heartbeat reports it (R456). -/
def Nmt.code : Nmt → Nat
  | .init => 0x00 | .preOp => 0x7F | .operational => 0x05 | .stopped => 0x04

def PortSt.view (p : PortSt) (standby : Bool) (sub : Nat) : Option Int :=
  match sub with
  | 6 => some (p.status standby)
  | 7 => some (min 255 p.txErr * 256 + min 255 p.rxErr : Nat)
  | 8 => some p.nmt.code
  | 9 => some (natDomain 4 [p.received, p.sent, p.discarded, p.shortPdos, p.refused])
  | _ => none

/-- Client status, 0x2009: a port has seen a client while its last heartbeat there lies within the consumer time. -/
def Dev.clientStatus (d : Dev) (t : Nat) (k : Fin 4) : Nat :=
  let c := d.dict.clients[k]
  let time := d.nat 0x1016 (k.val + 1) % 65536
  let seen (x : Option Nat) := match x with | some s => decide ((t - s) * 1000 ≤ time * 32768) | none => false
  bit 15 c.active + bit 14 (seen c.lastA) + bit 13 (seen c.lastB) + bit 12 c.timeout + c.nmt % 256

def viewIdentity (b : Body) (idx sub : Nat) : Option Int :=
  let d := b.d
  match idx with
  | 0x1001 => if sub = 0 then some d.errorRegister else none
  | 0x1018 => if sub = 4 then some (Config.vendorValue 0 % 2 ^ 32 : Nat) else none
  | 0x2000 => if sub = 3 then some (Config.vendorValue 0 % 2 ^ 32 : Nat) else none
  | 0x2002 => if sub = 2 then some d.accessStatus else if sub = 4 then some d.dict.mismatches else none
  | 0x2003 => if sub = 1 then some d.dict.nodeId else if sub = 2 then some (ofBool d.dict.nodeFromOtp) else none
  | 0x2004 => d.portA.view (d.power.state = .standby) sub
  | 0x2005 => d.portB.view (d.power.state = .standby) sub
  | 0x2006 => pick [3, d.straps.node, d.straps.addr, d.straps.disagree] sub
  | 0x2009 => if h : 1 ≤ sub ∧ sub ≤ 4 then some (d.clientStatus b.hw.counter ⟨sub - 1, by omega⟩) else none
  | 0x2010 => if sub = 0 then none else
    pick [d.ibDeclared / 1000, d.ldDeclared / 1000, d.integ.ibMw, d.integ.ldMw, d.integ.refusal, d.integ.overrun] (sub - 1)
  | 0x2040 => if sub = 0 then none else pick [d.stateCode, d.power.previous, d.power.lastTime] (sub - 1)
  | 0x2041 => if sub = 0 then none else
    pick [b.hw.lastCause, b.hw.lastResetTime, d.power.wakeSource, b.hw.powerOnCount] (sub - 1)
  | 0x2060 => if sub = 0 then none else
    pick [ofBool d.clk.crystal, ofBool d.clk.pllLocked, d.clk.wdoscCount, ofBool b.hw.fallback] (sub - 1)
  | 0x2061 => if sub = 0 then none else pick [b.hw.counter, d.clk.lastTimeValue, d.clk.counterAtTime] (sub - 1)
  | _ => none

def viewPath (b : Body) (idx sub : Nat) : Option Int :=
  let p := b.d.path
  if sub = 0 then none else
  match idx with
  | 0x2101 => pick [p.dcinMv, p.batMv, p.vsysMv, p.dcinMA, p.vpreMv, p.holdMv, p.warnings, b.d.pathState, p.supplements] (sub - 1)
  | 0x2102 => pick [p.capUf, b.d.holdBudget, ofBool p.holdReady, p.holdupUs] (sub - 1)
  | _ => none

/-! ## Grove -/

/-- The set-point object of a rail: code × 250 µV × k, the code in force while the rail is on (R137, Table 2-7). -/
def Dev.railSetRead (d : Dev) (r : Rail) : Int :=
  codeUv (if d.railOn r then d.grove.rail[r].lp.target else d.railSetCode r) (d.ratio r)

def viewRail (d : Dev) (r : Rail) (sub : Nat) : Option Int :=
  let x := d.grove.rail[r]
  match sub with
  | 0x01 => some (d.railSetRead r)
  | 0x13 => some (d.railStatus r)
  | 0x14 => some x.lp.outUv
  | 0x15 => some ((d.firingOf r).map fun p => d.grove.ph[p].currentMA).sum
  | 0x16 => some (natDomain 2 x.lp.active)
  | 0x17 => some (natDomain 4 [x.lp.excursions, x.lp.conflicts])
  | 0x3B => some (divRoundInt (x.corrUv * d.ratio r) 1000)
  | 0x3C => some (d.protStatus r)
  | 0x3D => some x.reason
  | 0x3E => some (natDomain 4 x.counts)
  | 0x3F => some x.tripTime
  | _ => none

def viewPhase (d : Dev) (p : Phase) (sub : Nat) : Option Int :=
  let x := d.grove.ph[p]
  match sub with
  | 0x02 => some (d.phaseStatus p)
  | 0x06 => some x.currentMA
  | 0x08 => some x.rippleMA
  | 0x09 => some x.trim
  | 0x0A => some x.m1
  | 0x0B => some x.m2
  | 0x0C => some x.m3
  | 0x0D => some x.m4
  | 0x0E => some x.reason
  | 0x0F => some x.roleTime
  | _ => none

def viewTuning (d : Dev) (idx : Nat) (r : Rail) : Option Int :=
  let x := d.grove.result[r]
  match idx with
  | 0x223A => some x.crossover
  | 0x223B => some x.pm
  | 0x223C => some x.gm
  | 0x223D => some x.outcome
  | 0x223E => some x.time
  | 0x223F => some (natDomain 4 x.plant)
  | _ => none

def viewGrove (d : Dev) (idx sub : Nat) : Option Int :=
  if h : 0x2200 ≤ idx ∧ idx ≤ 0x2207 then viewRail d ⟨idx - 0x2200, by omega⟩ sub
  else if h : 0x2210 ≤ idx ∧ idx ≤ 0x2223 then viewPhase d ⟨idx - 0x2210, by omega⟩ sub
  else if idx = 0x2236 then (if sub = 0 then none else
    pick [d.firingMask, d.phaseMask fun x => x.role = .sapling, d.phaseMask fun x => x.role = .retired, d.grove.insertions,
          d.grove.retirements, d.insertionMask, natDomain 4 (allPhases.map d.slotOffset)] (sub - 1))
  else if h : 1 ≤ sub ∧ sub ≤ 8 then viewTuning d idx ⟨sub - 1, by omega⟩
  else none

/-! ## Integrated rails, sequencer, supervision -/

/-- The set-point object of a channel reads the running value while it is on. -/
def Dev.chanSetRead (d : Dev) (c : Integrated) : Int := if (d.chan c).on then (d.chan c).targetMv else d.chanSetMv c

/-- Whether the throttle has put the bucks in skipping. -/
def Dev.thrSkip (d : Dev) : Bool := d.th.throttle && d.nat 0x2403 2 ≠ 0

def viewIb (d : Dev) (n : Fin 6) (sub : Nat) : Option Int :=
  let x := d.integ.ib[n]
  match sub with
  | 0x01 => some (d.chanSetRead (.ib n))
  | 0x0A => some (x.status d.thrSkip)
  | 0x0B => some x.outMv
  | 0x0C => some x.outMA
  | 0x0D => some x.reason
  | 0x0E => some x.hiccups
  | 0x0F => some x.tripTime
  | _ => none

def viewLd (d : Dev) (n : Fin 8) (sub : Nat) : Option Int :=
  let x := d.integ.ld[n]
  match sub with
  | 0x01 => some (d.chanSetRead (.ld n))
  | 0x07 => some (x.status false)
  | 0x08 => some x.outMv
  | 0x09 => some x.inMv
  | 0x0A => some x.outMA
  | 0x0B => some x.reason
  | 0x0C => some x.tripTime
  | _ => none

def viewXe (d : Dev) (n : Fin 8) (sub : Nat) : Option Int :=
  let x := d.integ.xe[n]
  match sub with
  | 4 => some x.status
  | 5 => some x.reason
  | 6 => some x.tripTime
  | _ => none

def viewSeq (b : Body) (idx sub : Nat) : Option Int :=
  let d := b.d
  let s := d.seq
  if idx = 0x2300 then
    match sub with
    | 3 => some d.seqStatus
    | 4 => some (s.timerNow b.hw.counter)
    | 5 => some (s.offNow b.hw.counter)
    | 8 => some d.members
    | 9 => some s.completed
    | 0x0A => some s.finals
    | 0x0B => some d.onMask
    | 0x0C => some d.goodMask
    | _ => none
  else if idx = 0x2310 then
    match sub with
    | 1 => some (match s.record with | some f => ofBytesLE f.bytes | none => 0 : Nat)
    | 2 => some (ofBool s.record.isSome)
    | 3 => some s.events
    | _ => none
  else if idx = 0x2340 then
    match sub with
    | 1 => some (ofBool d.pgOnly)
    | 2 => some d.wwinMask
    | 3 => some d.fwinMask
    | _ => none
  else if h : idx = 0x2346 ∧ 1 ≤ sub ∧ sub ≤ 30 then some (d.judgeStatus ⟨sub - 1, by omega⟩)
  else none

def viewIntegrated (d : Dev) (idx sub : Nat) : Option Int :=
  if h : 0x2240 ≤ idx ∧ idx ≤ 0x2245 then viewIb d ⟨idx - 0x2240, by omega⟩ sub
  else if h : 0x2248 ≤ idx ∧ idx ≤ 0x224F then viewLd d ⟨idx - 0x2248, by omega⟩ sub
  else if h : 0x2250 ≤ idx ∧ idx ≤ 0x2257 then viewXe d ⟨idx - 0x2250, by omega⟩ sub
  else none

/-! ## Cascade -/

def LinkState.code : LinkState → Nat
  | .search => 0 | .joined => 1 | .lost => 2 | .noSlot => 3 | .conflict => 4

/-- Link state, 0x2381:02: a master reads 0x1, or 0x4 in CONFLICT. -/
def Dev.linkCode (d : Dev) : Nat := if d.casc.role = 1 ∧ d.casc.link ≠ .conflict then 1 else d.casc.link.code

/-- The slaves that satisfy a condition, bit u for unit u. -/
def Dev.slaveMask (d : Dev) (f : SlaveView → Bool) : Nat :=
  bitsOf (d.casc.slaves.toList.zipIdx.map fun x => x.2 ≠ 0 && f x.1)

def Dev.unitsPresent (d : Dev) : Nat := ofBool (d.casc.role = 1) + d.slaveMask SlaveView.present

/-- The tag of the transaction in prepare or commit: the master's open one, or that of a slave's vote or PREPARED entry. -/
def Dev.openTag (d : Dev) : Nat :=
  if d.casc.role = 1 then (match d.casc.txn with | some x => x.tag | none => 0xFFFF)
  else match d.jour.entries.find? fun e => e.cascade && !e.state.ended with
    | some e => e.tag
    | none => d.casc.voteTag

def viewCascade (b : Body) (idx sub : Nat) : Option Int :=
  let d := b.d
  let c := d.casc
  if idx = 0x2381 then (if sub = 0 then none else
    pick [c.role, d.linkCode, d.unitsPresent, d.slaveMask SlaveView.lost, c.discarded, c.starts, c.broadcasts, c.offset,
          ((b.hw.counter + c.offset) % (2 ^ 48 : Nat)), c.linkReason, d.openTag] (sub - 1))
  else if h : idx = 0x2382 ∧ 1 ≤ sub ∧ sub ≤ 7 then
    let v : SlaveView := c.slaves[sub]'(by omega)
    some (if c.role = 1 then natDomain 1 v.status else 0)
  else none

/-! ## Charger and gauge -/

/-- Seconds until the charger watchdog expires, 0xFFFF when it is disabled (0x2141:0C). -/
def Dev.wdRemaining (d : Dev) (t : Nat) : Nat :=
  if d.nat 0x2142 5 = 0 then 0xFFFF else d.nat 0x2142 6 - (t - d.chg.wdStart) / 32768

def viewCharger (b : Body) (idx sub : Nat) : Option Int :=
  let d := b.d
  let c := d.chg
  if idx = 0x2141 ∧ sub ≠ 0 then
    pick [c.phase.code, d.chgConditions, c.currentMA, c.mainMv, d.chgCommand, d.chgRegionShown, c.sessionS, c.pulses, c.completed,
          c.stopReason, c.phaseTime, d.wdRemaining b.hw.counter, d.toMAh (d.gauge.count - c.sessionStart)] (sub - 1)
  else none

/-- An estimate reads 0 while the gauge is not configured (R333). -/
def Dev.ifReady (d : Dev) (v : Int) : Int := if d.gaugeReady then v else 0

def viewGauge (d : Dev) (idx sub : Nat) : Option Int :=
  let g := d.gauge
  if sub = 0 then none else
  match idx with
  | 0x2181 =>
    pick [d.gaugeFlags, g.meanMA, g.frameMA, g.count, d.ifReady (d.toMAh g.rc), d.ifReady (d.toMAh g.fcc), d.ifReady d.soc,
          d.ifReady d.soh, g.uncertainty, g.bound, g.cycles, g.estTime, g.quality] (sub - 1)
  | 0x2182 => if sub = 2 then some (ofBool (ocvValid d.ocvTable)) else none
  | 0x2183 =>
    pick [g.rS.value, g.rF.value, g.rL.value, g.accepted, g.rejected, g.accTemp, g.accTime] (sub - 1)
  | 0x2184 => pick [g.spanOk, g.spanBad, g.spanMAh, g.spanSoc, g.spanTime] (sub - 1)
  | 0x2185 =>
    let n := g.newest
    pick [(match n with | some x => x.1 | none => 0xFF : Nat), (match n with | some x => x.2.seq | none => 0 : Nat),
          (match n with | some x => x.2.time | none => 0 : Nat), bit 1 g.copy1.isSome + bit 0 g.copy0.isSome, g.deferred] (sub - 1)
  | _ => none

/-! ## Thermal, converters, timers, watchdogs -/

def Dev.sensorRead (d : Dev) (n : Nat) : Option Int := if h : n < 28 then some d.th.sensor[n].reading else none

def viewThermal (d : Dev) (idx sub : Nat) : Option Int :=
  if sub = 0 then none else
  match idx with
  | 0x2408 => if sub ≤ 12 then d.sensorRead (sub - 1) else none
  | 0x2409 => if sub ≤ 8 then d.sensorRead (11 + sub) else none
  | 0x240A => if sub ≤ 8 then d.sensorRead (19 + sub) else none
  | 0x240B => if h : sub - 1 < 28 then some (d.th.sensor[sub - 1].status) else none
  | 0x240C =>
    let die := dieSensors.map fun n => d.th.sensor[n]
    pick [d.thermalFlags, (die.map Sensor.reading).foldl max ((die.map Sensor.reading).headD 0), d.th.throttleTime,
          d.th.throttleCount, domainOf 2 (die.map fun x => Int.tdiv x.twiceOffset 2)] (sub - 1)
  | _ => none

def viewConverters (d : Dev) (idx sub : Nat) : Option Int :=
  let c := d.conv
  match idx, sub with
  | 0x2440, 1 => some (d.convStatus false)
  | 0x2440, 2 => some (d.convStatus true)
  | 0x2440, 3 => some (match c.excludedNode with | some n => n | none => 0xFFFF : Nat)
  | 0x2440, 4 => some c.disagreements
  | 0x2440, 5 => some (natDomain 2 [c.a.check, c.b.check])
  | 0x2440, 6 => some c.refused
  | 0x2441, 6 => some c.missed
  | 0x2443, 1 => some c.word
  | 0x2443, 2 => some c.overruns
  | 0x2443, 3 => some c.b.passes
  | _, _ => none

def viewTimers (d : Dev) (idx sub : Nat) : Option Int :=
  if h : 0x2481 ≤ idx ∧ idx ≤ 0x2488 then (if sub = 0 then none else some (d.timerRead ⟨idx - 0x2481, by omega⟩ sub)) else none

def viewWatchdogs (b : Body) (idx sub : Nat) : Option Int :=
  let d := b.d
  match idx, sub with
  | 0x24C0, 1 => some d.otp.wdcMs
  | 0x24C0, 2 => some d.otp.wdcCode
  | 0x24C0, 3 => some b.hw.wdcResets
  | 0x24C0, 4 => some b.hw.wdcTime
  | 0x24C0, 5 => some d.wdc.reason
  | 0x24C0, 6 => some (bit 7 d.wdc.halted + bit 6 d.wdc.first : Nat)
  | 0x24C4, 4 => some (d.nat 0x24C4 4 ||| 1 : Nat)
  | 0x24C5, 1 => some d.wdh.last
  | 0x24C6, 1 => some d.wdhStatus
  | 0x24C6, 2 => some d.wdh.tally
  | 0x24C6, 3 => some b.hw.wdhFails
  | 0x24C6, 4 => some (ofBytesLE ([d.wdh.reason, d.wdh.task] ++ bytesLE 2 d.wdh.missing ++ bytesLE 8 d.wdh.failTime) : Nat)
  | 0x24C6, 5 => some d.wdh.ignored
  | _, _ => none

/-! ## Faults, pool, storage, journal -/

def viewFaults (d : Dev) (idx sub : Nat) : Option Int :=
  let f := d.faults
  match idx with
  | 0x2500 =>
    if sub = 1 then some d.summary else if 2 ≤ sub ∧ sub ≤ 5 then some (d.stickyWord (sub - 2)) else none
  | 0x2501 => if sub = 0 then none else
    pick [f.lasting, f.escalations, f.transient, f.emcyDropped, f.logDropped] (sub - 1)
  | 0x2510 => if sub = 0 ∨ sub > 128 then none else
    some (if sub > 120 then 0xC000 else sourceWord (sub - 1) (d.nat 0x2510 sub) : Nat)
  | 0x2512 => if h : 1 ≤ sub ∧ sub ≤ 128 then some (f.src[sub - 1]'(by omega)).state.code else none
  | 0x2513 => if h : 1 ≤ sub ∧ sub ≤ 128 then some (f.src[sub - 1]'(by omega)).count else none
  | _ => none

/-- The source of a channel, 0x2590+c:04: bound to HKADC-B, or a sampler with period and map (R479). -/
def Dev.chanSource (d : Dev) (c : Nat) : Nat :=
  if d.nat 0x2441 5 = c then 1 else if d.nat (0x2590 + c) 5 ≠ 0 ∧ d.nat (0x2590 + c) 6 ≠ 0 then 2 else 0

def viewPool (d : Dev) (idx sub : Nat) : Option Int :=
  let p := d.pool
  if idx = 0x2580 then (if sub = 0 then none else
    pick [(384 - p.buffers.length : Nat), (p.buffers.filter Buffer.reclaimable).length, d.reservedTotal, p.reclaims] (sub - 1))
  else if h : 0x2590 ≤ idx ∧ idx ≤ 0x25A7 then
    let c := idx - 0x2590
    let x : Chan := p.chans[c]'(by omega)
    match sub with
    | 4 => some (d.chanSource c)
    | 7 => some (p.held c)
    | 8 => some (p.filled c)
    | 9 => some x.lostBuffers
    | 0x0A => some x.lostBytes
    | 0x0C => some x.dropped
    | _ => none
  else none

/-- The bytes that image entries take: one entry header of 6 bytes for each run of consecutive subindices of one object and
size (Table 20-5), and the values. -/
def imageBytes : ObjMap → Nat
  | [] => 0
  | (k, _) :: r =>
    let size (k : Nat) := match row (k / 256) (k % 256) with | some x => entrySize (k / 256) x | none => 0
    let joined := match r with
      | (k', _) :: _ => k' = k + 1 && k' / 256 = k / 256 && size k' = size k
      | [] => false
    size k + (if joined then 0 else 6) + imageBytes r

/-- The oldest record that can be read: the oldest held that is not hidden; 0 with none. -/
def Nv.oldest (n : Nv) : Nat := ((n.log.find? fun x => x.1 > n.hidden).map Prod.fst).getD 0

def viewStorage (d : Dev) (idx sub : Nat) : Option Int :=
  let n := d.nv
  if sub = 0 then none else
  match idx with
  | 0x2600 =>
    pick [n.freeSpares, n.remap.length, n.refreshes, n.corrected, n.failedVer, n.imageStatus,
          (match n.current with | some i => imageBytes n.banks[i].entries | none => 0 : Nat), n.sweep] (sub - 1)
  | 0x2601 => if sub = 1 then some n.newest else if sub = 2 then some n.oldest else none
  | 0x2610 => if sub = 4 then some n.protection else none
  | _ => none

/-- A region's status byte with its lock (Table 20-16). -/
def Dev.boardStatus (d : Dev) : Nat :=
  bit 7 d.otp.boardFailed + bit 6 d.otp.locked + bit 5 d.otp.boardEmpty + d.otp.boardCause % 8

/-- A vendor value with its bound; none applies while the repair-and-patch region has failed (Table 20-11). -/
def Dev.vendor (d : Dev) (k bound : Nat) : Int :=
  if d.otp.repair.testBit 7 then 0 else (Config.vendorValue k % (bound + 1) : Nat)

/-- Rows 48 to 126 as they stand, row 49 reading 0 (R533). -/
def Dev.readback (d : Dev) : Int :=
  ofBytesLE ((List.range 632).flatMap fun i => if i / 8 = 1 then List.replicate 8 0 else bytesLE 8 (Words.get d.otp.words (384 + i)))

def viewOtp (d : Dev) (idx sub : Nat) : Option Int :=
  let o := d.otp
  if sub = 0 then none else
  match idx with
  | 0x2680 =>
    pick [o.trims, o.repair, d.boardStatus, o.spares.length, (8 - o.spares.length : Nat), rounds o.words, o.lastResult,
          o.corrected] (sub - 1)
  | 0x2681 => if sub = 3 then some o.failingRow else if sub = 4 then some d.readback else none
  | 0x2683 => pick [d.vendor 1 32, d.vendor 2 65535, d.vendor 3 32] (sub - 1)
  | _ => none

/-- Slots held by unended entries (R494). -/
def Dev.slotsHeld (d : Dev) : Nat :=
  ((d.jour.entries.filter fun e => !e.state.ended).map fun e => slotsFor e.targets.length).sum

def viewJournal (d : Dev) (idx sub : Nat) : Option Int :=
  let j := d.jour
  match idx with
  | 0x2641 => if sub = 0 then none else
    pick [(128 - d.slotsHeld : Nat), (j.entries.filter fun e => !e.state.ended).length, j.accepted, j.duplicates, j.rejections,
          j.busy, j.replays] (sub - 1)
  | 0x2642 => if h : 1 ≤ sub ∧ sub ≤ 4 then some (j.next[sub - 1]'(by omega)) else none
  | 0x2643 => if h : 1 ≤ sub ∧ sub ≤ 4 then some (j.lastEnded[sub - 1]'(by omega)) else none
  | 0x2645 => if sub = 1 then some d.dict.seqRpdo else none
  | 0x2646 => if h : 1 ≤ sub ∧ sub ≤ 4 then some (j.lastRefusal[sub - 1]'(by omega)) else none
  | _ => none

/-! ## Service life, spares, test and debug -/

/-- NV wear, 0x2700:08: page writes over 9.28 × 10^10 in 0.01 % (R544). -/
def Dev.nvWear (d : Dev) : Nat := min 65535 (d.life.pageWrites * 10000 / 92800000000)

def Dev.roleCount (d : Dev) (x : Role) : Nat := (d.grove.ph.toList.filter fun p => p.role = x).length

def Dev.dieBroken (d : Dev) : Nat := (dieSensors.filter fun n => d.th.sensor[n].broken).length

/-- Converter exclusions, 0x2701:07. -/
def Dev.exclusions (d : Dev) : Nat := bit 2 d.conv.b.excluded + bit 1 d.conv.a.excluded + bit 0 d.conv.excludedNode.isSome

/-- CAN ports lost, 0x2701:08. -/
def Dev.portsLost (d : Dev) : Nat := bit 1 (d.portB.heldOff || !d.portB.enabled) + bit 0 (d.portA.heldOff || !d.portA.enabled)

/-- A rail with phases that stands at its minimum available count. -/
def Dev.atMinimum (d : Dev) (r : Rail) : Bool := d.hasPhases r && (d.availableOf r).length ≤ d.nat 0x2237 (r.val + 1)

/-- EXHAUSTED, 0x2701:09 (Table 21-4). -/
def Dev.exhausted (d : Dev) : Nat :=
  bit 6 (d.gauge.exclA || d.gauge.exclB) + bit 5 (d.portsLost ≠ 0) + bit 4 (d.conv.a.excluded || d.conv.b.excluded) +
    bit 3 (dieSensors.any d.brokenPair) + bit 2 (8 ≤ d.otp.spares.length) + bit 1 (d.nv.freeSpares = 0) +
    bit 0 (allRails.any d.atMinimum)

/-- The parameter of a CAN injection without its reserved bits (Table 21-3, R5). -/
def canParam (v : Int) : Int := signExtend 32 ((v % 4294967296).toNat &&& 0x87FF3FFF)

def viewService (d : Dev) (idx sub : Nat) : Option Int :=
  let l := d.life
  if sub = 0 then none else
  match idx with
  | 0x2700 =>
    pick [l.hours, l.powerOns, l.brownOuts, l.latches, l.maxDie, l.warnS, l.pageWrites, d.nvWear, natDomain 4 l.firing,
          l.lastWrite] (sub - 1)
  | 0x2701 =>
    pick [d.roleCount .sapling, d.roleCount .retired, d.nv.freeSpares, (8 - d.otp.spares.length : Nat), d.vendor 3 32, d.dieBroken,
          d.exclusions, d.portsLost, d.exhausted] (sub - 1)
  | 0x2740 =>
    pick [ofBool d.power.test, bitsOf (d.test.slots.toList.map Slot.armed), d.test.began, d.test.injections] (sub - 1)
  | 0x2750 => if sub = 2 then some (ofBool d.tap.lockBlown) else none
  | _ => if h : 0x2741 ≤ idx ∧ idx ≤ 0x2748 then
      (let x : Slot := d.test.slots[idx - 0x2741]'(by omega)
       if sub = 3 ∧ d.nat idx 1 / 256 = 1 then some (canParam (d.int idx 3))
       else if sub = 6 then some (ofBool x.armed) else if sub = 7 then some x.performed else none)
    else none

/-! ## A read -/

/-- What an object reads as a register of the machine; `none` for a setting. -/
def Body.register (b : Body) (idx sub : Nat) : Option Int :=
  if idx < 0x2100 then viewIdentity b idx sub
  else if idx < 0x2140 then viewPath b idx sub
  else if idx < 0x2180 then viewCharger b idx sub
  else if idx < 0x2200 then viewGauge b.d idx sub
  else if idx < 0x2240 then viewGrove b.d idx sub
  else if idx < 0x2300 then viewIntegrated b.d idx sub
  else if idx < 0x2380 then viewSeq b idx sub
  else if idx < 0x2400 then viewCascade b idx sub
  else if idx < 0x2440 then viewThermal b.d idx sub
  else if idx < 0x2480 then viewConverters b.d idx sub
  else if idx < 0x24C0 then viewTimers b.d idx sub
  else if idx < 0x2500 then viewWatchdogs b idx sub
  else if idx < 0x2580 then viewFaults b.d idx sub
  else if idx < 0x2600 then viewPool b.d idx sub
  else if idx < 0x2640 then viewStorage b.d idx sub
  else if idx < 0x2680 then viewJournal b.d idx sub
  else if idx < 0x2700 then viewOtp b.d idx sub
  else viewService b.d idx sub

/-- The value of a readable object that depends on nothing but the state: a register, else the effective value of a setting. -/
def Body.value (b : Body) (idx sub : Nat) : Int := (b.register idx sub).getD (b.d.int idx sub)

/-- Host-area bytes, `n` from address `a` (R519). -/
def Body.hostRead (b : Body) (a n : Nat) : List Nat := (List.range n).map fun i => hostByte b.host (a + i)

/-- The log record selected in 0x2601:03, if it is held and not hidden (R518). -/
def Dev.selectedLog (d : Dev) : Option (Nat × LogRec) :=
  d.nv.log.find? fun x => x.1 = d.nat 0x2601 3 && x.1 > d.nv.hidden

/-- The journal entry that the lookup of 0x2644 selects (Table 19-8). -/
def Dev.selectedEntry (d : Dev) : Option Entry :=
  d.jour.entries.reverse.find? fun e => e.found && !e.cascade && e.client + 1 = d.nat 0x2644 1 && e.seq = d.nat 0x2644 2

/-- The value that a read returns, and the device after it: a result may be taken and a free value drawn. -/
def Body.fetch (b : Body) (idx sub : Nat) : Except Nat (Int × Body) :=
  if idx = 0x2443 ∧ sub = 1 then .ok (b.value idx sub, { b with d := b.d.takeResult })
  else if idx = 0x2601 ∧ sub = 4 then
    (match b.d.selectedLog with
     | some x => .ok ((ofBytesLE (x.2.bytes x.1) : Nat), b)
     | none => .error 0x08000024)
  else if idx = 0x2644 ∧ sub = 3 then
    (match b.d.selectedEntry with
     | some e => .ok ((ofBytesLE e.bytes : Nat), b)
     | none => .error 0x08000024)
  else if idx = 0x2610 ∧ sub = 2 then
    (let a := b.d.nat 0x2610 1
     let n := b.d.nat 0x2610 3
     if a + n > 0x4000 then .error 0x06090030 else .ok ((ofBytesLE (b.hostRead a n) : Nat), b))
  else if 0x2590 ≤ idx ∧ idx ≤ 0x25A7 ∧ sub = 0x0B then
    (match b.d.pickBuffer (idx - 0x2590) with
     | .ok (d, x) => .ok ((ofBytesLE (x.read (d.lossOf x.chan)) : Nat), { b with d := d.freeBuffer x.chan x.seq })
     | .error e => .error e)
  else if idx = 0x24C6 ∧ sub = 6 then
    -- the present tick of WD-H is no part of the state: a free value within the period (log entry 3)
    (let x := b.d.draw
     .ok ((x.1 % (b.d.wdh.late + 1) : Nat), { b with d := x.2 }))
  else if idx = 0x24C6 ∧ sub = 1 then
    (let x := b.d.draw
     .ok ((b.d.wdhStatus + (if b.d.wdhJudges then x.1 % 2 * 1024 else 0) : Nat), { b with d := x.2 }))
  else .ok (b.value idx sub, b)

/-- A read by a client: presence, subindex, access, then the value (R6, R466). -/
def Body.read (b : Body) (idx sub : Nat) : Except Nat (Int × Body) :=
  if !indexPresent idx then .error 0x06020000 else
  match row idx sub with
  | none => .error 0x06090011
  | some r => if r.acc = .wo then .error 0x06010001 else b.fetch idx sub

end Sys2Proof.Machine
end

