-- ==== Sys2Proof/Machine/Nvm.lean ====
section
/-!
DEFINITION. Machine/Nvm.lean: the configuration image, the host area, margin reads, and the programming and locking of OTP
(chapter 20).
-/
namespace Sys2Proof.Machine

/-- An abort whose code no rule states: a commit that fails leaves the answer of its write open (log entry 3). -/
def Dev.abortOpen (d : Dev) (w : Who) : Dev :=
  let x := d.draw
  x.2.abort w (x.1 % 2 ^ 32)

/-! ## Configuration image (R476, R514, R579) -/

/-- The classes of store and restore: every object, the communication objects, the device objects. -/
def inClass (sub k : Nat) : Bool := sub = 1 || (sub = 2 && k / 256 < 0x2000) || (sub = 3 && 0x2000 ≤ k / 256)

/-- The value of a setting in the layers beneath the image. -/
def Dev.beneath (d : Dev) (k : Nat) : Int :=
  match d.dict.otp.get k with
  | some v => v
  | none => romDefault d (k / 256) (k % 256)

/-- The keys of every object whose Stored attribute is yes. -/
def storedKeys : List Nat :=
  (rows.filter Row.stored).flatMap fun r =>
    (List.range (r.hi - r.lo + 1)).flatMap fun i => (List.range (r.shi - r.slo + 1)).map fun s => key (r.lo + i) (r.slo + s)

/-- The value of a setting as store parameters saves it: the control word of a timer with its RUN bit. -/
def Dev.settingValue (d : Dev) (k : Nat) : Int :=
  if h : 0x2481 ≤ k / 256 ∧ k / 256 < 0x2489 ∧ k % 256 = 1 then d.tmControl ⟨k / 256 - 0x2481, by omega⟩
  else d.int (k / 256) (k % 256)

/-- The entries that store parameters writes: those of the class that differ from the layers beneath, and those of the current
bank outside the class. -/
def Dev.storeEntries (d : Dev) (sub : Nat) (bank : ObjMap) : ObjMap :=
  (storedKeys.filter (inClass sub)).foldl (fun (m : ObjMap) k =>
    let v := d.settingValue k
    if v = d.beneath k then m else m.set k v) (bank.filter fun e => !inClass sub e.1)

/-- Write the inactive bank with new entries and make it current; `false` when the commit fails, which leaves that bank invalid. -/
def Dev.writeBank (d : Dev) (t : Nat) (entries : ObjMap) (v : Verify) : Dev × Bool :=
  let bank : Fin 2 := match d.nv.current with | some 0 => 1 | _ => 0
  let seq := (d.nv.banks[1 - bank].seq + 1) % 2 ^ 32
  let x := d.commitTo t regImage (48 * bank.val) 48 v
  if x.2 then
    (x.1.nv' fun n => { n with
      banks := upd n.banks bank fun _ => { blank := false, ok := true, seq := seq, entries := entries }, imageStatus := bank.val + 1 }, true)
  else (x.1.nv' fun n => { n with banks := upd n.banks bank fun b => { b with blank := false, ok := false } }, false)

/-- The entries of the bank in force. -/
def Dev.bankEntries (d : Dev) : ObjMap := match d.nv.current with | some i => d.nv.banks[i].entries | none => []

/-- A store or restore whose write has passed its checks. -/
def Dev.imageCommit (d : Dev) (t : Nat) (w : Who) (entries : ObjMap) (v : Verify) : Dev :=
  if imageBytes entries > 3056 then d.abort w 0x08000020 else
  let x := d.writeBank t entries v
  if x.2 then x.1.ok w else x.1.abortOpen w

def Dev.storeNow (d : Dev) (t : Nat) (w : Who) (sub : Nat) (v : Verify) : Dev :=
  d.imageCommit t w (d.storeEntries sub d.bankEntries) v

def Dev.restoreNow (d : Dev) (t : Nat) (w : Who) (sub : Nat) (v : Verify) : Dev :=
  let l : ObjMap := d.bankEntries.filter fun e => !inClass sub e.1
  d.imageCommit t w l v

/-! ## Host area (R519, R520) -/

/-- Whether an address lies in a protected block. -/
def Dev.hostProtected (d : Dev) (a : Nat) : Bool :=
  match d.nv.protection with
  | 1 => a ≥ 0x3000
  | 2 => a ≥ 0x2000
  | 3 => true
  | _ => false

/-- A page after a failed commit: no rule states what it holds, so every byte is a free value (log entry 3). -/
def Body.spoilPage (b : Body) (a : Nat) : Body :=
  let x := b.d.draw
  { b with host := hostWrite b.host (a / 64 * 64) ((List.range 64).map fun i => BitVec.ofNat 8 (x.1 / 256 ^ i)), d := x.2 }

/-- A host-area write whose checks have passed: one commit, then the answer. -/
def Body.hostNow (b : Body) (w : Who) (a : Nat) (data : List Byte) (v : Verify) : Body :=
  let x := b.d.commitTo b.hw.counter regHost (672 + a / 64) 1 v
  if x.2 then { b with host := hostWrite b.host a data, d := x.1.ok w }
  else
    let b := { b with d := x.1 }.spoilPage a
    { b with d := b.d.abortOpen w }

/-- What a host-area read finds: an uncorrectable word refuses it, and a corrected one has its page rewritten (R521). -/
def Dev.hostReadCheck (d : Dev) (t : Nat) (corrected : Bool) : Dev :=
  if !corrected then d else
  ((d.nv' fun n => { n with corrected := satInc 32 n.corrected }).wrotePages 1).raise t 102 1

/-! ## Answers at a commit (R465, R513) -/

/-- Answer one waiting write. -/
def Body.finish (b : Body) (x : Waiting) (v : Verify) : Body :=
  match x with
  | .store w sub => { b with d := b.d.storeNow b.hw.counter w sub v }
  | .restore w sub => { b with d := b.d.restoreNow b.hw.counter w sub v }
  | .host w a data => b.hostNow w a data v

/-- Whether a waiting write is of a commit kind. -/
def Waiting.isKind (x : Waiting) (k : CommitKind) : Bool :=
  match x, k with
  | .store _ _, .image => true
  | .restore _ _, .image => true
  | .host _ _ _, .hostArea => true
  | _, _ => false

/-- The write of a kind that waits longest is committed and answered. -/
def Body.finishWaiting (b : Body) (k : CommitKind) (us : Nat) (v : Verify) : Body :=
  match b.d.nv.waiting.findIdx? fun x => x.isKind k with
  | none => b
  | some i =>
    match b.d.nv.waiting[i]? with
    | none => b
    | some x =>
      if !b.d.commitAdmitted us then b
      else { b with d := b.d.nv' fun n => { n with waiting := n.waiting.eraseIdx i } }.finish x v

/-- A journal commit (R496): its failure raises FS111, and the journal is busy until a write succeeds. -/
def Dev.journalCommit (d : Dev) (t page pages : Nat) (v : Verify) : Dev × Bool :=
  let x := d.commitTo t regJournal page pages v
  if x.2 then (x.1.jour' fun j => { j with writeFailed := false, unmapped := false }, true)
  else
    let unmapped := v = .spare && x.1.nv.freeSpares = 0
    ((x.1.jour' fun j => { j with writeFailed := true, unmapped := j.unmapped || unmapped }).raise t 111 0, false)

/-- A commit finishes (R513): by its kind, the waiting write is answered or the record is kept. -/
def Body.commitComplete (k : CommitKind) (page : Fin 1024) (v : Verify) (b : Body) : Body :=
  let t := b.hw.counter
  match k with
  | .image => b.finishWaiting .image imageUs v
  | .hostArea => b.finishWaiting .hostArea hostUs v
  | .record =>
    { b with d := b.d.recordCommit page.val v t }
  | .journal => { b with d := if b.d.commitAdmitted entryUs then (b.d.journalCommit t page.val 2 v).1 else b.d }
  | .log => { b with d := b.d.logRecordCommit v t }
  | .gauge => { b with d := b.d.gaugeStoreWriteComplete v t }

/-! ## Margin reads (R521, R522) -/

/-- A record on a page that cannot be corrected is invalid: its owner loses that copy (R521). -/
def Dev.losePage (d : Dev) (page : Nat) : Dev :=
  if page < 96 then
    d.nv' fun n => { n with banks := upd n.banks ⟨page / 48 % 2, by omega⟩ fun b => { b with ok := false } }
  else if 256 ≤ page ∧ page < 640 then d.nv' fun n => { n with log := n.log.filter fun x => logPage x.1 ≠ page }
  else if 96 ≤ page ∧ page < 128 then { d with recs := d.recs.losePage page }
  else if page = 640 ∨ page = 641 then d.gauge' fun g => { g with copy0 := none }
  else if page = 656 ∨ page = 657 then d.gauge' fun g => { g with copy1 := none }
  else d

/-- The next page of the sweep is read at the tightened reference. The sweep pauses while no commit is admitted, in STANDBY and
in HOLDUP. -/
def Dev.marginRead (m : MarginResult) (t : Nat) (d : Dev) : Dev :=
  if d.power.state = .standby || d.power.state = .holdup || !d.commitAdmitted logUs then d else
  let page := d.nv.sweep
  let d := d.nv' fun n => { n with sweep := (n.sweep + 1) % 1024 }
  match m with
  | .good => d
  | .uncorrectable => d.losePage page
  | .margin =>
    let d := d.raise t 102 2
    if d.nv.marginOnce.contains page then
      (match d.remapPage t page with
       | some d => d.nv' fun n => { n with marginOnce := n.marginOnce.filter (· ≠ page) }
       | none => d.raise t 103 0)
    else (d.nv' fun n => { n with refreshes := satInc 32 n.refreshes, marginOnce := n.marginOnce ++ [page] }).wrotePages 1

/-! ## OTP programming (R532, R533) -/

/-- The words of a staged image: words 384 to 1015, those that are 0 left out. -/
def stagedWords (l : List Nat) : Words := ((l.zipIdx.map fun x => (384 + x.2, x.1 % 2 ^ 64)).filter fun x => x.2 ≠ 0)

/-- The staged image spelled by the bytes of a DOMAIN. -/
def domainWords (v : Nat) : List Nat := (List.range 632).map fun i => v / 2 ^ (64 * i) % 2 ^ 64

/-- Whether INTEGRATOR level is unlocked (R467, R468). -/
def Dev.integrator (d : Dev) : Bool := d.dict.key.isNone || d.dict.unlocked

/-- The conditions of R533 that may be lost while rows are programmed. -/
def Dev.progConditions (d : Dev) (dieOk : Bool) : Bool :=
  d.integrator && d.otp.trims.testBit 7 = false && !d.otp.locked && dieOk && (d.path.dcinValid || d.path.batValid) && d.path.holdReady &&
    !d.path.warning

/-- The die reads from 0 °C to 85 °C. -/
def Dev.dieForOtp (d : Dev) : Bool := dieSensors.all fun n => 0 ≤ d.th.sensor[n].reading && d.th.sensor[n].reading ≤ 1360

/-- The blank words that the staged image fills; `none` when a staged word meets a different word that is not blank. -/
def Dev.mergeStaged (d : Dev) : Option Words :=
  if d.otp.staged.any fun x => Words.get d.otp.words x.1 ≠ 0 && Words.get d.otp.words x.1 ≠ x.2 then none
  else some (d.otp.staged.filter fun x => Words.get d.otp.words x.1 = 0)

/-- The result (Table 20-12) that a merged region would fail with; 0 with none. -/
def contentsResult (cause : Nat) : Nat := if cause = 0 then 0 else cause + 1

def resultAbort (r : Nat) : Nat :=
  if r = 3 then 0x06040043 else if 4 ≤ r ∧ r ≤ 7 then 0x06090030 else if r = 0x0A then 0x0F000004
  else if r = 0x0B then 0x08000020 else 0x08000022

/-- The start of a programming: the result that refuses it, with its failing row, or the device programming. -/
def Dev.programResult (d : Dev) (dieOk : Bool) : Except Nat Words :=
  if !d.progConditions dieOk then .error 2
  else if (blankSlot d.otp.words).isNone then .error 8
  else match d.mergeStaged with
    | none => .error 3
    | some new =>
      let r := contentsResult (d.boardContents (new ++ d.otp.words))
      if r = 0 then .ok new else .error r

/-- The rows that receive words, ascending, and then the row of the CRC slot. -/
def progRows (new : Words) : List Nat := ((List.range 79).map (· + 48)).filter (fun r => new.any fun x => x.1 / 8 = r) ++ [127]

def Dev.startProgram (d : Dev) (w : Who) (new : Words) : Dev :=
  d.otp' fun o => { o with failingRow := 0xFF, prog := some ⟨w, progRows new, new, (blankSlot o.words).getD 0⟩ }

/-- A programming ends with a result. -/
def Dev.endProgram (d : Dev) (w : Who) (r : Nat) : Dev :=
  let d := d.otp' fun o => { o with prog := none, lastResult := r }
  if r = 1 then d.ok w else d.abort w (resultAbort r)

/-- The words that a row receives: those staged for it, or the CRC slot over rows 48 to 126 as they stand (R528). -/
def Dev.rowWords (d : Dev) (p : Prog) (r : Nat) : Words :=
  if r = 127 then [(1016 + p.slot, crcSlot (boardCrc d.otp.words))] else p.words.filter fun x => x.1 / 8 = r

/-- One row is programmed and verified. A row that fails moves to the lowest free spare row; with none free its words hold what
no rule states (log entry 3), and the programming ends. -/
def Dev.otpRow (verified : Bool) (d : Dev) : Dev :=
  match d.otp.prog with
  | none => d
  | some p =>
    match p.rows with
    | [] => d.endProgram p.who 1
    | r :: rest =>
      if !d.commitAdmitted otpRowUs then d else
      let new := d.rowWords p r
      if !verified && d.otp.spares.length ≥ 8 then
        let x := d.draw
        let d := x.2.otp' fun o => { o with
          failingRow := r, words := new.foldl (fun m y => Words.set m y.1 (x.1 / 2 ^ (64 * (y.1 % 8)) % 2 ^ 64)) o.words }
        d.endProgram p.who 0x0B
      else
        let d := d.otp' fun o => { o with
          words := new.foldl (fun m y => Words.set m y.1 y.2) o.words
          spares := if verified then o.spares else o.spares ++ [r], failingRow := if verified then o.failingRow else r
          prog := some { p with rows := rest } }
        if rest = [] then d.endProgram p.who 1 else d

/-- A row has waited more than 100 ms, or a condition of R533 is lost. -/
def Dev.programmingStop (waitedUs : Nat) (d : Dev) : Dev :=
  match d.otp.prog with
  | none => d
  | some p => if waitedUs > 100000 || !d.progConditions d.dieForOtp then d.endProgram p.who 0x0A else d

/-- The lock (R534): the abort that refuses it, or the fuse blown. -/
def Dev.lockBoard (d : Dev) (wordsOk : Bool) : Except Nat Dev :=
  if d.otp.prog.isSome then .error 0x08000022
  else if d.otp.locked || !wordsOk || !crcMatches d.otp.words then .error 0x0F000005
  else .ok (d.otp' fun o => { o with locked := true })

/-! ## The commands -/

def execCommitComplete (k : CommitKind) (page : Fin 1024) (v : Verify) (s : State) : Host.Outcome State Fault Refusal :=
  .next (s.coreBody (Body.commitComplete k page v))
def execMarginRead (m : MarginResult) (s : State) : Host.Outcome State Fault Refusal := .next (s.core (Dev.marginRead m))
def execOtpRowProgrammed (verified : Bool) (s : State) : Host.Outcome State Fault Refusal :=
  .next (s.core fun _ => Dev.otpRow verified)
def execProgrammingStop (waitedUs : Nat) (s : State) : Host.Outcome State Fault Refusal :=
  .next (s.core fun _ => Dev.programmingStop waitedUs)

end Sys2Proof.Machine
end

