-- ==== Sys2Proof/Machine/Pins.lean ====
section
/-!
DEFINITION. Machine/Pins.lean: the pins of Table 3-5 and the state each stands in: its Unpowered state while the core domain has
no supply, its Reset state from a brown-out reset to the device power-on reset that follows, and otherwise what its block drives;
and the boundary-scan cells over them (R52, R57 to R60, R552).
-/
namespace Sys2Proof.Machine

/-- The state codes of Table 3-5, and what a block drives beyond them. -/
inductive PinState where
  | z                              -- high impedance; an analogue input, its bias off; the mid state of PWM_nn
  | pullUp | pullDown
  | low | high
  | off                            -- a gate or a supply that is off
  | armed                          -- a pair's gate drive, ready and off
  | conducting                     -- a pair's gate, driven
  | switching                      -- a gate, a switch node or PWM_nn, switching
  | driven                         -- an analogue output at its level
  | receive                        -- the COPAK pair between this unit's frames
  | released                       -- an open-drain output that does not pull down
  | running                        -- a crystal
  deriving DecidableEq, Repr

/-- The pins of Table 3-5 but for supplies, grounds and the charger's bootstraps, which have no state there. -/
inductive Pin where
  | dcin | iin | dgate | vsys | bgate | batsns | shunt | mainSense | swPre
  | chgHigh (k : Fin 4) | chgSw (k : Fin 4) | chgLow (k : Fin 4) | chgIs (k : Fin 2) | chgCs
  | swIb (n : Fin 6) | fbIb (n : Fin 6) | vout (n : Fin 8)
  | xeEn (n : Fin 8) | xePg (n : Fin 8)
  | xi32k | nWake | xi25
  | canTx (p : Port) | canRx (p : Port) | canStb (p : Port)
  | cpk | csync | node (n : Fin 3) | addr (n : Fin 3)
  | nFault | nRst | nHrst | nThr | hfrz
  | tck | tms | tdi | tdo | nTrst
  | lsf (n : Fin 4) | tio (n : Fin 4) | ain (n : Fin 12)
  | tn (n : Fin 8) | csref | tmon (n : Fin 8) | gs (r : Rail) | ls (r : Rail) | cs (p : Phase) | flt (r : Rail) | pwm (p : Phase)
  deriving DecidableEq, Repr

/-- The Unpowered column of Table 3-5. -/
def Pin.unpowered (p : Pin) : PinState :=
  match p with
  | .dgate | .bgate | .swPre | .vout _ | .xi25 => .off
  | .chgHigh _ | .chgLow _ => .low
  | .xi32k => .running
  | .nWake => .pullUp
  | .dcin | .iin | .vsys | .batsns | .shunt | .mainSense | .chgSw _ | .chgIs _ | .chgCs | .swIb _ | .fbIb _ | .xeEn _ | .xePg _
  | .canTx _ | .canRx _ | .canStb _ | .cpk | .csync | .node _ | .addr _ | .nFault | .nRst | .nHrst | .nThr | .hfrz
  | .tck | .tms | .tdi | .tdo | .nTrst | .lsf _ | .tio _ | .ain _ | .tn _ | .csref | .tmon _ | .gs _ | .ls _ | .cs _ | .flt _
  | .pwm _ => .z

/-- The Reset column of Table 3-5. -/
def Pin.reset (p : Pin) : PinState :=
  match p with
  | .dgate | .bgate => .armed
  | .swPre | .vout _ | .xi25 => .off
  | .chgHigh _ | .chgLow _ | .xeEn _ | .canStb _ | .nFault => .low
  | .canTx _ => .high
  | .xi32k => .running
  | .nWake | .xePg _ | .nRst | .tms | .tdi => .pullUp
  | .node _ | .addr _ | .hfrz | .tck | .nTrst | .lsf _ | .tio _ | .flt _ => .pullDown
  | .cpk => .receive
  | .csync | .nHrst | .nThr => .released
  | .csref => .driven
  | .dcin | .iin | .vsys | .batsns | .shunt | .mainSense | .chgSw _ | .chgIs _ | .chgCs | .swIb _ | .fbIb _ | .canRx _ | .tdo
  | .ain _ | .tn _ | .tmon _ | .gs _ | .ls _ | .cs _ | .pwm _ => .z

/-- An open-drain output. -/
def openDrain (low : Bool) : PinState := if low then .low else .released

/-- A push-pull output. -/
def pushPull (high : Bool) : PinState := if high then .high else .low

def Pair.pin (x : Pair) : PinState := if x = .off then .off else .conducting

/-- What the block that owns a pin drives; a pin that no block has configured otherwise stays in its Reset state. -/
def Dev.blockPin (d : Dev) (p : Pin) : PinState :=
  match p with
  | .dgate => d.path.dPair.pin
  | .bgate => d.path.bPair.pin
  | .swPre => .switching
  | .chgHigh _ | .chgLow _ | .chgSw _ =>
    if d.chgSwitching then .switching else p.reset
  | .swIb n => if (d.integ.ib[n]).on && !d.integ.ib[n].hiccup then .switching else .z
  | .vout n => if d.integ.ld[n].on then .driven else .off
  | .xeEn n => pushPull d.integ.xe[n].en
  | .xi25 => if d.clk.crystal || d.clk.crystalWanted then .running else .off
  | .canStb _ => pushPull (d.power.state = .standby)
  | .csync => openDrain d.casc.csyncLow
  | .nFault => openDrain d.nFaultLow
  | .nHrst => openDrain d.wdh.hrstLow
  | .nThr => openDrain d.th.throttle
  | .tio n =>
    match d.tmCtl ⟨n.val, by omega⟩ / 4096 % 4 with
    | 1 => pushPull (d.tioLevel n)
    | 2 => .z
    | _ => p.reset
  | .pwm n => if d.firingIs n .firing || d.firingIs n .ramping || d.firingIs n .leaving then .switching else .z
  | .dcin | .iin | .vsys | .batsns | .shunt | .mainSense | .chgIs _ | .chgCs | .fbIb _ | .xePg _ | .xi32k | .nWake
  | .canTx _ | .canRx _ | .cpk | .node _ | .addr _ | .nRst | .hfrz | .tck | .tms | .tdi | .tdo | .nTrst | .lsf _ | .ain _ | .tn _
  | .csref | .tmon _ | .gs _ | .ls _ | .cs _ | .flt _ => p.reset

/-! ## Boundary scan (R552) -/

/-- The lands of class IO other than the 25 MHz crystal and the TAP, in the order of Table 3-3: row H to row P, column 1 to 24. -/
def scanPins : List Pin :=
  (List.finRange 8).flatMap (fun n => [.xeEn n, .xePg n]) ++
  [.canTx .a, .canRx .a, .canStb .a, .canTx .b, .canRx .b, .canStb .b, .cpk, .csync] ++
  (List.finRange 3).map .node ++ (List.finRange 3).map .addr ++ [.nFault, .nRst, .nHrst, .nThr, .hfrz] ++
  (List.finRange 4).map .lsf ++ (List.finRange 4).map .tio ++
  [.flt 0, .flt 1, .flt 2, .flt 3] ++ (List.finRange 20).map .pwm ++ [.flt 4, .flt 5, .flt 6, .flt 7]

/-- Whether a land can drive. -/
def Pin.drives (p : Pin) : Bool :=
  match p with
  | .xeEn _ | .canTx _ | .canStb _ | .cpk | .csync | .nFault | .nHrst | .nThr | .tio _ | .pwm _ => true
  | _ => false

inductive ScanCell where
  | input | output | control
  deriving DecidableEq, Repr

/-- The 153 cells, the first nearest TDO: an input cell for each land, and an output and a control cell for one that can drive. -/
def scanCells : List (Pin × ScanCell) :=
  scanPins.flatMap fun p => if p.drives then [(p, .input), (p, .output), (p, .control)] else [(p, .input)]

/-- The value that a cell of the boundary register holds. -/
def Tap.cell (x : Tap) (p : Pin) (c : ScanCell) : Bool := x.cells.testBit (scanCells.idxOf (p, c))

/-- Whether a pin is an open-drain output. -/
def Pin.isOpenDrain (p : Pin) : Bool := p = .csync || p = .nFault || p = .nHrst || p = .nThr

/-- What the cells drive on a land under EXTEST and CLAMP. -/
def Tap.drive (x : Tap) (p : Pin) : PinState :=
  if !x.cell p .control then .z
  else if p.isOpenDrain then openDrain (!x.cell p .output)
  else pushPull (x.cell p .output)

/-- The state of a pin (Table 3-5). -/
def Dev.pin (d : Dev) (p : Pin) : PinState :=
  if !d.power.coreOn then (if d.power.brownOut then p.reset else p.unpowered)
  else if p.drives && (d.tap.instr = 0x00 || d.tap.instr = 0x04) then d.tap.drive p
  else if p.drives && d.tap.instr = 0x05 then .z
  else d.blockPin p

/-- What a capture finds in a cell, where the state of the land tells it. -/
def Dev.cellCapture (d : Dev) (p : Pin) (c : ScanCell) : Option Bool :=
  match d.blockPin p, c with
  | .low, .control | .high, .control => some true
  | .z, .control | .pullDown, .control | .released, .control | .receive, .control => if p.drives then some false else none
  | .low, _ => some false
  | .high, _ => some true
  | _, _ => none

/-- The boundary register at a capture; a level that comes from outside, or that a switching land has at that moment, is a bit of
`outside`. -/
def Dev.scanCapture (d : Dev) (outside : Nat) : Nat :=
  bitsOf (scanCells.zipIdx.map fun x => (d.cellCapture x.1.1 x.1.2).getD (outside.testBit x.2))

end Sys2Proof.Machine
end

