-- ==== Sys2Proof/Machine/Service.lean ====
section
/-!
DEFINITION. Machine/Service.lean: the integrator key, fault-injection slots, the test access port and debug access (chapters 18
and 21).
-/
namespace Sys2Proof.Machine

/-! ## Integrator key (R467, R468) -/

/-- Compare a key outside a lockout: whether it matches, and the device after the count. The third consecutive mismatch starts the
lockout. -/
def Dev.compareKey (d : Dev) (key v : Nat) : Dev × Bool :=
  if v = key then (d.dict' fun x => { x with consecutive := 0 }, true)
  else
    let third := d.dict.consecutive + 1 ≥ 3
    (d.dict' fun x => { x with mismatches := satInc 16 x.mismatches, lockout := third
                               consecutive := if third then 0 else x.consecutive + 1 }, false)

/-- The lockout ends 10 s after the third mismatch. -/
def Dev.keyLockoutEnd (sinceMs : Nat) (d : Dev) : Dev :=
  if d.dict.lockout && sinceMs ≥ 10000 then d.dict' fun x => { x with lockout := false, consecutive := 0 } else d

/-! ## Fault injection (R545, R546, Table 21-2) -/

/-- Whether a slot's kind fits its target, and its parameter the range that the kind states. -/
def Dev.slotFits (d : Dev) (s : SlotNo) : Bool :=
  let target := (d.slotInt s 1).toNat
  let kind := (d.slotInt s 2).toNat
  let p := d.slotInt s 3
  let n := target % 256
  match target / 256 with
  | 1 => 1 ≤ kind && kind ≤ 5 && n ≤ 1
  | 2 => 0x10 ≤ kind && kind ≤ 0x12 && n = 0
  | 3 => (kind = 0x20 || kind = 0x21) && n ≤ 5
  | 4 => kind = 0x30 && n ≤ 27 && -1280 ≤ p && p ≤ 1280
  | 5 => kind = 0x40 && n / 32 % 4 = 0
  | _ => false

def Dev.slot' (d : Dev) (s : SlotNo) (f : Slot → Slot) : Dev := d.test' fun x => { x with slots := upd x.slots s f }

/-- Arm or disarm a slot; arming begins its counts. -/
def Dev.armSlot (d : Dev) (s : SlotNo) (on : Bool) : Dev :=
  d.slot' s fun x => if on then { armed := true, seen := 0, performed := 0 } else { x with armed := false }

/-- TEST begins; a device already in TEST stays as it is. -/
def Dev.beginTest (d : Dev) (t : Nat) : Dev :=
  if d.power.test then d else (d.power' fun p => { p with test := true }).test' fun x => { x with began := t }

/-! ## Test access port (R551, R552) -/

/-- What the instruction register captures. No rule states its bit 4: a free value (log entry 3). -/
def Dev.irCapture (d : Dev) : Dev :=
  let x := d.draw
  x.2.send (.tap (x.1 % 2 * 16 + bit 3 d.debugOpen + bit 2 d.tap.refused + 1))

/-- Load an instruction. -/
def Dev.loadIr (d : Dev) (code : Nat) : Dev := d.irCapture.tap' fun x => { x with instr := code, refused := false }

/-- Whether EXTEST, CLAMP and HIGHZ may be loaded: nothing is on and the charger is not switching. -/
def Dev.scanAllowed (d : Dev) : Bool := d.onMask = 0 && !d.chgSwitching

/-- Load one of those three, or BYPASS with the refusal bit. -/
def Dev.loadGuarded (d : Dev) (code : Nat) : Dev :=
  if d.scanAllowed then d.loadIr code else d.irCapture.tap' fun x => { x with instr := 0x1F, refused := true }

/-- A scan of the boundary register: what it captured leaves, and the cells take what was shifted in. The levels that come from
outside are a free value (log entry 3). -/
def Dev.scanCells (d : Dev) (cells : Nat) : Dev :=
  let x := d.draw
  (x.2.send (.tap (d.scanCapture x.1))).tap' fun y => { y with cells := cells % 2 ^ 153 }

def Dev.extest (cells : Nat) (d : Dev) : Dev :=
  let d := d.loadGuarded 0x00
  if d.tap.instr = 0 then d.scanCells cells else d

def Dev.samplePreload (cells : Nat) (d : Dev) : Dev := (d.loadIr 0x02).scanCells cells

/-- IDCODE: version 2, part 0x9220, manufacturer field 0x1D5, and bit 0 (Table 21-5). -/
def idCode : Nat := 0x292203AB

/-- Test-Logic-Reset (R551), which ends the effect of a key shifted in before (R553). -/
def Dev.tapReset (d : Dev) : Dev := d.tap' fun x => { x with instr := 0x01, refused := false, keyed := false }

/-! ## Debug access (R553 to R555) -/

/-- A key shifted through DBGKEY. -/
def Dev.dbgkey (key : Nat) (d : Dev) : Dev :=
  let d := d.loadIr 0x10
  match d.dict.key with
  | none => d
  | some k =>
    if d.dict.lockout then d else
    let x := d.compareKey k (key % 2 ^ 32)
    if x.2 then x.1.tap' fun y => { y with keyed := true } else x.1

/-- The cores run again; WD-C counts on, and the queued frames are served. -/
def Dev.resumeCores (d : Dev) : Dev :=
  if !d.tap.halted then d.tap' fun x => { x with haltDue := false } else
  let d := (d.tap' fun x => { x with halted := false, haltDue := false }).power' fun p => { p with coresStopped := false }
  { d with wdc := { d.wdc with halted := false }, portA := { d.portA with queued := 0 }, portB := { d.portB with queued := 0 } }

/-- An access to the vendor debug port other than an open vendor write. -/
def Dev.dbgacc (q : DebugReq) (d : Dev) : Dev :=
  let d := d.loadIr 0x11
  if !d.debugOpen then d.send (.tap 0) else
  match q with
  | .halt => if d.power.state = .standby then d.tap' fun x => { x with haltDue := true } else d.haltCores
  | .resume => d.resumeCores
  | .vendorRead reg => d.send (.tap (Config.vendorPort reg))
  | .vendorWrite _ _ => d

/-- The debug-lock fuse is blown: open access closes, halted cores resume, and HFRZ loses its effect. -/
def Dev.blowDebugLock (d : Dev) : Dev := (d.tap' fun x => { x with lockBlown := true }).resumeCores

/-! ## The commands -/

def execKeyLockoutEnd (sinceMs : Nat) (s : State) : Host.Outcome State Fault Refusal :=
  .next (s.core fun _ => Dev.keyLockoutEnd sinceMs)
def execTapReset (s : State) : Host.Outcome State Fault Refusal := .next (s.core fun _ => Dev.tapReset)
def execExtest (cells : Nat) (s : State) : Host.Outcome State Fault Refusal := .next (s.core fun _ => Dev.extest cells)
def execIdcode (s : State) : Host.Outcome State Fault Refusal :=
  .next (s.core fun _ d => (d.loadIr 0x01).send (.tap idCode))
def execSamplePreload (cells : Nat) (s : State) : Host.Outcome State Fault Refusal :=
  .next (s.core fun _ => Dev.samplePreload cells)
def execClamp (s : State) : Host.Outcome State Fault Refusal := .next (s.core fun _ d => d.loadGuarded 0x04)
def execHighz (s : State) : Host.Outcome State Fault Refusal := .next (s.core fun _ d => d.loadGuarded 0x05)
def execDbgkey (key : Nat) (s : State) : Host.Outcome State Fault Refusal := .next (s.core fun _ => Dev.dbgkey key)
/-- An open write to a vendor register refuses: R553 does not describe those registers. -/
def execDbgacc (q : DebugReq) (s : State) : Host.Outcome State Fault Refusal :=
  match q with
  | .vendorWrite _ _ => if s.b.d.power.coreOn && s.b.d.debugOpen then .refused .vendorDebugPort else .next (s.core fun _ => Dev.dbgacc q)
  | _ => .next (s.core fun _ => Dev.dbgacc q)
def execBypass (s : State) : Host.Outcome State Fault Refusal := .next (s.core fun _ d => d.loadIr 0x1F)

end Sys2Proof.Machine
end

