-- ==== Sys2Proof/Machine/Writing.lean ====
section
/-!
DEFINITION. Machine/Writing.lean: a write of an object: the checks of Table 18-4 in their order (R470), and the effect of a write
that has passed them.
-/
namespace Sys2Proof.Machine

/-! ## Form of a write (steps 1 to 7) -/

/-- The exact length of an object's values in bytes; `none` for the command DOMAIN, whose length its own form gives. -/
def objectLen (idx sub : Nat) (r : Row) : Option Nat :=
  if r.size ≠ 0 then some r.size
  else if idx = 0x2610 ∧ sub = 2 then some 64
  else if idx = 0x2681 ∧ sub = 1 then some 5056
  else if idx = 0x2640 then none
  else some (entrySize idx r)

/-- The objects that R469 leaves writable while the board configuration has failed. -/
def writableWhenFailed (idx sub : Nat) : Bool :=
  idx = 0x2002 || (idx = 0x2500 && 2 ≤ sub && sub ≤ 6) || (0x2680 ≤ idx && idx ≤ 0x2682)

/-- Steps 1 to 5 of Table 18-4: the row of the object, or the abort. -/
def Dev.steps1to5 (d : Dev) (idx sub : Nat) : Except Nat Row :=
  if !indexPresent idx then .error 0x06020000 else
  match row idx sub with
  | none => .error 0x06090011
  | some r =>
    if r.acc = .ro ∨ r.acc = .const ∨ r.acc = .rwro then .error 0x06010002
    else if !d.otp.boardOk ∧ !writableWhenFailed idx sub then .error 0x0F000006
    else if r.integrator ∧ !d.integrator then .error 0x0F000003
    else if idx = 0x2002 ∧ sub = 1 ∧ d.dict.lockout ∧ d.dict.key.isSome then .error 0x0F000007
    else .ok r

/-! ## Sampler maps (R480) -/

/-- The words of a sampler map. -/
def mapWords (v : Nat) : List Nat := (List.range 8).map fun i => v / 2 ^ (32 * i) % 2 ^ 32

/-- Whether a sampler map holds only mappable objects, at most 32 bytes in all (R480). -/
def samplerMapOk (v : Nat) : Bool :=
  let l := ((mapWords v).filter (· ≠ 0)).map (mappedBytes false)
  l.all Option.isSome && (l.map fun x => x.getD 0).sum ≤ 32

/-! ## Value (step 7) -/

/-- Whether 0 or a value in a range is written. -/
def zeroOr (v : Int) (lo hi : Int) : Bool := v = 0 || (lo ≤ v && v ≤ hi)

/-- The encodings that a single range cannot state. -/
def Dev.encodingOk (d : Dev) (idx sub : Nat) (v : Int) : Bool :=
  let n := v.toNat
  if idx = 0x1005 ∨ idx = 0x1012 then !n.testBit 30
  else if ((0x1400 ≤ idx ∧ idx ≤ 0x140F) ∨ (0x1800 ≤ idx ∧ idx ≤ 0x180F)) ∧ sub = 2 then n ≤ 240 || n ≥ 254
  else if h : 0x2200 ≤ idx ∧ idx ≤ 0x2207 then
    (if sub = 1 then n = 0 || (let c := setPointCode n (d.ratio ⟨idx - 0x2200, by omega⟩); 1000 ≤ c && c ≤ 8000)
     else if sub = 0x34 then zeroOr v 8 255 else true)
  else if idx = 0x2230 ∧ sub = 2 then zeroOr v 10 60000
  else if idx = 0x2230 ∧ sub = 4 then n ∈ [16, 32, 64, 128, 256, 512, 1024]
  else if 0x2240 ≤ idx ∧ idx ≤ 0x2245 ∧ sub = 1 then zeroOr v 600 5000 && n % 5 = 0
  else if 0x2248 ≤ idx ∧ idx ≤ 0x224F ∧ sub = 1 then zeroOr v 800 3600 && n % 5 = 0
  else if idx = 0x2142 ∧ sub = 4 then n % 4 ≠ 0
  else if idx = 0x2180 ∧ sub = 2 then zeroOr v 5 16
  else if idx = 0x2180 ∧ sub = 3 then zeroOr v 1000 2000000
  else if idx = 0x2182 then ocvValid n
  else if idx = 0x2300 ∧ sub = 6 then n % 256 = 0
  else if idx = 0x2305 then n < 30 || n = 0xFF
  else if idx = 0x2403 ∧ sub = 1 then n = 2 || n = 4
  else if idx = 0x2441 then
    (match sub with
     | 1 => n ≤ 2
     | 2 => 1 ≤ n && n ≤ 16
     | 3 => n < 8 || (16 ≤ n && n < 24)
     | 5 => n < 24 || n = 0xFF
     | _ => true)
  else if idx = 0x2442 then entryValid n
  else if 0x2481 ≤ idx ∧ idx ≤ 0x2488 ∧ sub = 1 then n / 4096 % 4 ≠ 3 && n / 1024 % 4 ≠ 3
  else if idx = 0x24C4 ∧ sub = 6 then n ≤ 2
  else if idx = 0x2590 ∨ (0x2590 ≤ idx ∧ idx ≤ 0x25A7) then
    (if sub = 5 then zeroOr v 100 60000000 else if sub = 6 then samplerMapOk n else true)
  else if idx = 0x2610 ∧ sub = 4 then n ≤ 3
  else if idx = 0x2682 then n = 0x6B636F6C
  else if idx = 0x2750 then n = 0x67756264
  else if h : 0x2741 ≤ idx ∧ idx ≤ 0x2748 then sub ≠ 6 || n = 0 || d.slotFits ⟨idx - 0x2741, by omega⟩
  else true

/-- Step 7: the object's own range and encoding, and the signatures of store and restore. -/
def Dev.step7 (d : Dev) (idx sub : Nat) (r : Row) (v : Int) : Option Nat :=
  if idx = 0x1010 then (if v = 0x65766173 then none else some 0x08000020)
  else if idx = 0x1011 then (if v = 0x64616F6C then none else some 0x08000020)
  else if r.ty ≠ .d ∧ (v < r.min ∨ r.max < v) then some 0x06090030
  else if idx = 0x2510 ∧ !sourceWordOk (sub - 1) v.toNat then some 0x06090030
  else if d.encodingOk idx sub (maskReserved idx sub v) then none
  else some 0x06090030

/-! ## State (step 9) -/

/-- The targets of this unit that are reserved: those of entries being applied or prepared, and of the master's transaction. -/
def Dev.reservedTargets (d : Dev) : List Target :=
  let txn (e : Entry) : Bool := match d.casc.txn with | some x => !e.cascade && e.tag = x.tag | none => false
  (d.jour.entries.filter fun e => e.state = .prepared || (e.state = .accepted && txn e)).flatMap fun e =>
    e.targets.filter fun t => t.unit = 0

/-- Whether a write of an object meets a reserved target (R281, R500). -/
def Dev.objectReserved (d : Dev) (idx sub : Nat) : Bool := d.reservedTargets.any fun t => t.shares ⟨0, 1, idx, sub, 0, 0⟩

/-- A channel is off: not in soft start, regulation, hiccup or turn-off (R205, R226). -/
def ChanSt.isOff (x : ChanSt) : Bool := !x.on && !x.hiccup && !x.recovery && !x.disch

/-- Whether the client of an entry of 0x1016 has a command in ACCEPTED or PREPARED (R460). -/
def Dev.clientBusy (d : Dev) (k : Nat) : Bool := d.jour.entries.any fun e => !e.state.ended && !e.cascade && e.client + 1 = k

/-- Whether a PDO may be reconfigured: bit 31 of its COB-ID is set. -/
def Dev.pdoOff (d : Dev) (cobIdx : Nat) : Bool := (d.nat cobIdx 1).testBit 31

/-- The state rules of the communication objects and of objects 0x2007. -/
def Dev.commState (d : Dev) (idx sub : Nat) (v : Int) : Bool :=
  if idx = 0x1016 then v = d.int idx sub || !d.clientBusy sub
  else if 0x1600 ≤ idx ∧ idx ≤ 0x160F then d.pdoOff (idx - 0x200)
  else if 0x1A00 ≤ idx ∧ idx ≤ 0x1A0F then d.pdoOff (idx - 0x200)
  else if idx = 0x2007 then d.pdoOff (if sub ≤ 16 then 0x1400 + (sub - 1) else 0x1800 + (sub - 17))
  else true

/-- The state rules of rails, channels and enables. -/
def Dev.branchState (d : Dev) (idx sub : Nat) (v : Int) : Bool :=
  if h : 0x2200 ≤ idx ∧ idx ≤ 0x2207 then
    let off := d.grove.rail[idx - 0x2200].mode = .off
    if sub = 1 then v ≠ 0 || off
    else if (2 ≤ sub ∧ sub ≤ 6) ∨ sub = 0x22 ∨ (0x25 ≤ sub ∧ sub ≤ 0x2C) then off else true
  else if h : 0x2240 ≤ idx ∧ idx ≤ 0x2245 then
    let off := d.integ.ib[idx - 0x2240].isOff
    if sub = 1 then v ≠ 0 || off else if sub = 3 then true else off
  else if h : 0x2248 ≤ idx ∧ idx ≤ 0x224F then
    let off := d.integ.ld[idx - 0x2248].isOff
    if sub = 1 then v ≠ 0 || off else if sub = 3 then true else off
  else if h : 0x2250 ≤ idx ∧ idx ≤ 0x2257 then !(d.integ.xe[idx - 0x2250].en)
  else true

/-- The state rules of the charger (R292, R296, R315). -/
def Dev.chargerState (d : Dev) (sub : Nat) (v : Int) : Bool :=
  if 1 ≤ sub ∧ sub ≤ 3 then
    !d.chg.wdExpired && !(sub = 1 && v = 1 && (d.nat 0x2140 4 = 0 || d.nat 0x2140 2 = 0 || d.nat 0x2140 3 = 0))
  else if sub ∈ [4, 5, 0x0E, 0x0F, 0x10] then d.chg.phase = .disabled
  else true

/-- The state rules of converters, timers, pool, storage and injection slots. -/
def Dev.serviceState (d : Dev) (idx sub : Nat) (v : Int) : Bool :=
  let n := v.toNat
  if idx = 0x2441 ∨ idx = 0x2442 then
    d.hkMayWrite idx sub n && !(idx = 0x2441 && sub = 5 && n < 24 && d.chanSource n = 2)
  else if idx = 0x2480 then !((List.finRange 8).any fun k => n.testBit k.val && d.tmReserved k)
  else if h : 0x2481 ≤ idx ∧ idx ≤ 0x2488 then d.timerMayWrite ⟨idx - 0x2481, by omega⟩ sub n
  else if idx = 0x2500 ∧ sub = 6 then d.srcState n = .timing
  else if 0x2590 ≤ idx ∧ idx ≤ 0x25A7 ∧ (sub = 5 ∨ sub = 6) then d.nat 0x2441 5 ≠ idx - 0x2590
  else if idx = 0x2610 ∧ sub = 2 then !d.hostProtected (d.nat 0x2610 1)
  else if idx = 0x2740 then n = 0 || d.inRun
  else if h : 0x2741 ≤ idx ∧ idx ≤ 0x2748 then
    let armed := d.test.slots[idx - 0x2741].armed
    if sub ≤ 5 then !armed else n = 0 || d.power.test
  else true

/-- Step 9: the present state of the device or of the object's block, reservations included where they are asked for. -/
def Dev.step9 (d : Dev) (idx sub : Nat) (v : Int) : Bool :=
  if idx < 0x2010 then d.commState idx sub v
  else if idx = 0x2140 then d.chargerState sub v
  else if idx = 0x2238 ∧ sub = 3 then d.nat 0x2238 1 ≠ 0 && d.grove.run.isNone
  else if 0x2200 ≤ idx ∧ idx ≤ 0x2257 then d.branchState idx sub v
  else d.serviceState idx sub v

/-! ## Rules across objects and the budget (steps 10 and 11) -/

/-- Step 10 for the mappings (R473, R474). -/
def Dev.mappingRule (d : Dev) (idx sub : Nat) (v : Int) : Option Nat :=
  if ((0x1600 ≤ idx ∧ idx ≤ 0x160F) ∨ (0x1A00 ≤ idx ∧ idx ≤ 0x1A0F)) ∧ sub = 0 then d.mappingCheck idx v.toNat
  else if 0x1400 ≤ idx ∧ idx ≤ 0x140F ∧ sub = 1 ∧ !v.toNat.testBit 31 ∧ (d.nat 0x2007 (idx - 0x1400 + 1)).testBit 7 ∧
      !d.journaledMapOk (idx - 0x1400) then some 0x06040043
  else none

/-- Steps 10 and 11 over several values submitted together (R219); each object's rules are judged with all of them in force. -/
def Dev.submission (d : Dev) (l : List (Nat × Nat × Int)) : Option Nat × Dev :=
  let new := l.foldl (fun d x => d.setLive x.1 x.2.1 x.2.2) d
  let ten := l.findSome? fun x => match new.step10 x.1 x.2.1 with
    | some c => some c
    | none => d.mappingRule x.1 x.2.1 x.2.2
  match ten with
  | some c =>
    (some c, if l.any (fun x => isBudgetObject x.1 x.2.1) && new.budgetCause ≥ 3
      then d.integ' fun i => { i with refusal := new.budgetCause } else d)
  | none =>
    match l.findSome? fun x => new.step11 x.1 x.2.1 with
    | some c => (some c, d.integ' fun i => { i with refusal := new.budgetCause })
    | none => (none, d)

/-- Step 12: the commit that a write waits for is admitted. -/
def Dev.step12 (d : Dev) (idx sub : Nat) (v : Int) : Bool :=
  if idx = 0x1010 ∨ idx = 0x1011 then d.commitAdmitted imageUs
  else if idx = 0x2610 ∧ sub = 2 then d.commitAdmitted hostUs
  else if idx = 0x2681 ∧ sub = 2 then v = 0 || d.commitAdmitted otpRowUs
  else true

/-- The checks of steps 1 to 11 and the programming conditions of R532 and R534, in order; the value to apply, or the abort and
the device after it. -/
def Dev.checkWrite (d : Dev) (idx sub len : Nat) (v : Int) : Except (Nat × Dev) Int :=
  match d.steps1to5 idx sub with
  | .error c => .error (c, d)
  | .ok r =>
    if objectLen idx sub r ≠ none ∧ objectLen idx sub r ≠ some len then .error (0x06070010, d) else
    match d.step7 idx sub r v with
    | some c => .error (c, d)
    | none =>
      let v := maskReserved idx sub v
      if !withinCeiling d idx sub v then .error (0x0F000001, d)
      else if !d.step9 idx sub v ∨ d.objectReserved idx sub then .error (0x08000022, d)
      else match d.submission [(idx, sub, v)] with
        | (some c, d) => .error (c, d)
        | (none, _) => .ok v

/-! ## Effects -/

/-- The key compared with the one that is programmed (R467, R468). -/
def Dev.writeKey (d : Dev) (v : Nat) : Dev × Nat :=
  match d.dict.key with
  | none => (d, 0)
  | some k =>
    let x := d.compareKey k v
    if x.2 then (x.1.dict' fun y => { y with unlocked := true }, 0) else (x.1, 0x0F000003)

/-- A new entry of 0x1016: a client that changes starts afresh (R461, R492). -/
def Dev.register (d : Dev) (k : Nat) (v : Int) : Dev :=
  let old := d.clientNode k
  let d := d.setLive 0x1016 k v
  if h : 1 ≤ k ∧ k ≤ 4 then
    let i : Fin 4 := ⟨k - 1, by omega⟩
    let d := d.dict' fun x => { x with clients := upd x.clients i fun _ => {} }
    if d.clientNode k = old then d else
    d.jour' fun j => { j with
      next := j.next.set i 1
      entries := j.entries.map fun e => if e.state.ended ∧ !e.cascade ∧ e.client = i.val then { e with found := false } else e }
  else d

/-- A restart of a port (R453, R457). -/
def Dev.restartPort (d : Dev) (p : Port) : Dev :=
  let d := d.port' p fun x => { x.restarted with
    busOff := false, heldOff := false, passive := false, warning := false, txErr := 0, rxErr := 0, nmt := .init }
  d.releaseTransfers.bootPort p

/-- Effects below 0x2100: communication objects, ports, keys. -/
def Dev.effectComm (d : Dev) (w : Who) (idx sub : Nat) (v : Int) : Dev × Option Nat :=
  if idx = 0x1010 then (d.nv' fun n => { n with waiting := n.waiting ++ [.store w sub] }, none)
  else if idx = 0x1011 then (d.nv' fun n => { n with waiting := n.waiting ++ [.restore w sub] }, none)
  else if idx = 0x1016 then (d.register sub v, some 0)
  else if idx = 0x2002 ∧ sub = 1 then (let x := d.writeKey v.toNat; (x.1, some x.2))
  else if idx = 0x2002 then (if v = 1 then d.dict' fun x => { x with unlocked := false } else d, some 0)
  else if (idx = 0x2004 ∨ idx = 0x2005) ∧ sub = 5 then
    (if v = 1 then d.restartPort (if idx = 0x2004 then .a else .b) else d, some 0)
  else (d.setLive idx sub v, some 0)

/-- The answer of an action that may refuse. -/
def Dev.orRefuse (d : Dev) (x : Except Nat Dev) : Dev × Option Nat :=
  match x with
  | .ok d => (d, some 0)
  | .error c => (d, some c)

/-- Effects from 0x2100 to 0x21FF: power path, charger, gauge. -/
def Dev.effectPower (d : Dev) (t idx sub : Nat) (v : Int) : Dev :=
  if idx = 0x2180 ∧ sub = 0x0D then (if v = 1 then d.newPackValues else d)
  else
    let old := d.int idx sub
    let d := d.setLive idx sub v
    if idx = 0x2140 ∧ sub = 1 then d.applyEnable t 0x02
    else if idx = 0x2142 ∧ (sub = 5 ∨ sub = 6) then d.chg' fun c => { c with wdStart := t }
    else if idx = 0x2180 ∧ sub = 1 then d.rescaleShunt old v
    else d

/-- Effects from 0x2200 to 0x23FF: branches, grove, sequencer. -/
def Dev.effectBranch (d : Dev) (t idx sub : Nat) (v : Int) : Dev × Option Nat :=
  if idx = 0x2234 ∧ sub = 3 then d.orRefuse (d.manualInsert t v)
  else if idx = 0x2234 ∧ sub = 4 then d.orRefuse (d.reinstate t v)
  else if idx = 0x2234 ∧ sub = 6 then d.orRefuse (d.retireAction t v)
  else if idx = 0x2238 ∧ sub = 3 then d.orRefuse (d.runNowWrite v)
  else if idx = 0x2310 then (if v = 1 then d.clearRecordAction else d, some 0)
  else if h : 0x2200 ≤ idx ∧ idx ≤ 0x2207 then
    let r : Rail := ⟨idx - 0x2200, by omega⟩
    if sub = 0x0E then (if v = 1 then d.commitCoefficients r else d, some 0)
    else
      let d := d.setLive idx sub v
      (if sub = 1 then d.retargetRail t r else d, some 0)
  else if h : 0x2240 ≤ idx ∧ idx ≤ 0x2245 ∧ sub = 1 then
    ((d.setLive idx sub v).retargetChan (.ib ⟨idx - 0x2240, by omega⟩), some 0)
  else if h : 0x2248 ≤ idx ∧ idx ≤ 0x224F ∧ sub = 1 then
    ((d.setLive idx sub v).retargetChan (.ld ⟨idx - 0x2248, by omega⟩), some 0)
  else (d.setLive idx sub v, some 0)

/-- Effects from 0x2400 to 0x257F, WD-H check-ins apart: thermal, converters, timers, fault collector. -/
def Dev.effectService (d : Dev) (t : Nat) (w : Who) (idx sub : Nat) (v : Int) : Dev × Option Nat :=
  let n := v.toNat
  if idx = 0x240C ∧ sub = 6 then d.orRefuse (d.reinstateSensor n)
  else if idx = 0x2441 ∧ sub = 1 then (d.hkMode n, some 0)
  else if idx = 0x2480 then d.orRefuse (d.globalRun n (sub = 1))
  else if h : 0x2481 ≤ idx ∧ idx ≤ 0x2488 then (d.timerWritten ⟨idx - 0x2481, by omega⟩ sub n, some 0)
  else if idx = 0x2500 ∧ 2 ≤ sub ∧ sub ≤ 5 then (d.clearSticky t w (sub - 2) n, some 0)
  else if idx = 0x2500 ∧ sub = 6 then d.orRefuse (d.acknowledge t w n)
  else
    let d := d.setLive idx sub v
    (if idx = 0x24C4 ∧ sub = 7 then d.wdhCheck else d, some 0)

/-- Effects from 0x2580: pool, storage, OTP, test and debug. -/
def Dev.effectStore (d : Dev) (t : Nat) (w : Who) (idx sub : Nat) (v : Int) (dieOk wordsOk : Bool) : Dev × Option Nat :=
  let n := v.toNat
  if 0x2590 ≤ idx ∧ idx ≤ 0x25A7 ∧ sub = 1 then
    (let d := d.setLive idx sub v; (if v = 0 then d.freeChannel (idx - 0x2590) else d, some 0))
  else if idx = 0x2601 ∧ sub = 5 then (if v = 1 then d.nv' fun x => { x with hidden := x.newest } else d, some 0)
  else if idx = 0x2610 ∧ sub = 2 then
    (let data := (bytesLE (d.nat 0x2610 3) n).map fun b => BitVec.ofNat 8 b
     (d.nv' fun x => { x with waiting := x.waiting ++ [.host w (d.nat 0x2610 1) data] }, none))
  else if idx = 0x2610 ∧ sub = 4 then (d.nv' fun x => { x with protection := n }, some 0)
  else if idx = 0x2645 then (d.dict' fun x => { x with seqRpdo := n }, some 0)
  else if idx = 0x2681 ∧ sub = 1 then (d.otp' fun o => { o with staged := stagedWords (domainWords n) }, some 0)
  else if idx = 0x2681 then
    (if v = 0 then (d, some 0) else if d.otp.prog.isSome then (d, some 0x08000022) else
     match d.programResult dieOk with
     | .error r => (d.otp' fun o => { o with lastResult := r }, some (resultAbort r))
     | .ok new => if d.step12 idx sub v then (d.startProgram w new, none) else (d, some 0x0F000004))
  else if idx = 0x2682 then d.orRefuse (d.lockBoard wordsOk)
  else if idx = 0x2740 then (if v = 1 then d.beginTest t else d.endTest, some 0)
  else if h : 0x2741 ≤ idx ∧ idx ≤ 0x2748 ∧ sub = 6 then (d.armSlot ⟨idx - 0x2741, by omega⟩ (v = 1), some 0)
  else if idx = 0x2750 then (d.blowDebugLock, some 0)
  else (d.setLive idx sub v, some 0)

/-- The effect of a write that has passed its checks, and the answer: `some 0` success, `some` abort, `none` later (R465). A
check-in that carries no stamp is judged at a tick that the state does not hold: a free value (log entry 3). -/
def Body.effect (b : Body) (w : Who) (idx sub : Nat) (v : Int) (stamp : Option Nat) (dieOk wordsOk : Bool) : Body × Option Nat :=
  let t := b.hw.counter
  let dev (x : Dev × Option Nat) : Body × Option Nat := ({ b with d := x.1 }, x.2)
  if idx < 0x2100 then dev (b.d.effectComm w idx sub v)
  else if idx < 0x2200 then dev (b.d.effectPower t idx sub v, some 0)
  else if idx < 0x2400 then dev (b.d.effectBranch t idx sub v)
  else if idx = 0x24C5 then
    (match stamp with
     | some k => let x := b.checkIn v k; (x.1, some (x.2.getD 0))
     | none =>
       let y := b.d.draw
       let x := { b with d := y.2 }.checkIn v (y.1 % (b.d.wdh.late + 1))
       (x.1, some (x.2.getD 0)))
  else if idx < 0x2580 then dev (b.d.effectService t w idx sub v)
  else dev (b.d.effectStore t w idx sub v dieOk wordsOk)

/-- A write of any object but the command object 0x2640:01: the checks, then the effect. Step 12 of OTP programming follows the
conditions of R533. -/
def Body.writeWith (b : Body) (w : Who) (idx sub len : Nat) (v : Int) (stamp : Option Nat) (dieOk wordsOk : Bool) :
    Body × Option Nat :=
  match b.d.checkWrite idx sub len v with
  | .error (c, d) => ({ b with d := d }, some c)
  | .ok v =>
    if idx ≠ 0x2681 ∧ !b.d.step12 idx sub v then (b, some 0x0F000004) else b.effect w idx sub v stamp dieOk wordsOk

def Body.write (b : Body) (w : Who) (idx sub len : Nat) (v : Int) : Body × Option Nat :=
  b.writeWith w idx sub len v none b.d.dieForOtp (b.d.otp.boardCause ≠ 1)

/-! ## Requests (R458, R463) -/

/-- Whether a port serves USDO requests: the dictionary is served, and the port is on the bus and PRE-OPERATIONAL or OPERATIONAL. -/
def Dev.hears (d : Dev) (p : Port) : Bool := d.served && (d.port p).consumes

/-- Answer a request by its abort code; 0 is success. -/
def Dev.answer (d : Dev) (w : Who) (code : Nat) : Dev := if code = 0 then d.ok w else d.abort w code

/-- Serve a request: IDLE ends, a fifth session on the port is refused, and an answer that is ready is sent. -/
def Body.request (w : Who) (f : Body → Body × Option Nat) (b : Body) : Body :=
  if !b.d.hears w.port then b else
  let b := { b with d := b.d.leaveIdle b.hw.counter }
  if (b.d.port w.port).sessions.length ≥ 4 then { b with d := b.d.abort w 0x05040005 } else
  let x := f b
  match x.2 with
  | some c => { x.1 with d := x.1.d.answer w c }
  | none => x.1

end Sys2Proof.Machine
end

