-- ==== Sys2Proof/Machine/Journal.lean ====
section
/-!
DEFINITION. Machine/Journal.lean: the command journal (chapter 19): acceptance of commands, prepare, application of targets and
actions, the ends of entries, and replay after a reset.
-/
namespace Sys2Proof.Machine

/-! ## The command record (R488) -/

/-- The ten bytes of a target (Table 19-2). -/
def parseTarget (v : Nat) : Target :=
  ⟨v % 256, v / 2 ^ 8 % 256, v / 2 ^ 16 % 65536, v / 2 ^ 32 % 256, v / 2 ^ 40 % 256, v / 2 ^ 48 % 2 ^ 32⟩

/-- A DOMAIN of `len` bytes written to 0x2640:01 (Table 19-1): its action and its fields. -/
def parseCommand (w : Who) (len v : Nat) : Nat × JCmd :=
  (v / 2 ^ 32 % 256,
   { who := w, len := len, seq := v % 2 ^ 32, count := v / 2 ^ 40 % 256, rsv := v / 2 ^ 48 % 65536
     targets := (List.range ((len - 8) / 10)).map fun i => parseTarget (v / 2 ^ (64 + 80 * i)), verify := .first })

/-! ## Acceptance (R495) -/

/-- The registered client that a node is. -/
def Dev.clientOf (d : Dev) (node : Nat) : Option (Fin 4) :=
  if node = 0 then none else (List.finRange 4).find? fun k => d.clientNode (k.val + 1) = node

/-- Whether a target names a set-point object 0x2200+r:01, 0x2240+n:01 or 0x2248+n:01. -/
def isSetPoint (t : Target) : Bool := t.kind = 1 && t.branch.isSome

/-- Whether an object can be a target (R489): rw or rwp, at most 32 bits, outside the two excluded ranges. -/
def targetObject (idx sub : Nat) : Bool :=
  match row idx sub with
  | none => false
  | some r =>
    (r.acc = .rw || r.acc = .rwp) && r.ty ≠ .d && r.size ≤ 4 && !(0x1000 ≤ idx && idx ≤ 0x1FFF) && !(0x2640 ≤ idx && idx ≤ 0x267F)

/-- The form of one target (R488, R489). -/
def Dev.targetOk (d : Dev) (t : Target) : Bool :=
  t.unit ≤ 7 &&
    (match t.kind with
     | 1 => targetObject t.index t.sub
     | 2 => t.index = 0 && t.value = 0 && t.sub < 30
     | 3 => t.index = 0 && t.value = 0 && t.sub < 30
     | _ => false) &&
    (t.unit = 0 || ((t.kind ≠ 1 || isSetPoint t) && (d.casc.role = 2 || (d.casc.role = 1 && t.unit < d.casc.units))))

/-- Whether no target names what an earlier one names. -/
def distinctTargets : List Target → Bool
  | [] => true
  | t :: r => r.all (fun x => !t.same x) && distinctTargets r

/-- The form of a command (check 5). Reserved fields are ignored (R5). -/
def Dev.commandOk (d : Dev) (action : Nat) (c : JCmd) : Bool :=
  c.seq ≠ 0 && 1 ≤ action && action ≤ 4 &&
    (if action = 1 then 1 ≤ c.count && c.count ≤ 32 else c.count = 0) &&
    c.targets.all d.targetOk && distinctTargets c.targets

/-- Steps 1 to 5 of Table 18-4 for each target's object (check 3). -/
def Dev.targetObjects (d : Dev) (l : List Target) : Option Nat :=
  l.findSome? fun t =>
    if t.kind ≠ 1 then none else match d.steps1to5 t.index t.sub with
    | .error c => some c
    | .ok _ => none

/-- Checks 2 to 6 of R495, in their order. -/
def Dev.commandCheck (d : Dev) (k : Option (Fin 4)) (action : Nat) (c : JCmd) : Option Nat :=
  if c.len ≠ 8 + 10 * c.count ∨ c.targets.length ≠ c.count then some 0x06070010 else
  match d.targetObjects c.targets with
  | some e => some e
  | none =>
    if k = none then some 0x0F000013
    else if !d.commandOk action c then some 0x06090030
    else if d.casc.role = 2 ∧ c.targets.any (fun t => t.unit ≠ 0) then some 0x0F000014
    else none

/-- Whether a target is reserved by a cascade prepare in progress: on the master by its open transaction, on a slave by a PREPARED
entry that no COMMIT has released. -/
def Dev.cascadeReserved (d : Dev) (l : List Target) : Bool :=
  let open' (e : Entry) : Bool :=
    if e.cascade then e.state = .prepared && !e.going
    else match d.casc.txn with
      | some x => !x.committed && e.tag = x.tag && !e.state.ended
      | none => false
  (d.jour.entries.filter open').any fun e => e.targets.any fun t => l.any fun x => x.shares t

/-- The busy conditions of R496. -/
def Dev.journalBusy (d : Dev) (l : List Target) : Bool :=
  d.path.warning || d.th.nvBlocked || !d.commitAdmitted acceptUs || d.cascadeReserved l || d.jour.writeFailed ||
    (d.jour.unmapped && d.nv.freeSpares = 0)

/-- The slots that entries take. -/
def slotsOf (l : List Entry) : Nat := (l.map fun e => slotsFor e.targets.length).sum

/-- Whether an entry's slots may be reused: it has ended, and it is not the newest ended entry of a client (R497). -/
def reusable (l : List Entry) (e : Entry) : Bool :=
  e.state.ended &&
    (e.cascade || !e.found || l.any fun x => x.state.ended && !x.cascade && x.found && x.client = e.client && x.endNo > e.endNo)

/-- The reusable entry that ended longest ago. -/
def oldestReusable (l : List Entry) : Option Entry :=
  (l.filter (reusable l)).foldl (fun best e => match best with
    | none => some e
    | some b => if e.endNo < b.endNo then some e else some b) none

/-- Make room for an entry of `need` slots, reusing those of ended entries; `none` when there is none. -/
def makeRoom (fuel need : Nat) (l : List Entry) : Option (List Entry) :=
  if slotsOf l + need ≤ 128 then some l else
  match fuel with
  | 0 => none
  | f + 1 =>
    match oldestReusable l with
    | none => none
    | some e => makeRoom f need (l.filter fun x => x.endNo ≠ e.endNo)

/-- The sequence number that follows (R492). -/
def nextSeq (n : Nat) : Nat := if n ≥ 0xFFFFFFFF then 1 else n + 1

/-- The entry of a client and number that is still held (R493). -/
def Dev.heldEntry (d : Dev) (k : Fin 4) (seq : Nat) : Option Entry :=
  d.jour.entries.reverse.find? fun e => e.found && !e.cascade && e.client = k.val && e.seq = seq

/-- Check 7 (R493): `none` when the number is the expected one; else the answer, and whether it is a duplicate that is counted.
At a distance of 2^31 the serial order is open: a free value decides (log entry 3). -/
def Dev.sequenceCheck (d : Dev) (k : Fin 4) (action : Nat) (c : JCmd) : Dev × Option (Nat × Bool) :=
  let diff := (c.seq + 2 ^ 32 - d.jour.next[k] % 2 ^ 32) % 2 ^ 32
  if diff = 0 then (d, none) else
  let x := if diff = 2 ^ 31 then d.draw else (if diff < 2 ^ 31 then 1 else 0, d)
  if x.1 % 2 = 1 then (x.2, some (0x0F000011, false)) else
  match d.heldEntry k c.seq with
  | some e => (x.2, some (if e.action = action ∧ e.targets = c.targets.map Target.plain then (0, true) else (0x0F000011, false)))
  | none => (x.2, some (0, false))

/-- The last refusal of a known client (0x2646). -/
def Journal.refused (j : Journal) (k : Option (Fin 4)) (seq code : Nat) : Journal :=
  match k with
  | some k => { j with lastRefusal := j.lastRefusal.set k (packEnded (code % 256) 0 seq) }
  | none => j

def Dev.rejectCommand (d : Dev) (k : Option (Fin 4)) (seq code : Nat) : Dev × Nat :=
  (d.jour' fun j => { j.refused k seq code with rejections := satInc 32 j.rejections }, code)

def Dev.busyCommand (d : Dev) (k : Option (Fin 4)) (seq : Nat) : Dev × Nat :=
  (d.jour' fun j => { j.refused k seq 0x0F000012 with busy := satInc 32 j.busy }, 0x0F000012)

/-- The pages that both copies of an entry's slots touch: two slots lie in a page, and no rule says at which one an entry begins. -/
def Dev.entryPages (d : Dev) (slots : Nat) : Nat × Dev :=
  if slots % 2 = 1 then (slots + 1, d) else
  let x := d.draw
  (slots + 2 * (x.1 % 2), x.2)

/-- A new entry of a command that has passed every check; one with a target on another unit carries its tag from here (R506). -/
def Dev.newEntry (d : Dev) (k : Fin 4) (rpdo portB : Bool) (action : Nat) (c : JCmd) : Entry :=
  { client := k.val, rpdo := rpdo, portB := portB, cascade := false, action := action, seq := c.seq
    tag := if c.targets.any (fun t => t.unit ≠ 0) then d.jour.nextTag else 0xFFFF
    targets := c.targets.map Target.plain, state := .accepted, detail := 0, reached := 0, missed := 0, unitsLost := 0, going := false, endNo := 0
    integrator := d.integrator, found := true }

/-- Checks 8 and 9 and the acceptance itself. -/
def Dev.admitCommand (d : Dev) (t : Nat) (k : Fin 4) (rpdo portB : Bool) (action : Nat) (c : JCmd) : Dev × Nat :=
  if d.journalBusy c.targets then d.busyCommand (some k) c.seq else
  match makeRoom d.jour.entries.length (slotsFor c.targets.length) d.jour.entries with
  | none => (d.raise t 115 0).rejectCommand (some k) c.seq 0x0F000010
  | some room =>
    let pages := d.entryPages (slotsFor c.targets.length)
    let x := pages.2.journalCommit t 128 pages.1 c.verify
    if !x.2 then x.1.busyCommand (some k) c.seq else
    let e := d.newEntry k rpdo portB action c
    (x.1.jour' fun j => { j with
      entries := room ++ [e], next := j.next.set k (nextSeq j.next[k]), accepted := satInc 32 j.accepted
      nextTag := if e.tag = 0xFFFF then j.nextTag else (j.nextTag + 1) % 0xFFFF }, 0)

/-- Judge a command of a client at the moment it is taken from the queue, and answer: 0 is success (R495). -/
def Dev.acceptFrom (d : Dev) (t : Nat) (k : Option (Fin 4)) (rpdo portB : Bool) (action : Nat) (c : JCmd) : Dev × Nat :=
  match d.commandCheck k action c with
  | some code => d.rejectCommand k c.seq code
  | none =>
    match k with
    | none => (d, 0x0F000013)
    | some k =>
      let x := d.sequenceCheck k action c
      match x.2 with
      | none => x.1.admitCommand t k rpdo portB action c
      | some (0, dup) => (x.1.jour' fun j => { j with duplicates := if dup then satInc 32 j.duplicates else j.duplicates }, 0)
      | some (code, _) => x.1.rejectCommand (some k) c.seq code

/-- A command written to 0x2640:01 by USDO: check 1, the others, and the answer. -/
def Dev.accept (d : Dev) (t action : Nat) (c : JCmd) : Dev × Nat :=
  match d.steps1to5 0x2640 1 with
  | .error e => (d, e)
  | .ok _ => d.acceptFrom t (d.clientOf c.who.node) false (c.who.port = .b) action c

def Body.command (action : Nat) (c : JCmd) (b : Body) : Body :=
  b.request c.who fun b =>
    let x := b.d.accept b.hw.counter action c
    ({ b with d := x.1 }, some x.2)

/-! ## Prepare (R499, R500) -/

/-- The value of a target for an object: sign-extended for signed types, else the low bits (Table 19-2). -/
def targetValue (r : Row) (v : Nat) : Int :=
  match r.ty with
  | .s => signExtend (8 * r.size) v
  | _ => v % 256 ^ r.size

/-- The objects and values that the kind 0x01 targets of this unit write. -/
def targetWrites (l : List Target) : List (Nat × Nat × Int) :=
  l.filterMap fun t =>
    if t.unit ≠ 0 ∨ t.kind ≠ 1 then none else
    (row t.index t.sub).map fun r => (t.index, t.sub, maskReserved t.index t.sub (targetValue r t.value))

/-- Step 7 for the values, and R234 for the turn-ons: a branch whose set-point the submission leaves at 0, or a rail without a
wired phase. -/
def Dev.prepareRange (d : Dev) (l : List Target) (w : List (Nat × Nat × Int)) : Bool :=
  let new := w.foldl (fun d x => d.setLive x.1 x.2.1 x.2.2) d
  w.any (fun x => match row x.1 x.2.1 with
    | some r => (d.step7 x.1 x.2.1 r x.2.2).isSome
    | none => true) ||
  l.any fun t => t.unit = 0 && t.kind = 2 && (match t.branch with | some b => new.cannotStart b | none => true)

/-- The limits of SAFE (R32): set-points of branches of the safe set. -/
def Dev.safeAdmits (d : Dev) (l : List Target) : Bool :=
  d.power.state ≠ .safe || l.all fun t => t.unit ≠ 0 ||
    (isSetPoint t && (match t.branch with | some b => inMask d.safeSet b | none => false))

/-- Whether the present state refuses the effect of a write: the action objects judge it themselves. -/
def Body.effectRefused (b : Body) (w : Who) (x : Nat × Nat × Int) : Bool :=
  match (b.effect w x.1 x.2.1 x.2.2 none b.d.dieForOtp (b.d.otp.boardCause ≠ 1)).2 with
  | some c => c ≠ 0
  | none => false

/-- The detail of step 10 or 11 for a submission: the feed rules and the standby and safe sets, the other rules, the budget;
with the device after it, which has the refusal cause of 0x2010:05 (R219). -/
def Dev.submissionDetail (d : Dev) (w : List (Nat × Nat × Int)) : Option (Nat × Dev) :=
  let new := w.foldl (fun d x => d.setLive x.1 x.2.1 x.2.2) d
  let x := d.submission w
  if w.any (fun x => isFeedObject x.1 x.2.1) && !new.feedsOk then some (8, x.2)
  else match x.1 with
    | none => none
    | some 0x0F000002 => some (2, x.2)
    | some _ => some (7, x.2)

/-- The sender recorded with an entry. -/
def Dev.entryWho (d : Dev) (e : Entry) : Who := ⟨if e.portB then .b else .a, d.clientNode (e.client + 1)⟩

/-- The validation of the targets of this unit as one submission: the detail of the first failed check (R500), and the device
after it. -/
def Body.prepareTargets (b : Body) (w : Who) (l : List Target) (reserved : Bool) : Option (Nat × Dev) :=
  let d := b.d
  let ws := targetWrites l
  if d.prepareRange l ws then some (7, d)
  else if ws.any fun x => !withinCeiling d x.1 x.2.1 x.2.2 then some (1, d)
  else if !d.safeAdmits l || ws.any (fun x => !d.step9 x.1 x.2.1 x.2.2) || ws.any (b.effectRefused w) then some (3, d)
  else if reserved then some (4, d)
  else d.submissionDetail ws

/-- Why a standby, ship or resume action cannot begin (R31, R32, R36): its detail. A resume on a slave is refused: a slave makes
no common start of its own (R268). -/
def Dev.actionRefused (d : Dev) (action : Nat) : Option Nat :=
  let leaving := d.seq.state = .safeOff || d.path.ship ≠ .none
  match action with
  | 2 => if !d.inRun then some 3 else if leaving then some 0x0B else none
  | 3 => if d.path.dcinValid || !(d.inRun || d.power.state = .safe) then some 3 else if leaving then some 0x0B else none
  | _ =>
    if !(d.power.state = .safe || d.seq.state = .safeOff) || d.casc.role = 2 then some 3
    else if d.path.ship ≠ .none then some 0x0B else none

/-! ## Application (R501, R502) -/

def Dev.entry' (d : Dev) (i : Nat) (f : Entry → Entry) : Dev := d.jour' fun j => { j with entries := updList j.entries i f }

/-- Turn a branch on by an action, at once and with no slot (R234). -/
def Dev.actionOn (d : Dev) (t : Nat) (b : Branch) (m : StartMeas) : Dev :=
  if d.branchOn b || d.cannotStart b || d.tapHolds then d else d.startBranch t b m

/-- Apply one target of this unit. -/
def Body.applyTarget (starts : Vector StartMeas 30) (w : Who) (b : Body) (x : Target) : Body :=
  if x.unit ≠ 0 then b else
  let t := b.hw.counter
  match x.kind, x.branch with
  | 2, some k => { b with d := b.d.actionOn t k starts[k] }
  | 3, some k => { b with d := (b.d.loseTargets k).turnOff t k }
  | _, _ =>
    (targetWrites [x]).foldl (fun b y =>
      (b.effect w y.1 y.2.1 y.2.2 none b.d.dieForOtp (b.d.otp.boardCause ≠ 1)).1) b

/-- The targets that failed at once: those that SAFE does not admit, and turn-ons whose branch did not stay on. -/
def Dev.failedNow (d : Dev) (barred : List Target) (l : List Target) : Nat :=
  l.zipIdx.foldl (fun m x =>
    let off := x.1.kind = 2 && !(match x.1.branch with | some b => d.branchOn b | none => false)
    if x.1.unit = 0 ∧ (off ∨ barred.contains x.1) then m ||| 2 ^ x.2 else m) 0

/-- Apply every target of this unit at once, then note what was reached and what failed. In SAFE only what R32 admits is applied
(Table 10-11). -/
def Body.applyEntry (b : Body) (starts : Vector StartMeas 30) (i : Nat) : Body :=
  match b.d.jour.entries[i]? with
  | none => b
  | some e =>
    let b := { b with d := b.d.entry' i fun e => { e with going := false } }
    let barred := e.targets.filter fun x => !b.d.safeAdmits [x]
    let b := (e.targets.filter fun x => !barred.contains x).foldl (Body.applyTarget starts (b.d.entryWho e)) b
    let failed := b.d.failedNow barred e.targets
    let d := b.d.entry' i fun x => { x with going := true, missed := x.missed ||| (failed - (failed &&& x.reached)) }
    { b with d := d.settle.seqCheck b.hw.counter }

/-- Begin the transition of an action; on a master the order goes to every unit (Table 10-7). -/
def Dev.beginAction (d : Dev) (t action : Nat) : Dev :=
  match action with
  | 2 => (d.issueOrder 4).startStandby t
  | 3 => ((d.endAction 2 .failed 0x0B).issueOrder 5).startShip t
  | _ =>
    if d.seq.state = .safeOn || d.seq.state = .safeOff then
      -- an earlier resume whose run ended here has failed; this one is applied once SAFE_ON reaches IDLE
      let earlier := if d.seq.finalFail then (d.entriesWhere fun e => e.action = 4 && e.state = .prepared).dropLast else []
      (earlier.foldl (fun d i => d.endEntry i .failed 9) d).seq' fun s => { s with resumeDue := true }
    else ((d.goState t .run).newRun t).seqCheck t

/-- Whether the transition of an action is in progress. -/
def Dev.actionRuns (d : Dev) (action : Nat) : Bool :=
  match action with
  | 2 => d.seq.after = .standby || d.power.state = .standby
  | 3 => d.path.ship ≠ .none
  | _ => d.seq.resumeDue || (d.inRun && d.seq.state ≠ .idle)

/-- An entry becomes PREPARED. -/
def Dev.preparedEntry (d : Dev) (i : Nat) : Dev := d.entry' i fun e => { e with state := .prepared, going := true }

/-! ## The next entry (R499) -/

/-- Whether an entry is one of this unit's client entries that concerns other units. -/
def Entry.isCascade (e : Entry) : Bool := e.tag ≠ 0xFFFF

/-- The next ACCEPTED entry, unless it has to wait for an earlier one: entries are prepared one at a time in acceptance order. -/
def Dev.nextEntry (d : Dev) : Option (Nat × Entry) :=
  match d.jour.entries.findIdx? fun e => e.state = .accepted with
  | none => none
  | some i =>
    match d.jour.entries[i]? with
    | none => none
    | some e =>
      let earlier := (d.jour.entries.take i).filter fun x => !x.state.ended
      if earlier.any fun x => x.targets.any fun a => e.targets.any fun b => a.shares b then none
      else if e.isCascade ∧ d.jour.entries.zipIdx.any (fun x => x.2 ≠ i ∧ x.1.isCascade ∧ x.1.state = .prepared) then none
      else some (i, e)

/-- Whether the cores drive the journal: the replay is done and a commit of a state change is admitted. -/
def Dev.journalRuns (d : Dev) : Bool :=
  d.coresRun && !d.jour.replayDue && d.commitAdmitted entryUs && (d.inRun || d.power.state = .safe)

/-- The commit point (R283): once every unit has voted YES, the master's entry becomes PREPARED, COMMIT goes to every unit, and
the master applies its own targets. -/
def Body.commitPoint (starts : Vector StartMeas 30) (b : Body) : Body :=
  match b.d.casc.txn with
  | none => b
  | some x =>
    match b.d.txnEntry x.tag with
    | none => b
    | some i =>
      if x.committed || x.voted ≠ x.units || !b.d.journalRuns then b else
      let to' := (List.range 8).filter fun u => x.units.testBit u
      let d := (b.d.preparedEntry i).casc' fun c => { c with
        txn := some { x with committed := true }, messages := c.messages ++ to'.map fun u => ⟨u, 3, x.tag, []⟩ }
      { b with d := d }.applyEntry starts i

/-- Prepare the next entry that concerns this unit alone: PREPARED and applied, or FAILED. A transaction whose votes are complete
and whose commit was not admitted before commits here. -/
def Body.prepareEntry (starts : Vector StartMeas 30) (b : Body) : Body :=
  let b := ({ b with d := b.d.payEnds }).commitPoint starts
  if !b.d.journalRuns then b else
  match b.d.nextEntry with
  | none => b
  | some (i, e) =>
    if e.isCascade then b
    else if e.action = 1 then
      (match b.prepareTargets (b.d.entryWho e) e.targets false with
       | some (detail, d) => { b with d := d.endEntry i .failed detail }
       | none => { b with d := b.d.preparedEntry i }.applyEntry starts i)
    else
      match b.d.actionRefused e.action with
      | some detail => { b with d := b.d.endEntry i .failed detail }
      | none => { b with d := (b.d.preparedEntry i).beginAction b.hw.counter e.action }

/-- The loops have taken the charger settings of an entry that has been applied (R318). -/
def Entry.chargerTaken (e : Entry) : Entry :=
  if e.state ≠ .prepared ∨ !e.going ∨ e.pend.isSome then e else
  { e with reached := e.targets.zipIdx.foldl (fun m x =>
      if isCharger x.1 ∧ !e.missed.testBit x.2 ∧ !m.testBit x.2 then m ||| 2 ^ x.2 else m) e.reached }

/-- Every target has been reached or has failed: the entries end (R501). -/
def Dev.entryEnd (t : Nat) (d : Dev) : Dev :=
  if d.coresRun then ((d.jour' fun j => { j with entries := j.entries.map Entry.chargerTaken }).settle).seqCheck t else d

/-! ## Replay (R503, R504) -/

/-- The units other than this one that an entry concerns, as a mask. -/
def Entry.units (e : Entry) : Nat := (e.targets.filter fun t => t.unit ≠ 0).foldl (fun m t => m ||| 2 ^ (t.unit % 8)) 0

/-- The master drives a committed transaction on: COMMIT to every unit not yet confirmed, POLL_OUTCOME to the others (R285). -/
def Dev.redrive (d : Dev) (e : Entry) : Dev :=
  let confirmed := match d.casc.txn with
    | some x => if x.tag = e.tag then x.confirmed else 0
    | none => 0
  let ended := e.unitsLost ||| (List.range 8).foldl (fun m u =>
    if (e.targets.zipIdx.all fun x => x.1.unit ≠ u || e.reached.testBit x.2 || e.missed.testBit x.2) then m ||| 2 ^ u else m) 0
  let to' := (List.range 8).filter fun u => e.units.testBit u && !ended.testBit u
  d.casc' fun c => { c with
    txn := some { tag := e.tag, committed := true, units := e.units, prepared := e.units, voted := e.units, confirmed := confirmed
                  ended := ended &&& e.units }
    messages := (c.messages.filter fun m => m.tag ≠ e.tag) ++
      to'.map fun u => ⟨u, if confirmed.testBit u then 4 else 3, e.tag, []⟩ }

/-- An open prepare begins again later with the same tag (R285). -/
def Dev.dropPrepare (d : Dev) : Dev :=
  match d.casc.txn with
  | some x => if x.committed then d else d.casc' fun c => { c with txn := none, messages := c.messages.filter fun m => m.tag ≠ x.tag }
  | none => d

/-- Drive one entry on: slave cascade entries are kept, and entries in ACCEPTED are prepared as commands of their own. An action
in progress that a loss of supply abandoned has failed (R36). -/
def Body.replayEntry (starts : Vector StartMeas 30) (powerLost : Bool) (b : Body) (i : Nat) : Body :=
  match b.d.jour.entries[i]? with
  | none => b
  | some e =>
    if e.state ≠ .prepared ∨ e.cascade then b
    else if let some x := e.pend then { b with d := b.d.endEntry i x.1 x.2 }
    else if e.action ≠ 1 ∧ powerLost then { b with d := b.d.endEntry i .failed 0x0B }
    else if e.action = 1 then
      let b := if e.isCascade then { b with d := b.d.redrive e } else b
      b.applyEntry starts i
    else if b.d.actionRuns e.action then b
    else match b.d.actionRefused e.action with
      | some detail => { b with d := b.d.endEntry i .failed detail }
      | none => { b with d := b.d.beginAction b.hw.counter e.action }

/-- Whether a replay has to wait: after the full sequence of a reset, until the sequencer is IDLE. -/
def Dev.replayHeld (d : Dev) : Bool :=
  d.jour.replayWaits && (d.seq.state ≠ .idle || (d.seq.startDue && d.otp.boardOk))

def Body.journalReplay (starts : Vector StartMeas 30) (b : Body) : Body :=
  if !b.d.jour.replayDue || !b.d.coresRun || b.d.replayHeld then b else
  let d := (b.d.jour' fun j => { j with replayDue := false, replayWaits := false, replays := satInc 32 j.replays }).dropPrepare
  (List.range d.jour.entries.length).foldl (Body.replayEntry starts b.d.jour.replayWaits) { b with d := d }

/-! ## The commands -/

def execShipAction (c : JCmd) (s : State) : Host.Outcome State Fault Refusal := .next (s.coreBody (Body.command 3 c))
def execStandbyAction (c : JCmd) (s : State) : Host.Outcome State Fault Refusal := .next (s.coreBody (Body.command 2 c))
def execResumeAction (c : JCmd) (s : State) : Host.Outcome State Fault Refusal := .next (s.coreBody (Body.command 4 c))
def execTargetsAction (c : JCmd) (s : State) : Host.Outcome State Fault Refusal := .next (s.coreBody (Body.command 1 c))
def execPrepareEntry (starts : Vector StartMeas 30) (s : State) : Host.Outcome State Fault Refusal :=
  .next (s.coreBody (Body.prepareEntry starts))
def execEntryEnd (s : State) : Host.Outcome State Fault Refusal := .next (s.core Dev.entryEnd)
def execJournalReplay (starts : Vector StartMeas 30) (s : State) : Host.Outcome State Fault Refusal :=
  .next (s.coreBody (Body.journalReplay starts))

end Sys2Proof.Machine
end

