-- ==== Sys2Proof/Machine/Client.lean ====
section
/-!
DEFINITION. Machine/Client.lean: the writes and reads that clients make by USDO, one command each. Every write goes through the
checks of Table 18-4 and the effect of its object (Machine/Writing.lean).
-/
namespace Sys2Proof.Machine

/-- The length of a number object's value. -/
def objectSize (idx sub : Nat) : Nat := match row idx sub with | some r => r.size | none => 0

/-- A write of a number object by a client. -/
def Body.clientWrite (w : Who) (idx sub : Nat) (v : Int) (b : Body) : Body :=
  b.request w fun b => b.write w idx sub (objectSize idx sub) v

/-- Any write, the command object included (R470, R495). -/
def Body.writeAny (b : Body) (w : Who) (idx sub len : Nat) (v : Int) : Body × Option Nat :=
  if idx = 0x2640 ∧ sub = 1 then
    let c := parseCommand w len v.toNat
    let x := b.d.accept b.hw.counter c.1 c.2
    ({ b with d := x.1 }, some x.2)
  else b.write w idx sub len v

/-- A write whose commit is part of the command: it is answered when the commit has ended (R465). -/
def Body.writeCommitted (b : Body) (w : Who) (idx sub len : Nat) (x : Int) (v : Verify) : Body × Option Nat :=
  let y := b.write w idx sub len x
  match y.2, y.1.d.nv.waiting.getLast? with
  | none, some q => ({ y.1 with d := y.1.d.nv' fun n => { n with waiting := n.waiting.dropLast } }.finish q v, none)
  | r, _ => (y.1, r)

/-- A read by a client: the value, or the abort. -/
def Body.readFor (b : Body) (w : Who) (idx sub : Nat) : Body × Option Nat :=
  match b.read idx sub with
  | .ok (v, b) => ({ b with d := b.d.send (.value w v) }, none)
  | .error c => (b, some c)

/-- A host-area read (R519, R521): an uncorrectable word refuses it. -/
def Body.hostAreaRead (w : Who) (corrected uncorrectable : Bool) (b : Body) : Body :=
  b.request w fun b =>
    if uncorrectable ∧ b.d.nat 0x2610 1 + b.d.nat 0x2610 3 ≤ 0x4000 then (b, some 0x08000024) else
    let x := b.readFor w 0x2610 2
    ({ x.1 with d := x.1.d.hostReadCheck b.hw.counter corrected }, x.2)

/-- The bytes of a staged image. -/
def imageValue (words : List Nat) : Nat := ofBytesLE (words.flatMap (bytesLE 8))

/-! ## The commands -/

def execInputCurrentLimitWrite (who : Who) (value : Int) (s : State) : Host.Outcome State Fault Refusal :=
  .next (s.coreBody (Body.clientWrite who 0x2100 2 value))
def execManualInsert (who : Who) (value : Int) (s : State) : Host.Outcome State Fault Refusal :=
  .next (s.coreBody (Body.clientWrite who 0x2234 3 value))
def execReinstate (who : Who) (value : Int) (s : State) : Host.Outcome State Fault Refusal :=
  .next (s.coreBody (Body.clientWrite who 0x2234 4 value))
def execRetire (who : Who) (value : Int) (s : State) : Host.Outcome State Fault Refusal :=
  .next (s.coreBody (Body.clientWrite who 0x2234 6 value))
def execGrSetPointWrite (who : Who) (r : Rail) (value : Int) (s : State) : Host.Outcome State Fault Refusal :=
  .next (s.coreBody (Body.clientWrite who (0x2200 + r.val) 1 value))
def execCoefficientCommit (who : Who) (r : Rail) (value : Int) (s : State) : Host.Outcome State Fault Refusal :=
  .next (s.coreBody (Body.clientWrite who (0x2200 + r.val) 0x0E value))
def execRunNow (who : Who) (value : Int) (s : State) : Host.Outcome State Fault Refusal :=
  .next (s.coreBody (Body.clientWrite who 0x2238 3 value))
def execIbLdSetPointWrite (who : Who) (c : Integrated) (value : Int) (s : State) : Host.Outcome State Fault Refusal :=
  .next (s.coreBody (Body.clientWrite who (chanIndex c) 1 value))
def execClearRecord (who : Who) (value : Int) (s : State) : Host.Outcome State Fault Refusal :=
  .next (s.coreBody (Body.clientWrite who 0x2310 4 value))
def execChargerEnable (who : Who) (s : State) : Host.Outcome State Fault Refusal :=
  .next (s.coreBody (Body.clientWrite who 0x2140 1 1))
def execChargerDisable (who : Who) (s : State) : Host.Outcome State Fault Refusal :=
  .next (s.coreBody (Body.clientWrite who 0x2140 1 0))
def execChargeSettingWrite (who : Who) (current : Bool) (value : Int) (s : State) : Host.Outcome State Fault Refusal :=
  .next (s.coreBody (Body.clientWrite who 0x2140 (if current then 3 else 2) value))
def execNewPack (who : Who) (value : Int) (s : State) : Host.Outcome State Fault Refusal :=
  .next (s.coreBody (Body.clientWrite who 0x2180 0x0D value))
def execShuntResistanceWrite (who : Who) (value : Int) (s : State) : Host.Outcome State Fault Refusal :=
  .next (s.coreBody (Body.clientWrite who 0x2180 1 value))
def execOcvTableWrite (who : Who) (len : Nat) (value : Int) (s : State) : Host.Outcome State Fault Refusal :=
  .next (s.coreBody fun b => b.request who fun b => b.write who 0x2182 1 len value)
def execReinstateSensor (who : Who) (value : Int) (s : State) : Host.Outcome State Fault Refusal :=
  .next (s.coreBody (Body.clientWrite who 0x240C 6 value))
def execHkadcBModeWrite (who : Who) (value : Int) (s : State) : Host.Outcome State Fault Refusal :=
  .next (s.coreBody (Body.clientWrite who 0x2441 1 value))
def execResultRead (who : Who) (s : State) : Host.Outcome State Fault Refusal :=
  .next (s.coreBody fun b => b.request who fun b => b.readFor who 0x2443 1)
def execGlobalStart (who : Who) (mask : Int) (s : State) : Host.Outcome State Fault Refusal :=
  .next (s.coreBody (Body.clientWrite who 0x2480 1 mask))
def execGlobalStop (who : Who) (mask : Int) (s : State) : Host.Outcome State Fault Refusal :=
  .next (s.coreBody (Body.clientWrite who 0x2480 2 mask))
def execTimerControlWrite (who : Who) (n : TimerNo) (value : Int) (s : State) : Host.Outcome State Fault Refusal :=
  .next (s.coreBody (Body.clientWrite who (0x2481 + n.val) 1 value))
def execFlagClear (who : Who) (n : TimerNo) (value : Int) (s : State) : Host.Outcome State Fault Refusal :=
  .next (s.coreBody (Body.clientWrite who (0x2481 + n.val) 6 value))
def execCheckIn (who : Who) (value : Int) (stamp : Nat) (s : State) : Host.Outcome State Fault Refusal :=
  .next (s.coreBody fun b => b.request who fun b => b.writeWith who 0x24C5 1 4 value (some stamp) true true)
def execAcknowledge (who : Who) (value : Int) (s : State) : Host.Outcome State Fault Refusal :=
  .next (s.coreBody (Body.clientWrite who 0x2500 6 value))
def execStickyClear (who : Who) (word : Fin 4) (value : Int) (s : State) : Host.Outcome State Fault Refusal :=
  .next (s.coreBody (Body.clientWrite who 0x2500 (2 + word.val) value))
def execNfaultDrive (who : Who) (value : Int) (s : State) : Host.Outcome State Fault Refusal :=
  .next (s.coreBody (Body.clientWrite who 0x2500 7 value))
def execSourceConfigurationWrite (who : Who) (src : Source) (value : Int) (s : State) : Host.Outcome State Fault Refusal :=
  .next (s.coreBody (Body.clientWrite who 0x2510 (src.val + 1) value))
def execObjectWrite (who : Who) (index sub len : Nat) (value : Int) (s : State) : Host.Outcome State Fault Refusal :=
  .next (s.coreBody fun b => b.request who fun b => b.writeAny who index sub len value)
def execPortRestart (who : Who) (target : Port) (value : Int) (s : State) : Host.Outcome State Fault Refusal :=
  .next (s.coreBody (Body.clientWrite who (portIndex target) 5 value))
def execClientRegistration (who : Who) (k : Fin 4) (value : Int) (s : State) : Host.Outcome State Fault Refusal :=
  .next (s.coreBody (Body.clientWrite who 0x1016 (k.val + 1) value))
def execIntegratorKey (who : Who) (value : Int) (s : State) : Host.Outcome State Fault Refusal :=
  .next (s.coreBody (Body.clientWrite who 0x2002 1 value))
def execRelock (who : Who) (value : Int) (s : State) : Host.Outcome State Fault Refusal :=
  .next (s.coreBody (Body.clientWrite who 0x2002 3 value))
def execStoreParameters (who : Who) (sub : Fin 3) (value : Int) (v : Verify) (s : State) : Host.Outcome State Fault Refusal :=
  .next (s.coreBody fun b => b.request who fun b => b.writeCommitted who 0x1010 (sub.val + 1) 4 value v)
def execRestoreParameters (who : Who) (sub : Fin 3) (value : Int) (v : Verify) (s : State) : Host.Outcome State Fault Refusal :=
  .next (s.coreBody fun b => b.request who fun b => b.writeCommitted who 0x1011 (sub.val + 1) 4 value v)
def execPdoMappingCount (who : Who) (tx : Bool) (p : Fin 16) (value : Int) (s : State) : Host.Outcome State Fault Refusal :=
  .next (s.coreBody (Body.clientWrite who ((if tx then 0x1A00 else 0x1600) + p.val) 0 value))
def execCobIdWrite (who : Who) (tx : Bool) (p : Fin 16) (value : Int) (s : State) : Host.Outcome State Fault Refusal :=
  .next (s.coreBody (Body.clientWrite who ((if tx then 0x1800 else 0x1400) + p.val) 1 value))
def execChannelDisable (who : Who) (c : ChanNo) (s : State) : Host.Outcome State Fault Refusal :=
  .next (s.coreBody (Body.clientWrite who (0x2590 + c.val) 1 0))
def execHide (who : Who) (value : Int) (s : State) : Host.Outcome State Fault Refusal :=
  .next (s.coreBody (Body.clientWrite who 0x2601 5 value))
def execHostAreaWrite (who : Who) (data : List Byte) (v : Verify) (s : State) : Host.Outcome State Fault Refusal :=
  .next (s.coreBody fun b => b.request who fun b =>
    b.writeCommitted who 0x2610 2 data.length (ofBytesLE (data.map BitVec.toNat) : Nat) v)
def execHostAreaRead (who : Who) (corrected uncorrectable : Bool) (s : State) : Host.Outcome State Fault Refusal :=
  .next (s.coreBody (Body.hostAreaRead who corrected uncorrectable))
def execBlockProtection (who : Who) (value : Int) (s : State) : Host.Outcome State Fault Refusal :=
  .next (s.coreBody (Body.clientWrite who 0x2610 4 value))
def execStagedImage (who : Who) (words : List Nat) (s : State) : Host.Outcome State Fault Refusal :=
  .next (s.coreBody fun b => b.request who fun b => b.write who 0x2681 1 (8 * words.length) (imageValue words : Nat))
def execProgram (who : Who) (value dieTemp : Int) (s : State) : Host.Outcome State Fault Refusal :=
  .next (s.coreBody fun b => b.request who fun b =>
    b.writeWith who 0x2681 2 1 value none (0 ≤ dieTemp && dieTemp ≤ 1360) true)
def execLock (who : Who) (value : Int) (wordsOk : Bool) (s : State) : Host.Outcome State Fault Refusal :=
  .next (s.coreBody fun b => b.request who fun b => b.writeWith who 0x2682 1 4 value none true wordsOk)
def execTestEnable (who : Who) (s : State) : Host.Outcome State Fault Refusal :=
  .next (s.coreBody (Body.clientWrite who 0x2740 1 1))
def execTestDisable (who : Who) (s : State) : Host.Outcome State Fault Refusal :=
  .next (s.coreBody (Body.clientWrite who 0x2740 1 0))
def execArm (who : Who) (sl : SlotNo) (value : Int) (s : State) : Host.Outcome State Fault Refusal :=
  .next (s.coreBody (Body.clientWrite who (0x2741 + sl.val) 6 value))
def execDebugLock (who : Who) (value : Int) (s : State) : Host.Outcome State Fault Refusal :=
  .next (s.coreBody (Body.clientWrite who 0x2750 1 value))

end Sys2Proof.Machine
end

