-- ==== Sys2Proof/Machine/Can.lean ====
section
/-!
DEFINITION. Machine/Can.lean: the two CAN FD ports (chapter 18): received frames and their queue, USDO sessions, PDOs, NMT,
heartbeats, bus errors, samplers and buffer reads.
-/
namespace Sys2Proof.Machine

/-! ## Received frames (R450, R454, R546) -/

/-- Whether a port takes part in its bus. -/
def Dev.onBus (d : Dev) (p : Port) : Bool := (d.port p).live && (d.port p).nmt ≠ .init

/-- Frames in the dictionary queue: 64 in all. While the cores run each is served at once; halted cores leave them in the queue. -/
def Dev.enqueue (d : Dev) (p : Port) (t n : Nat) : Dev :=
  if d.coresRun then (if n = 0 then d else d.leaveIdle t)
  else
    let room := if d.power.nrstLow then 0 else 64 - (d.portA.queued + d.portB.queued)
    d.port' p fun x => { x with queued := x.queued + min n room, discarded := satAdd 32 x.discarded (n - min n room) }

/-- The data of a frame after an injected corruption (Table 21-3). -/
def corrupted (l : List Nat) (param : Int) : List Nat :=
  let p := (param % 4294967296).toNat
  updList l (p / 256 % 64) fun b => b % 256 ^^^ p % 256

/-- The frames of a port that an RX reorder injection holds. -/
def Dev.heldOf (d : Dev) (p : Port) : List CanFrame := d.test.held.filter fun f => f.port = p

/-- A frame arrives: an injection may drop it, hold it behind the next one, or corrupt it; else it is queued, and the frames held
before it follow. -/
def Dev.canFrame (f : CanFrame) (t : Nat) (d : Dev) : Dev :=
  if f.ext || !d.onBus f.port || d.power.state = .standby then d else
  let d := d.port' f.port fun x => { x with received := satInc 32 x.received }
  let target := 0x100 + portNo f.port
  let drop := d.inject [0x01] target (canFilter f.cobId)
  if drop.1.isSome then drop.2.port' f.port fun x => { x with discarded := satInc 32 x.discarded } else
  let late := drop.2.inject [0x03] target (canFilter f.cobId)
  let bad := late.2.inject [0x02] target (canFilter f.cobId)
  let f := match bad.1 with
    | some (_, p) => { f with data := corrupted f.data p }
    | none => f
  if late.1.isSome then bad.2.test' fun x => { x with held := x.held ++ [f] }
  else
    let n := 1 + (bad.2.heldOf f.port).length
    (bad.2.test' fun x => { x with held := x.held.filter fun g => g.port ≠ f.port }).enqueue f.port t n

/-- No further frame came on the port within 10 ms. -/
def Dev.rxReorderTimeout (p : Port) (sinceUs t : Nat) (d : Dev) : Dev :=
  if sinceUs < 10000 then d else
  let n := (d.heldOf p).length
  (d.test' fun x => { x with held := x.held.filter fun g => g.port ≠ p }).enqueue p t n

/-! ## USDO sessions (R463, R464) -/

def PortSt.session (p : PortSt) (node id : Nat) : Option Session := p.sessions.find? fun s => s.node = node && s.id = id

def Dev.dropSession (d : Dev) (w : Who) (id : Nat) : Dev :=
  (d.port' w.port fun x => { x with sessions := x.sessions.filter fun s => !(s.node = w.node && s.id = id) }).releaseTransfers

/-- Open a session; a request that begins anew under a key that is open takes its place. -/
def Dev.openSession (d : Dev) (w : Who) (s : Session) : Option Dev :=
  let d := d.dropSession w s.id
  if (d.port w.port).sessions.length ≥ 4 then none
  else some (d.port' w.port fun x => { x with sessions := x.sessions ++ [s] })

/-- A segment of a segmented write: its toggle alternates, and the last one applies the whole value. -/
def Body.segment (b : Body) (w : Who) (id : Nat) (toggle : Bool) (len value : Nat) (last : Bool) : Body :=
  match (b.d.port w.port).session w.node id with
  | none => { b with d := b.d.abort w 0x05040001 }
  | some s =>
    if s.buffer.isSome then { b with d := (b.d.dropSession w id).abort w 0x05040001 }
    else if s.toggle ≠ toggle then { b with d := (b.d.dropSession w id).abort w 0x05030000 }
    else
      let got := s.got + len
      let all := s.value + value % 256 ^ len * 256 ^ s.got
      if last then
        let b := { b with d := b.d.dropSession w id }
        if got ≠ s.total then { b with d := b.d.abort w 0x06070010 } else
        let signed : Bool := match row s.index s.sub with | some r => r.ty = .s | none => false
        let x := b.writeAny w s.index s.sub got (if signed then signExtend (8 * got) all else all)
        (match x.2 with | some c => { x.1 with d := x.1.d.answer w c } | none => x.1)
      else if got > s.total then { b with d := (b.d.dropSession w id).abort w 0x06070010 }
      else
        { b with d := (b.d.port' w.port fun x => { x with sessions := x.sessions.map fun y =>
            if y.node = w.node ∧ y.id = id then { y with got := got, value := all, toggle := !y.toggle } else y }).ok w }

def Body.usdo (u : Usdo) (b : Body) : Body :=
  let w := u.who
  match u.op with
  | .remote => b
  | .badSpecifier => b.request w fun b => (b, some 0x05040001)
  | .read i s => b.request w fun b => b.readFor w i s
  | .write i s len v => b.request w fun b => b.writeAny w i s len v
  | .openWrite i s total =>
    if !b.d.hears w.port then b else
    let d := b.d.leaveIdle b.hw.counter
    (match d.openSession w ⟨w.node, u.session, i, s, total, 0, 0, false, none⟩ with
     | some d => { b with d := d.ok w }
     | none => { b with d := d.abort w 0x05040005 })
  | .segment toggle len v last =>
    if !b.d.hears w.port then b
    else { b with d := b.d.leaveIdle b.hw.counter }.segment w u.session toggle len v last

/-- No segment for 500 ms: the session is closed. -/
def Dev.usdoTimeout (w : Who) (id sinceMs : Nat) (d : Dev) : Dev :=
  if !d.coresRun || sinceMs < 500 || ((d.port w.port).session w.node id).isNone then d
  else (d.dropSession w id).send (.closed w.port w.node id 0x05040000)

/-! ## Buffer reads (R484) -/

/-- The session under which a channel's buffer is transferred. -/
def bufferSession (c : Nat) : Nat := 256 + c

/-- A buffer read begins: the record is fixed, and the buffer stays under transfer until its last segment has been sent. -/
def Body.beginRead (b : Body) (w : Who) (c : ChanNo) : Body :=
  let d := b.d.dropSession w (bufferSession c.val)
  if (d.port w.port).sessions.length ≥ 4 then { b with d := d.abort w 0x05040005 } else
  match d.pickBuffer c.val with
  | .error e => { b with d := d.abort w e }
  | .ok (d, x) =>
    let s : Session := { node := w.node, id := bufferSession c.val, index := 0x2590 + c.val, sub := 0x0B
                         total := d.pool.chans[c].lostBuffers, got := 0, value := ofBytesLE (x.read (d.lossOf c.val)), toggle := false
                         buffer := some (c.val, x.seq) }
    { b with d := (d.markTransfer c.val x.seq true).port' w.port fun y => { y with sessions := y.sessions ++ [s] } }

/-- The last segment has been sent: the buffer is freed, and LOSS stays set only for buffers lost since the read began. -/
def Body.endRead (b : Body) (w : Who) (c : ChanNo) : Body :=
  match (b.d.port w.port).session w.node (bufferSession c.val) with
  | none => b
  | some s =>
    let seq := match s.buffer with | some x => x.2 | none => 0
    let d := (b.d.freeBuffer c.val seq).pool' fun p => p.chan' c.val fun x => { x with loss := x.lostBuffers ≠ s.total }
    { b with d := (d.dropSession w (bufferSession c.val)).send (.value w s.value) }

/-- A read of a channel's buffer object: its beginning, or its completion, which without a beginning is the whole read. -/
def Body.readBuffer (w : Who) (c : ChanNo) (completed : Bool) (b : Body) : Body :=
  if !b.d.hears w.port then b else
  let b := { b with d := b.d.leaveIdle b.hw.counter }
  if !completed then b.beginRead w c
  else if ((b.d.port w.port).session w.node (bufferSession c.val)).isSome then b.endRead w c
  else (b.beginRead w c).endRead w c

/-! ## Samples of mapped objects (R472, R475, R480) -/

/-- The bytes of mapped objects, read in one pass. -/
def Body.sample (b : Body) (l : List Nat) : List Nat × Body :=
  l.foldl (fun x e =>
    let n := e % 256 / 8
    match x.2.fetch (entryIndex e) (entrySubindex e) with
    | .ok (v, b) => (x.1 ++ bytesOfInt n v, b)
    | .error _ => (x.1 ++ List.replicate n 0, x.2)) ([], b)

/-- The smallest CAN FD data length that holds `n` bytes. -/
def fdLength (n : Nat) : Nat := (([0, 1, 2, 3, 4, 5, 6, 7, 8, 12, 16, 20, 24, 32, 48, 64].find? fun k => n ≤ k)).getD 64

def padTo (l : List Nat) : List Nat := l ++ List.replicate (fdLength l.length - l.length) 0

/-! ## RPDOs (R474, R475, R490) -/

/-- Whether a PDO is in use on a port: bit 31 of its COB-ID clear, the port named in its attributes, and the port OPERATIONAL. -/
def Dev.pdoOn (d : Dev) (cob attr : Nat) (p : Port) : Bool :=
  d.served && (d.port p).live && (d.port p).nmt = .operational && !d.pdoOff cob && (d.nat 0x2007 attr).testBit (2 + portNo p)

/-- The entries of a mapping with the bytes that a frame gives each. -/
def sliceData : List Nat → List Nat → List (Nat × Nat)
  | [], _ => []
  | e :: r, l => (e, ofBytesLE (l.take (e % 256 / 8))) :: sliceData r (l.drop (e % 256 / 8))

def mappedLength (l : List Nat) : Nat := (l.map fun e => e % 256 / 8).sum

/-- The value that bytes spell for an object. -/
def slotValue (e v : Nat) : Int :=
  match row (entryIndex e) (entrySubindex e) with
  | some r => if r.ty = .s then signExtend (8 * r.size) v else v
  | none => v

/-- One entry of an RPDO without JOURNALED: a write, whose refusal is counted on the port. -/
def Body.rpdoEntry (p : Port) (b : Body) (x : Nat × Nat) : Body :=
  let y := b.write ⟨p, 0⟩ (entryIndex x.1) (entrySubindex x.1) (x.1 % 256 / 8) (slotValue x.1 x.2)
  match y.2 with
  | some 0 => y.1
  | none => y.1
  | some _ => { y.1 with d := y.1.d.port' p fun z => { z with refused := satInc 32 z.refused } }

/-- The target of a later entry of a journaled RPDO. -/
def rpdoTarget (x : Nat × Nat) : Target :=
  ⟨0, 1, entryIndex x.1, entrySubindex x.1, 0, (slotValue x.1 x.2 % 4294967296).toNat⟩

/-- A frame of a journaled RPDO: one command of the client that CLIENT names (R490). -/
def Body.rpdoCommand (b : Body) (p : Port) (n : Fin 16) (l : List (Nat × Nat)) : Body :=
  match l with
  | [] => b
  | x :: rest =>
    let k : Fin 4 := ⟨b.d.nat 0x2007 (n.val + 1) % 4, Nat.mod_lt _ (by decide)⟩
    let node := b.d.clientNode (k.val + 1)
    let c : JCmd := { who := ⟨p, node⟩, len := 8 + 10 * rest.length, seq := x.2, count := rest.length, rsv := 0, verify := .first
                      targets := rest.map rpdoTarget }
    let d := b.d.dict' fun y => { y with seqRpdo := x.2 }
    match d.steps1to5 0x2640 1 with
    | .error _ => { b with d := d }
    | .ok _ => { b with d := (d.acceptFrom b.hw.counter (if node = 0 then none else some k) true (p = .b) 1 c).1 }

/-- Apply the data of an RPDO. -/
def Body.rpdoApply (p : Port) (b : Body) (x : Nat × List Nat) : Body :=
  let m := b.d.mapping (0x1600 + x.1) (b.d.nat (0x1600 + x.1) 0)
  let l := sliceData m x.2
  if h : x.1 < 16 ∧ (b.d.nat 0x2007 (x.1 + 1)).testBit 7 then b.rpdoCommand p ⟨x.1, h.1⟩ l
  else l.foldl (Body.rpdoEntry p) b

/-- A received RPDO: a short frame is counted; synchronous data waits for the next SYNC of its port. -/
def Body.rpdo (p : Port) (n : Fin 16) (data : List Nat) (b : Body) : Body :=
  if !b.d.pdoOn (0x1400 + n.val) (n.val + 1) p then b else
  let b := { b with d := b.d.leaveIdle b.hw.counter }
  let m := b.d.mapping (0x1600 + n.val) (b.d.nat (0x1600 + n.val) 0)
  if data.length < mappedLength m then { b with d := b.d.port' p fun x => { x with shortPdos := satInc 32 x.shortPdos } }
  else if b.d.nat (0x1400 + n.val) 2 ≤ 240 then
    { b with d := b.d.port' p fun x => { x with syncRpdo := (x.syncRpdo.filter fun y => y.1 ≠ n.val) ++ [(n.val, data)] } }
  else b.rpdoApply p (n.val, data)

/-! ## TPDOs (R475) -/

/-- The place of a TPDO and port in what was last sent. -/
def tpdoKey (n : Nat) (p : Port) : Nat := 2 * n + portNo p

def Dev.tpdoSent (d : Dev) (n : Nat) (p : Port) : Option (List Nat) := ((d.dict.tpdoLast.find? fun x => x.1 = tpdoKey n p).map Prod.snd)

/-- Send a TPDO on a port where it is in use; `onChange` holds it back while the sampled objects read as last sent. -/
def Body.sendTpdo (n : Fin 16) (onChange : Bool) (b : Body) (p : Port) : Body :=
  if !b.d.pdoOn (0x1800 + n.val) (17 + n.val) p then b else
  let x := b.sample (b.d.mapping (0x1A00 + n.val) (b.d.nat (0x1A00 + n.val) 0))
  if onChange && b.d.tpdoSent n.val p = some x.1 then b else
  let d := x.2.d.dict' fun y => { y with
    tpdoLast := (y.tpdoLast.filter fun z => z.1 ≠ tpdoKey n.val p) ++ [(tpdoKey n.val p, x.1)] }
  { x.2 with d := d.send (.pdo p n.val (padTo x.1)) }

def Dev.tpdoType (d : Dev) (n : Fin 16) : Nat := d.nat (0x1800 + n.val) 2

/-- An event-driven TPDO, once its inhibit time has passed. -/
def Body.tpdo (p : Port) (n : Fin 16) (sinceLast100us : Nat) (b : Body) : Body :=
  if b.d.tpdoType n < 254 || sinceLast100us < b.d.nat (0x1800 + n.val) 3 then b else b.sendTpdo n true p

/-- The event timer of a TPDO: it is sent on each of its ports. -/
def Body.tpdoEventTimer (n : Fin 16) (sinceMs : Nat) (b : Body) : Body :=
  let time := b.d.nat (0x1800 + n.val) 5
  if b.d.tpdoType n < 254 || time = 0 || sinceMs < time then b else (b.sendTpdo n false .a).sendTpdo n false .b

/-- A synchronous TPDO at a SYNC of its port: type 0 when an object has changed, types 1 to 240 at every nth SYNC. -/
def Body.syncTpdo (p : Port) (b : Body) (n : Fin 16) : Body :=
  let ty := b.d.tpdoType n
  if ty > 240 then b
  else if ty = 0 then b.sendTpdo n true p
  else if (b.d.port p).syncs % ty = 0 then b.sendTpdo n false p else b

/-- A SYNC on a port: the waiting RPDO data is applied, then the synchronous TPDOs are sent. -/
def Body.sync (p : Port) (b : Body) : Body :=
  if !b.d.hears p then b else
  let b := { b with d := b.d.leaveIdle b.hw.counter }
  let waiting := (b.d.port p).syncRpdo
  let b := { b with d := b.d.port' p fun x => { x with syncs := x.syncs + 1, syncRpdo := [] } }
  let b := waiting.foldl (Body.rpdoApply p) b
  (List.finRange 16).foldl (Body.syncTpdo p) b

/-! ## Heartbeats (R461, R462) -/

/-- A heartbeat of a registered client. -/
def Dev.heard (d : Dev) (p : Port) (t nmt : Nat) (k : Fin 4) : Dev :=
  d.dict' fun x => { x with clients := upd x.clients k fun c => { c with
    active := true, timeout := false, nmt := nmt % 256
    lastA := if p = .a then some t else c.lastA, lastB := if p = .b then some t else c.lastB } }

def Dev.heartbeatReceived (p : Port) (node nmt t : Nat) (d : Dev) : Dev :=
  if !d.served || !d.onBus p then d else
  match d.clientOf node with
  | none => d
  | some k => ((d.leaveIdle t).heard p t nmt k).chargerHeartbeat t node

def Dev.heartbeatTimeout (k : Fin 4) (sinceMs t : Nat) (d : Dev) : Dev :=
  let c := d.dict.clients[k]
  if !d.coresRun || !c.active || c.timeout || d.clientNode (k.val + 1) = 0 || sinceMs < d.nat 0x1016 (k.val + 1) % 65536 then d
  else ((d.dict' fun x => { x with clients := upd x.clients k fun c => { c with timeout := true } }).raise t 110 (k.val + 1)).seqCheck t

def Dev.beat (d : Dev) (p : Port) : Dev := if d.onBus p then d.send (.heartbeat p (d.port p).nmt.code) else d

def Dev.heartbeatProducer (sinceMs : Nat) (d : Dev) : Dev :=
  let time := d.nat 0x1017 0
  if !d.served || time = 0 || sinceMs < time then d else (d.beat .a).beat .b

/-! ## Bus errors (R453) -/

def portSource : Port → Nat
  | .a => 108 | .b => 109

/-- A port goes bus-off: the first time its recovery is awaited; again within 1 s of a recovery it is held off. -/
def Dev.busOff (p : Port) (sinceRecoveryMs t : Nat) (d : Dev) : Dev :=
  if !(d.port p).live then d
  else if sinceRecoveryMs < 1000 then
    (d.port' p fun x => { x with busOff := true, heldOff := true }).raise t (portSource p) 1
  else
    let d := d.port' p fun x => { x with busOff := true }
    if d.sticky (portSource p) then d else d.awaitRetry (portSource p)

/-- 128 occurrences of 11 recessive bits: the port recovers, and the event was transient. -/
def Dev.busOffRecovery (p : Port) (sequences t : Nat) (d : Dev) : Dev :=
  if !(d.port p).busOff || (d.port p).heldOff || sequences < 128 then d else
  let d := d.port' p fun x => { x with busOff := false, passive := false, warning := false, txErr := 0, rxErr := 0 }
  if d.retrying (portSource p) then d.transient t (portSource p) 1 else d

/-- Error passive for 1 s. Which of the two counters has passed 127, and by how much, is open (log entry 3). -/
def Dev.errorPassive (p : Port) (heldMs t : Nat) (d : Dev) : Dev :=
  if !(d.port p).live || heldMs < 1000 then d else
  let x := d.draw
  let n := 128 + x.1 / 2 % 128
  let d := x.2.port' p fun y => { y with
    passive := true, warning := true, txErr := if x.1 % 2 = 0 then n else y.txErr, rxErr := if x.1 % 2 = 0 then y.rxErr else n }
  d.raise t (portSource p) 2

/-! ## NMT (Table 18-2) -/

/-- Whether an NMT command reaches the device on a port. -/
def Dev.nmtFor (d : Dev) (p : Port) (node : Nat) : Bool := d.served && d.onBus p && (node = 0 || node = d.dict.nodeId)

def Dev.setNmt (p : Port) (node : Nat) (n : Nmt) (t : Nat) (d : Dev) : Dev :=
  if d.nmtFor p node then (d.leaveIdle t).port' p fun x => { x with nmt := n } else d

/-- STOPPED discards the open sessions of the port without a response (R458). -/
def Dev.nmtStop (p : Port) (node t : Nat) (d : Dev) : Dev :=
  if d.nmtFor p node then
    Dev.releaseTransfers <| (d.leaveIdle t).port' p fun x => { x with nmt := .stopped, sessions := [] }
  else d

def nmtResetNode (p : Port) (node : Nat) (b : Body) : Body :=
  if b.d.nmtFor p node then resetNode { b with d := b.d.leaveIdle b.hw.counter } else b

def nmtResetCommunication (p : Port) (node : Nat) (b : Body) : Body :=
  if b.d.nmtFor p node then
    { b with hw := b.hw.caused 0x08, d := (b.d.leaveIdle b.hw.counter).resetCommunication b.hw.counter p }
  else b

/-! ## Samplers (R480) -/

/-- The sampler of a channel reads its map and appends one record. -/
def Body.sampler (c : ChanNo) (b : Body) : Body :=
  if !b.d.served || !b.d.flag (0x2590 + c.val) 1 || b.d.chanSource c.val ≠ 2 then b else
  let x := b.sample ((mapWords (b.d.nat (0x2590 + c.val) 6)).filter (· ≠ 0))
  { x.2 with d := x.2.d.poolAppend b.hw.counter c.val x.1 }

/-! ## The commands -/

def execCanFrameReceived (f : CanFrame) (s : State) : Host.Outcome State Fault Refusal := .next (s.core (Dev.canFrame f))
def execRxReorderTimeout (port : Port) (sinceUs : Nat) (s : State) : Host.Outcome State Fault Refusal :=
  .next (s.core (Dev.rxReorderTimeout port sinceUs))
def execUsdoRequest (u : Usdo) (s : State) : Host.Outcome State Fault Refusal := .next (s.coreBody (Body.usdo u))
def execUsdoSessionTimeout (who : Who) (session sinceMs : Nat) (s : State) : Host.Outcome State Fault Refusal :=
  .next (s.core fun _ => Dev.usdoTimeout who session sinceMs)
def execReadBuffer (who : Who) (c : ChanNo) (completed : Bool) (s : State) : Host.Outcome State Fault Refusal :=
  .next (s.coreBody (Body.readBuffer who c completed))
def execRpdo (port : Port) (p : Fin 16) (data : List Nat) (s : State) : Host.Outcome State Fault Refusal :=
  .next (s.coreBody (Body.rpdo port p data))
def execSync (port : Port) (s : State) : Host.Outcome State Fault Refusal := .next (s.coreBody (Body.sync port))
def execTpdo (port : Port) (p : Fin 16) (sinceLast100us : Nat) (s : State) : Host.Outcome State Fault Refusal :=
  .next (s.coreBody (Body.tpdo port p sinceLast100us))
def execTpdoEventTimer (p : Fin 16) (sinceMs : Nat) (s : State) : Host.Outcome State Fault Refusal :=
  .next (s.coreBody (Body.tpdoEventTimer p sinceMs))
def execHeartbeatReceived (port : Port) (node nmt : Nat) (s : State) : Host.Outcome State Fault Refusal :=
  .next (s.core (Dev.heartbeatReceived port node nmt))
def execHeartbeatConsumerTimeout (k : Fin 4) (sinceMs : Nat) (s : State) : Host.Outcome State Fault Refusal :=
  .next (s.core (Dev.heartbeatTimeout k sinceMs))
def execHeartbeatProducer (sinceMs : Nat) (s : State) : Host.Outcome State Fault Refusal :=
  .next (s.core fun _ => Dev.heartbeatProducer sinceMs)
def execBusOff (port : Port) (sinceRecoveryMs : Nat) (s : State) : Host.Outcome State Fault Refusal :=
  .next (s.core (Dev.busOff port sinceRecoveryMs))
def execBusOffRecovery (port : Port) (sequences : Nat) (s : State) : Host.Outcome State Fault Refusal :=
  .next (s.core (Dev.busOffRecovery port sequences))
def execErrorPassive (port : Port) (heldMs : Nat) (s : State) : Host.Outcome State Fault Refusal :=
  .next (s.core (Dev.errorPassive port heldMs))
def execNmtStart (port : Port) (node : Nat) (s : State) : Host.Outcome State Fault Refusal :=
  .next (s.core (Dev.setNmt port node .operational))
def execNmtStop (port : Port) (node : Nat) (s : State) : Host.Outcome State Fault Refusal := .next (s.core (Dev.nmtStop port node))
def execNmtEnterPreOperational (port : Port) (node : Nat) (s : State) : Host.Outcome State Fault Refusal :=
  .next (s.core (Dev.setNmt port node .preOp))
def execNmtResetNode (port : Port) (node : Nat) (s : State) : Host.Outcome State Fault Refusal :=
  .next (s.coreBody (nmtResetNode port node))
def execNmtResetCommunication (port : Port) (node : Nat) (s : State) : Host.Outcome State Fault Refusal :=
  .next (s.coreBody (nmtResetCommunication port node))
def execSampler (c : ChanNo) (s : State) : Host.Outcome State Fault Refusal := .next (s.coreBody (Body.sampler c))

end Sys2Proof.Machine
end

