-- ==== Sys2Proof/Machine/Cascade.lean ====
section
/-!
DEFINITION. Machine/Cascade.lean: the COPAK link, CSYNC and the commands that span units (chapter 10): beacons, status frames and
replies, orders, the master's transactions and the slave's part in them, and the supervision of the link.
-/
namespace Sys2Proof.Machine

/-! ## The link (R259, R262, R264) -/

/-- Whether this unit takes part in the link: of a cascade, on the crystal with the root PLL locked, and not in CONFLICT. -/
def Dev.linkRuns (d : Dev) : Bool := d.casc.role ≠ 0 && d.casc.link ≠ .conflict && d.clk.crystal && d.clk.pllLocked

def Dev.isSlave (d : Dev) : Bool := d.casc.role = 2 && d.casc.link = .joined && d.linkRuns
def Dev.isMaster (d : Dev) : Bool := d.casc.role = 1 && d.linkRuns

/-- FS112 with a reason, which 0x2381:0A keeps (R287). -/
def Dev.linkFault (d : Dev) (t reason : Nat) : Dev :=
  ((d.casc' fun c => { c with linkReason := reason }).raise t 112 reason).seqCheck t

/-- Whether a received frame is valid: no framing error, CRC correct, its type and length those expected, and on time. -/
def RxOk (c : RxCheck) (type len : Nat) : Bool := c.framing && c.crc && c.type = type && c.len = len && c.lateBits ≤ 4

def Dev.discard (d : Dev) : Dev := d.casc' fun c => { c with discarded := satInc 32 c.discarded }

/-- A frame with its CRC inverted (Table 21-2, kind 0x11). -/
def spoilCrc (f : List Nat) : List Nat := f.take (f.length - 2) ++ (f.drop (f.length - 2)).map fun x => x ^^^ 0xFF

/-- Send an own frame in its window. An injection may keep it back, or invert its CRC, which makes every receiver discard it
(Table 21-2). -/
def Dev.ownFrame (d : Dev) (type : Nat) (payload : List Nat) : Dev :=
  let f := copakFrame type (if d.casc.role = 1 then 0 else d.straps.addr) payload
  let x := d.inject [0x10, 0x11] 0x200 fun p => p % 16 = 0 || p % 16 = type
  match x.1 with
  | none => x.2.send (.copak f)
  | some (0x10, _) => x.2
  | some _ => x.2.send (.copak (spoilCrc f))

/-- A slave as the master sees it. -/
def Dev.slave' (d : Dev) (u : Unit8) (f : SlaveView → SlaveView) : Dev := d.casc' fun c => { c with slaves := upd c.slaves u f }

/-- Queue a message for a slave, once. -/
def Dev.post (d : Dev) (m : Msg) : Dev :=
  if d.casc.messages.contains m then d else d.casc' fun c => { c with messages := c.messages ++ [m] }

def Dev.unpost (d : Dev) (m : Msg) : Dev := d.casc' fun c => { c with messages := c.messages.erase m }

/-! ## The master's beacon (R265, R266, R269) -/

/-- A cycle begins: a slave whose status frame was missing in the one before starts its count of valid frames afresh. -/
def SlaveView.newCycle (x : SlaveView) : SlaveView := { x with valid := if x.missed ≥ 1 then 0 else x.valid, missed := x.missed + 1 }

/-- The beacon carries the message at the head of the queue, which goes to its end until it is answered. A first PREPARE segment
makes its unit one that was sent PREPARE (R282). -/
def Cascade.nextMessage (c : Cascade) : Cascade :=
  match c.messages with
  | [] => { c with sent := none }
  | m :: r =>
    { c with sent := some m, messages := r ++ [m]
             txn := if m.type ≠ 1 then c.txn else c.txn.map fun x =>
               if x.tag = m.tag then { x with prepared := x.prepared ||| 2 ^ m.addr } else x }

def Dev.beaconOf (d : Dev) (t : Nat) : Beacon :=
  let c := d.casc
  let m : Msg := c.sent.getD ⟨0, 0, 0xFFFF, []⟩
  { summary := c.units ≥ 5, nslv := c.units - 1, cstart := c.announced, cycle := c.cycle, time := t, order := c.order
    orderTag := c.orderTag, masterState := d.stateCode, msgAddr := m.addr, msgType := m.type, msgLen := m.data.length
    tag := m.tag, data := m.data }

/-- The beacon of a cycle. One that announces a Start ends its cycle with the pulse on CSYNC (R269). -/
def Dev.sendBeacon (t : Nat) (d : Dev) : Dev :=
  if !d.isMaster then d else
  let d := d.casc' fun c =>
    { c.nextMessage with cycle := (c.cycle + 1) % 256, slaves := c.slaves.map SlaveView.newCycle
                         announced := d.seq.awaitPulse && c.order = 1 }
  let d := d.ownFrame 1 (d.beaconOf t).bytes
  if d.casc.announced then d.send .startPulse else d

/-! ## Beacons at a slave (R264, R275, Table 10-10) -/

/-- A valid beacon in the state of the link that the slave stands in. -/
def Dev.beaconLink (d : Dev) (t nslv : Nat) : Dev :=
  let c := d.casc
  if nslv < d.straps.addr then
    (if c.link = .noSlot then d else (d.casc' fun c => { c with link := .noSlot, validBeacons := 0 }).linkFault t 3)
  else match c.link with
    | .noSlot => d.casc' fun c => { c with link := .search, validBeacons := 1 }
    | .search => d.casc' fun c =>
      if c.validBeacons ≥ 2 then { c with link := .joined, validBeacons := 3 } else { c with validBeacons := c.validBeacons + 1 }
    | .lost => d.casc' fun c =>
      if c.validBeacons ≥ 2 then { c with link := .joined, validBeacons := 3, rejoin := true }
      else { c with validBeacons := c.validBeacons + 1 }
    | _ => d

/-! ## Messages at a slave (R281 to R285, Table 10-8) -/

def Dev.answerMsg (d : Dev) (code detail tag data : Nat) : Dev :=
  d.casc' fun c => { c with reply := ⟨code, detail, tag, data⟩, replyDue := true }

/-- The newest cascade entry of a tag. -/
def Dev.tagEntry (d : Dev) (tag : Nat) : Option (Nat × Entry) :=
  (d.jour.entries.zipIdx.reverse.find? fun x => x.1.cascade && x.1.tag = tag).map fun x => (x.2, x.1)

/-- The set-point object of a branch. -/
def setPointObject (b : Nat) : Nat :=
  if b < 8 then 0x2200 + b else if b < 14 then 0x2240 + (b - 8) else if b < 22 then 0x2248 + (b - 14) else 0

/-- A target of a PREPARE as a target of this unit; one of action 0 is unused. -/
def ofCTarget (x : CTarget) : Option Target :=
  match x.action with
  | 1 => some ⟨0, 1, setPointObject x.branch, 1, 0, x.value⟩
  | 2 => some ⟨0, 2, 0, x.branch, 0, 0⟩
  | 3 => some ⟨0, 3, 0, x.branch, 0, 0⟩
  | _ => none

/-- Whether a target is one that the cascade can carry (R280). -/
def validCTarget (t : Target) : Bool := if t.kind = 1 then isSetPoint t else t.sub < 30

/-- The vote on targets that have all arrived: the detail of a NO, or `none` for YES. -/
def Body.voteOn (b : Body) (l : List Target) : Option (Nat × Dev) :=
  let d := b.d
  if d.path.warning || d.th.nvBlocked || !d.commitAdmitted entryUs || d.jour.writeFailed then some (6, d)
  else if !(d.inRun || d.power.state = .safe) then some (3, d)
  else if !l.all validCTarget then some (7, d)
  else match b.prepareTargets ⟨.a, 0⟩ l (l.any fun x => d.reservedTargets.any x.shares) with
    | some refused => some refused
    | none => if (makeRoom d.jour.entries.length (slotsFor l.length) d.jour.entries).isNone then some (5, d) else none

/-- The slave's own PREPARED entry, which it writes before it votes YES (R281, R506). -/
def Dev.prepareSlave (d : Dev) (tag : Nat) (l : List Target) : Dev :=
  let room := (makeRoom d.jour.entries.length (slotsFor l.length) d.jour.entries).getD d.jour.entries
  let e : Entry :=
    { client := 0, rpdo := false, portB := false, cascade := true, action := 1, seq := 0, tag := tag, targets := l
      state := .prepared, detail := 0, reached := 0, missed := 0, unitsLost := 0, going := false, endNo := 0
      integrator := d.integrator, found := false }
  d.jour' fun j => { j with entries := room ++ [e] }

def Body.castVote (b : Body) : Body :=
  let l := b.d.casc.segments.filterMap ofCTarget
  match b.voteOn l with
  | some (detail, d) => { b with d := d.casc' fun c => { c with vote := 3, voteDetail := detail } }
  | none => { b with d := (b.d.prepareSlave b.d.casc.voteTag l).casc' fun c => { c with vote := 2, voteDetail := 0 } }

/-- A PREPARE segment: segments are taken in order; the last one makes the unit vote. A tag already handled is answered as before. -/
def Body.prepareSegment (b : Body) (tag index count : Nat) (l : List CTarget) : Body :=
  let c := b.d.casc
  let ack (b : Body) : Body := { b with d := b.d.answerMsg 0x01 0 tag 0 }
  if (b.d.tagEntry tag).isSome || (c.voteTag = tag && index < c.segGot) then ack b
  else if index = 0 || (c.voteTag = tag && index = c.segGot && count = c.segCount) then
    let got := if index = 0 then 1 else c.segGot + 1
    let b := { b with d := b.d.casc' fun c => { c with
      segments := (if index = 0 then [] else c.segments) ++ l.take 3, segGot := got, segCount := count, voteTag := tag, vote := 0
      voteDetail := 0 } }
    ack (if got ≥ count then b.castVote else b)
  else { b with d := b.d.answerMsg 0x0C 0 tag 0 }

/-- Whether a tag is known to this unit. -/
def Dev.knowsTag (d : Dev) (tag : Nat) : Bool := (d.tagEntry tag).isSome || d.casc.voteTag = tag

def Dev.pollVote (d : Dev) (tag : Nat) : Dev :=
  if (d.tagEntry tag).isSome then d.answerMsg 0x02 0 tag 0
  else if d.casc.voteTag ≠ tag then d.answerMsg 0x0F 0 tag 0
  else if d.casc.vote = 3 then d.answerMsg 0x03 d.casc.voteDetail tag 0
  else d.answerMsg 0x00 0 tag 0

/-- COMMIT: the entry's targets are applied, once. -/
def Body.commitSlave (b : Body) (tag : Nat) (starts : Vector StartMeas 30) : Body :=
  match b.d.tagEntry tag with
  | none => { b with d := b.d.answerMsg 0x0F 0 tag 0 }
  | some (i, e) =>
    let b := if e.state = .prepared && !e.going then b.applyEntry starts i else b
    { b with d := b.d.answerMsg 0x04 0 tag 0 }

def Dev.pollOutcome (d : Dev) (tag : Nat) : Dev :=
  match d.tagEntry tag with
  | none => d.answerMsg 0x0F 0 tag 0
  | some (_, e) =>
    match e.state with
    | .applied => d.answerMsg 0x05 0 tag e.missedBranches
    | .partially => d.answerMsg 0x06 0 tag e.missedBranches
    | .failed => d.answerMsg 0x07 0 tag e.missedBranches
    | _ => d.answerMsg 0x00 0 tag 0

/-- ABORT: the reservation is released and the entry ends FAILED (R282). -/
def Dev.abortSlave (d : Dev) (tag : Nat) : Dev :=
  match d.tagEntry tag with
  | some (i, e) => (if e.state.ended then d else d.endEntry i .failed 0x0A).answerMsg 0x08 0 tag 0
  | none =>
    if d.casc.voteTag = tag then
      (d.casc' fun c => { c with voteTag := 0xFFFF, vote := 0, segments := [], segGot := 0 }).answerMsg 0x08 0 tag 0
    else d.answerMsg 0x0F 0 tag 0

/-- INQUIRE: the tag of the oldest PREPARED entry (R284). -/
def Dev.inquired (d : Dev) : Dev :=
  let tag := match d.jour.entries.find? fun e => e.cascade && e.state = .prepared with
    | some e => e.tag
    | none => 0xFFFF
  (d.casc' fun c => { c with rejoin := false }).answerMsg 0x09 0 tag 0

/-- What GET_FAIL answers: the branch and reason of the failed start, or of the reaction that asks for SAFE. -/
def Dev.failWords (d : Dev) : Nat × Nat :=
  if d.casc.safeReq then (match d.seq.cause with | some f => (f.branch, f.reason) | none => d.casc.lastFail)
  else d.casc.lastFail

def Dev.getFail (d : Dev) : Dev :=
  let f := d.failWords
  d.answerMsg 0x0A 0 0xFFFF (f.1 % 256 + f.2 % 256 * 2 ^ 8 + d.stateCode * 2 ^ 16 + d.seq.attempt % 256 * 2 ^ 24)

/-- Handle one message. -/
def Body.message (b : Body) (m : CMsg) : Body :=
  match m with
  | .prepare tag index count l => b.prepareSegment tag index count l
  | .pollVote tag => { b with d := b.d.pollVote tag }
  | .commit tag starts => b.commitSlave tag starts
  | .pollOutcome tag => { b with d := b.d.pollOutcome tag }
  | .abort tag => { b with d := b.d.abortSlave tag }
  | .inquire => { b with d := b.d.inquired }
  | .getFail => { b with d := b.d.getFail }
  | .getInfo => { b with d := b.d.answerMsg 0x0B 0 0xFFFF b.d.members }
  | .unknown tag => if b.d.knowsTag tag then b else { b with d := b.d.answerMsg 0x0F 0 tag 0 }

/-- A message reaches a slave. One that an injection reorders is held, and handled after the next one (Table 21-2). -/
def Body.deliver (m : CMsg) (b : Body) : Body :=
  if !b.d.isSlave || !b.d.coresRun then b
  else if b.d.test.lateDue then { b with d := b.d.test' fun x => { x with lateDue := false, lateMsg := some m } }
  else
    let b := b.message m
    match b.d.test.lateMsg with
    | some late => { b with d := b.d.test' fun x => { x with lateMsg := none } }.message late
    | none => b

/-- A held message whose next cycle carries none is handled there. -/
def Body.lateMessage (b : Body) : Body :=
  match b.d.test.lateMsg with
  | some late => { b with d := b.d.test' fun x => { x with lateMsg := none } }.message late
  | none => b

/-- A beacon at a slave: supervision of the link, cascade time, and the announcement of a start pulse. It begins a new cycle, in
which the slave sends only if the beacon is valid (R265), and an answer that was not sent is past. -/
def Body.beaconReceived (c : RxCheck) (m : Beacon) (b : Body) : Body :=
  if b.d.casc.role ≠ 2 || b.d.casc.link = .conflict then b
  else if !RxOk c 1 32 then
    { b with d := b.d.discard.casc' fun c => { c with
      announced := false, validBeacons := if c.link = .joined then c.validBeacons else 0, statusDue := false, replyDue := false } }
  else
    let t := b.hw.counter
    let d := (b.d.casc' fun c => { c with
      offset := (m.time : Int) - t, announced := m.cstart, summary := m.summary, cycle := m.cycle % 256, statusDue := true
      replyDue := false }).beaconLink t m.nslv
    let b := { b with d := d }
    if m.msgAddr = d.straps.addr && m.msgType ≠ 0 then
      let x := d.inject [0x12] 0x200 fun _ => true
      { b with d := if x.1.isSome then x.2.test' fun y => { y with lateDue := true } else x.2 }
    else if b.d.isSlave && b.d.coresRun then b.lateMessage else b

/-! ## Status frames and replies (R267) -/

/-- The conditions of R230 on a slave. -/
def Dev.ready (d : Dev) : Bool := d.otp.boardOk && d.path.vsysMv ≥ 17000

def Dev.busy (d : Dev) : Bool := d.seq.state ≠ .idle && d.seq.state ≠ .pause

/-- The PG bits of a summary (Table 10-6). -/
def Dev.pgMask (d : Dev) : Nat :=
  maskOf fun b => byBranch b (fun _ => d.judge[b].good && !d.judge[b].fwin) (fun _ => d.judge[b].good && !d.judge[b].fwin)
    (fun n => d.integ.xe[n].pgood)

def Dev.statusOf (d : Dev) : Status :=
  if d.casc.summary then
    .summary (if d.casc.safeReq then 3 else if d.casc.failPending.isSome then 2 else if d.busy || !d.ready then 1 else 0) d.pgMask
  else
    let f := d.casc.failPending.getD (0xFF, 0)
    .full d.stateCode
      (bit 7 d.ready + bit 6 d.casc.safeReq + bit 5 d.casc.failPending.isSome + bit 4 d.busy + bit 3 d.anyUF +
        bit 2 d.th.throttle + bit 1 d.path.warning) f.1 f.2 d.onMask d.goodMask d.fwinMask

/-- A slave's status frame, once in a cycle whose beacon was valid (R265). -/
def Dev.sendStatus (d : Dev) : Dev :=
  if !d.isSlave || !d.casc.statusDue then d
  else (d.casc' fun c => { c with statusDue := false }).ownFrame (if d.casc.summary then 3 else 2) d.statusOf.payload

/-- A slave answers in the reply window; during its own core restart it sends nothing. -/
def Dev.sendReply (d : Dev) : Dev :=
  if !d.isSlave || !d.coresRun || !d.casc.replyDue then d
  else (d.casc' fun c => { c with replyDue := false }).ownFrame 4 d.casc.reply.bytes

/-! ## Status frames at the master (R270 to R272, R277) -/

end Sys2Proof.Machine
namespace Sys2Proof


/-- The branch and reason that a status frame names; a summary names none, and GET_FAIL reads them. -/
def Status.failure (s : Status) : Nat × Nat :=
  match s with
  | .full _ _ fb fr _ _ _ => (fb, fr)
  | .summary _ _ => (0xFF, 0)

end Sys2Proof
namespace Sys2Proof.Machine

/-- What a status frame says of its slave. -/
def SlaveView.noted (x : SlaveView) (s : Status) : SlaveView :=
  match s with
  | .full _ fl _ _ on good fwin =>
    { x with status := s.bytes, on := on, good := good - (good &&& fwin), ready := fl.testBit 7, idle := !fl.testBit 4
             safeReq := fl.testBit 6, fstart := fl.testBit 5 }
  | .summary code pg =>
    { x with status := s.bytes, on := 0, good := pg, ready := code = 0, idle := code = 0, safeReq := code = 3, fstart := code = 2 }

/-- A slave asks for SAFE: the master issues it to every unit, and its record names the slave (R271). -/
def Dev.slaveSafe (d : Dev) (t u : Nat) (s : Status) : Dev :=
  let f := s.failure
  (d.safeReaction t (d.failureNow t 2 f.1 u f.2)).post ⟨u, 7, 0xFFFF, []⟩

/-- A slave reports a failed start (R243). -/
def Dev.slaveFailed (d : Dev) (t u : Nat) (s : Status) : Dev :=
  let d := if s.failure.1 = 0xFF then d.post ⟨u, 7, 0xFFFF, []⟩ else d
  d.failedStart t s.failure.1 u 0x23

/-- Three consecutive valid frames make a slave present: GET_INFO and INQUIRE follow. -/
def Dev.slavePresent (d : Dev) (u : Unit8) : Dev :=
  let x := d.casc.slaves[u]
  if x.present ∨ x.valid < 3 then d
  else ((d.slave' u fun x => { x with present := true, lost := false }).post ⟨u.val, 8, 0xFFFF, []⟩).post ⟨u.val, 6, 0xFFFF, []⟩

def Dev.statusReceived (u : Unit8) (c : RxCheck) (s : Status) (t : Nat) (d : Dev) : Dev :=
  if !d.isMaster || u.val = 0 || u.val ≥ d.casc.units then d else
  let summary := d.casc.units ≥ 5
  let shape := match s with | .full _ _ _ _ _ _ _ => !summary | .summary _ _ => summary
  if !shape || !RxOk c (if summary then 3 else 2) (if summary then 4 else 16) then d.discard.slave' u fun x => { x with valid := 0 } else
  let before := d.casc.slaves[u]
  let d := (d.slave' u fun x => { x.noted s with valid := min 3 (x.valid + 1), missed := 0 }).slavePresent u
  let now := d.casc.slaves[u]
  if !now.present then d else
  let d := if now.safeReq && !before.safeReq then d.slaveSafe t u.val s
    else if now.fstart && !before.fstart then d.slaveFailed t u.val s
    else d
  d.seqCheck t

/-! ## Replies at the master (R282 to R284) -/

/-- Fill the branch and the reason that GET_FAIL read into the failures that wait for them. A failed start keeps reason 0x23. -/
def fillFail (u branch reason : Nat) (f : Failure) : Failure :=
  if f.unit ≠ u then f
  else { f with branch := if f.branch = 0xFF then branch else f.branch, reason := if f.kind = 2 ∧ f.reason = 0 then reason else f.reason }

def Dev.failRead (d : Dev) (u data : Nat) : Dev :=
  let g := fillFail u (data % 256) (data / 256 % 256)
  d.seq' fun s => { s with held := s.held.map g, cause := s.cause.map g, staged := s.staged.map g }

/-- The final outcome of a unit: its targets are reached, but for those of the mask. -/
def Dev.unitOutcome (d : Dev) (u tag mask : Nat) : Dev :=
  match d.txnEntry tag with
  | none => d
  | some i =>
    let d := d.entry' i fun e => e.targets.zipIdx.foldl (fun e x =>
      if x.1.unit ≠ u then e
      else if (match x.1.branch with | some b => inMask mask b | none => false) then { e with missed := e.missed ||| 2 ^ x.2 }
      else { e with reached := e.reached ||| 2 ^ x.2 }) e
    (d.casc' fun c => { c with txn := c.txn.map fun x => { x with ended := x.ended ||| 2 ^ u } }).settle

/-- The answer to an INQUIRE: COMMIT, ABORT, or nothing more to ask. -/
def Dev.inquiryAnswer (d : Dev) (u : Nat) (sent : Msg) (tag : Nat) : Dev :=
  if tag = 0xFFFF then d.unpost sent else
  let live : Bool := match d.txnEntry tag with
    | some i => (match d.jour.entries[i]? with | some e => e.state = .prepared && !e.unitsLost.testBit u | none => false)
    | none => false
  d.post ⟨u, if live then 3 else 5, tag, []⟩

/-- Whether PREPARE segments for a unit still wait for their answer. -/
def Dev.preparing (d : Dev) (u tag : Nat) : Bool := d.casc.messages.any fun m => m.addr = u && m.type = 1 && m.tag = tag

/-- A reply to the message of this cycle. -/
def Body.replied (b : Body) (u : Nat) (sent : Msg) (m : ReplyMsg) (starts : Vector StartMeas 30) : Body :=
  let d := b.d
  let t := b.hw.counter
  match sent.type, m.code with
  | 1, 0x01 =>
    let d := d.unpost sent
    { b with d := if d.preparing u sent.tag then d else d.post ⟨u, 2, sent.tag, []⟩ }
  | 2, 0x02 =>
    { b with d := (d.unpost sent).casc' fun c => { c with
        txn := c.txn.map fun (x : Txn) => if x.tag = sent.tag then { x with voted := x.voted ||| 2 ^ u } else x } }.commitPoint starts
  | 2, 0x03 => { b with d := (d.unpost sent).abortTxn 0x0A }
  | 3, 0x04 =>
    { b with d := ((d.unpost sent).casc' fun c => { c with
        txn := c.txn.map fun (x : Txn) => if x.tag = sent.tag then { x with confirmed := x.confirmed ||| 2 ^ u } else x }).post
                     (Msg.mk u 4 sent.tag []) }
  | 4, 0x05 => { b with d := ((d.unpost sent).unitOutcome u sent.tag m.data).seqCheck t }
  | 4, 0x06 => { b with d := ((d.unpost sent).unitOutcome u sent.tag m.data).seqCheck t }
  | 4, 0x07 => { b with d := ((d.unpost sent).unitOutcome u sent.tag m.data).seqCheck t }
  | 5, 0x08 => { b with d := d.unpost sent }
  | 5, 0x0F => { b with d := d.unpost sent }
  | 6, 0x09 => { b with d := d.inquiryAnswer u sent m.tag }
  | 7, 0x0A => { b with d := (d.unpost sent).failRead u m.data }
  | 8, 0x0B =>
    { b with d := (d.unpost sent).casc' fun c => { c with
        slaves := if h : u < 8 then upd c.slaves ⟨u, h⟩ fun x => { x with members := m.data } else c.slaves } }
  | _, _ => b

def Body.replyReceived (u : Unit8) (c : RxCheck) (m : ReplyMsg) (starts : Vector StartMeas 30) (b : Body) : Body :=
  if !b.d.isMaster then b
  else if !RxOk c 4 8 then { b with d := b.d.discard }
  else match b.d.casc.sent with
    | none => b
    | some sent => if sent.addr ≠ u.val || !b.d.coresRun || (sent.type ≤ 5 && m.tag ≠ sent.tag) then b else b.replied u.val sent m starts

/-! ## The master's transactions (R280 to R282) -/

/-- The five bytes of a target in a PREPARE segment. -/
def cTargetBytes (t : Target) : List Nat :=
  let branch := match t.branch with | some b => b.val | none => 0
  (t.kind * 32 + branch) :: bytesLE 4 t.value

/-- A list cut into pieces of three. -/
def inThrees {α : Type} : List α → List (List α)
  | a :: b :: c :: r => [a, b, c] :: inThrees r
  | [] => []
  | l => [l]

/-- The PREPARE segments of an entry for a unit. -/
def Entry.segments (e : Entry) (u : Nat) : List Msg :=
  let parts := inThrees (e.targets.filter fun t => t.unit = u)
  parts.zipIdx.map fun x => ⟨u, 1, e.tag, (x.2 * 16 + parts.length % 16) :: x.1.flatMap cTargetBytes⟩

/-- The next entry, if it is a transaction of the master's: its own targets are validated and reserved, and PREPARE goes to each
unit concerned in ascending order. -/
def Body.cascadePrepareStart (b : Body) : Body :=
  if b.d.casc.role ≠ 1 || b.d.casc.txn.isSome || !b.d.journalRuns then b else
  match b.d.nextEntry with
  | none => b
  | some (i, e) =>
    if !e.isCascade then b else
    match b.prepareTargets (b.d.entryWho e) (e.targets.filter fun t => t.unit = 0) false with
    | some (detail, d) => { b with d := d.endEntry i .failed detail }
    | none =>
      let to' := (List.range 8).filter fun u => e.units.testBit u
      { b with d := b.d.casc' fun c => { c with
          txn := some { tag := e.tag, committed := false, units := e.units, prepared := 0, voted := 0, confirmed := 0, ended := 0 }
          messages := c.messages ++ to'.flatMap e.segments } }

def Dev.prepareDeadline (u : Unit8) (sinceUs : Nat) (d : Dev) : Dev :=
  match d.casc.txn with
  | some x =>
    if !d.coresRun || x.committed || !x.prepared.testBit u.val || x.voted.testBit u.val || sinceUs < d.nat 0x2380 5 then d
    else d.abortTxn 0x0A
  | none => d

/-- A unit that is lost after the commit point: its targets count as not reached, and it is marked (R284). -/
def Dev.txnLost (d : Dev) (u : Nat) : Dev :=
  match d.casc.txn with
  | some x =>
    if x.committed && x.units.testBit u && !x.ended.testBit u then
      (match d.txnEntry x.tag with
       | some i => (d.entry' i fun e => { e with unitsLost := e.unitsLost ||| 2 ^ u }).unitOutcome u x.tag allMask
       | none => d)
    else d
  | none => d

/-- A unit that does not answer is judged as not power-good: during an on order, a failed start (R243), unless it has no branch
in the sequence. -/
def Dev.silentUnit (t : Nat) (d : Dev) (u : Unit8) : Dev :=
  if d.seq.state = .onOrder then d.failedStart t 0xFF u.val 0x22 else d

def Dev.slaveLost (u : Unit8) (missed t : Nat) (d : Dev) : Dev :=
  let x := d.casc.slaves[u]
  if !d.isMaster || !x.present || missed < 3 then d else
  let d := (d.slave' u fun x => { x with present := false, lost := true, valid := 0, safeReq := false, fstart := false }).casc' fun c =>
    { c with messages := c.messages.filter fun m => m.addr ≠ u.val }
  let d := (d.raise t 113 0).txnLost u.val
  (if x.members = 0 then d else d.silentUnit t u).seqCheck t

/-! ## Orders at a slave (R268, R271) -/

/-- Whether a slave carries an order out: it is joined, and the tag is not the last one carried out. -/
def Dev.takesOrder (d : Dev) (tag : Nat) : Bool := d.isSlave && d.casc.lastTag ≠ tag % 256

/-- Note an order as carried out; the failed start reported since the last one is past. -/
def Dev.orderTaken (d : Dev) (tag : Nat) : Dev := d.casc' fun c => { c with lastTag := tag % 256, failPending := none }

/-- Start: the common start comes with the pulse of the announcing cycle. -/
def Dev.startOrder (tag : Nat) (d : Dev) : Dev :=
  if d.takesOrder tag then (d.orderTaken tag).casc' fun c => { c with startArmed := true, lastFail := (0xFF, 0) } else d

def Dev.abortOrder (tag t : Nat) (d : Dev) : Dev :=
  if !d.takesOrder tag then d else
  let d := d.orderTaken tag
  if d.seq.state = .onOrder ∨ d.seq.state = .idle then
    (d.beginOff t (maskDiff allMask d.standbySet) .abort .retry).seqCheck t
  else d

/-- Safe: SAFE_OFF, and then this unit's own safe set. The master's record names the cause; this unit writes none. -/
def Dev.safeOrder (tag t : Nat) (d : Dev) : Dev :=
  if !d.takesOrder tag then d else
  let d := ((d.orderTaken tag).casc' fun c => { c with safeReq := false, startArmed := false }).seq' fun s => { s with cause := none }
  if d.power.state = .safe ∨ d.seq.state = .safeOff ∨ d.seq.state = .safeOn then d else
  let d := d.abandonActions.seq' fun s => { s with finalFail := false }
  (d.beginOff t (maskDiff allMask (d.standbySet ||| d.safeSet)) .safeOff .safe).seqCheck t

def Dev.standbyOrder (tag t : Nat) (d : Dev) : Dev :=
  if !d.takesOrder tag then d else
  let d := d.orderTaken tag
  if (d.actionRefused 2).isSome then d else (d.startStandby t).seqCheck t

def Dev.shipOrder (tag t : Nat) (d : Dev) : Dev :=
  if !d.takesOrder tag then d else
  let d := d.orderTaken tag
  if (d.actionRefused 3).isSome then d else (d.startShip t).seqCheck t

/-! ## CSYNC (R269, R273, R274) -/

/-- The common start of a slave: a retry continues its run, and every other Start begins a new one. -/
def Dev.slaveStart (d : Dev) (t : Nat) : Dev :=
  let retry := d.seq.state = .pause
  let d := if d.power.state = .safe then d.goState t .run else d
  let d := d.seq' fun s => { s with
    startDue := false, attempt := if retry then s.attempt + 1 else 0, starts := if retry then s.starts else 0
    failed := if retry then s.failed else 0, held := if retry then s.held else none }
  let d := if retry then d else d.judgeAll fun j => { j with failed := false }
  d.commonStart t d.members .onOrder

/-- The slaves that a Start finds missing: declared, and not present. -/
def Dev.missingSlaves (d : Dev) : List Unit8 :=
  (List.finRange 8).filter fun u => u.val ≠ 0 && u.val < d.casc.units && !d.casc.slaves[u].present

/-- A pulse of 2 µs to 8 µs that was announced starts every unit; a unit that did not see the announcement ignores it. -/
def Dev.startPulse (lowNs t : Nat) (d : Dev) : Dev :=
  if lowNs < 2000 || lowNs > 8000 || !d.casc.announced then d
  else if d.casc.role = 1 then
    if !d.seq.awaitPulse then d else
    let d := (d.commonStart t d.members .onOrder).casc' fun c => { c with
      announced := false, starts := satInc 32 c.starts, slaves := c.slaves.map fun x => { x with idle := false } }
    let d := d.seq' fun s => { s with cascade := true }
    (d.missingSlaves.foldl (Dev.silentUnit t) d).seqCheck t
  else if d.casc.role = 2 && d.casc.startArmed && (d.seq.state = .idle || d.seq.state = .pause) && (d.inRun || d.power.state = .safe) then
    let d := (d.slaveStart t).casc' fun c => { c with announced := false, startArmed := false, starts := satInc 32 c.starts }
    (d.seq' fun s => { s with cascade := true }).seqCheck t
  else d.casc' fun c => { c with announced := false }

/-- An announced start that a fault broadcast runs into is abandoned. -/
def Dev.abandonStart (d : Dev) : Dev :=
  if !d.casc.announced then d else
  let d := d.casc' fun c => { c with announced := false, startArmed := false }
  if d.seq.awaitPulse then
    d.seq' fun s => { s with awaitPulse := false, todo := 0, state := if s.attempt = 0 then .idle else .pause }
  else d

/-- A low of 20 µs: the fault broadcast of another unit. The sender does not act on its own pulse. -/
def Dev.faultBroadcast (lowNs t : Nat) (d : Dev) : Dev :=
  if d.casc.role = 0 || lowNs < 20000 then d else
  let d := d.abandonStart
  if d.casc.csyncLow then d.casc' fun c => { c with csyncLow := false }
  else ((d.casc' fun c => { c with broadcasts := satInc 16 c.broadcasts }).raise t 114 0).seqCheck t

def Dev.csyncStuck (lowUs t : Nat) (d : Dev) : Dev := if d.casc.role = 0 || lowUs < 10000 then d else d.linkFault t 5

/-! ## Supervision (R262, R276 to R279) -/

def Dev.readbackConflict (cycles t : Nat) (d : Dev) : Dev :=
  if !d.linkRuns || cycles < 3 then d else (d.casc' fun c => { c with link := .conflict }).linkFault t 2

/-- A slave loses its link: FS113. A SAFE that it had asked the master for it now applies itself (R279, R439). -/
def Dev.linkLost (missed t : Nat) (d : Dev) : Dev :=
  if d.casc.role ≠ 2 || d.casc.link ≠ .joined || missed < 3 || d.power.state = .standby then d else
  let d := (d.casc' fun c => { c with link := .lost, validBeacons := 0, announced := false }).raise t 113 0
  let d := match d.casc.safeReq, d.seq.cause with
    | true, some f => (d.casc' fun c => { c with safeReq := false }).safeReaction t f
    | _, _ => d
  d.seqCheck t

def Dev.discardThreshold (discarded t : Nat) (d : Dev) : Dev :=
  if d.casc.role = 0 || discarded ≤ 16 then d else d.linkFault t 1

/-- The hold time of a LOST slave ends: it holds its branches, or enters SAFE by itself. -/
def Dev.linkHoldExpiry (sinceMs t : Nat) (d : Dev) : Dev :=
  if d.casc.role ≠ 2 || d.casc.link ≠ .lost || sinceMs < d.nat 0x2380 4 || d.nat 0x2380 3 = 0 || !d.inRun || d.seq.state = .safeOff then d
  else (d.safeReaction t (d.failureNow t 2 0xFD 0 0)).seqCheck t

/-- The join timeout: the master starts without the missing units, once its own conditions hold. -/
def Dev.joinTimeout (sinceMs t : Nat) (d : Dev) : Dev :=
  if d.casc.role ≠ 1 || !d.seq.startDue || sinceMs < d.nat 0x2380 2 then d
  else Dev.firstStart d.path.vsysMv t (d.casc' fun c => { c with joinDone := true })

/-! ## The commands -/

def execBeacon (s : State) : Host.Outcome State Fault Refusal := .next (s.core Dev.sendBeacon)
def execBeaconReceived (c : RxCheck) (m : Beacon) (s : State) : Host.Outcome State Fault Refusal :=
  .next (s.coreBody (Body.beaconReceived c m))
def execStatusFrame (s : State) : Host.Outcome State Fault Refusal := .next (s.core fun _ => Dev.sendStatus)
def execStatusFrameReceived (u : Unit8) (c : RxCheck) (m : Status) (s : State) : Host.Outcome State Fault Refusal :=
  .next (s.core (Dev.statusReceived u c m))
def execReply (s : State) : Host.Outcome State Fault Refusal := .next (s.core fun _ => Dev.sendReply)
def execReplyReceived (u : Unit8) (c : RxCheck) (m : ReplyMsg) (starts : Vector StartMeas 30) (s : State) :
    Host.Outcome State Fault Refusal := .next (s.coreBody (Body.replyReceived u c m starts))
def execPrepareSegment (tag index count : Nat) (targets : List CTarget) (s : State) : Host.Outcome State Fault Refusal :=
  .next (s.coreBody (Body.deliver (.prepare tag index count targets)))
def execPollVote (tag : Nat) (s : State) : Host.Outcome State Fault Refusal := .next (s.coreBody (Body.deliver (.pollVote tag)))
def execCommit (tag : Nat) (starts : Vector StartMeas 30) (s : State) : Host.Outcome State Fault Refusal :=
  .next (s.coreBody (Body.deliver (.commit tag starts)))
def execPollOutcome (tag : Nat) (s : State) : Host.Outcome State Fault Refusal :=
  .next (s.coreBody (Body.deliver (.pollOutcome tag)))
def execAbort (tag : Nat) (s : State) : Host.Outcome State Fault Refusal := .next (s.coreBody (Body.deliver (.abort tag)))
def execInquire (s : State) : Host.Outcome State Fault Refusal := .next (s.coreBody (Body.deliver .inquire))
def execGetFail (s : State) : Host.Outcome State Fault Refusal := .next (s.coreBody (Body.deliver .getFail))
def execGetInfo (s : State) : Host.Outcome State Fault Refusal := .next (s.coreBody (Body.deliver .getInfo))
def execUnknownTag (tag _msgType : Nat) (s : State) : Host.Outcome State Fault Refusal :=
  .next (s.coreBody (Body.deliver (.unknown tag)))
def execStartOrder (tag : Nat) (s : State) : Host.Outcome State Fault Refusal := .next (s.core fun _ => Dev.startOrder tag)
def execAbortOrder (tag : Nat) (s : State) : Host.Outcome State Fault Refusal := .next (s.core (Dev.abortOrder tag))
def execSafeOrder (tag : Nat) (s : State) : Host.Outcome State Fault Refusal := .next (s.core (Dev.safeOrder tag))
def execStandbyOrder (tag : Nat) (s : State) : Host.Outcome State Fault Refusal := .next (s.core (Dev.standbyOrder tag))
def execShipOrder (tag : Nat) (s : State) : Host.Outcome State Fault Refusal := .next (s.core (Dev.shipOrder tag))
def execCsyncStartPulse (lowNs : Nat) (s : State) : Host.Outcome State Fault Refusal := .next (s.core (Dev.startPulse lowNs))
def execFaultBroadcast (lowNs : Nat) (s : State) : Host.Outcome State Fault Refusal := .next (s.core (Dev.faultBroadcast lowNs))
def execCsyncStuck (lowUs : Nat) (s : State) : Host.Outcome State Fault Refusal := .next (s.core (Dev.csyncStuck lowUs))
def execReadbackConflict (cycles : Nat) (s : State) : Host.Outcome State Fault Refusal :=
  .next (s.core (Dev.readbackConflict cycles))
def execLinkLost (missed : Nat) (s : State) : Host.Outcome State Fault Refusal := .next (s.core (Dev.linkLost missed))
def execSlaveLost (u : Unit8) (missed : Nat) (s : State) : Host.Outcome State Fault Refusal :=
  .next (s.core (Dev.slaveLost u missed))
def execDiscardThreshold (discarded : Nat) (s : State) : Host.Outcome State Fault Refusal :=
  .next (s.core (Dev.discardThreshold discarded))
def execJoinTimeout (sinceMs : Nat) (s : State) : Host.Outcome State Fault Refusal := .next (s.core (Dev.joinTimeout sinceMs))
def execCascadePrepareStart (s : State) : Host.Outcome State Fault Refusal := .next (s.coreBody Body.cascadePrepareStart)
def execPrepareDeadline (u : Unit8) (sinceUs : Nat) (s : State) : Host.Outcome State Fault Refusal :=
  .next (s.core fun _ => Dev.prepareDeadline u sinceUs)
def execLinkLossHoldExpiry (sinceMs : Nat) (s : State) : Host.Outcome State Fault Refusal :=
  .next (s.core (Dev.linkHoldExpiry sinceMs))

end Sys2Proof.Machine
end

