-- ==== Sys2Proof/Machine/Dispatch.lean ====
section
/-!
DEFINITION. Machine/Dispatch.lean: the meaning of every command, one arm per constructor.
-/
namespace Sys2Proof.Machine

def exec (i : Instr) (s : State) : Host.Outcome State Fault Refusal :=
  match i with
  | .heartwoodPowerOnReset dcinMv batMv => Sys2Proof.Machine.execHeartwoodPowerOnReset dcinMv batMv s
  | .devicePowerOnReset p => Sys2Proof.Machine.execDevicePowerOnReset p s
  | .brownOutWarning vpreMv => Sys2Proof.Machine.execBrownOutWarning vpreMv s
  | .brownOutWarningEnd vpreMv durationUs stableUs => Sys2Proof.Machine.execBrownOutWarningEnd vpreMv durationUs stableUs s
  | .brownOutReset vpreMv => Sys2Proof.Machine.execBrownOutReset vpreMv s
  | .nrstLow cycles => Sys2Proof.Machine.execNrstLow cycles s
  | .nrstRelease => Sys2Proof.Machine.execNrstRelease s
  | .lockstepMismatch => Sys2Proof.Machine.execLockstepMismatch s
  | .journalReplay starts => Sys2Proof.Machine.execJournalReplay starts s
  | .dcinValid mv heldUs => Sys2Proof.Machine.execDcinValid mv heldUs s
  | .dcinInvalid mv heldUs => Sys2Proof.Machine.execDcinInvalid mv heldUs s
  | .batsnsValid mv heldUs => Sys2Proof.Machine.execBatsnsValid mv heldUs s
  | .batsnsInvalid mv heldUs => Sys2Proof.Machine.execBatsnsInvalid mv heldUs s
  | .trunkLow mv heldUs => Sys2Proof.Machine.execTrunkLow mv heldUs s
  | .trunkOverVoltage mv heldUs => Sys2Proof.Machine.execTrunkOverVoltage mv heldUs s
  | .trunkOverVoltageRecovery mv heldUs => Sys2Proof.Machine.execTrunkOverVoltageRecovery mv heldUs s
  | .trunkDroop mv averageMv => Sys2Proof.Machine.execTrunkDroop mv averageMv s
  | .dcinReverseCurrent senseUv => Sys2Proof.Machine.execDcinReverseCurrent senseUv s
  | .dcinPairReturn nodeDMv trunkMv heldUs => Sys2Proof.Machine.execDcinPairReturn nodeDMv trunkMv heldUs s
  | .dcinCurrentLimit mA nodeDMv batMv => Sys2Proof.Machine.execDcinCurrentLimit mA nodeDMv batMv s
  | .dcinLinearModeDissipation nodeDMv trunkMv mA heldUs => Sys2Proof.Machine.execDcinLinearModeDissipation nodeDMv trunkMv mA heldUs s
  | .supplementEnd dischargeMA heldUs => Sys2Proof.Machine.execSupplementEnd dischargeMA heldUs s
  | .batteryPairFault dropMv packMA persists => Sys2Proof.Machine.execBatteryPairFault dropMv packMA persists s
  | .vpreOverVoltage mv heldUs => Sys2Proof.Machine.execVpreOverVoltage mv heldUs s
  | .inputCurrentLimitWrite who value => Sys2Proof.Machine.execInputCurrentLimitWrite who value s
  | .holdReady mv => Sys2Proof.Machine.execHoldReady mv s
  | .holdCapacitanceMeasurement riseUs => Sys2Proof.Machine.execHoldCapacitanceMeasurement riseUs s
  | .holdChargeTimeout sinceUs => Sys2Proof.Machine.execHoldChargeTimeout sinceUs s
  | .shipAction c => Sys2Proof.Machine.execShipAction c s
  | .shipPointOfNoReturn => Sys2Proof.Machine.execShipPointOfNoReturn s
  | .shipEntryComplete => Sys2Proof.Machine.execShipEntryComplete s
  | .nwakeLow heldUs => Sys2Proof.Machine.execNwakeLow heldUs s
  | .crystalStable sinceUs => Sys2Proof.Machine.execCrystalStable sinceUs s
  | .crystalStartTimeout sinceUs => Sys2Proof.Machine.execCrystalStartTimeout sinceUs s
  | .crystalStop => Sys2Proof.Machine.execCrystalStop s
  | .pllLockLoss => Sys2Proof.Machine.execPllLockLoss s
  | .wdoscCrossCheck count => Sys2Proof.Machine.execWdoscCrossCheck count s
  | .clockDeviationMeasurement wdosc bclk => Sys2Proof.Machine.execClockDeviationMeasurement wdosc bclk s
  | .heartwoodCrystalStop => Sys2Proof.Machine.execHeartwoodCrystalStop s
  | .heartwoodCrystalStable sinceUs => Sys2Proof.Machine.execHeartwoodCrystalStable sinceUs s
  | .heartwoodCrystalTimeout sinceUs => Sys2Proof.Machine.execHeartwoodCrystalTimeout sinceUs s
  | .timeObject port value => Sys2Proof.Machine.execTimeObject port value s
  | .standbyAction c => Sys2Proof.Machine.execStandbyAction c s
  | .resumeAction c => Sys2Proof.Machine.execResumeAction c s
  | .targetsAction c => Sys2Proof.Machine.execTargetsAction c s
  | .canRxWake port => Sys2Proof.Machine.execCanRxWake port s
  | .standbyWdCWake => Sys2Proof.Machine.execStandbyWdCWake s
  | .idleEntry => Sys2Proof.Machine.execIdleEntry s
  | .cascadeCsyncWake lowNs => Sys2Proof.Machine.execCascadeCsyncWake lowNs s
  | .phaseLoss p cause => Sys2Proof.Machine.execPhaseLoss p cause s
  | .railStageFault r heldNs reportsMv => Sys2Proof.Machine.execRailStageFault r heldNs reportsMv s
  | .saplingInsertion r => Sys2Proof.Machine.execSaplingInsertion r s
  | .insertionRampComplete r => Sys2Proof.Machine.execInsertionRampComplete r s
  | .manualInsert who value => Sys2Proof.Machine.execManualInsert who value s
  | .reinstate who value => Sys2Proof.Machine.execReinstate who value s
  | .retire who value => Sys2Proof.Machine.execRetire who value s
  | .healthEvaluation m => Sys2Proof.Machine.execHealthEvaluation m s
  | .sheddingEvaluation r railMA sinceChangeUs => Sys2Proof.Machine.execSheddingEvaluation r railMA sinceChangeUs s
  | .phaseLeavingEnd p mA cycles => Sys2Proof.Machine.execPhaseLeavingEnd p mA cycles s
  | .shedSetRotation r sinceMs => Sys2Proof.Machine.execShedSetRotation r sinceMs s
  | .shedSetRotationShed r cycles => Sys2Proof.Machine.execShedSetRotationShed r cycles s
  | .balanceUpdate r railMA samples readings => Sys2Proof.Machine.execBalanceUpdate r railMA samples readings s
  | .grSetPointWrite who r value => Sys2Proof.Machine.execGrSetPointWrite who r value s
  | .grSlewComplete r samples => Sys2Proof.Machine.execGrSlewComplete r samples s
  | .coefficientCommit who r value => Sys2Proof.Machine.execCoefficientCommit who r value s
  | .slotTurnOn b timerUs m => Sys2Proof.Machine.execSlotTurnOn b timerUs m s
  | .softStartComplete r samples => Sys2Proof.Machine.execSoftStartComplete r samples s
  | .startSettleTimeout r samples sinceUs => Sys2Proof.Machine.execStartSettleTimeout r samples sinceUs s
  | .shortInSoftStart r samples limitEveryCycle => Sys2Proof.Machine.execShortInSoftStart r samples limitEveryCycle s
  | .offGroup timerUs => Sys2Proof.Machine.execOffGroup timerUs s
  | .softStopEnd r samples => Sys2Proof.Machine.execSoftStopEnd r samples s
  | .stepFire r samples periodPassed => Sys2Proof.Machine.execStepFire r samples periodPassed s
  | .stepHoldEnd r sinceUs => Sys2Proof.Machine.execStepHoldEnd r sinceUs s
  | .forecastStart r input pgclk periodPassed => Sys2Proof.Machine.execForecastStart r input pgclk periodPassed s
  | .forecastPulse r sinceNs withTrigger => Sys2Proof.Machine.execForecastPulse r sinceNs withTrigger s
  | .forecastEnd r levels => Sys2Proof.Machine.execForecastEnd r levels s
  | .forecastStuck r activeUs => Sys2Proof.Machine.execForecastStuck r activeUs s
  | .brakingStart r samples periodPassed => Sys2Proof.Machine.execBrakingStart r samples periodPassed s
  | .brakingEnd r samples => Sys2Proof.Machine.execBrakingEnd r samples s
  | .brakeTimeout r sinceUs => Sys2Proof.Machine.execBrakeTimeout r sinceUs s
  | .pulseSkippingEntry r samples => Sys2Proof.Machine.execPulseSkippingEntry r samples s
  | .pulseSkippingExit r samples railMA => Sys2Proof.Machine.execPulseSkippingExit r samples railMA s
  | .senseCheck r pin moveMv => Sys2Proof.Machine.execSenseCheck r pin moveMv s
  | .senseMismatch r differenceUv heldUs => Sys2Proof.Machine.execSenseMismatch r differenceUv heldUs s
  | .localSenseCheck r moveMv => Sys2Proof.Machine.execLocalSenseCheck r moveMv s
  | .phaseCurrentLimit p mA pgclkSinceRise => Sys2Proof.Machine.execPhaseCurrentLimit p mA pgclkSinceRise s
  | .negativeCurrentLimit p mA => Sys2Proof.Machine.execNegativeCurrentLimit p mA s
  | .railOverVoltage r senseUv heldNs => Sys2Proof.Machine.execRailOverVoltage r senseUv heldNs s
  | .railUnderVoltage r senseUv heldUs => Sys2Proof.Machine.execRailUnderVoltage r senseUv heldUs s
  | .railOverCurrent r railMA heldUs => Sys2Proof.Machine.execRailOverCurrent r railMA heldUs s
  | .tuningRunStart r turn railMA trunkMv => Sys2Proof.Machine.execTuningRunStart r turn railMA trunkMv s
  | .runNow who value => Sys2Proof.Machine.execRunNow who value s
  | .toneEnd r phasors => Sys2Proof.Machine.execToneEnd r phasors s
  | .identificationComplete r => Sys2Proof.Machine.execIdentificationComplete r s
  | .verificationComplete r pm crossoverHz => Sys2Proof.Machine.execVerificationComplete r pm crossoverHz s
  | .ibLdSetPointWrite who c value => Sys2Proof.Machine.execIbLdSetPointWrite who c value s
  | .ibLdSlewComplete c elapsedUs => Sys2Proof.Machine.execIbLdSlewComplete c elapsedUs s
  | .ibLdSoftStartComplete c elapsedUs mv heldUs => Sys2Proof.Machine.execIbLdSoftStartComplete c elapsedUs mv heldUs s
  | .ibLdStartTimeout c sinceUs => Sys2Proof.Machine.execIbLdStartTimeout c sinceUs s
  | .hiccup n cycles => Sys2Proof.Machine.execHiccup n cycles s
  | .hiccupRecovery n offUs outMv => Sys2Proof.Machine.execHiccupRecovery n offUs outMv s
  | .hiccupCountReset n mv heldUs => Sys2Proof.Machine.execHiccupCountReset n mv heldUs s
  | .ibVoltageProtection n c => Sys2Proof.Machine.execIbVoltageProtection n c s
  | .ldoProtection n c => Sys2Proof.Machine.execLdoProtection n c s
  | .dischargeSwitchOpen c mv sinceUs => Sys2Proof.Machine.execDischargeSwitchOpen c mv sinceUs s
  | .budgetMeasurement ibMw ldMw channels => Sys2Proof.Machine.execBudgetMeasurement ibMw ldMw channels s
  | .xePowerGood n heldUs => Sys2Proof.Machine.execXePowerGood n heldUs s
  | .xePgTimeout n sinceMs => Sys2Proof.Machine.execXePgTimeout n sinceMs s
  | .xePowerGoodLost n heldUs => Sys2Proof.Machine.execXePowerGoodLost n heldUs s
  | .xePgBeforeEnable n heldUs => Sys2Proof.Machine.execXePgBeforeEnable n heldUs s
  | .commonStart vsysMv => Sys2Proof.Machine.execCommonStart vsysMv s
  | .judgementConversion readings => Sys2Proof.Machine.execJudgementConversion readings s
  | .judgeDeadline b sinceMs ownEnds => Sys2Proof.Machine.execJudgeDeadline b sinceMs ownEnds s
  | .retryPauseEnd sinceMs => Sys2Proof.Machine.execRetryPauseEnd sinceMs s
  | .dischargeTimeout b sinceMs mv => Sys2Proof.Machine.execDischargeTimeout b sinceMs mv s
  | .warningWindow b mv => Sys2Proof.Machine.execWarningWindow b mv s
  | .faultWindow b mv => Sys2Proof.Machine.execFaultWindow b mv s
  | .firstFailRecordCommit v => Sys2Proof.Machine.execFirstFailRecordCommit v s
  | .clearRecord who value => Sys2Proof.Machine.execClearRecord who value s
  | .beacon => Sys2Proof.Machine.execBeacon s
  | .beaconReceived c m => Sys2Proof.Machine.execBeaconReceived c m s
  | .statusFrame => Sys2Proof.Machine.execStatusFrame s
  | .statusFrameReceived u c m => Sys2Proof.Machine.execStatusFrameReceived u c m s
  | .reply => Sys2Proof.Machine.execReply s
  | .replyReceived u c m starts => Sys2Proof.Machine.execReplyReceived u c m starts s
  | .prepareSegment tag index count targets => Sys2Proof.Machine.execPrepareSegment tag index count targets s
  | .pollVote tag => Sys2Proof.Machine.execPollVote tag s
  | .commit tag starts => Sys2Proof.Machine.execCommit tag starts s
  | .pollOutcome tag => Sys2Proof.Machine.execPollOutcome tag s
  | .abort tag => Sys2Proof.Machine.execAbort tag s
  | .inquire => Sys2Proof.Machine.execInquire s
  | .getFail => Sys2Proof.Machine.execGetFail s
  | .getInfo => Sys2Proof.Machine.execGetInfo s
  | .unknownTag tag msgType => Sys2Proof.Machine.execUnknownTag tag msgType s
  | .startOrder tag => Sys2Proof.Machine.execStartOrder tag s
  | .abortOrder tag => Sys2Proof.Machine.execAbortOrder tag s
  | .safeOrder tag => Sys2Proof.Machine.execSafeOrder tag s
  | .standbyOrder tag => Sys2Proof.Machine.execStandbyOrder tag s
  | .shipOrder tag => Sys2Proof.Machine.execShipOrder tag s
  | .csyncStartPulse lowNs => Sys2Proof.Machine.execCsyncStartPulse lowNs s
  | .faultBroadcast lowNs => Sys2Proof.Machine.execFaultBroadcast lowNs s
  | .csyncStuck lowUs => Sys2Proof.Machine.execCsyncStuck lowUs s
  | .readbackConflict cycles => Sys2Proof.Machine.execReadbackConflict cycles s
  | .linkLost missed => Sys2Proof.Machine.execLinkLost missed s
  | .slaveLost u missed => Sys2Proof.Machine.execSlaveLost u missed s
  | .discardThreshold discarded => Sys2Proof.Machine.execDiscardThreshold discarded s
  | .joinTimeout sinceMs => Sys2Proof.Machine.execJoinTimeout sinceMs s
  | .cascadePrepareStart => Sys2Proof.Machine.execCascadePrepareStart s
  | .prepareDeadline u sinceUs => Sys2Proof.Machine.execPrepareDeadline u sinceUs s
  | .linkLossHoldExpiry sinceMs => Sys2Proof.Machine.execLinkLossHoldExpiry sinceMs s
  | .chargerEnable who => Sys2Proof.Machine.execChargerEnable who s
  | .chargerDisable who => Sys2Proof.Machine.execChargerDisable who s
  | .chargeSettingWrite who current value => Sys2Proof.Machine.execChargeSettingWrite who current value s
  | .chargeSessionStart mainMv vsysMv nodeBMv => Sys2Proof.Machine.execChargeSessionStart mainMv vsysMv nodeBMv s
  | .prechargeEnd mainMv heldMs => Sys2Proof.Machine.execPrechargeEnd mainMv heldMs s
  | .pulseEdge => Sys2Proof.Machine.execPulseEdge s
  | .cvEntry mainMv => Sys2Proof.Machine.execCvEntry mainMv s
  | .termination mA heldMs => Sys2Proof.Machine.execTermination mA heldMs s
  | .recharge mainMv heldMs vsysMv nodeBMv => Sys2Proof.Machine.execRecharge mainMv heldMs vsysMv nodeBMv s
  | .prechargeTimeout sessionS => Sys2Proof.Machine.execPrechargeTimeout sessionS s
  | .chargeTimeout sessionS => Sys2Proof.Machine.execChargeTimeout sessionS s
  | .inputSharing dcinMA demandMA => Sys2Proof.Machine.execInputSharing dcinMA demandMA s
  | .packLossComparator k => Sys2Proof.Machine.execPackLossComparator k s
  | .presenceProbeEnd fallMv => Sys2Proof.Machine.execPresenceProbeEnd fallMv s
  | .noPackSinkEnd batMv sinceMs => Sys2Proof.Machine.execNoPackSinkEnd batMv sinceMs s
  | .noPackExit validMs => Sys2Proof.Machine.execNoPackExit validMs s
  | .chargerWatchdogExpiry sinceS => Sys2Proof.Machine.execChargerWatchdogExpiry sinceS s
  | .chargerFaultStop k => Sys2Proof.Machine.execChargerFaultStop k s
  | .modulatorCalibration m offsetNv againNv => Sys2Proof.Machine.execModulatorCalibration m offsetNv againNv s
  | .shuntOverRange uv heldUs => Sys2Proof.Machine.execShuntOverRange uv heldUs s
  | .gaugeSecond m => Sys2Proof.Machine.execGaugeSecond m s
  | .emptyRequest mainMv ownMainMv heldMs packMA => Sys2Proof.Machine.execEmptyRequest mainMv ownMainMv heldMs packMA s
  | .insertionEstimate mainMv restMs => Sys2Proof.Machine.execInsertionEstimate mainMv restMs s
  | .insertionEstimateUnderLoad mainMv packMA waitedMs steadyMs => Sys2Proof.Machine.execInsertionEstimateUnderLoad mainMv packMA waitedMs steadyMs s
  | .wakeEstimate mainMv restMs => Sys2Proof.Machine.execWakeEstimate mainMv restMs s
  | .impedanceEdge charger before nowMA mainUv => Sys2Proof.Machine.execImpedanceEdge charger before nowMA mainUv s
  | .impedanceMeasurementInstant k uv frames => Sys2Proof.Machine.execImpedanceMeasurementInstant k uv frames s
  | .gaugeStoreWrite => Sys2Proof.Machine.execGaugeStoreWrite s
  | .gaugeStoreWriteComplete v => Sys2Proof.Machine.execGaugeStoreWriteComplete v s
  | .newPack who value => Sys2Proof.Machine.execNewPack who value s
  | .shuntResistanceWrite who value => Sys2Proof.Machine.execShuntResistanceWrite who value s
  | .ocvTableWrite who len value => Sys2Proof.Machine.execOcvTableWrite who len value s
  | .dieSample temps => Sys2Proof.Machine.execDieSample temps s
  | .remoteSample ratios => Sys2Proof.Machine.execRemoteSample ratios s
  | .stageSample mv => Sys2Proof.Machine.execStageSample mv s
  | .reinstateSensor who value => Sys2Proof.Machine.execReinstateSensor who value s
  | .dieConverterMissing intervals => Sys2Proof.Machine.execDieConverterMissing intervals s
  | .injectedTrigger c q => Sys2Proof.Machine.execInjectedTrigger c q s
  | .regularConversionEnd c code => Sys2Proof.Machine.execRegularConversionEnd c code s
  | .crossCheckRun m => Sys2Proof.Machine.execCrossCheckRun m s
  | .hkadcBModeWrite who value => Sys2Proof.Machine.execHkadcBModeWrite who value s
  | .resultRead who => Sys2Proof.Machine.execResultRead who s
  | .globalStart who mask => Sys2Proof.Machine.execGlobalStart who mask s
  | .globalStop who mask => Sys2Proof.Machine.execGlobalStop who mask s
  | .timerControlWrite who n value => Sys2Proof.Machine.execTimerControlWrite who n value s
  | .flagClear who n value => Sys2Proof.Machine.execFlagClear who n value s
  | .timerCompareMatch n => Sys2Proof.Machine.execTimerCompareMatch n s
  | .turnAround n top => Sys2Proof.Machine.execTurnAround n top s
  | .capture n rising samples counter => Sys2Proof.Machine.execCapture n rising samples counter s
  | .wdCService key stamp => Sys2Proof.Machine.execWdCService key stamp s
  | .wdCExpiry tick => Sys2Proof.Machine.execWdCExpiry tick s
  | .checkIn who value stamp => Sys2Proof.Machine.execCheckIn who value stamp s
  | .wdHMissing tick => Sys2Proof.Machine.execWdHMissing tick s
  | .graceEnd tick => Sys2Proof.Machine.execGraceEnd tick s
  | .nhrstPulseEnd sinceMs => Sys2Proof.Machine.execNhrstPulseEnd sinceMs s
  | .nhrstReadBack high => Sys2Proof.Machine.execNhrstReadBack high s
  | .hfrz high => Sys2Proof.Machine.execHfrz high s
  | .reactionTimerExpiry src sinceUs => Sys2Proof.Machine.execReactionTimerExpiry src sinceUs s
  | .acknowledge who value => Sys2Proof.Machine.execAcknowledge who value s
  | .stickyClear who word value => Sys2Proof.Machine.execStickyClear who word value s
  | .nfaultPulseEnd sinceUs => Sys2Proof.Machine.execNfaultPulseEnd sinceUs s
  | .nfaultDrive who value => Sys2Proof.Machine.execNfaultDrive who value s
  | .emergencyMessage port sinceLast100us => Sys2Proof.Machine.execEmergencyMessage port sinceLast100us s
  | .sourceConfigurationWrite who src value => Sys2Proof.Machine.execSourceConfigurationWrite who src value s
  | .logRecordCommit v => Sys2Proof.Machine.execLogRecordCommit v s
  | .canFrameReceived f => Sys2Proof.Machine.execCanFrameReceived f s
  | .usdoRequest u => Sys2Proof.Machine.execUsdoRequest u s
  | .usdoSessionTimeout who session sinceMs => Sys2Proof.Machine.execUsdoSessionTimeout who session sinceMs s
  | .objectWrite who index sub len value => Sys2Proof.Machine.execObjectWrite who index sub len value s
  | .rpdo port p data => Sys2Proof.Machine.execRpdo port p data s
  | .sync port => Sys2Proof.Machine.execSync port s
  | .tpdo port p sinceLast100us => Sys2Proof.Machine.execTpdo port p sinceLast100us s
  | .tpdoEventTimer p sinceMs => Sys2Proof.Machine.execTpdoEventTimer p sinceMs s
  | .heartbeatReceived port node nmt => Sys2Proof.Machine.execHeartbeatReceived port node nmt s
  | .heartbeatConsumerTimeout k sinceMs => Sys2Proof.Machine.execHeartbeatConsumerTimeout k sinceMs s
  | .heartbeatProducer sinceMs => Sys2Proof.Machine.execHeartbeatProducer sinceMs s
  | .busOff port sinceRecoveryMs => Sys2Proof.Machine.execBusOff port sinceRecoveryMs s
  | .busOffRecovery port sequences => Sys2Proof.Machine.execBusOffRecovery port sequences s
  | .errorPassive port heldMs => Sys2Proof.Machine.execErrorPassive port heldMs s
  | .portRestart who target value => Sys2Proof.Machine.execPortRestart who target value s
  | .nmtStart port node => Sys2Proof.Machine.execNmtStart port node s
  | .nmtStop port node => Sys2Proof.Machine.execNmtStop port node s
  | .nmtEnterPreOperational port node => Sys2Proof.Machine.execNmtEnterPreOperational port node s
  | .nmtResetNode port node => Sys2Proof.Machine.execNmtResetNode port node s
  | .nmtResetCommunication port node => Sys2Proof.Machine.execNmtResetCommunication port node s
  | .clientRegistration who k value => Sys2Proof.Machine.execClientRegistration who k value s
  | .integratorKey who value => Sys2Proof.Machine.execIntegratorKey who value s
  | .relock who value => Sys2Proof.Machine.execRelock who value s
  | .keyLockoutEnd sinceMs => Sys2Proof.Machine.execKeyLockoutEnd sinceMs s
  | .storeParameters who sub value v => Sys2Proof.Machine.execStoreParameters who sub value v s
  | .restoreParameters who sub value v => Sys2Proof.Machine.execRestoreParameters who sub value v s
  | .pdoMappingCount who tx p value => Sys2Proof.Machine.execPdoMappingCount who tx p value s
  | .cobIdWrite who tx p value => Sys2Proof.Machine.execCobIdWrite who tx p value s
  | .sampler c => Sys2Proof.Machine.execSampler c s
  | .readBuffer who c completed => Sys2Proof.Machine.execReadBuffer who c completed s
  | .channelDisable who c => Sys2Proof.Machine.execChannelDisable who c s
  | .prepareEntry starts => Sys2Proof.Machine.execPrepareEntry starts s
  | .entryEnd => Sys2Proof.Machine.execEntryEnd s
  | .commitComplete k page v => Sys2Proof.Machine.execCommitComplete k page v s
  | .marginRead m => Sys2Proof.Machine.execMarginRead m s
  | .hide who value => Sys2Proof.Machine.execHide who value s
  | .hostAreaWrite who data v => Sys2Proof.Machine.execHostAreaWrite who data v s
  | .hostAreaRead who corrected uncorrectable => Sys2Proof.Machine.execHostAreaRead who corrected uncorrectable s
  | .blockProtection who value => Sys2Proof.Machine.execBlockProtection who value s
  | .stagedImage who words => Sys2Proof.Machine.execStagedImage who words s
  | .program who value dieTemp => Sys2Proof.Machine.execProgram who value dieTemp s
  | .otpRowProgrammed verified => Sys2Proof.Machine.execOtpRowProgrammed verified s
  | .programmingStop waitedUs => Sys2Proof.Machine.execProgrammingStop waitedUs s
  | .lock who value wordsOk => Sys2Proof.Machine.execLock who value wordsOk s
  | .testEnable who => Sys2Proof.Machine.execTestEnable who s
  | .testDisable who => Sys2Proof.Machine.execTestDisable who s
  | .arm who slot value => Sys2Proof.Machine.execArm who slot value s
  | .operatingHour seconds => Sys2Proof.Machine.execOperatingHour seconds s
  | .serviceLifeRecordWrite v => Sys2Proof.Machine.execServiceLifeRecordWrite v s
  | .tapReset => Sys2Proof.Machine.execTapReset s
  | .extest cells => Sys2Proof.Machine.execExtest cells s
  | .idcode => Sys2Proof.Machine.execIdcode s
  | .samplePreload cells => Sys2Proof.Machine.execSamplePreload cells s
  | .clamp => Sys2Proof.Machine.execClamp s
  | .highz => Sys2Proof.Machine.execHighz s
  | .dbgkey key => Sys2Proof.Machine.execDbgkey key s
  | .dbgacc q => Sys2Proof.Machine.execDbgacc q s
  | .bypass => Sys2Proof.Machine.execBypass s
  | .debugLock who value => Sys2Proof.Machine.execDebugLock who value s
  | .sramWordError e => Sys2Proof.Machine.execSramWordError e s
  | .rxReorderTimeout port sinceUs => Sys2Proof.Machine.execRxReorderTimeout port sinceUs s
  | .chgDrvRestart mv => Sys2Proof.Machine.execChgDrvRestart mv s
  | .lockstepRetryWindowEnd sinceMs => Sys2Proof.Machine.execLockstepRetryWindowEnd sinceMs s
  | .fastPulseReturn => Sys2Proof.Machine.execFastPulseReturn s

end Sys2Proof.Machine
end

