-- ==== Sys2Proof/Safety.lean ====
section
/-!
DEFINITION. Safety.lean: what claims about the block are stated in: the steps it can take, the runs they make, and the invariant
that every step keeps.
-/
namespace Sys2Proof.Machine

/-- One step of the block answers `t`. -/
def Steps (s t : State) : Prop := step s = .next t

/-- A command runs to completion on a state, leaving the queue of commands as it was and the body as `P` says. -/
def GivesBody (c : Instr) (s : State) (P : Body → Prop) : Prop := ∃ t, exec c s = .next t ∧ t.pending = s.pending ∧ P t.b

/-- A command runs to completion on a state, leaving the queue, the heartwood domain and the host area as they were and the
device as `P` says. -/
def Gives (c : Instr) (s : State) (P : Dev → Prop) : Prop := GivesBody c s fun b => b.hw = s.b.hw ∧ b.host = s.b.host ∧ P b.d

/-- Within `n` steps the block does not stop. -/
def SafeFor : Nat → State → Prop
  | 0, _ => True
  | n + 1, s => ∃ t, Steps s t ∧ SafeFor n t

/-- The heartwood retained registers as their tables give them (Tables 1-3 and 2-3, R9, R10, R45): the time counter has not passed
its largest value, no kept time lies ahead of it, each counter is within its width, the cause is one of Table 2-3, and the counter
runs from the crystal only before a fallback. -/
def Heartwood.Inv (h : Heartwood) : Prop :=
  h.counter ≤ maxTime ∧ h.lastResetTime ≤ h.counter ∧ h.wdcTime ≤ h.counter ∧ h.powerOnCount ≤ 0xFFFF ∧ h.wdcResets ≤ 0xFFFF ∧
    h.wdhFails ≤ 0xFFFF ∧ 1 ≤ h.lastCause ∧ h.lastCause ≤ 9 ∧ ¬(h.fallback = true ∧ h.crystalRunning = true)

/-- What holds in every reachable state: the host area is in canonical form, and the heartwood registers are as their tables
give them. -/
def Body.Inv (b : Body) : Prop := Memory.wf b.host = true ∧ b.hw.Inv

def State.Inv (s : State) : Prop := s.b.Inv

/-! ## What orders and faults leave alone -/

def Power.still (x : Power) : Power :=
  { coreOn := x.coreOn, brownOut := x.brownOut, nrstLow := x.nrstLow, coresStopped := x.coresStopped
    lockstepWindow := x.lockstepWindow }
def Clocks.still (x : Clocks) : Clocks := { x with pllLocked := true }
def Path.still (x : Path) : Path := { x with ship := .none }
/-- A rail without what turning off changes; its reason changes where the retirement of a leaving phase completes (R132). -/
def RailSt.still (x : RailSt) : RailSt :=
  { trip := x.trip, preBiasUv := x.preBiasUv, fcStuck := x.fcStuck, fcIgnored := x.fcIgnored, localSense := x.localSense
    gsP := x.gsP, gsN := x.gsN, corrUv := x.corrUv, counts := x.counts, tripTime := x.tripTime }
def Grove.still (x : Grove) : Grove :=
  { rail := x.rail.map RailSt.still, runNext := x.runNext, lastRun := x.lastRun, lsf := x.lsf }
def ChanSt.still (x : ChanSt) : ChanSt :=
  { trip := x.trip, targetMv := x.targetMv, hiccups := x.hiccups, inLost := x.inLost, outMv := x.outMv, outMA := x.outMA
    inMv := x.inMv, reason := x.reason, tripTime := x.tripTime }
def XeSt.still (x : XeSt) : XeSt := { pgIn := x.pgIn, trip := x.trip, reason := x.reason, tripTime := x.tripTime }
def Integ.still (x : Integ) : Integ :=
  { x with ib := x.ib.map ChanSt.still, ld := x.ld.map ChanSt.still, xe := x.xe.map XeSt.still }
def Cascade.still (x : Cascade) : Cascade :=
  { role := x.role, units := x.units, slaves := x.slaves, discarded := x.discarded, starts := x.starts
    broadcasts := x.broadcasts, offset := x.offset, linkReason := x.linkReason, cycle := x.cycle, lastTag := x.lastTag
    summary := x.summary }
def Charger.still (x : Charger) : Charger :=
  { wdExpired := x.wdExpired, tempHold := x.tempHold, tempIn := x.tempIn, completed := x.completed, mainMv := x.mainMv
    currentMA := x.currentMA, shareMA := x.shareMA, wdStart := x.wdStart, drvRestart := x.drvRestart
    sessionStart := x.sessionStart }
def Gauge.still (x : Gauge) : Gauge := { x with due := false, shipW := false, vunav := false, meas := none }
def Sensor.still (x : Sensor) : Sensor := { x with broken := false, inTest := false, bad := 0, inRange := 0 }
def Thermal.still (x : Thermal) : Thermal := { x with sensor := x.sensor.map Sensor.still }
def Converter.still (x : Converter) : Converter := { passes := x.passes, check := x.check, last := x.last }
def Hkadc.still (x : Hkadc) : Hkadc :=
  { x with a := x.a.still, b := x.b.still, taken := false, excludedNode := none, nodeInTest := false, finishing := false }
def PortSt.still (x : PortSt) : PortSt := { x with sent := 0 }
def Nv.still (x : Nv) : Nv := { x with logQueue := [] }
def Life.still (x : Life) : Life := { x with recordDue := false }
def Journal.still (x : Journal) : Journal :=
  { next := x.next, accepted := x.accepted, writeFailed := x.writeFailed, unmapped := x.unmapped, replayDue := x.replayDue, replays := x.replays }
def Test.still (x : Test) : Test := { began := x.began, held := x.held, lateDue := x.lateDue, lateMsg := x.lateMsg }
def Dict.still (x : Dict) : Dict := { x with live := [] }

/-- What neither the sequencer's orders nor the raising of a source changes. -/
def Dev.still (d : Dev) : Dev :=
  { power := d.power.still, clk := d.clk.still, straps := d.straps, path := d.path.still, grove := d.grove.still
    integ := d.integ.still, casc := d.casc.still, chg := d.chg.still, gauge := d.gauge.still, th := d.th.still
    conv := d.conv.still, wdc := d.wdc, pool := d.pool, otp := d.otp, tap := d.tap, free := d.free
    portA := d.portA.still, portB := d.portB.still, dict := d.dict.still, nv := d.nv.still, life := d.life.still
    jour := d.jour.still, test := d.test.still, recs := d.recs }

end Sys2Proof.Machine
end

