-- ==== Sys2Proof/Certificates/Slice0/Obligations.lean ====
section
/-!
DEFINITION. Certificates/Slice0/Obligations.lean: the statements for the provers, family by family in the order of the chapters, then
those about the whole machine. A statement of completion gives, for hypotheses on the state and the operands alone, the next state
that the command's rules give (`Gives`, `GivesBody` of Safety.lean), the frame among it: either the whole device as an update of the
device before, or `still`, which keeps all that raising a source and the sequencer's orders leave alone.
-/
open Sys2Proof Sys2Proof.Machine

namespace Sys2Proof.Machine

/-- A record that ends IDLE restores the cores' clock (Table 2-2); but for that the power state is as it was. -/
abbrev KeepsPower (s : State) (d : Dev) : Prop :=
  d.power = s.b.d.power ∨ d.power = s.b.d.power.leaveIdle s.b.hw.counter

/-! ## Power path (chapter 4) -/

/-- Input events while the core domain is powered (R67, Table 4-2; R33 for nWAKE): the validity and the reading they leave. -/
def InputEventsComplete : Prop :=
  ∀ s : State, s.b.d.power.coreOn = true →
    (∀ mv us, 18000 ≤ mv → mv ≤ 60500 → 10000 ≤ us → s.b.d.path.dcinValid = false → s.b.hw.powered = true →
      Gives (.dcinValid mv us) s fun d =>
          d.still = { s.b.d with path := d.path }.still ∧
          d.path.dcinValid = true ∧ d.path.dcinMv = mv) ∧
    (∀ mv us, (mv < 17000 ∧ 20 ≤ us) ∨ (62000 < mv ∧ 1 ≤ us) →
      Gives (.dcinInvalid mv us) s fun d =>
          d.still = { s.b.d with path := d.path, dict := d.dict, pool := d.pool }.still ∧
          d.path.dcinValid = false ∧ d.path.dcinMv = mv ∧ d.path.dPair = .off) ∧
    (∀ mv us, 17000 ≤ mv → mv ≤ 60500 → 10000 ≤ us → s.b.hw.powered = true →
      Gives (.batsnsValid mv us) s fun d =>
          d.still = { s.b.d with path := d.path, gauge := d.gauge }.still ∧
          d.path.batValid = true ∧ d.path.batMv = mv) ∧
    (∀ mv us, (mv < 16000 ∧ 20 ≤ us) ∨ (62000 < mv ∧ 1 ≤ us) →
      Gives (.batsnsInvalid mv us) s fun d =>
          d.still = { s.b.d with path := d.path, gauge := d.gauge, dict := d.dict, pool := d.pool }.still ∧
          d.path.batValid = false ∧ d.path.batMv = mv) ∧
    (∀ us, 1000 ≤ us → s.b.d.power.state = .standby → s.b.d.casc.role = 0 →
      Gives (.nwakeLow us) s fun d =>
          d.still = s.b.d.still ∧
          d.power.state = .run ∧ d.power.wakeSource = 1 ∧ d.clk.pllLocked = true)

/-- Inputs of an unpowered core domain, and the end of SHIP (R67, R89): nWAKE for 50 ms, or DCIN, releases the heartwood's hold and
is kept as the wake source. -/
def InputsUnpowered : Prop :=
  ∀ s : State, s.b.d.power.coreOn = false →
    (∀ mv us, (mv < 17000 ∧ 20 ≤ us) ∨ (62000 < mv ∧ 1 ≤ us) →
      Gives (.dcinInvalid mv us) s fun d => d = { s.b.d with path := { s.b.d.path with dcinValid := false, dcinMv := mv } }) ∧
    (∀ mv us, 17000 ≤ mv → mv ≤ 60500 → 10000 ≤ us → s.b.hw.powered = true →
      Gives (.batsnsValid mv us) s fun d => d = { s.b.d with path := { s.b.d.path with batValid := true, batMv := mv } }) ∧
    (∀ mv us, (mv < 16000 ∧ 20 ≤ us) ∨ (62000 < mv ∧ 1 ≤ us) →
      Gives (.batsnsInvalid mv us) s fun d => d = { s.b.d with path := { s.b.d.path with batValid := false, batMv := mv } }) ∧
    (∀ us, 50000 ≤ us → s.b.d.power.state = .ship → s.b.hw.shipHold = true → s.b.hw.powered = true →
      s.b.hw.thermalLatch = false →
      GivesBody (.nwakeLow us) s fun b => b.host = s.b.host ∧
        b.hw = { s.b.hw with shipHold := false, wakeTick := s.b.hw.counter } ∧
        b.d = { s.b.d with power := { s.b.d.power with wakeSource := 1 } }) ∧
    (∀ mv us, 18000 ≤ mv → mv ≤ 60500 → 10000 ≤ us → s.b.d.path.dcinValid = false → s.b.d.power.state = .ship →
      s.b.hw.shipHold = true → s.b.hw.powered = true → s.b.hw.thermalLatch = false →
      GivesBody (.dcinValid mv us) s fun b => b.host = s.b.host ∧
        b.hw = { s.b.hw with shipHold := false, wakeTick := s.b.hw.counter } ∧
        b.d = { s.b.d with
          power := { s.b.d.power with wakeSource := 2 }
          path := { s.b.d.path with dcinValid := true, dcinMv := mv, dLock := .none } })

/-- Loss of the last valid input (R30, R82): HOLDUP, with every branch off and the state to return to kept. -/
def HoldupTurnsEveryBranchOff : Prop :=
  ∀ (s : State) (mv us : Nat), s.b.d.power.coreOn = true → s.b.d.power.state = .run → s.b.d.path.ship = .none →
    s.b.d.path.batValid = false → s.b.d.seq.state = .idle → mv < 17000 → 20 ≤ us →
      Gives (.dcinInvalid mv us) s fun d =>
        d.power.state = .holdup ∧ d.power.beforeHoldup = .run ∧ d.power.holdupEntry = s.b.hw.counter ∧ ∀ b, d.branchOn b = false

end Sys2Proof.Machine

/-- Input events, the end of SHIP, and the entry of HOLDUP. -/
def Obligations.InputEventsComplete : Prop :=
  Sys2Proof.Machine.InputEventsComplete ∧ Sys2Proof.Machine.InputsUnpowered ∧ Sys2Proof.Machine.HoldupTurnsEveryBranchOff

/-- The trunk's levels and the two MOSFET pairs (R67 to R76, R90): what each event does, and its frame. A pair that turns on below
10.0 V on the trunk has its gate ramped (R70). -/
def Obligations.TrunkEventsComplete : Prop :=
  ∀ s : State, s.b.d.power.coreOn = true →
    (∀ mv us, mv < 17000 → 20 ≤ us →
      Gives (.trunkLow mv us) s fun d => d.sticky 54 = true ∧
        d.still = { s.b.d with free := d.free, path := { s.b.d.path with vsysMv := mv } }.still) ∧
    (∀ mv us, 62500 < mv → 1 ≤ us →
      Gives (.trunkOverVoltage mv us) s fun d => d.sticky 55 = true ∧
        d.still = { s.b.d with path := { s.b.d.path with
          vsysMv := mv, trunkOv := true, dPair := .off, bPair := .off, dRamp := false, bRamp := false
          supplement := false } }.still) ∧
    (∀ mv us, s.b.d.path.trunkOv = true → mv < 60500 → 10000 ≤ us →
      Gives (.trunkOverVoltageRecovery mv us) s fun d => d = { s.b.d with path := d.path } ∧ d.path.trunkOv = false ∧
        d.path.vsysMv = mv ∧
        d.path.dPair = (if s.b.d.path.dcinValid = true ∧ s.b.d.path.dLock = .none then .ideal else .off)) ∧
    (∀ mv average, mv + 1000 < average → s.b.d.path.supplement = false → s.b.d.path.batValid = true →
      s.b.d.path.trunkOv = false → s.b.d.chg.phase ≠ .noPack →
      Gives (.trunkDroop mv average) s fun d => d.still = { s.b.d with free := d.free, path := { s.b.d.path with
        vsysMv := mv, supplement := true, bPair := .ideal, supplements := satInc 32 s.b.d.path.supplements
        bRamp := if s.b.d.path.bPair = Pair.off then decide (mv < 10000) else s.b.d.path.bRamp } }.still) ∧
    (∀ uv : Int, uv < -2000 → s.b.d.path.dPair ≠ .off →
      Gives (.dcinReverseCurrent uv) s fun d =>
          KeepsPower s d ∧ d = { s.b.d with power := d.power, path := d.path, faults := d.faults, nv := d.nv } ∧
          d.sticky 51 = true ∧ d.path.dPair = .off ∧ d.path.dLock = .reverse ∧
          d.path.dcinMA = uv * 1000 / max 1 (s.b.d.int 0x2100 1) ∧
          (s.b.d.path.supplement = false → s.b.d.pairReady = true →
            d.path.supplement = true ∧ d.path.supplements = satInc 32 s.b.d.path.supplements)) ∧
    (∀ nodeD trunk us, s.b.d.path.dLock = .reverse → trunk + 50 ≤ nodeD → 100 ≤ us →
      Gives (.dcinPairReturn nodeD trunk us) s fun d => d = { s.b.d with path := d.path } ∧ d.path = { s.b.d.path with
        vsysMv := trunk, dLock := .none, dRamp := d.path.dRamp
        dPair := if s.b.d.path.dcinValid = true ∧ s.b.d.path.trunkOv = false then .ideal else .off } ∧
        (s.b.d.path.dPair = .off → d.path.dRamp = (decide (d.path.dPair ≠ Pair.off) && decide (trunk < 10000)))) ∧
    (∀ mA nodeD bat, s.b.d.path.dPair ≠ .off → s.b.d.nat 0x2100 2 ≤ mA → bat < nodeD →
      Gives (.dcinCurrentLimit mA nodeD bat) s fun d => d = { s.b.d with path := d.path } ∧ d.path.dPair = .linear ∧
        d.path.dcinMA = mA ∧
        (s.b.d.path.supplement = false → s.b.d.pairReady = true →
          d.path.supplement = true ∧ d.path.supplements = satInc 32 s.b.d.path.supplements)) ∧
    (∀ mA nodeD bat, s.b.d.path.dPair ≠ .off → s.b.d.nat 0x2100 2 ≤ mA → nodeD ≤ bat →
      s.b.d.path.supplement = true ∨ s.b.d.pairReady = true →
      Gives (.dcinCurrentLimit mA nodeD bat) s fun d =>
        KeepsPower s d ∧ d = { s.b.d with power := d.power, path := d.path, faults := d.faults, nv := d.nv } ∧
        d.sticky 51 = true ∧ d.path.dPair = .off ∧ d.path.dLock = .reverse ∧ d.path.supplement = true) ∧
    (∀ mA nodeD bat, s.b.d.path.dPair = .linear → mA < s.b.d.nat 0x2100 2 →
      Gives (.dcinCurrentLimit mA nodeD bat) s fun d => d = { s.b.d with path := { s.b.d.path with
        dcinMA := mA, batMv := bat, dPair := .ideal } }) ∧
    (∀ nodeD trunk mA us, s.b.d.path.dPair = .linear → s.b.d.path.supplement = true →
      s.b.d.nat 0x2100 3 * 1000 < (nodeD - trunk) * mA → 100 ≤ us →
      Gives (.dcinLinearModeDissipation nodeD trunk mA us) s fun d => d.sticky 52 = true ∧
        d.still = { s.b.d with path := { s.b.d.path with dPair := .off, dRamp := false, dLock := .dissipation } }.still) ∧
    (∀ (dis : Int) (us : Nat), s.b.d.path.supplement = true → s.b.d.path.dcinValid = true → s.b.d.path.batValid = true →
      dis * 100 < 90 * s.b.d.int 0x2100 2 → 10000 ≤ us →
      Gives (.supplementEnd dis us) s fun d => d = { s.b.d with path := d.path } ∧ d.path.supplement = false ∧
        d.path.bPair = .off ∧
        (s.b.d.path.dLock ≠ .none → d.path.dPair = .off) ∧
        (s.b.d.path.dLock = .none → s.b.d.path.trunkOv = false → d.path.dPair = .ideal)) ∧
    (∀ drop pack, s.b.d.path.bPair ≠ .off → 300 < drop → 1000 < pack →
      Gives (.batteryPairFault drop pack true) s fun d => d.sticky 53 = true ∧ d.still = s.b.d.still)

/-- VPRE, the HOLD store, brown-out warning and ship entry (R77 to R87). -/
def Obligations.SupplyEventsComplete : Prop :=
  ∀ s : State, s.b.d.power.coreOn = true →
    (∀ mv us, 5500 < mv → 10 ≤ us →
      Gives (.vpreOverVoltage mv us) s fun d => d.sticky 59 = true ∧
        d.still = { s.b.d with path := { s.b.d.path with vpreMv := mv } }.still) ∧
    (∀ mv, 11400 < mv →
      Gives (.holdReady mv) s fun d =>
        d = { s.b.d with path := { s.b.d.path with holdMv := mv, holdReady := true, holdSeen := true } }) ∧
    (∀ mv, mv ≤ 11400 →
      Gives (.holdReady mv) s fun d => d = { s.b.d with path := { s.b.d.path with holdMv := mv, holdReady := false } }) ∧
    (∀ us, s.b.d.path.capTimed = false →
      Gives (.holdCapacitanceMeasurement us) s fun d =>
          d.still = { s.b.d with path := d.path }.still ∧
          d.path = { s.b.d.path with capUf := min (us / 200) 0xFFFF, capTimed := true } ∧
        (us / 200 < 220 → d.sticky 57 = true)) ∧
    (∀ us, 3000000 ≤ us → s.b.d.path.holdSeen = false →
      Gives (.holdChargeTimeout us) s fun d => d.sticky 58 = true ∧ d.still = s.b.d.still) ∧
    (∀ mv, 4200 < mv → mv < 4550 →
      Gives (.brownOutWarning mv) s fun d =>
        d = { s.b.d with path := { s.b.d.path with vpreMv := mv, warning := true } }) ∧
    (∀ mv dur stable, s.b.d.path.warning = true → 4650 < mv → 2000 ≤ stable →
      Gives (.brownOutWarningEnd mv dur stable) s fun d =>
          KeepsPower s d ∧ d = { s.b.d with
            power := d.power, path := d.path, grove := d.grove, faults := d.faults, nv := d.nv, jour := d.jour } ∧
          d.path.warning = false ∧ d.path.vpreMv = mv ∧ d.path.deferred = [] ∧
        d.path.warnings = satInc 16 s.b.d.path.warnings) ∧
    (∀ mv dur stable, s.b.d.path.warning = true → s.b.d.path.deferred = [] → 4650 < mv → 2000 ≤ stable →
      Gives (.brownOutWarningEnd mv dur stable) s fun d => d.sticky 56 = true ∧
        d.still = { s.b.d with path := { s.b.d.path with
          vpreMv := mv, warning := false, warnings := satInc 16 s.b.d.path.warnings } }.still) ∧
    (s.b.d.path.ship = .committing → s.b.d.commitsDone = true → s.b.d.shipCommitAdmitted entryUs = true →
      Gives .shipPointOfNoReturn s fun d => d.path.ship = .pastReturn ∧ d.still = s.b.d.still) ∧
    (s.b.d.path.ship = .pastReturn → s.b.d.path.dcinValid = false →
      GivesBody .shipEntryComplete s fun b =>
          b.hw = { s.b.hw with shipHold := true, stateBeforeShip := s.b.d.power.code } ∧ b.host = s.b.host ∧
          b.d.power.state = .ship ∧ b.d.power.coreOn = false ∧ b.d.path.dPair = .off ∧ b.d.path.bPair = .off ∧
          (∀ x, b.d.branchOn x = false) ∧ b.d.otp.words = s.b.d.otp.words ∧ b.d.nv.log = s.b.d.nv.log ∧ b.d.recs = s.b.d.recs) ∧
    (s.b.d.path.ship = .pastReturn → s.b.d.path.dcinValid = true → s.b.hw.thermalLatch = false → s.b.hw.powered = true →
      GivesBody .shipEntryComplete s fun b => b.hw = { s.b.hw with
          shipHold := false, stateBeforeShip := s.b.d.power.code, wakeTick := s.b.hw.counter } ∧ b.host = s.b.host ∧
          b.d.power.state = .ship ∧ b.d.power.coreOn = false ∧ b.d.power.wakeSource = 2)

namespace Sys2Proof.Machine

/-! ## Phase pool (chapter 5) -/

/-- Loss and retirement (R113, R124, R125): the phase is RETIRED with its reason, and its source is raised. -/
def PhaseLossComplete : Prop :=
  ∀ s : State, s.b.d.power.coreOn = true →
    (∀ p c, lossReason c ≠ 0 → s.b.d.canLose p c = true →
      Gives (.phaseLoss p c) s fun d =>
          d.still = { s.b.d with grove := d.grove }.still ∧
          d.sticky p.val = true ∧ d.grove.ph[p].role = .retired ∧
        d.grove.ph[p].reason = lossReason c ∧ d.grove.ph[p].roleTime = s.b.hw.counter ∧
        d.grove.retirements = satInc 32 s.b.d.grove.retirements ∧ ∀ q, q ≠ p → d.grove.ph[q] = s.b.d.grove.ph[q]) ∧
    (∀ p mA cycles, s.b.d.firingIs p .leaving = true → s.b.d.grove.ph[p].leavingRetires ≠ 0 →
      mA * 100 < 5 * s.b.d.rating p ∨ 4 ≤ cycles →
      Gives (.phaseLeavingEnd p mA cycles) s fun d =>
          d.still = { s.b.d with grove := d.grove }.still ∧
          d.sticky p.val = true ∧ d.grove.ph[p].role = .retired ∧
        d.grove.ph[p].reason = s.b.d.grove.ph[p].leavingRetires ∧ ∀ q, q ≠ p → d.grove.ph[q] = s.b.d.grove.ph[q])

/-- Insertion, shedding, rotation, balance and health (R110 to R129): the firing state that each event gives its phase, and its
frame. That a lost sapling's or a marked phase's insertion waits its turn is in `Dev.nextInsertion`. -/
def PlacementComplete : Prop :=
  ∀ (s : State) (r : Rail), s.b.d.power.coreOn = true →
    (∀ (i : Insertion) (h : i.phase < 20), s.b.d.grove.rail[r].pl.insertion = some i → i.begun = false →
      s.b.d.roleIs ⟨i.phase, h⟩ .sapling = true → s.b.d.ofRail r ⟨i.phase, h⟩ = true → s.b.d.insertionDeferred r = false →
      Gives (.saplingInsertion r) s fun d =>
          KeepsPower s d ∧ d = { s.b.d with power := d.power, grove := d.grove, faults := d.faults, nv := d.nv } ∧
          d.grove.ph[i.phase].role = .available ∧ d.grove.ph[i.phase].fstate = .ramping ∧
        d.grove.ph[i.phase].roleTime = s.b.hw.counter ∧ d.grove.insertions = satInc 32 s.b.d.grove.insertions) ∧
    (∀ (o : Owed) (p : Phase), s.b.d.grove.rail[r].pl.insertion = none → s.b.d.nextInsertion r = some o →
      s.b.d.saplingFor r o = some p → s.b.d.grove.rail[r].mode ≠ .off → s.b.d.insertionDeferred r = false →
      Gives (.saplingInsertion r) s fun d =>
          KeepsPower s d ∧ d = { s.b.d with power := d.power, grove := d.grove, faults := d.faults, nv := d.nv } ∧
          d.grove.ph[p].role = .available ∧ d.grove.ph[p].fstate = .ramping ∧
        d.grove.rail[r].pl.insertion = some ⟨p.val, o.replaces, o.retiring, o.retireReason, true⟩) ∧
    (∀ i : Insertion, s.b.d.grove.rail[r].pl.insertion = some i → i.begun = true →
      Gives (.insertionRampComplete r) s fun d => d.still = { s.b.d with grove := d.grove }.still ∧
        d.grove.rail[r].pl.insertion = none) ∧
    (∀ (i : Insertion) (h : i.phase < 20), s.b.d.grove.rail[r].pl.insertion = some i → i.begun = true → i.retiring = none →
      s.b.d.firingIs ⟨i.phase, h⟩ .ramping = true → (∀ q : Phase, s.b.d.grove.ph[q].leavingRetires = 0) →
      Gives (.insertionRampComplete r) s fun d => d = { s.b.d with grove := d.grove } ∧ d.grove.rail[r].pl.insertion = none ∧
        d.grove.ph[i.phase].fstate = .firing ∧ d.grove.ph[i.phase].trim = 0) ∧
    (∀ p mA cycles, s.b.d.firingIs p .leaving = true → s.b.d.grove.ph[p].leavingRetires = 0 →
      mA * 100 < 5 * s.b.d.rating p ∨ 4 ≤ cycles →
      Gives (.phaseLeavingEnd p mA cycles) s fun d => d = { s.b.d with grove := d.grove } ∧ d.grove.ph[p].fstate = .shed ∧
        d.grove.ph[p].role = .available ∧ ∀ q, q ≠ p → d.grove.ph[q] = s.b.d.grove.ph[q]) ∧
    (∀ p railMA us, s.b.d.sheddingSuspended r = false → s.b.d.firstShed r = some p → s.b.d.addCondition r railMA = true →
      Gives (.sheddingEvaluation r railMA us) s fun d => d.grove.ph[p].fstate = .firing ∧ d.grove.ph[p].trim = 0 ∧
        d.grove.rail[r].skip = false ∧ d.grove.rail[r].lp.railMA = railMA ∧
        KeepsPower s d ∧ d = { s.b.d with power := d.power, grove := d.grove, faults := d.faults, nv := d.nv } ∧
        ∀ q, q ≠ p → d.grove.ph[q] = s.b.d.grove.ph[q]) ∧
    (∀ q railMA us, s.b.d.sheddingSuspended r = false → s.b.d.addCondition r railMA = false →
      s.b.d.nat 0x2233 (r.val + 1) < (s.b.d.firingOf r).length → s.b.d.nat 0x2230 1 * 1000 ≤ us →
      s.b.d.longest (s.b.d.firingOf r) = some q →
      railMA * 10000 < (s.b.d.nat 0x2232 (r.val + 1) * s.b.d.ratingSum ((s.b.d.firingOf r).filter (· ≠ q)) : Nat) →
      Gives (.sheddingEvaluation r railMA us) s fun d => d.grove.ph[q].fstate = .leaving ∧ d.grove.rail[r].lp.railMA = railMA ∧
        KeepsPower s d ∧ d = { s.b.d with power := d.power, grove := d.grove, faults := d.faults, nv := d.nv } ∧
        ∀ x, x ≠ q → d.grove.ph[x] = s.b.d.grove.ph[x]) ∧
    (∀ p ms, s.b.d.nat 0x2230 2 ≠ 0 → s.b.d.nat 0x2230 2 ≤ ms → s.b.d.rotationWaits r = false →
      s.b.d.longest (s.b.d.shedOf r) = some p →
      Gives (.shedSetRotation r ms) s fun d => d = { s.b.d with grove := d.grove } ∧ d.grove.ph[p].fstate = .firing ∧
        d.grove.ph[p].trim = 0 ∧ d.grove.rail[r].pl.rotating = some p.val ∧ ∀ q, q ≠ p → d.grove.ph[q] = s.b.d.grove.ph[q]) ∧
    (∀ p n cycles, s.b.d.grove.rail[r].pl.rotating = some n → 16 ≤ cycles → s.b.d.sheddingSuspended r = false →
      s.b.d.longest ((s.b.d.firingOf r).filter fun p => p.val ≠ n) = some p →
      Gives (.shedSetRotationShed r cycles) s fun d => d = { s.b.d with grove := d.grove } ∧ d.grove.ph[p].fstate = .leaving ∧
        d.grove.rail[r].pl.rotating = none ∧ ∀ q, q ≠ p → d.grove.ph[q] = s.b.d.grove.ph[q]) ∧
    (∀ p railMA samples uv i, s.b.d.ofRail r p = true → (s.b.d.readingMA ⟨p, uv⟩).getLast? = some i →
      Gives (.balanceUpdate r railMA samples [⟨p, uv⟩]) s fun d => d.still = { s.b.d with free := d.free }.still ∧
        d.grove.ph[p].currentMA = i) ∧
    (∀ railMA readings, s.b.d.balanceEnabled r railMA = false →
      Gives (.balanceUpdate r railMA [] readings) s fun d => d = { s.b.d with grove := d.grove } ∧
        ∀ q : Phase, d.grove.ph[q].trim = s.b.d.grove.ph[q].trim) ∧
    (∀ railMA readings, s.b.d.balanceEnabled r railMA = true →
      Gives (.balanceUpdate r railMA [] readings) s fun d => d = { s.b.d with grove := d.grove } ∧
        ∀ q : Phase, d.grove.ph[q].trim = s.b.d.grove.ph[q].trim ∨
          (s.b.d.firingIs q .firing = true ∧ s.b.d.ofRail r q = true ∧
            d.grove.ph[q].trim.natAbs ≤ s.b.d.trimMax s.b.d.grove.rail[r].lp.u ∧
            (s.b.d.minHighTaps : Int) ≤ s.b.d.grove.rail[r].lp.u + d.grove.ph[q].trim)) ∧
    (∀ m : HealthMeas, s.b.d.grove.ph[m.phase].markReason = 0 → 1 ≤ s.b.d.nat 0x2234 5 →
      (∀ k : Fin 4, (s.b.d.updateMetrics m).beyond m.phase k false = false ∧
        (s.b.d.updateMetrics m).beyond m.phase k true = false) →
      Gives (.healthEvaluation [m]) s fun d => d = { s.b.d with grove := d.grove } ∧
        d.grove.ph[m.phase].role = s.b.d.grove.ph[m.phase].role ∧
        d.grove.ph[m.phase].m1 = (if s.b.d.grove.ph[m.phase].effortNo = 0 then s.b.d.grove.ph[m.phase].m1
          else s.b.d.grove.ph[m.phase].effortSum / s.b.d.grove.ph[m.phase].effortNo) ∧
        (s.b.d.hitQualifies m.phase = true → d.grove.ph[m.phase].m4 = min 0xFFFF s.b.d.grove.ph[m.phase].hits) ∧
        ∀ q, q ≠ m.phase → d.grove.ph[q] = s.b.d.grove.ph[q]) ∧
    (∀ m : HealthMeas, s.b.d.roleIs m.phase .sapling = true → s.b.d.grove.ph[m.phase].markReason = 0 →
      (s.b.d.updateMetrics m).beyond m.phase 2 true = true →
      s.b.d.nat 0x2234 5 ≤ s.b.d.grove.ph[m.phase].beyond.getD 2 0 + 1 → 2 < s.b.d.grove.ph[m.phase].beyond.length →
      Gives (.healthEvaluation [m]) s fun d => d.still = { s.b.d with grove := d.grove }.still ∧
        d.grove.ph[m.phase].role = .retired ∧ d.grove.ph[m.phase].reason = 0x13 ∧ d.sticky m.phase.val = true)

end Sys2Proof.Machine

/-- Loss, retirement, insertion, shedding and rotation of phases. -/
def Obligations.PlacementComplete : Prop := Sys2Proof.Machine.PhaseLossComplete ∧ Sys2Proof.Machine.PlacementComplete

namespace Sys2Proof.Machine

/-! ## Grove rails: loop, transients and protection (chapters 6 and 7) -/

/-- A rail has tripped (R200): off, TRIP set, its reason and time recorded, its fault source raised. -/
abbrev RailTripped (d : Dev) (r : Rail) (reason t : Nat) : Prop :=
  d.railOn r = false ∧ d.grove.rail[r].trip = true ∧ d.grove.rail[r].reason = reason ∧ d.grove.rail[r].tripTime = t ∧
    d.sticky (20 + r.val) = true

/-- Nothing but the grove has changed, and the log where a tuning run ended with it. -/
abbrev GroveOnly (s : State) (d d' : Dev) : Prop :=
  (d'.power = d.power ∨ d'.power = d.power.leaveIdle s.b.hw.counter) ∧
    d' = { d with power := d'.power, grove := d'.grove, nv := d'.nv, faults := d'.faults } ∧
    d'.nv.still = d.nv.still ∧ d'.faults.src = d.faults.src

/-- The device once a rail has taken the samples that a command carries. -/
abbrev sampled (s : State) (r : Rail) (l : List Sample) : Dev := s.b.d.runSamples s.b.hw.counter r l

/-- Samples of a rail that is on (R139, R144, R145, R149, R155): what one sample on remote sense at a settled reference leaves, how
V_ref steps, and what samples leave alone. -/
def SamplesComplete : Prop :=
  ∀ (s : State) (r : Rail), s.b.d.power.coreOn = true →
    let x := s.b.d.grove.rail[r]
    (∀ l, Gives (.grSlewComplete r l) s fun d => d = sampled s r l ∧ d.still = { s.b.d with free := d.free }.still ∧
      ∀ q, q ≠ r → d.grove.rail[q].mode = s.b.d.grove.rail[q].mode ∧ d.grove.rail[q].lp = s.b.d.grove.rail[q].lp) ∧
    Gives (.grSlewComplete r []) s (fun d => d = s.b.d) ∧
    (∀ l, x.mode = .off → Gives (.grSlewComplete r l) s fun d => d = s.b.d) ∧
    (∀ (y : Sample) (raw : Int), x.mode = .regulating → x.forecast = false → x.lp.vref = x.lp.target → y.check = none →
      x.localSense = false → raw = divRoundInt ((x.lp.vref * 250 : Nat) - y.vdiffUv) (s.b.d.lsbUv r) →
      Gives (.grSlewComplete r [y]) s fun d => d.grove.rail[r].lp.vref = x.lp.vref ∧
        d.grove.rail[r].lp.ePrev = clampInt (-256) 255 raw ∧
        d.grove.rail[r].lp.eow = (decide (raw < -256) || decide (255 < raw)) ∧
        d.grove.rail[r].lp.excursions = (if raw < -256 ∨ 255 < raw then satInc 32 x.lp.excursions else x.lp.excursions) ∧
        d.grove.rail[r].mode = .regulating) ∧
    (∀ y : Sample, x.mode = .regulating → x.forecast = false → x.lp.vref ≠ x.lp.target → s.b.d.ratio r ≠ 0 →
      Gives (.grSlewComplete r [y]) s fun d => d.grove.rail[r].lp.target = x.lp.target ∧
        d.grove.rail[r].lp.vref = moveToward x.lp.vref x.lp.target
          ((x.lp.rampAcc + 25 * y.gap * s.b.d.gr r 7) / (24 * (s.b.d.ratio r * 250)))) ∧
    (∀ y : Sample, x.mode ≠ .off → x.brake = false →
      Gives (.grSlewComplete r [y]) s fun d => s.b.d.uMin r ≤ s.b.d.uMax r →
        s.b.d.uMin r ≤ d.grove.rail[r].lp.u ∧ d.grove.rail[r].lp.u ≤ s.b.d.uMax r)

/-- The protections of a rail and the failures of its start (R126, R169, R170, R191, R192, R196 to R200), each judged on the rail as
its samples leave it. -/
def RailTripsComplete : Prop :=
  ∀ (s : State) (r : Rail), s.b.d.power.coreOn = true →
    let x := s.b.d.grove.rail[r]
    (∀ l us, (sampled s r l).grove.rail[r].mode = .softStart →
      (sampled s r l).grove.rail[r].lp.vref = (sampled s r l).grove.rail[r].lp.target → s.b.d.gr r 0x21 ≤ us →
      Gives (.startSettleTimeout r l us) s fun d =>
          d.still = { s.b.d with free := d.free, grove := d.grove }.still ∧
          RailTripped d r 7 s.b.hw.counter) ∧
    (∀ l n, (sampled s r l).grove.rail[r].mode = .softStart → (sampled s r l).grove.rail[r].lp.track = some n → 19200 ≤ n →
      Gives (.shortInSoftStart r l true) s fun d =>
          d.still = { s.b.d with free := d.free, grove := d.grove }.still ∧
          RailTripped d r 6 s.b.hw.counter) ∧
    (∀ move, x.localSense = true → x.mode ≠ .off → 100 < move →
      Gives (.localSenseCheck r move) s fun d =>
          d.still = { s.b.d with grove := d.grove }.still ∧
          RailTripped d r 0x0B s.b.hw.counter) ∧
    (∀ uv ns, x.mode ≠ .off → (10000 + s.b.d.gr r 0x27) * x.vHi * 250 < uv * 10000 → s.b.d.gr r 0x28 ≤ ns →
      Gives (.railOverVoltage r uv ns) s fun d =>
          d.still = { s.b.d with grove := d.grove }.still ∧
          RailTripped d r 2 s.b.hw.counter) ∧
    (∀ uv us, x.mode = .regulating → x.uvArmed = true → uv * 10000 < (10000 - s.b.d.gr r 0x29) * x.lp.vref * 250 →
      s.b.d.gr r 0x2A ≤ us →
      Gives (.railUnderVoltage r uv us) s fun d =>
          d.still = { s.b.d with grove := d.grove }.still ∧
          RailTripped d r 3 s.b.hw.counter) ∧
    (∀ (mA : Int) us, x.mode ≠ .off →
      ((s.b.d.gr r 0x2B * s.b.d.ratingSum (s.b.d.availableOf r) : Nat) : Int) < mA * 10000 → s.b.d.gr r 0x2C ≤ us →
      Gives (.railOverCurrent r mA us) s fun d =>
          d.still = { s.b.d with grove := d.grove }.still ∧
          RailTripped d r 4 s.b.hw.counter) ∧
    (∀ ns reports, 2000 ≤ ns → reports.any ((reports.foldl Dev.faultFallen s.b.d).explains r) = false →
      Gives (.railStageFault r ns reports) s fun d =>
          d.still = { s.b.d with grove := d.grove }.still ∧
          RailTripped d r 5 s.b.hw.counter) ∧
    (∀ diff us, s.b.d.senseChecked r = true → s.b.d.gr r 0x3A = 2 → x.lp.vref * 250 < diff * 20 → 50 ≤ us →
      Gives (.senseMismatch r diff us) s fun d =>
          d.still = { s.b.d with grove := d.grove }.still ∧
          RailTripped d r 0x0A s.b.hw.counter)

/-- Loss of remote sense in mode 1 (R188 to R191): the rail goes on under local sense with reason 0x09 and its source raised. -/
def SenseLossComplete : Prop :=
  ∀ (s : State) (r : Rail), s.b.d.power.coreOn = true → s.b.d.senseChecked r = true → s.b.d.gr r 0x3A ≠ 2 →
    (∀ diff us, s.b.d.grove.rail[r].lp.vref * 250 < diff * 20 → 50 ≤ us →
      Gives (.senseMismatch r diff us) s fun d =>
          d.still = { s.b.d with grove := d.grove }.still ∧
          d.grove.rail[r].localSense = true ∧ d.grove.rail[r].reason = 9 ∧
        d.sticky (20 + r.val) = true) ∧
    (∀ move, 100 < move → 1 ≤ s.b.d.grove.rail[r].gsP →
      Gives (.senseCheck r .gsP move) s fun d =>
          d.still = { s.b.d with grove := d.grove }.still ∧
          d.grove.rail[r].localSense = true ∧ d.grove.rail[r].reason = 9 ∧
        d.sticky (20 + r.val) = true) ∧
    (∀ move, 100 < move → 1 ≤ s.b.d.grove.rail[r].gsN →
      Gives (.senseCheck r .gsN move) s fun d =>
          d.still = { s.b.d with grove := d.grove }.still ∧
          d.grove.rail[r].localSense = true ∧ d.grove.rail[r].reason = 9 ∧
        d.sticky (20 + r.val) = true) ∧
    (∀ move, move ≤ 100 → s.b.d.grove.rail[r].gsN ≤ 1 →
      Gives (.senseCheck r .gsP move) s fun d => d = s.b.d.rail' r fun x => { x with gsP := 0 })

end Sys2Proof.Machine

/-- Trips of a rail and loss of remote sense. -/
def Obligations.RailTripsComplete : Prop := Sys2Proof.Machine.RailTripsComplete ∧ Sys2Proof.Machine.SenseLossComplete

namespace Sys2Proof.Machine

/-- The ends of the soft start and of the soft stop of a rail (R166, R172), each judged after the samples that the command carries. -/
def RailMovesComplete : Prop :=
  ∀ (s : State) (r : Rail), s.b.d.power.coreOn = true →
    (∀ l, (sampled s r l).grove.rail[r].mode = .softStart → (sampled s r l).grove.rail[r].lp.inBand = true →
      (sampled s r l).grove.rail[r].lp.vref = (sampled s r l).grove.rail[r].lp.target →
      Gives (.softStartComplete r l) s fun d =>
          d.still = { s.b.d with free := d.free, grove := d.grove }.still ∧
          d.grove.rail[r].mode = .regulating ∧ d.grove.rail[r].uvArmed = true ∧
        d.grove.rail[r].negZero = false ∧ d.grove.rail[r].lp.vref = d.grove.rail[r].lp.target) ∧
    (∀ l, (sampled s r l).grove.rail[r].mode = .softStop →
      (sampled s r l).grove.rail[r].lp.vref * 10 ≤ (sampled s r l).grove.rail[r].lp.target ∨
        4 ≤ (sampled s r l).grove.rail[r].lp.atMin →
      Gives (.softStopEnd r l) s fun d => d.grove.rail[r].mode = .off ∧ d.grove.rail[r].lp.vref = 0 ∧
        d.grove.rail[r].lp.i = 0 ∧ d.still = { s.b.d with free := d.free, grove := d.grove }.still)

end Sys2Proof.Machine

/-- The samples of a rail, its slews, and the ends of its soft start and soft stop. -/
def Obligations.RailMovesComplete : Prop := Sys2Proof.Machine.SamplesComplete ∧ Sys2Proof.Machine.RailMovesComplete

namespace Sys2Proof.Machine

/-- Step-fire, forecast, braking and pulse skipping (R174 to R186): what each begins or ends, and its frame; `sampled` is the device
after the samples that the command carries. -/
def TransientsComplete : Prop :=
  ∀ (s : State) (r : Rail), s.b.d.power.coreOn = true →
    let x := s.b.d.grove.rail[r]
    (∀ l passed, (sampled s r l).grove.rail[r].mode = .regulating → (sampled s r l).stepTrigger r = true →
      Gives (.stepFire r l passed) s fun d =>
          GroveOnly s (sampled s r l) d ∧ d.grove.rail[r].hold = true ∧
        d.grove.rail[r].skip = false ∧
        ((sampled s r l).grove.rail[r].hold = false ∨ passed = true → (sampled s r l).grove.rail[r].brake = false →
          d.grove.rail[r].fired = ((sampled s r l).fireOrder r).map fun p => p.val)) ∧
    (∀ us, x.hold = true → x.forecast = false → s.b.d.gr r 0x31 ≤ us →
      Gives (.stepHoldEnd r us) s fun d => d.still = { s.b.d with grove := d.grove }.still ∧ d.grove.rail[r].hold = false ∧
        ((∀ q : Phase, s.b.d.grove.ph[q].leavingRetires = 0) → d = s.b.d.rail' r fun x => { x with hold := false })) ∧
    (∀ (i : Fin 4) n passed, 3 ≤ n → x.mode = .regulating → (s.b.d.lsfMask r).testBit i.val = true →
      x.fcIgnored.testBit i.val = false → x.forecast = false →
      Gives (.forecastStart r i n passed) s fun d =>
          GroveOnly s { s.b.d with free := d.free } d ∧ d.grove.rail[r].forecast = true ∧
        d.grove.rail[r].hold = true ∧ d.grove.rail[r].fcOff = s.b.d.gr r 0x33 ∧ d.grove.lsf = s.b.d.grove.lsf ||| 2 ^ i.val) ∧
    (∀ ns, x.fcPulse = true → s.b.d.gr r 0x32 ≤ ns →
      Gives (.forecastPulse r ns false) s fun d =>
          GroveOnly s s.b.d d ∧ d.grove.rail[r].fcPulse = false ∧
        d.grove.rail[r].hold = true ∧ (x.brake = false → d.grove.rail[r].fired = (s.b.d.fireOrder r).map fun p => p.val)) ∧
    (∀ ns, x.fcPulse = true → s.b.d.gr r 0x32 ≤ ns →
      Gives (.forecastPulse r ns true) s fun d => d = s.b.d.rail' r fun x => { x with fcPulse := false }) ∧
    (∀ levels : Fin 16, levels.val &&& s.b.d.lsfMask r = 0 →
      Gives (.forecastEnd r levels) s fun d => d = { s.b.d with grove := d.grove } ∧ d.grove.rail[r].forecast = false ∧
        d.grove.rail[r].fcStuck = false ∧ d.grove.lsf = levels.val) ∧
    (∀ us, x.forecast = true → 10000 < us →
      Gives (.forecastStuck r us) s fun d => d = { s.b.d with grove := d.grove } ∧ d.grove.rail[r].forecast = false ∧
        d.grove.rail[r].fcStuck = true ∧ d.grove.rail[r].fcIgnored = s.b.d.grove.lsf &&& s.b.d.lsfMask r) ∧
    (∀ l passed, (sampled s r l).grove.rail[r].mode = .regulating → s.b.d.gr r 0x34 ≠ 0 →
      (sampled s r l).grove.rail[r].brake = false → (sampled s r l).grove.rail[r].brakeRest = false →
      (sampled s r l).brakeTrigger r = true →
      Gives (.brakingStart r l passed) s fun d =>
          d = { sampled s r l with grove := d.grove } ∧ d.grove.rail[r].brake = true ∧
        d.grove.rail[r].counts = bump32 (sampled s r l).grove.rail[r].counts 3 ∧
        ∀ p : Phase, p ∈ (sampled s r l).firingOf r → d.grove.ph[p].high = 0) ∧
    (∀ l k, (sampled s r l).grove.rail[r].brake = true → (sampled s r l).grove.rail[r].lp.newest = some k →
      -(s.b.d.gr r 0x35 : Int) ≤ k.e →
      Gives (.brakingEnd r l) s fun d => d = { sampled s r l with grove := d.grove } ∧ d.grove.rail[r].brake = false ∧
        d.grove.rail[r].brakeRest = true) ∧
    (∀ us, x.brake = true → s.b.d.gr r 0x36 ≤ us →
      Gives (.brakeTimeout r us) s fun d => d = { s.b.d with grove := d.grove } ∧ d.grove.rail[r].brake = false ∧
        d.grove.rail[r].counts = bump32 x.counts 4) ∧
    (∀ l, s.b.d.flag (0x2200 + r.val) 0x37 = true → (sampled s r l).grove.rail[r].mode = .regulating →
      (sampled s r l).grove.rail[r].skip = false →
      ((sampled s r l).firingOf r).length = s.b.d.nat 0x2233 (r.val + 1) → (sampled s r l).grove.rail[r].hold = false →
      (sampled s r l).grove.rail[r].forecast = false → (sampled s r l).grove.rail[r].brake = false →
      s.b.d.gr r 0x38 ≤ (sampled s r l).grove.rail[r].lp.below →
      Gives (.pulseSkippingEntry r l) s fun d => d = { sampled s r l with grove := d.grove } ∧ d.grove.rail[r].skip = true ∧
        d.grove.rail[r].negZero = true ∧ d.grove.rail[r].counts = bump32 (sampled s r l).grove.rail[r].counts 5) ∧
    (∀ l mA, (sampled s r l).grove.rail[r].skip = true → (sampled s r l).skipOver r mA = true →
      Gives (.pulseSkippingExit r l mA) s fun d => d = { sampled s r l with grove := d.grove } ∧ d.grove.rail[r].skip = false ∧
        d.grove.rail[r].negZero = false)

/-- The cycle-by-cycle current limits (R194, R195) end the High or the Low of the phase, and are counted on its rail; nothing else
changes. -/
def CurrentLimitsComplete : Prop :=
  ∀ (s : State) (p : Phase), s.b.d.power.coreOn = true → s.b.d.driven p = true →
    (∀ mA n, 16 ≤ n → s.b.d.gr (s.b.d.phaseRail p) 0x25 * s.b.d.rating p ≤ mA * 10000 →
      Gives (.phaseCurrentLimit p mA n) s fun d =>
        d = (s.b.d.rail' (s.b.d.phaseRail p) fun x => { x with counts := bump32 x.counts 6 }).ph' p fun x => { x with
          high := min x.high (32 * n), hits := x.hits + ofBool (s.b.d.hitQualifies p) }) ∧
    (∀ mA : Int, mA * 10000 ≤ (if s.b.d.grove.rail[s.b.d.phaseRail p].negZero then 0
        else -((s.b.d.gr (s.b.d.phaseRail p) 0x26 * s.b.d.rating p : Nat) : Int)) →
      Gives (.negativeCurrentLimit p mA) s fun d =>
        d = (s.b.d.rail' (s.b.d.phaseRail p) fun x => { x with counts := bump32 x.counts 7 }).ph' p fun x =>
          { x with lowEnded := true })

end Sys2Proof.Machine

/-- Transients of a rail and its cycle-by-cycle current limits. -/
def Obligations.TransientsComplete : Prop := Sys2Proof.Machine.TransientsComplete ∧ Sys2Proof.Machine.CurrentLimitsComplete

namespace Sys2Proof.Machine

/-- A result that a tuning run has ended with (Table 6-5). -/
abbrev RunEnded (s : State) (d : Dev) (r : Rail) (outcome : Nat) : Prop :=
  d.grove.run = none ∧ d.grove.rail[r].lp.tuning = false ∧ d.grove.result[r].outcome = outcome ∧
    d.grove.result[r].time = s.b.hw.counter

end Sys2Proof.Machine

/-- On-line identification and retuning (R157 to R163): the start of the rail whose turn it is, its deferral, the eight tones, what the
fit ends with, and what verification keeps or reverts. -/
def Obligations.TuningComplete : Prop :=
  ∀ (s : State) (r : Rail), s.b.d.power.coreOn = true →
    (∀ turn c railMA trunk, s.b.d.nat 0x2238 1 ≠ 0 → s.b.d.grove.run = none → s.b.d.tuningChoice turn = some c → c.rail = r →
      s.b.d.path.warning = false →
      Gives (.tuningRunStart r turn railMA trunk) s fun d =>
        d.still = { s.b.d with free := d.free, path := { s.b.d.path with vsysMv := trunk }, grove := d.grove }.still ∧
        d.grove.run = some ⟨r.val, .tones 0, s.b.d.grove.rail[r].lp.active, railMA, trunk, toneHz (s.b.d.targetCrossover r) 0,
          s.b.d.toneLimitUv r, []⟩ ∧ d.grove.lastRun = r.val ∧ d.grove.runNext = s.b.d.grove.runNext.filter (· ≠ r.val) ∧
        d.grove.rail[r].lp.tuning = true) ∧
    (∀ turn c railMA trunk, s.b.d.nat 0x2238 1 ≠ 0 → s.b.d.grove.run = none → s.b.d.tuningChoice turn = some c → c.rail = r →
      s.b.d.path.warning = true →
      Gives (.tuningRunStart r turn railMA trunk) s fun d => d = { s.b.d with path := { s.b.d.path with
        deferred := s.b.d.path.deferred ++ [.tuning r.val] } }) ∧
    (∀ run n p, s.b.d.runOn r = some run → run.stage = .tones n → n < 7 →
      Gives (.toneEnd r p) s fun d => d = { s.b.d with grove := { s.b.d.grove with
        run := some { run with
          stage := .tones (n + 1), tones := run.tones ++ [p], toneHz := toneHz (s.b.d.targetCrossover r) (n + 1)
          limitUv := s.b.d.toneLimitUv r } } }) ∧
    (∀ run n p, s.b.d.runOn r = some run → run.stage = .tones n → 7 ≤ n →
      Gives (.toneEnd r p) s fun d => d = { s.b.d with grove := { s.b.d.grove with
        run := some { run with stage := .fitting, tones := run.tones ++ [p], toneHz := 0, limitUv := 0 } } }) ∧
    (∀ run, s.b.d.runOn r = some run → run.stage = .fitting → s.b.d.nat 0x2238 1 ≠ 2 →
      Gives (.identificationComplete r) s fun d => d = { s.b.d with grove := d.grove } ∧ RunEnded s d r 1 ∧
        d.grove.rail[r].lp.active = s.b.d.grove.rail[r].lp.active) ∧
    (∀ run, s.b.d.runOn r = some run → run.stage = .fitting → s.b.d.nat 0x2238 1 = 2 →
      Gives (.identificationComplete r) s fun d => d = { s.b.d with grove := d.grove } ∧
        (RunEnded s d r 4 ∧ d.grove.rail[r].lp.active = s.b.d.grove.rail[r].lp.active ∨
          RunEnded s d r 3 ∧ d.grove.rail[r].lp.active = s.b.d.grove.rail[r].lp.active ∨
          ∃ set hz, d.grove.rail[r].lp.active = s.b.d.clampedSet r set ∧ d.grove.run = some { run with
            stage := .verifying, before := s.b.d.grove.rail[r].lp.active, toneHz := hz, limitUv := s.b.d.toneLimitUv r })) ∧
    (∀ run (pm : Int) (hz : Nat), s.b.d.runOn r = some run → run.stage = .verifying → (s.b.d.nat 0x2238 5 : Int) ≤ pm →
      ((hz : Int) - s.b.d.targetCrossover r).natAbs * 4 ≤ s.b.d.targetCrossover r →
      Gives (.verificationComplete r pm hz) s fun d =>
          GroveOnly s s.b.d d ∧ RunEnded s d r 2 ∧
        d.grove.rail[r].lp.active = s.b.d.grove.rail[r].lp.active) ∧
    (∀ run (pm : Int) (hz : Nat), s.b.d.runOn r = some run → run.stage = .verifying →
      pm < (s.b.d.nat 0x2238 5 : Int) ∨ s.b.d.targetCrossover r < ((hz : Int) - s.b.d.targetCrossover r).natAbs * 4 →
      Gives (.verificationComplete r pm hz) s fun d =>
          GroveOnly s s.b.d d ∧ RunEnded s d r 0x20 ∧ d.grove.rail[r].lp.active = run.before)

namespace Sys2Proof.Machine

/-! ## Integrated rails and external enables (chapter 8) -/

/-- An integrated channel has tripped (R216): off, TRIP set, its reason and time recorded, its source raised. -/
abbrev ChanTripped (d : Dev) (c : Integrated) (reason t : Nat) : Prop :=
  (d.chan c).on = false ∧ (d.chan c).trip = true ∧ (d.chan c).reason = reason ∧ (d.chan c).tripTime = t ∧
    d.sticky (branchSource (chanCode c)) = true

/-- An external enable has tripped (R223). -/
abbrev XeTripped (d : Dev) (n : Fin 8) (reason t : Nat) : Prop :=
  d.integ.xe[n].en = false ∧ d.integ.xe[n].trip = true ∧ d.integ.xe[n].reason = reason ∧ d.integ.xe[n].tripTime = t ∧
    d.sticky (branchSource (xeBranch n)) = true

end Sys2Proof.Machine

/-- References, starts, hiccups, light load and the discharge switch of an integrated channel (R208 to R210, R212, R217, R221). -/
def Obligations.ChannelMovesComplete : Prop :=
  ∀ s : State, s.b.d.power.coreOn = true →
    (∀ c us, let x := s.b.d.chan c
      x.on = true → x.sstart = false → x.hiccup = false → x.refMv ≠ x.targetMv →
      Gives (.ibLdSlewComplete c us) s fun d => d = { s.b.d with integ := d.integ, jour := d.jour, casc := d.casc } ∧
        d.chan c = { x with refMv := moveToward x.refMv x.targetMv ((x.rampAcc + us) / 5 * 5), rampAcc := (x.rampAcc + us) % 5 }) ∧
    (∀ c us, let x := s.b.d.chan c
      x.on = true → x.sstart = true → x.hiccup = false → x.refMv ≠ x.targetMv →
      Gives (.ibLdSlewComplete c us) s fun d => d = { s.b.d with integ := d.integ, jour := d.jour, casc := d.casc } ∧
        d.chan c = { x with
          refMv := moveToward x.refMv x.targetMv ((x.rampAcc + us * x.rampNum) / x.rampDen)
          rampAcc := (x.rampAcc + us * x.rampNum) % x.rampDen }) ∧
    (∀ c elapsed mv us, let x := s.b.d.chan c
      x.on = true → x.sstart = true → near2 mv x.targetMv = true → 50 ≤ us →
      Gives (.ibLdSoftStartComplete c elapsed mv us) s fun d =>
          d.still = { s.b.d with integ := d.integ }.still ∧
          d.chan c = { x with
            refMv := (x.moved elapsed).refMv, rampAcc := 0, sstart := false, recovery := false, uvArmed := true, pgood := true
            outMv := mv, dropout := decide (x.inMv ≠ 0) && decide (x.inMv < mv + 200) }) ∧
    (∀ n cycles, 16 ≤ cycles → s.b.d.integ.ib[n].on = true → s.b.d.integ.ib[n].hiccup = false → s.b.d.integ.ib[n].sstart = false →
      s.b.d.integ.ib[n].consecutive < s.b.d.ch (.ib n) 7 →
      Gives (.hiccup n cycles) s fun d => d = { s.b.d with integ := d.integ } ∧ d.integ.ib[n].hiccup = true ∧
        d.integ.ib[n].consecutive = s.b.d.integ.ib[n].consecutive + 1 ∧
        d.integ.ib[n].hiccups = satInc 32 s.b.d.integ.ib[n].hiccups) ∧
    (∀ n us mv, s.b.d.integ.ib[n].hiccup = true → 2000 ≤ us →
      Gives (.hiccupRecovery n us mv) s fun d => d = s.b.d.ib' n fun x => { x with
        hiccup := false, sstart := true, recovery := true, refMv := mv, outMv := mv, targetMv := s.b.d.chanSetMv (.ib n)
        rampNum := s.b.d.chanSetMv (.ib n), rampDen := max 1 (s.b.d.ch (.ib n) 4), rampAcc := 0 }) ∧
    (∀ n mv us, s.b.d.integ.ib[n].on = true → s.b.d.integ.ib[n].hiccup = false →
      near2 mv s.b.d.integ.ib[n].targetMv = true → 1000 ≤ us →
      Gives (.hiccupCountReset n mv us) s fun d => d = s.b.d.ib' n fun x => { x with consecutive := 0 }) ∧
    (∀ c mv us, (s.b.d.chan c).disch = true → mv < 100 ∨ 10000 ≤ us →
      Gives (.dischargeSwitchOpen c mv us) s fun d => d = s.b.d.chan' c fun x => { x with disch := false, outMv := mv }) ∧
    (∀ ib ld (m : ChanMeas), Gives (.budgetMeasurement ib ld [m]) s fun d => d.integ.ibMw = ib ∧ d.integ.ldMw = ld ∧
        (d.chan m.chan).outMA = m.mA ∧ (d.integ.overrun.testBit 0 = decide (16000 < ib)) ∧
        (d.integ.overrun.testBit 1 = decide (400 < ld)) ∧ KeepsPower s d ∧
        d = { s.b.d with power := d.power, integ := d.integ, nv := d.nv, faults := d.faults }) ∧
    (∀ ib ld n mA zeros peak, s.b.d.integ.ib[n].on = true → s.b.d.integ.ib[n].hiccup = false →
      Gives (.budgetMeasurement ib ld [⟨.ib n, mA, zeros, peak⟩]) s fun d =>
        (8 ≤ zeros → peak ≤ 250 → s.b.d.ch (.ib n) 5 = 0 → d.integ.ib[n].skip = true) ∧
        (250 < peak ∨ s.b.d.ch (.ib n) 5 ≠ 0 → d.integ.ib[n].skip = false))

namespace Sys2Proof.Machine

/-- The trips of integrated channels (R210, R211, R214, R215). -/
def ChannelTripsComplete : Prop :=
  ∀ s : State, s.b.d.power.coreOn = true →
    (∀ c us, (s.b.d.chan c).on = true → (s.b.d.chan c).sstart = true → (s.b.d.chan c).recovery = false →
      s.b.d.ch c 4 + 1000 ≤ us →
      Gives (.ibLdStartTimeout c us) s fun d =>
          d.still = { s.b.d with integ := d.integ }.still ∧
          ChanTripped d c 7 s.b.hw.counter) ∧
    (∀ n cycles, 16 ≤ cycles → s.b.d.integ.ib[n].on = true → s.b.d.integ.ib[n].hiccup = false →
      s.b.d.integ.ib[n].sstart = true → s.b.d.integ.ib[n].recovery = false →
      Gives (.hiccup n cycles) s fun d =>
          d.still = { s.b.d with integ := d.integ }.still ∧
          ChanTripped d (.ib n) 6 s.b.hw.counter) ∧
    (∀ n cycles, 16 ≤ cycles → s.b.d.integ.ib[n].on = true → s.b.d.integ.ib[n].hiccup = false →
      s.b.d.integ.ib[n].sstart = false → s.b.d.ch (.ib n) 7 ≤ s.b.d.integ.ib[n].consecutive →
      Gives (.hiccup n cycles) s fun d =>
          d.still = { s.b.d with integ := d.integ }.still ∧
          ChanTripped d (.ib n) 4 s.b.hw.counter) ∧
    (∀ n, s.b.d.integ.ib[n].on = true →
      (∀ mv us, (10000 + s.b.d.ch (.ib n) 8) * s.b.d.integ.ib[n].targetMv < mv * 10000 → 2 ≤ us →
        Gives (.ibVoltageProtection n (.over mv us)) s fun d =>
            d.still = { s.b.d with integ := d.integ }.still ∧
            ChanTripped d (.ib n) 2 s.b.hw.counter) ∧
      (∀ mv us, s.b.d.integ.ib[n].uvArmed = true →
        mv * 10000 < (10000 - s.b.d.ch (.ib n) 9) * s.b.d.integ.ib[n].targetMv → 20 ≤ us →
        Gives (.ibVoltageProtection n (.under mv us)) s fun d =>
            d.still = { s.b.d with integ := d.integ }.still ∧
            ChanTripped d (.ib n) 3 s.b.hw.counter) ∧
      (∀ mv, mv < 4200 → Gives (.ibVoltageProtection n (.pvin mv)) s fun d =>
          d.still = { s.b.d with integ := d.integ }.still ∧
          ChanTripped d (.ib n) 0x10 s.b.hw.counter)) ∧
    (∀ n, s.b.d.integ.ld[n].on = true →
      (∀ us, 1000 ≤ us → Gives (.ldoProtection n (.limit us)) s fun d =>
          d.still = { s.b.d with integ := d.integ }.still ∧
          ChanTripped d (.ld n) (if s.b.d.integ.ld[n].sstart then 6 else 4) s.b.hw.counter) ∧
      (∀ mv us, s.b.d.integ.ld[n].uvArmed = true →
        mv * 10000 < (10000 - s.b.d.ch (.ld n) 6) * s.b.d.integ.ld[n].targetMv → 20 ≤ us →
        Gives (.ldoProtection n (.under mv us)) s fun d =>
            d.still = { s.b.d with integ := d.integ }.still ∧
            ChanTripped d (.ld n) 3 s.b.hw.counter) ∧
      (∀ mv us, 11 * s.b.d.integ.ld[n].targetMv < mv * 10 → 2 ≤ us →
        Gives (.ldoProtection n (.over mv us)) s fun d =>
            d.still = { s.b.d with integ := d.integ }.still ∧
            ChanTripped d (.ld n) 2 s.b.hw.counter) ∧
      (∀ mv, mv < 1400 → Gives (.ldoProtection n (.vin mv)) s fun d =>
          d.still = { s.b.d with integ := d.integ }.still ∧
          ChanTripped d (.ld n) 0x10 s.b.hw.counter))

/-- Power-good of the external enables (R222, R223). -/
def EnablesComplete : Prop :=
  ∀ (s : State) (n : Fin 8), s.b.d.power.coreOn = true →
    (∀ us, s.b.d.pgMode n = 0 → s.b.d.pgDeglitch n ≤ us → s.b.d.integ.xe[n].en = true →
      Gives (.xePowerGood n us) s fun d => d.integ.xe[n] = { s.b.d.integ.xe[n] with pgIn := true, pgood := true } ∧
        d.judge[xeBranch n].good = true ∧ d.still = { s.b.d with integ := d.integ }.still) ∧
    (∀ ms, s.b.d.nat (0x2250 + n.val) 3 ≤ ms → s.b.d.integ.xe[n].en = true → s.b.d.integ.xe[n].pgood = false →
      s.b.d.pgMode n = 0 →
      Gives (.xePgTimeout n ms) s fun d =>
          d.still = { s.b.d with integ := d.integ }.still ∧
          XeTripped d n 7 s.b.hw.counter) ∧
    (∀ ms, s.b.d.nat (0x2250 + n.val) 3 ≤ ms → s.b.d.integ.xe[n].en = true → s.b.d.integ.xe[n].pgood = false →
      s.b.d.pgMode n ≠ 0 →
      Gives (.xePgTimeout n ms) s fun d =>
          d.still = s.b.d.still ∧
          d.integ.xe[n].pgood = true ∧ d.judge[xeBranch n].good = true) ∧
    (∀ ms, s.b.d.nat (0x2250 + n.val) 3 ≤ ms → s.b.d.integ.xe[n].en = false → s.b.d.pgMode n = 1 →
      Gives (.xePgTimeout n ms) s fun d => d.still = s.b.d.still ∧ d.judge[xeBranch n].discharged = true ∧
        d.integ = s.b.d.integ) ∧
    (∀ us, s.b.d.pgMode n = 0 → s.b.d.pgDeglitch n ≤ us → s.b.d.integ.xe[n].en = true → s.b.d.integ.xe[n].pgood = true →
      Gives (.xePowerGoodLost n us) s fun d =>
          d.still = { s.b.d with integ := d.integ }.still ∧
          XeTripped d n 0x11 s.b.hw.counter) ∧
    (∀ us, s.b.d.pgMode n = 0 → s.b.d.pgDeglitch n ≤ us → s.b.d.integ.xe[n].en = false →
      Gives (.xePgBeforeEnable n us) s fun d =>
        d.integ.xe[n] = { s.b.d.integ.xe[n] with pgIn := true, early := true, reason := 0x12 } ∧
        KeepsPower s d ∧ d = { s.b.d with power := d.power, integ := d.integ, nv := d.nv, faults := d.faults })

end Sys2Proof.Machine

/-- Trips of integrated channels, and power-good of the external enables. -/
def Obligations.ChannelTripsComplete : Prop := Sys2Proof.Machine.ChannelTripsComplete ∧ Sys2Proof.Machine.EnablesComplete

namespace Sys2Proof.Machine

/-! ## Sequencer and supervision (chapter 9) -/

/-- The slot of a branch is reached while another branch of the order still waits for its own (R228, R229). -/
abbrev SlotOpen (d : Dev) (b : Branch) (timerUs : Nat) : Prop :=
  (d.seq.state = .onOrder ∨ d.seq.state = .safeOn) ∧ d.seq.awaitPulse = false ∧ d.seq.tapWait = false ∧
    inMask d.seq.todo b = true ∧
    d.onDelay b ≠ 0xFFFF ∧ 50 * d.onDelay b ≤ timerUs ∧ d.seq.timerUs ≤ timerUs ∧ d.tapHolds = false ∧
    maskDiff d.seq.todo (2 ^ b.val) &&& d.members ≠ 0

/-- What a slot always does: the timer stands at it, and its branch no longer waits. -/
abbrev SlotPassed (s : State) (d' : Dev) (b : Branch) (timerUs : Nat) : Prop :=
  d'.seq = { s.b.d.seq with timerUs := timerUs, timerTick := s.b.hw.counter, todo := maskDiff s.b.d.seq.todo (2 ^ b.val) }

end Sys2Proof.Machine

/-- Slots of an on order (R166, R209, R222, R228, R229, R231): a branch of each kind starts as its own chapter says, one that cannot
start is skipped, one that is on is left on, one taken out of the sequence is passed over. -/
def Obligations.SlotsComplete : Prop :=
  ∀ (s : State) (timerUs : Nat) (m : StartMeas), s.b.d.power.coreOn = true →
    (∀ r : Rail, SlotOpen s.b.d (railBranch r) timerUs → s.b.d.branchOn (railBranch r) = false →
      s.b.d.cannotStart (railBranch r) = false → r.val ∉ s.b.d.th.hotStages →
      startSense (s.b.d.gr r 0x3A) m.remoteOk m.localOk = .ok false →
      m.preBiasUv * 10000 ≤ (10000 + s.b.d.gr r 0x27) * s.b.d.railSetCode r * 250 →
      Gives (.slotTurnOn (railBranch r) timerUs m) s fun d =>
          d.still = { s.b.d with grove := d.grove, free := d.free }.still ∧
          SlotPassed s d (railBranch r) timerUs ∧
        d.judge[railBranch r].counted = true ∧ d.grove.rail[r].mode = .softStart ∧ d.grove.rail[r].trip = false ∧
        d.grove.rail[r].lp.target = s.b.d.railSetCode r ∧
        d.grove.rail[r].lp.vref = startCode (s.b.d.gr r 0x22) m.preBiasUv (s.b.d.railSetCode r)) ∧
    (∀ c : Integrated, SlotOpen s.b.d (chanCode c) timerUs → s.b.d.branchOn (chanCode c) = false →
      s.b.d.chanSetMv c ≠ 0 → (s.b.d.chan c).inLost = false → m.outMv * 10000 ≤ s.b.d.overFraction c * s.b.d.chanSetMv c →
      Gives (.slotTurnOn (chanCode c) timerUs m) s fun d =>
          d.still = { s.b.d with integ := d.integ }.still ∧
          SlotPassed s d (chanCode c) timerUs ∧
        d.judge[chanCode c].counted = true ∧ d.chan c = { s.b.d.chan c with
          trip := false, outMv := m.outMv, on := true, sstart := true, hiccup := false, recovery := false, consecutive := 0
          pgood := false, uvArmed := false, disch := false, refMv := m.outMv, targetMv := s.b.d.chanSetMv c
          rampNum := s.b.d.chanSetMv c, rampDen := max 1 (s.b.d.ch c 4), rampAcc := 0 }) ∧
    (∀ n : Fin 8, SlotOpen s.b.d (xeBranch n) timerUs → s.b.d.branchOn (xeBranch n) = false →
      (s.b.d.pgMode n ≠ 0 ∨ s.b.d.integ.xe[n].pgIn = false) →
      Gives (.slotTurnOn (xeBranch n) timerUs m) s fun d =>
          d.still = { s.b.d with integ := d.integ }.still ∧
          SlotPassed s d (xeBranch n) timerUs ∧
        d.judge[xeBranch n].counted = true ∧
        d.integ.xe[n] = { s.b.d.integ.xe[n] with trip := false, en := true, pgood := false }) ∧
    (∀ n : Fin 8, SlotOpen s.b.d (xeBranch n) timerUs → s.b.d.branchOn (xeBranch n) = false →
      s.b.d.pgMode n = 0 → s.b.d.integ.xe[n].pgIn = true →
      Gives (.slotTurnOn (xeBranch n) timerUs m) s fun d =>
          d.still = { s.b.d with integ := d.integ }.still ∧
          SlotPassed s d (xeBranch n) timerUs ∧
        d.judge[xeBranch n].good = true ∧
        d.integ.xe[n] = { s.b.d.integ.xe[n] with trip := false, en := true, pgood := true }) ∧
    (∀ b, SlotOpen s.b.d b timerUs → s.b.d.branchOn b = false → s.b.d.cannotStart b = true →
      Gives (.slotTurnOn b timerUs m) s fun d => SlotPassed s d b timerUs ∧ d.judge[b].skip = true ∧
        d.grove = s.b.d.grove ∧ d.integ = s.b.d.integ ∧ d.still = s.b.d.still) ∧
    (∀ b, SlotOpen s.b.d b timerUs → s.b.d.branchOn b = true →
      Gives (.slotTurnOn b timerUs m) s fun d => SlotPassed s d b timerUs ∧
        d.judge[b].counted = (!s.b.d.judge[b].good) ∧ d.grove = s.b.d.grove ∧ d.integ = s.b.d.integ ∧
        d.still = s.b.d.still) ∧
    (∀ b, s.b.d.onDelay b = 0xFFFF → Gives (.slotTurnOn b timerUs m) s fun d => d = s.b.d)

namespace Sys2Proof.Machine

/-- The common start and the retry of a unit that stands alone (R230, R244, R246), and a start that the test port has held up and
no longer holds (R552). -/
def StartsComplete : Prop :=
  ∀ s : State, s.b.d.power.coreOn = true → s.b.d.power.nrstLow = false → s.b.d.casc.role = 0 → s.b.d.members ≠ 0 →
    s.b.d.tapHolds = false →
    (∀ mv, s.b.d.seq.tapWait = true → s.b.d.seq.state = .onOrder → s.b.d.seqTodo ≠ 0 →
      Gives (.commonStart mv) s fun d => d.still = { s.b.d with path := d.path }.still ∧
        d.path = { s.b.d.path with vsysMv := mv } ∧
        d.seq = { s.b.d.seq with tapWait := false, timerUs := 0, timerTick := s.b.hw.counter }) ∧
    (∀ mv, s.b.d.seq.tapWait = false → s.b.d.seq.startDue = true → s.b.d.otp.boardOk = true → 17000 ≤ mv → s.b.d.inRun = true →
      s.b.d.seq.state = .idle →
      Gives (.commonStart mv) s fun d =>
          d.still = { s.b.d with path := d.path }.still ∧
          d.path = { s.b.d.path with vsysMv := mv } ∧ d.seq = { s.b.d.seq with
        startDue := false, attempt := 0, starts := 1, held := none, failed := 0, finalFail := false, noRecord := false
        state := .onOrder, members := s.b.d.members, todo := s.b.d.members, timerUs := 0, awaitPulse := false
        tapWait := false, timerTick := s.b.hw.counter }) ∧
    (∀ ms, s.b.d.seq.state = .pause → s.b.d.nat 0x2300 2 ≤ ms →
      Gives (.retryPauseEnd ms) s fun d => d.still = s.b.d.still ∧ d.grove = s.b.d.grove ∧ d.seq = { s.b.d.seq with
        attempt := s.b.d.seq.attempt + 1, starts := s.b.d.seq.starts + 1, state := .onOrder, members := s.b.d.members
        todo := s.b.d.members, timerUs := 0, awaitPulse := false, tapWait := false, timerTick := s.b.hw.counter })

/-- Off orders (R223, R247, R248): the group that is due is turned off; a branch below its threshold is discharged, and one that is
not within its time is reported. -/
def OffOrdersComplete : Prop :=
  ∀ s : State, s.b.d.power.coreOn = true →
    (∀ timerUs delay, s.b.d.seq.state.isOff = true → s.b.d.seq.offWait = 0 → s.b.d.nextOff s.b.d.seq.offTodo = some delay →
      50 * delay ≤ timerUs → s.b.d.seq.offUs ≤ timerUs →
      Gives (.offGroup timerUs) s fun d => d.still = s.b.d.still ∧
        ∀ b, inMask s.b.d.seq.offTodo b = true → s.b.d.offDelay b = delay → d.branchOn b = false) ∧
    (∀ b ms mv, inMask s.b.d.seq.offWait b = true → s.b.d.nat 0x2304 (b.val + 1) ≤ ms → s.b.d.branchOn b = false →
      s.b.d.foundDischarged b ms mv = true →
      Gives (.dischargeTimeout b ms mv) s fun d => d.still = s.b.d.still ∧ d.judge[b].discharged = true) ∧
    (∀ b ms mv, inMask s.b.d.seq.offWait b = true → s.b.d.nat 0x2304 (b.val + 1) ≤ ms → s.b.d.branchOn b = false →
      s.b.d.foundDischarged b ms mv = false → s.b.d.seq.groupDue = false → s.b.d.seq.shipDue = false →
      Gives (.dischargeTimeout b ms mv) s fun d => d.still = s.b.d.still ∧ d.judge[b].dto = true ∧ d.judge[b].outMv = mv)

end Sys2Proof.Machine

/-- Common starts, retries and off orders. -/
def Obligations.StartsAndOffOrdersComplete : Prop := Sys2Proof.Machine.StartsComplete ∧ Sys2Proof.Machine.OffOrdersComplete

/-- Judgement (R238 to R244): the third conversion inside makes a branch good, the windows' filters count, a branch that is not
good in time is turned off, and the windows report. -/
def Obligations.JudgementComplete : Prop :=
  ∀ (s : State) (b : Branch), s.b.d.power.coreOn = true →
    (∀ mv, b.val < 22 → s.b.d.power.state ≠ .standby → (s.b.d.conv.a.excluded && s.b.d.conv.b.excluded) = false →
      s.b.d.branchOn b = true → s.b.d.judge[b].good = false → s.b.d.softDone b = true → s.b.d.inWindow 0x2342 b mv = true →
      2 ≤ s.b.d.judge[b].inWindow →
      Gives (.judgementConversion [(b, mv)]) s fun d =>
          d.still = { s.b.d with integ := d.integ }.still ∧
          d.judge[b].good = true ∧ d.judge[b].outMv = mv) ∧
    (∀ mv, b.val < 22 → s.b.d.power.state ≠ .standby → (s.b.d.conv.a.excluded && s.b.d.conv.b.excluded) = false →
      s.b.d.branchOn b = true → s.b.d.judge[b].good = true → s.b.d.inWindow 0x2341 b mv = false →
      s.b.d.inWindow 0x2342 b mv = false →
      Gives (.judgementConversion [(b, mv)]) s fun d =>
          d.still = { s.b.d with integ := d.integ }.still ∧ d.judge[b].good = true ∧ d.judge[b].outMv = mv ∧
          (s.b.d.seq.wakeDue = false → d.judge[b].wOut = s.b.d.judge[b].wOut + 1 ∧ d.judge[b].fOut = s.b.d.judge[b].fOut + 1)) ∧
    (∀ mv, b.val < 22 → s.b.d.power.state ≠ .standby → (s.b.d.conv.a.excluded && s.b.d.conv.b.excluded) = false →
      s.b.d.branchOn b = false → s.b.d.belowThreshold b mv = true →
      Gives (.judgementConversion [(b, mv)]) s fun d =>
          d.still = { s.b.d with integ := d.integ }.still ∧
          d.judge[b].discharged = true) ∧
    (∀ readings, s.b.d.power.state = .standby → Gives (.judgementConversion readings) s fun d => d = s.b.d) ∧
    (∀ ms, s.b.d.branchOn b = true → s.b.d.judge[b].good = false → s.b.d.nat 0x2345 (b.val + 1) ≤ ms →
      s.b.d.countsAsStart b = false →
      Gives (.judgeDeadline b ms false) s fun d => d.branchOn b = false ∧ d.still = s.b.d.still) ∧
    (∀ ms, s.b.d.branchOn b = true → s.b.d.judge[b].good = false → s.b.d.nat 0x2345 (b.val + 1) ≤ ms →
      s.b.d.judge[b].counted = true → s.b.d.seq.state = .onOrder → s.b.d.casc.role = 0 → s.b.d.seq.groupRun = false →
      s.b.d.power.nrstLow = false → s.b.d.seq.attempt < s.b.d.nat 0x2300 1 → inMask s.b.d.standbySet b = false →
      Gives (.judgeDeadline b ms false) s fun d =>
          d.still = s.b.d.still ∧
          d.seq.state = .abort ∧ d.seq.after = .retry ∧
        d.seq.failed = s.b.d.seq.failed ||| 2 ^ b.val ∧ d.judge[b].failed = true ∧ d.seq.held.isSome = true ∧
        d.seq.attempt = s.b.d.seq.attempt) ∧
    (∀ ms, Gives (.judgeDeadline b ms true) s fun d => d = s.b.d) ∧
    (∀ mv, b.val < 22 → s.b.d.power.state ≠ .standby → s.b.d.branchOn b = true → s.b.d.judge[b].good = true →
      s.b.d.judge[b].wwin = false → s.b.d.nat 0x2343 (b.val + 1) ≤ s.b.d.judge[b].wOut →
      Gives (.warningWindow b mv) s fun d => d.judge[b] = { s.b.d.judge[b] with wwin := true, wIn := 0 } ∧
        KeepsPower s d ∧ d = { s.b.d with power := d.power, judge := d.judge, nv := d.nv, faults := d.faults } ∧
        d.faults.src = s.b.d.faults.src) ∧
    (∀ mv, b.val < 22 → s.b.d.power.state ≠ .standby → s.b.d.branchOn b = true → s.b.d.judge[b].good = true →
      s.b.d.judge[b].fwin = false → s.b.d.nat 0x2344 (b.val + 1) ≤ s.b.d.judge[b].fOut →
      Gives (.faultWindow b mv) s fun d => d.judge[b].fwin = true ∧ d.sticky (branchSource b) = true ∧
        d.still = s.b.d.still)

namespace Sys2Proof.Machine

/-- The first-fail record (R252 to R254, R516): a commit that verifies makes the staged record valid; one that fails leaves none and
raises FS103. -/
def FirstFailCommitComplete : Prop :=
  ∀ (s : State) (f : Failure), s.b.d.power.coreOn = true → s.b.d.seq.staged = some f → s.b.d.commitAdmitted recordUs = true →
    s.b.d.readsFailure f = false → s.b.d.power.test = false →
    Gives (.firstFailRecordCommit .first) s (fun d => d = { s.b.d with
      seq := { s.b.d.seq with staged := none, record := some f }
      recs := { s.b.d.recs with fail := s.b.d.recs.fail.put (some f, s.b.d.seq.events) true }
      life := { s.b.d.life with pageWrites := satAdd 64 s.b.d.life.pageWrites 1 } }) ∧
    Gives (.firstFailRecordCommit .failed) s (fun d =>
        d.still = { s.b.d with nv := d.nv, life := d.life, recs := d.recs }.still ∧
        d.recs = { s.b.d.recs with fail := s.b.d.recs.fail.put (s.b.d.seq.record, s.b.d.seq.events) false } ∧
        d.seq.staged = none ∧ d.seq.record = s.b.d.seq.record ∧ d.sticky 103 = true)

/-! ## Charger (chapter 11) -/

/-- A fault stop of the charger (Table 11-7): its source is raised and, unless an off order is in progress, the charger stands
in STOPPED with the reason. -/
abbrev ChgStopped (d d' : Dev) (src reason : Nat) : Prop :=
  d'.sticky src = true ∧ d'.still = d.still ∧
    (d.seq.state.isOff = false → d'.chg.phase = .stopped ∧ d'.chg.stopReason = reason)

/-- The phase a session or the end of pre-charge goes on with (R303, R304). -/
def fastPhase (d : Dev) : ChgPhase := if d.cg 8 ≠ 0 ∧ d.gaugeAccepts then .fastPulse else .fastCc

/-- Nothing but the charger with its timers and the gauge has changed, and what a report of the gauge leaves. -/
abbrev ChargeOnly (s : State) (d : Dev) : Prop :=
  KeepsPower s d ∧ d = { s.b.d with
    power := d.power, chg := d.chg, gauge := d.gauge, timer := d.timer, faults := d.faults, nv := d.nv }

end Sys2Proof.Machine

/-- Sessions and phases of the charger (R298, R302 to R307, Table 11-3). -/
def Obligations.ChargerPhasesComplete : Prop :=
  ∀ s : State, s.b.d.power.coreOn = true →
    (s.b.d.coresRun = true →
      (∀ main vsys nodeB, s.b.d.chg.phase = .wait → s.b.d.chgMayStart = true → s.b.d.rechargeThreshold ≤ main →
        Gives (.chargeSessionStart main vsys nodeB) s fun d =>
            ChargeOnly s d ∧ d.chg.phase = .done ∧ d.chg.mainMv = main ∧ d.gauge.due = true) ∧
      (∀ main vsys nodeB, s.b.d.chg.phase = .wait → s.b.d.chgMayStart = true → main < s.b.d.rechargeThreshold →
        Gives (.chargeSessionStart main vsys nodeB) s fun d =>
          d = { s.b.d with chg := d.chg, gauge := { s.b.d.gauge with empty := false }, timer := d.timer } ∧
          d.chg.phase = (if main < s.b.d.preThreshold then .precharge else fastPhase s.b.d) ∧ d.chg.sessionS = 0 ∧
          d.chg.pulses = (if d.chg.phase = .fastPulse then 1 else 0) ∧ d.chg.mainMv = main ∧
          d.chg.region = chgRegion vsys nodeB ∧ d.chg.sessionStart = s.b.d.gauge.count ∧ d.chg.phaseTime = s.b.hw.counter) ∧
      (∀ main ms vsys nodeB, s.b.d.chg.phase = .done → s.b.d.chgMayStart = true → main < s.b.d.rechargeThreshold → 10000 ≤ ms →
        Gives (.recharge main ms vsys nodeB) s fun d =>
          d = { s.b.d with chg := d.chg, gauge := { s.b.d.gauge with empty := false }, timer := d.timer } ∧
          d.chg.phase = (if main < s.b.d.preThreshold then .precharge else fastPhase s.b.d) ∧ d.chg.sessionS = 0 ∧
          d.chg.region = chgRegion vsys nodeB ∧ d.chg.sessionStart = s.b.d.gauge.count) ∧
      (∀ main ms, s.b.d.chg.phase = .precharge → s.b.d.chgHeld = false → s.b.d.preThreshold + 200 ≤ main → 1000 ≤ ms →
        Gives (.prechargeEnd main ms) s fun d =>
          d = { s.b.d with chg := d.chg, gauge := { s.b.d.gauge with empty := false }, timer := d.timer } ∧
          d.chg.phase = fastPhase s.b.d ∧ d.chg.mainMv = main) ∧
      (s.b.d.chg.phase = .fastCc → s.b.d.chgHeld = false → s.b.d.chg.probe = .none → s.b.d.cg 8 ≠ 0 →
        s.b.d.gaugeAccepts = true →
        Gives .fastPulseReturn s fun d => d.chg.phase = .fastPulse ∧ d.chg.inRest = false ∧
          d.chg.pulses = satInc 32 s.b.d.chg.pulses ∧
          d = { s.b.d with chg := d.chg, gauge := { s.b.d.gauge with empty := false }, timer := d.timer }) ∧
      (∀ main, s.b.d.chg.phase = .fastPulse ∨ s.b.d.chg.phase = .fastCc → s.b.d.chgSwitching = true → s.b.d.cg 2 ≤ main →
        Gives (.cvEntry main) s fun d => d = { s.b.d with chg := d.chg, timer := d.timer } ∧ d.chg = { s.b.d.chg with
          mainMv := main, phase := .cv, phaseTime := s.b.hw.counter, inRest := false }) ∧
      (∀ mA ms, s.b.d.chg.phase = .cv → s.b.d.chgHeld = false → mA * s.b.d.cg 0x0A < s.b.d.cg 3 → 30000 ≤ ms →
        Gives (.termination mA ms) s fun d =>
            ChargeOnly s d ∧ d.chg.phase = .done ∧ d.chg.stopReason = 1 ∧ d.chg.currentMA = mA ∧
          d.chg.completed = satInc 32 s.b.d.chg.completed ∧ d.gauge.due = true)) ∧
    (s.b.d.chg.phase = .fastPulse → s.b.d.chgHeld = false → s.b.d.chg.probe = .none →
      Gives .pulseEdge s fun d => d = { s.b.d with
        chg := { s.b.d.chg with
          inRest := !s.b.d.chg.inRest
          pulses := if s.b.d.chg.inRest then satInc 32 s.b.d.chg.pulses else s.b.d.chg.pulses }
        timer := upd s.b.d.timer 7 fun x => { x with regs := { x.regs with cnt := 0, up := true, cmp := 469 } } }) ∧
    (∀ dcin demand, Gives (.inputSharing dcin demand) s fun d => d = { s.b.d with
        path := { s.b.d.path with dcinMA := dcin }
        chg := { s.b.d.chg with shareMA := demand, sharing := s.b.d.chg.phase.active &&
          (decide (95 * s.b.d.nat 0x2100 2 < 100 * dcin) ||
            decide (demand < (s.b.d.chg' fun c => { c with sharing := false }).chgCommand)) } })

/-- Timeouts, loss of the pack and fault stops of the charger (R307, R311 to R313, R318, R320, Table 11-7). -/
def Obligations.ChargerStopsComplete : Prop :=
  ∀ s : State, s.b.d.power.coreOn = true →
    (∀ sec, s.b.d.coresRun = true → s.b.d.chg.phase = .precharge → s.b.d.chgHeld = false → 60 * s.b.d.cg 0x0C < sec →
      Gives (.prechargeTimeout sec) s fun d => ChgStopped s.b.d d 64 3) ∧
    (∀ sec, s.b.d.coresRun = true → s.b.d.chg.phase.active = true → s.b.d.chgHeld = false → 60 * s.b.d.cg 0x0D < sec →
      Gives (.chargeTimeout sec) s fun d => ChgStopped s.b.d d 65 4) ∧
    (∀ k, s.b.d.chgSwitching = true → s.b.d.packLost k = true →
      Gives (.packLossComparator k) s fun d => d = { s.b.d with chg := { s.b.d.chg with
        probe := match k with | .overVoltage _ => .overVoltage | .collapse .. => .collapse
        sink := true } }) ∧
    (∀ fall, s.b.d.chg.probe ≠ .none → 500 < fall →
      Gives (.presenceProbeEnd fall) s fun d =>
          d.still = { s.b.d with path := d.path, gauge := d.gauge }.still ∧
          d.sticky 61 = true ∧ d.path.bPair = .off ∧ d.path.supplement = false ∧
        d.gauge.present = false ∧ (s.b.d.seq.state.isOff = false → d.chg.phase = .noPack ∧ d.chg.stopReason = 5)) ∧
    (∀ fall, s.b.d.chg.probe = .overVoltage → fall ≤ 500 →
      Gives (.presenceProbeEnd fall) s fun d => ChgStopped s.b.d d 62 6) ∧
    (∀ fall, s.b.d.chg.probe = .collapse → fall ≤ 500 →
      Gives (.presenceProbeEnd fall) s fun d => ChgStopped s.b.d d 63 8) ∧
    (∀ mv ms, s.b.d.chg.phase = .noPack → s.b.d.chg.sink = true → mv < 16000 ∨ 2000 ≤ ms →
      Gives (.noPackSinkEnd mv ms) s fun d => d = { s.b.d with
        chg := { s.b.d.chg with sink := false }, path := { s.b.d.path with batMv := mv }, gauge := d.gauge } ∧
        (s.b.d.path.batValid = true → d.gauge.present = true) ∧ (s.b.d.path.batValid = false → d.gauge = s.b.d.gauge)) ∧
    (∀ ms, s.b.d.chg.phase = .noPack → 2000 ≤ ms → s.b.d.path.batValid = true → s.b.d.estimateValid = true →
      s.b.d.chg.sink = false → s.b.d.coresRun = true →
      Gives (.noPackExit ms) s fun d => d = { s.b.d with chg := d.chg, path := d.path, timer := d.timer } ∧
        d.chg.phase = .wait ∧ d.chg.phaseTime = s.b.hw.counter ∧
        (s.b.d.path.dcinValid = false → s.b.d.path.trunkOv = false → s.b.d.path.supplement = false →
          d.path.bPair = .ideal ∧ d.path.supplement = true ∧ d.path.supplements = s.b.d.path.supplements)) ∧
    (∀ cycles, s.b.d.chg.phase.active = true → 16 ≤ cycles →
      Gives (.chargerFaultStop (.phaseOverCurrent cycles)) s fun d => ChgStopped s.b.d d 60 7) ∧
    (∀ mv us, s.b.d.chg.phase.active = true → mv < 8000 → 10 ≤ us → s.b.d.chg.drvRestart = false →
      Gives (.chargerFaultStop (.gateDrive mv us)) s fun d => d.chg = { s.b.d.chg with drvRestart := true } ∧
        d.faults.src[67].retrying = true ∧ d = { s.b.d with chg := d.chg, faults := d.faults }) ∧
    (∀ diff cmd ms, s.b.d.chg.phase.active = true → 25 * cmd < 100 * diff → 10 ≤ ms →
      Gives (.chargerFaultStop (.imbalance diff cmd ms)) s fun d => ChgStopped s.b.d d 68 0x0D) ∧
    (∀ (own : Nat) (adc ms : Nat), s.b.d.chg.phase.active = true → s.b.d.mainAvailable = true →
      8 * adc < 1000 * ((own : Int) - adc).natAbs → 1000 ≤ ms →
      Gives (.chargerFaultStop (.crossCheck own adc ms)) s fun d => ChgStopped s.b.d d 69 0x0A) ∧
    (∀ mv, s.b.d.chg.drvRestart = true → mv < 8000 →
      Gives (.chgDrvRestart mv) s fun d => ChgStopped (s.b.d.chg' fun c => { c with drvRestart := false }) d 67 9) ∧
    (∀ mv, s.b.d.chg.drvRestart = true → 8000 ≤ mv →
      Gives (.chgDrvRestart mv) s fun d => d.chg = { s.b.d.chg with drvRestart := false } ∧
        (s.b.d.sticky 67 = false → d.faults.transient = satInc 32 s.b.d.faults.transient) ∧
        KeepsPower s d ∧ d = { s.b.d with power := d.power, chg := d.chg, faults := d.faults, nv := d.nv }) ∧
    (∀ sec, s.b.d.nat 0x2142 5 ≠ 0 → s.b.d.nat 0x2142 6 ≤ sec → s.b.d.coresRun = true →
      Gives (.chargerWatchdogExpiry sec) s fun d =>
          KeepsPower s d ∧ d = { s.b.d with
            power := d.power, chg := d.chg, timer := d.timer, faults := d.faults, dict := d.dict, nv := d.nv, jour := d.jour } ∧
          d.chg.wdExpired = true ∧ d.sticky 66 = true ∧
        d.int 0x2140 1 = s.b.d.int 0x2143 1 ∧ d.int 0x2140 2 = s.b.d.int 0x2143 2 ∧ d.int 0x2140 3 = s.b.d.int 0x2143 3)

namespace Sys2Proof.Machine

/-! ## Gauge (chapter 12) -/

/-- A gauge with a new measured offset of a modulator. -/
def withOffset (m : Modulator) (g : Gauge) (v : Int) : Gauge :=
  match m with
  | .modA => { g with offA := v }
  | .modB => { g with offB := v }

/-- Whether a modulator is excluded. -/
def modExcluded (m : Modulator) (g : Gauge) : Bool :=
  match m with
  | .modA => g.exclA
  | .modB => g.exclB

/-- Nothing but the gauge and what a report of it leaves has changed. -/
abbrev GaugeOnly (s : State) (d : Dev) : Prop :=
  KeepsPower s d ∧ d = { s.b.d with power := d.power, gauge := d.gauge, faults := d.faults, nv := d.nv }

end Sys2Proof.Machine

/-- The Abacus and the gauge's second (R322 to R327, R331, R334, R339 to R342): offsets, over-range, the count, the charge and
the voltage bound. -/
def Obligations.GaugeCountingComplete : Prop :=
  ∀ s : State, s.b.d.power.coreOn = true →
    (∀ m off again, modExcluded m s.b.d.gauge = false → off.natAbs ≤ 50000 →
      Gives (.modulatorCalibration m off again) s fun d => d = { s.b.d with gauge := withOffset m s.b.d.gauge off }) ∧
    (∀ m off again, modExcluded m s.b.d.gauge = false → 50000 < off.natAbs → again.natAbs ≤ 50000 →
      Gives (.modulatorCalibration m off again) s fun d => d.gauge = withOffset m s.b.d.gauge again ∧
        (s.b.d.sticky 71 = false → d.faults.transient = satInc 32 s.b.d.faults.transient) ∧ GaugeOnly s d) ∧
    (∀ m off again, modExcluded m s.b.d.gauge = false → 50000 < off.natAbs → 50000 < again.natAbs →
      Gives (.modulatorCalibration m off again) s fun d => d.sticky 71 = true ∧ modExcluded m d.gauge = true ∧
        GaugeOnly s d) ∧
    (∀ (uv : Int) us, 100000 < uv.natAbs →
      Gives (.shuntOverRange uv us) s fun d => d.gauge.ovr = true ∧ d.gauge.anchor = none ∧
        (1000 ≤ us → d.sticky 72 = true) ∧
        (s.b.d.chg.phase = .fastPulse → s.b.d.chgHeld = false → s.b.d.coresRun = true → d.chg.phase = .fastCc) ∧
        d.still = { s.b.d with gauge := { s.b.d.gauge with ovr := true, anchor := none } }.still) ∧
    (∀ a b main, s.b.d.gauge.exclB = false → Gives (.gaugeSecond ⟨[(a, b)], main⟩) s fun d =>
        d.gauge.count = clampInt (-(2 ^ 63)) (2 ^ 63 - 1) (s.b.d.gauge.count +
          (s.b.d.gauge.part + clampInt (-8000000000) 8000000000 (80 * (b - s.b.d.gauge.offBOld))) / 320000)) ∧
    (∀ m : GaugeMeas, let x := s.b.d.secondOf m.frames
      s.b.d.estimatesRun = false → x.disagree = false → s.b.d.gauge.disagreed = false →
      Gives (.gaugeSecond m) s fun d => d.gauge = { s.b.d.gauge with
          count := clampInt (-(2 ^ 63)) (2 ^ 63 - 1) (s.b.d.gauge.count + x.delta)
          unadded := s.b.d.gauge.unadded + x.delta, part := x.part, tail := x.tail, offBOld := s.b.d.gauge.offB
          restS := if x.quiet then s.b.d.gauge.restS + 1 else 0, meanMA := x.meanMA, frameMA := x.frameMA, ovr := x.overRange
          anchor := if x.overRange then none else s.b.d.gauge.anchor } ∧
        d = { s.b.d with gauge := d.gauge, chg := { s.b.d.chg with sessionS := d.chg.sessionS } } ∧
        (s.b.d.chg.phase.active = true → s.b.d.chgHeld = false → d.chg.sessionS = satInc 32 s.b.d.chg.sessionS) ∧
        (s.b.d.chg.phase.active = false ∨ s.b.d.chgHeld = true → d.chg.sessionS = s.b.d.chg.sessionS)) ∧
    (∀ m : GaugeMeas, let x := s.b.d.secondOf m.frames
      x.disagree = true → s.b.d.gauge.disagreed = true → Gives (.gaugeSecond m) s fun d => d.sticky 70 = true ∧
        d.gauge.disagreed = false) ∧
    (∀ m : GaugeMeas, let x := s.b.d.secondOf m.frames
      s.b.d.estimatesRun = true → x.disagree = false → s.b.d.gauge.disagreed = false → s.b.d.gaugeReady = true →
      s.b.d.gauge.frozen = false → (if x.quiet then s.b.d.gauge.restS + 1 else 0) < s.b.d.nat 0x2180 8 → x.steady = false →
      Gives (.gaugeSecond m) s fun d =>
          d = { s.b.d with gauge := d.gauge, chg := d.chg, timer := d.timer } ∧
          d.gauge.rc = clampInt 0 s.b.d.gauge.fcc (s.b.d.gauge.rc + (s.b.d.gauge.unadded + x.delta)) ∧
        d.gauge.cycles = (s.b.d.gauge.addCharge (s.b.d.gauge.unadded + x.delta)).cycles ∧
        d.gauge.fcc = s.b.d.gauge.fcc ∧ d.gauge.unadded = 0 ∧ d.gauge.rested = false ∧ d.gauge.vbound = false ∧
        d.gauge.bound = 0xFFFF) ∧
    (∀ (m : GaugeMeas) (g : Gauge), let x := s.b.d.secondOf m.frames
      g = s.b.d.gauge.addCharge (s.b.d.gauge.unadded + x.delta) →
      s.b.d.estimatesRun = true → x.disagree = false → s.b.d.gauge.disagreed = false → s.b.d.estimateValid = true →
      g.frozen = false → g.fcc ≠ 0 → g.vunav = false → g.emptied = false → g.fresh = false →
      (if x.quiet then s.b.d.gauge.restS + 1 else 0) < s.b.d.nat 0x2180 8 → x.steady = true →
      Gives (.gaugeSecond m) s fun d =>
          ChargeOnly s d ∧
          d.gauge.bound = fraction (s.b.d.ocv (s.b.d.loadedCellMv m.mainMv x.meanMA - 2 * s.b.d.gs 6)) ∧
        (s.b.d.ocv (s.b.d.loadedCellMv m.mainMv x.meanMA - 2 * s.b.d.gs 6) ≤ (g.rc : Rat) / g.fcc →
          d.gauge.rc = g.rc ∧ d.gauge.vbound = false) ∧
        ((g.rc : Rat) / g.fcc < s.b.d.ocv (s.b.d.loadedCellMv m.mainMv x.meanMA - 2 * s.b.d.gs 6) →
          d.gauge.vbound = true ∧
          d.gauge.rc = Rat.floor (s.b.d.ocv (s.b.d.loadedCellMv m.mainMv x.meanMA - 2 * s.b.d.gs 6) * g.fcc))) ∧
    (∀ main own ms (pack : Int), s.b.d.gauge.present = true → s.b.d.gauge.empty = false → pack < 0 → 1000 ≤ ms →
      s.b.d.estimatesRun = true → (if s.b.d.gauge.vunav then own else main) ≤ s.b.d.endOfDischarge →
      Gives (.emptyRequest main own ms pack) s fun d =>
          d.still = { s.b.d with gauge := d.gauge }.still ∧
          d.gauge.empty = true ∧ d.gauge.emptied = true ∧
        d.gauge.rc = s.b.d.beadsAt s.b.d.reserve ∧ d.sticky 75 = true)

/-- Estimates (R338, R355), impedance (R345 to R347) and the gauge store (R352 to R354). -/
def Obligations.GaugeEstimatesComplete : Prop :=
  ∀ s : State, s.b.d.power.coreOn = true →
    (s.b.d.estimatesRun = true → s.b.d.gauge.present = true → s.b.d.gaugeReady = true →
      (∀ main ms, s.b.d.gauge.waiting = true → 2000 ≤ ms →
        Gives (.insertionEstimate main ms) s fun d => d = { s.b.d with gauge := { s.b.d.gauge with
          rc := s.b.d.beadsAt (s.b.d.ocv (s.b.d.cellMv main))
          uncertainty := fraction (s.b.d.ocv (s.b.d.cellMv main) - s.b.d.ocv (s.b.d.cellMv main - s.b.d.gs 6))
          estValid := true, frozen := false, quality := 1, estTime := s.b.hw.counter, waiting := false, wakeDue := false
          empty := false } }) ∧
      (∀ main pack waited steady, s.b.d.gauge.waiting = true → 10000 ≤ waited → 1000 ≤ steady →
        Gives (.insertionEstimateUnderLoad main pack waited steady) s fun d => d = { s.b.d with gauge := d.gauge } ∧
          d.gauge.rc = s.b.d.beadsAt (s.b.d.ocv (s.b.d.loadedCellMv main pack)) ∧ d.gauge.estValid = true ∧
          d.gauge.quality = 2 ∧ d.gauge.estTime = s.b.hw.counter ∧ d.gauge.frozen = false) ∧
      (∀ main ms, s.b.d.gauge.wakeDue = true → 2000 ≤ ms →
        Gives (.wakeEstimate main ms) s fun d => d = { s.b.d with gauge := { s.b.d.gauge with
          rc := clampInt 0 s.b.d.gauge.fcc (s.b.d.gauge.rc +
            clampInt (-s.b.d.beadsAt ((s.b.d.gauge.uncertainty : Rat) / 10000)) (s.b.d.beadsAt ((s.b.d.gauge.uncertainty : Rat) / 10000))
              (s.b.d.beadsAt (s.b.d.ocv (s.b.d.cellMv main)) - s.b.d.gauge.rc))
          uncertainty := 0, quality := 3, wakeDue := false } })) ∧
    (∀ charger before now mainUv, s.b.d.coresRun = true → s.b.d.gaugeAccepts = true →
      charger = true ∨ (s.b.d.gauge.meas = none ∧ naturalStep before now = true) →
      Gives (.impedanceEdge charger before now mainUv) s fun d => d = { s.b.d with gauge := { s.b.d.gauge with meas := some {
        v0 := meanInt mainUv, i0 := meanInt (before.drop (before.length - 4)), charger := charger
        edgeTime := s.b.hw.counter } } }) ∧
    (∀ (m : ImpMeas) before now mainUv, s.b.d.gauge.meas = some m → m.charger = true → s.b.hw.counter ≤ m.edgeTime + 8 →
      Gives (.impedanceEdge false before now mainUv) s fun d => d = s.b.d) ∧
    (∀ (m : ImpMeas) (uv : Int) frames, s.b.d.gauge.meas = some m → m.next = 0 → 2000 ≤ (frames.getLastD 0 - m.i0).natAbs →
      Gives (.impedanceMeasurementInstant 0 uv frames) s fun d =>
        d = { s.b.d with gauge := { s.b.d.gauge with meas := some { m with i1 := frames.getLastD 0, v1 := uv, next := 1 } } }) ∧
    (∀ (m : ImpMeas) (uv : Int) frames, s.b.d.gauge.meas = some m → m.next = 1 → m.inBand frames = true →
      s.b.d.gauge.rS.taken < 4 → s.b.d.gauge.rF.taken < 4 →
      Gives (.impedanceMeasurementInstant 1 uv frames) s fun d => d = { s.b.d with gauge := d.gauge } ∧
        d.gauge.rS = ⟨termOf (m.v1 - m.v0) (m.i1 - m.i0), s.b.d.gauge.rS.taken + 1⟩ ∧
        d.gauge.rF = ⟨termOf (uv - m.v1) (m.i1 - m.i0), s.b.d.gauge.rF.taken + 1⟩ ∧
        d.gauge.meas = some { m with v10 := uv, next := 2 }) ∧
    (∀ (m : ImpMeas) (uv : Int) frames, s.b.d.gauge.meas = some m → m.next = 2 → m.inBand frames = true →
      s.b.d.gauge.rL.taken < 4 →
      Gives (.impedanceMeasurementInstant 2 uv frames) s fun d => d = { s.b.d with gauge := d.gauge } ∧
        d.gauge.rL = ⟨termOf (uv - m.v10) (m.i1 - m.i0), s.b.d.gauge.rL.taken + 1⟩ ∧ d.gauge.meas = none) ∧
    (∀ (m : ImpMeas) (k : Fin 3) (uv : Int) frames, s.b.d.gauge.meas = some m → m.next = k.val → k ≠ 0 → m.inBand frames = false →
      Gives (.impedanceMeasurementInstant k uv frames) s fun d =>
        d = { s.b.d with gauge := { s.b.d.gauge with meas := none } }) ∧
    (s.b.d.gauge.due = true → s.b.d.gauge.writing = none → s.b.d.shipCommitAdmitted gaugeUs = true →
      Gives .gaugeStoreWrite s fun d => d = { s.b.d with gauge := { s.b.d.gauge with
        writing := some (s.b.d.storeRecord s.b.hw.counter), due := false, counted := false, shipW := false } }) ∧
    (s.b.d.gauge.due = true → s.b.d.gauge.writing = none → s.b.d.shipCommitAdmitted gaugeUs = false →
      s.b.d.path.warning = true → s.b.d.gauge.counted = false →
      Gives .gaugeStoreWrite s fun d => d = { s.b.d with gauge := { s.b.d.gauge with
        deferred := satInc 32 s.b.d.gauge.deferred, counted := true } }) ∧
    (∀ r c, s.b.d.gauge.writing = some r → s.b.d.power.test = false → s.b.d.gauge.newest = some (0, c) →
      Gives (.gaugeStoreWriteComplete .first) s fun d => d = { s.b.d with
        gauge := { s.b.d.gauge with writing := none, copy1 := some r, rcWritten := r.rc }
        life := { s.b.d.life with pageWrites := satAdd 64 s.b.d.life.pageWrites 2 } }) ∧
    (∀ r, s.b.d.gauge.writing = some r → s.b.d.power.test = false → s.b.d.gauge.newest = none →
      Gives (.gaugeStoreWriteComplete .failed) s fun d =>
          d.still = { s.b.d with gauge := d.gauge, nv := d.nv, life := d.life }.still ∧
          d.sticky 74 = true ∧ d.gauge.copy0 = none ∧
        d.gauge.copy1 = s.b.d.gauge.copy1 ∧ d.gauge.writing = none)

namespace Sys2Proof.Machine

/-! ## Thermal (chapter 13) -/

/-- Twelve die temperatures that agree: no two further apart than the 18 °C of the cross-check (R369). -/
abbrev DiesAgree (temps : List Int) : Prop := temps.length = 12 ∧ ∀ a ∈ temps, ∀ b ∈ temps, a - b ≤ 288

/-- The core domain is without supply: but for what Table 2-7 keeps, nothing is left of it. -/
abbrev Unpowered (d : Dev) : Prop :=
  d = { d.kept with power := { state := d.power.state, coreOn := false, brownOut := d.power.brownOut } } ∧
    d.path.dPair = .off ∧ d.path.bPair = .off ∧ ∀ x, d.branchOn x = false

/-- What lies in non-volatile storage and in OTP is as it was, but for the log and the ends of journal entries. -/
abbrev Stored (d d' : Dev) : Prop :=
  d'.nv.banks = d.nv.banks ∧ d'.nv.remap = d.nv.remap ∧ d'.otp.words = d.otp.words ∧ d'.recs = d.recs ∧
    d'.gauge.copy0 = d.gauge.copy0 ∧ d'.gauge.copy1 = d.gauge.copy1

/-- Whether no die sensor is broken and no injection runs. -/
abbrev DiesGood (d : Dev) : Prop := d.power.test = false ∧ ∀ n : Fin 28, n.val < 12 → d.th.sensor[n].broken = false

end Sys2Proof.Machine

/-- Samples of the three groups (R360 to R370) and the thermal latch (R35, R368). -/
def Obligations.ThermalComplete : Prop :=
  ∀ s : State, s.b.d.power.coreOn = true →
    (∀ temps, s.b.d.sampled true = true → s.b.d.coresRun = true → DiesGood s.b.d → DiesAgree temps →
      (∀ v ∈ temps, v < s.b.d.thr 0 3) →
      Gives (.dieSample temps) s fun d =>
        KeepsPower s d ∧ d = { s.b.d with power := d.power, th := d.th, life := d.life, faults := d.faults, nv := d.nv } ∧
        ∀ n : Fin 28, n.val < 12 → d.th.sensor[n].reading = temps.getD n.val 0 ∧ d.th.sensor[n].suspect = false ∧
          d.th.sensor[n].broken = false) ∧
    (∀ temps, ∀ n : Fin 28, s.b.d.sampled true = true → s.b.d.coresRun = true → DiesGood s.b.d → DiesAgree temps →
      n.val < 12 → s.b.d.isMember n = true → 1 ≤ s.b.d.th.sensor[n].shut → s.b.d.thr 0 3 ≤ temps.getD n.val 0 →
      GivesBody (.dieSample temps) s fun b =>
          b.hw = { s.b.hw with thermalLatch := true } ∧ b.host = s.b.host ∧
          b.d.power.state = .off ∧ Unpowered b.d ∧ Stored s.b.d b.d ∧
          b.d.path.dcinValid = s.b.d.path.dcinValid ∧ b.d.path.batValid = s.b.d.path.batValid ∧
          b.d.life.latches = satInc 16 s.b.d.life.latches) ∧
    (∀ ratios, s.b.d.sampled false = true → s.b.d.power.test = false → s.b.d.noConverter = false → ratios.length = 8 →
      (∀ x ∈ ratios, 3 * 4096 ≤ x * 100 ∧ x * 100 ≤ 97 * 4096) →
      (∀ n : Fin 28, 12 ≤ n.val → n.val < 20 → s.b.d.th.sensor[n].broken = false ∧ s.b.d.th.sensor[n].shut = 0) →
      Gives (.remoteSample ratios) s fun d =>
          KeepsPower s d ∧
          d = { s.b.d with
            power := d.power, chg := d.chg, timer := d.timer, th := d.th, faults := d.faults, nv := d.nv } ∧
        ∀ n : Fin 28, 12 ≤ n.val → n.val < 20 → d.th.sensor[n].broken = false ∧ d.th.sensor[n].reading =
          if s.b.d.isMember n = true ∨ n ∈ s.b.d.windowInputs then
            Config.ntcTemp (ratios.getD (n.val - 12) 0) (s.b.d.nat 0x2404 (n.val - 11)) (s.b.d.nat 0x2405 (n.val - 11))
          else s.b.d.th.sensor[n].reading) ∧
    (∀ ratios, ∀ n : Fin 28, s.b.d.sampled false = true → s.b.d.power.test = false → ratios.length = 8 → 12 ≤ n.val →
      n.val < 20 → (s.b.d.isMember n = true ∨ n ∈ s.b.d.windowInputs) →
      ratios.getD (n.val - 12) 0 * 100 < 3 * 4096 ∨ 97 * 4096 < ratios.getD (n.val - 12) 0 * 100 →
      1 ≤ s.b.d.th.sensor[n].bad → s.b.d.th.sensor[n].broken = false →
      (∀ k : Fin 28, 12 ≤ k.val → k.val < 20 → s.b.d.th.sensor[k].shut = 0) →
      Gives (.remoteSample ratios) s fun d =>
          d.still = { s.b.d with chg := d.chg, th := d.th }.still ∧
          d.th.sensor[n].broken = true ∧ d.th.sensor[n].reading = s.b.d.th.sensor[n].reading ∧ d.sticky 82 = true) ∧
    (∀ mvs, s.b.d.sampled false = true → s.b.d.power.test = false → s.b.d.noConverter = false → mvs.length = 8 →
      (∀ x ∈ mvs, 250 ≤ x ∧ x ≤ 2750) → (∀ n : Fin 28, 20 ≤ n.val → s.b.d.th.sensor[n].broken = false) →
      Gives (.stageSample mvs) s fun d =>
          d.still = { s.b.d with grove := d.grove, th := d.th }.still ∧
          ∀ n : Fin 28, 20 ≤ n.val → d.th.sensor[n].reading =
            if s.b.d.isMember n = true then s.b.d.stageTemp (n.val - 20) (mvs.getD (n.val - 20) 0)
            else s.b.d.th.sensor[n].reading) ∧
    (∀ mvs, ∀ n : Fin 28, ∀ r : Rail, s.b.d.sampled false = true → s.b.d.power.test = false → s.b.d.noConverter = false →
      mvs.length = 8 → n.val = 20 + r.val → s.b.d.isMember n = true → 250 ≤ mvs.getD r.val 0 → mvs.getD r.val 0 ≤ 2750 →
      s.b.d.th.sensor[n].broken = false → s.b.d.thr 2 3 ≤ s.b.d.stageTemp r.val (mvs.getD r.val 0) →
      1 ≤ s.b.d.th.sensor[n].shut → r.val ∉ s.b.d.th.hotStages → s.b.d.grove.rail[r].mode ≠ .off →
      (∀ k : Fin 28, 20 ≤ k.val → k ≠ n → s.b.d.th.sensor[k].shut = 0) →
      Gives (.stageSample mvs) s fun d =>
          d.still = { s.b.d with grove := d.grove, th := d.th }.still ∧
          RailTripped d r 0x0C s.b.hw.counter ∧ d.sticky 88 = true) ∧
    (∀ n, 2 ≤ n →
      Gives (.dieConverterMissing n) s fun d =>
          d.still = { s.b.d with th := d.th }.still ∧
          d.th.missing = true ∧ d.th.throttle = true ∧ d.sticky 91 = true ∧
        d.grove = s.b.d.grove ∧ d.integ = s.b.d.integ)

namespace Sys2Proof.Machine

/-! ## Converters (chapter 14) and timers (chapter 15) -/

end Sys2Proof.Machine

/-- HKADC-A and HKADC-B (R379 to R392): requests, regular results, the host's result, and the cross-check. -/
def Obligations.ConvertersComplete : Prop :=
  ∀ s : State, s.b.d.power.coreOn = true → s.b.d.power.state ≠ .standby → s.b.d.power.test = false →
    (∀ q, s.b.d.conv.a.excluded = false ∨ s.b.d.conv.taken = true → s.b.d.conv.a.pending.length < 4 →
      Gives (.injectedTrigger .cA q) s fun d => d = { s.b.d with conv := { s.b.d.conv with
        a := { s.b.d.conv.a with pending := s.b.d.conv.a.pending ++ [q] } } }) ∧
    (s.b.d.conv.a.excluded = false → 4 ≤ s.b.d.conv.a.pending.length →
      Gives (.injectedTrigger .cA .gauge) s fun d => d = { s.b.d with
        conv := { s.b.d.conv with refused := satInc 32 s.b.d.conv.refused }, gauge := { s.b.d.gauge with meas := none } }) ∧
    (∀ q, s.b.d.conv.b.excluded = false → s.b.d.conv.taken = false → s.b.d.conv.b.inject = false →
      Gives (.injectedTrigger .cB q) s fun d => d = { s.b.d with conv := { s.b.d.conv with
        b := { s.b.d.conv.b with inject := true } } }) ∧
    (∀ code, s.b.d.conv.a.excluded = false → s.b.d.conv.a.failsCheck = false → s.b.d.conv.b.failsCheck = false →
      (s.b.d.conv.a.entry < 8 ∨ s.b.d.conv.a.entry = 13 ∨ s.b.d.conv.a.entry = 14 →
        Gives (.regularConversionEnd .cA code) s fun d => d = { s.b.d with conv := { s.b.d.conv with
          a := s.b.d.conv.a.stepA code } }) ∧
      (s.b.d.conv.a.entry = 8 → s.b.d.conv.excludedNode ≠ some 0x17 →
        Gives (.regularConversionEnd .cA code) s fun d =>
          d.still = { s.b.d with path := d.path, conv := d.conv, free := d.free }.still ∧
          d.path = { s.b.d.path with vsysMv := codeMv 80000 code } ∧ d.conv.a = s.b.d.conv.a.stepA code) ∧
      (s.b.d.conv.a.entry = 9 → s.b.d.conv.excludedNode ≠ some 0x14 →
        Gives (.regularConversionEnd .cA code) s fun d => d = { s.b.d with
          path := { s.b.d.path with dcinMv := codeMv 80000 code }
          conv := { s.b.d.conv with a := s.b.d.conv.a.stepA code } }) ∧
      (s.b.d.conv.a.entry = 10 → s.b.d.conv.excludedNode ≠ some 0x15 →
        Gives (.regularConversionEnd .cA code) s fun d => d = { s.b.d with
          path := { s.b.d.path with batMv := codeMv 80000 code }
          chg := { s.b.d.chg with region := d.chg.region }
          conv := { s.b.d.conv with a := s.b.d.conv.a.stepA code } }) ∧
      (s.b.d.conv.a.entry = 11 → s.b.d.conv.excludedNode ≠ some 0x18 →
        Gives (.regularConversionEnd .cA code) s fun d => d = { s.b.d with
          path := { s.b.d.path with vpreMv := codeMv 10000 code }
          conv := { s.b.d.conv with a := s.b.d.conv.a.stepA code } })) ∧
    (∀ code : Nat, s.b.d.conv.a.excluded = false → s.b.d.conv.a.entry = 15 → code < 2036 ∨ 2060 < code →
      1 ≤ s.b.d.conv.a.checkFails → s.b.d.conv.b.failsCheck = false →
      Gives (.regularConversionEnd .cA code) s fun d =>
          d.still = { s.b.d with chg := d.chg, gauge := d.gauge, conv := d.conv }.still ∧
          d.conv.a.excluded = true ∧ d.conv.a.check = code ∧
        d.sticky 93 = true ∧ d.gauge.vunav = true ∧ (s.b.d.conv.b.excluded = false → d.conv.taken = true)) ∧
    (∀ code, s.b.d.conv.b.excluded = false → s.b.d.conv.taken = false → s.b.d.conv.running = true →
      24 ≤ s.b.d.nat 0x2441 5 →
      Gives (.regularConversionEnd .cB code) s fun d => d = { s.b.d with conv := d.conv } ∧ d.conv.full = true ∧
        d.conv.lost = false ∧ d.conv.word = streamWord s.b.d.conv.b.entry s.b.d.conv.b.passes
          (s.b.d.conv.lost || s.b.d.conv.full) (alignCode (s.b.d.nat 0x2441 4 = 1)
            (entryDiff (s.b.d.nat 0x2442 (s.b.d.conv.b.entry + 1)) ||
              decide (entryCh (s.b.d.nat 0x2442 (s.b.d.conv.b.entry + 1)) = 0x13)) code)) ∧
    (∀ m : CrossMeas, s.b.d.conv.b.excluded = false → s.b.d.conv.taken = false → s.b.d.coresRun = true →
      s.b.d.conv.a.excluded = false → 2036 ≤ m.checkA → m.checkA ≤ 2060 → 2036 ≤ m.checkB → m.checkB ≤ 2060 →
      ((m.mainB : Int) - m.mainA).natAbs ≤ 16 → ((m.vsysB : Int) - m.vsysA).natAbs ≤ 16 →
      ((m.checkB : Int) - m.checkA).natAbs ≤ 16 → ((m.nodeB : Int) - m.nodeA).natAbs ≤ 16 →
      Gives (.crossCheckRun m) s fun d => d.conv.a.check = m.checkA ∧
        d.conv.b.check = m.checkB ∧ d.conv.disagreements = s.b.d.conv.disagreements ∧
        (s.b.d.conv.excludedNode = none →
          d = { s.b.d with conv := d.conv } ∧ d.conv.rotate = (s.b.d.conv.rotate + 1) % 52) ∧
        (s.b.d.conv.excludedNode = some 0x14 → d = { s.b.d with
          conv := d.conv, path := { s.b.d.path with dcinMv := codeMv 80000 m.nodeB } })) ∧
    (∀ m : CrossMeas, s.b.d.conv.b.excluded = false → s.b.d.conv.taken = false → s.b.d.coresRun = true →
      s.b.d.conv.a.excluded = false → s.b.d.conv.excludedNode = none → s.b.d.conv.counts.get 0x16 = some 2 →
      2036 ≤ m.checkA → m.checkA ≤ 2060 → 2036 ≤ m.checkB → m.checkB ≤ 2060 →
      16 < ((m.mainB : Int) - m.mainA).natAbs → ((m.vsysB : Int) - m.vsysA).natAbs ≤ 16 →
      ((m.checkB : Int) - m.checkA).natAbs ≤ 16 → ((m.nodeB : Int) - m.nodeA).natAbs ≤ 16 →
      Gives (.crossCheckRun m) s fun d =>
          d.still = { s.b.d with chg := d.chg, gauge := d.gauge, conv := d.conv }.still ∧
          d.conv.disagreements = satInc 32 s.b.d.conv.disagreements ∧
        d.conv.excludedNode = some 0x16 ∧ d.sticky 92 = true ∧ d.sticky 95 = true ∧ d.gauge.vunav = true)

namespace Sys2Proof.Machine

/-- A trigger event with a code reaches HKADC-B where mode 0x02 waits for it (R387): a pass starts, or is missed while one runs. -/
abbrev TimerTrigger (d d' : Dev) (code : Nat) : Prop :=
  d.nat 0x2441 1 = 2 → d.nat 0x2441 3 = code → d.conv.taken = false → d.conv.b.excluded = false →
    d.power.state ≠ .standby → d'.conv.running = true ∧
      (d.conv.running = false → d'.conv.b.entry = 0 ∧ d'.conv.missed = d.conv.missed) ∧
      (d.conv.running = true → d'.conv.missed = satInc 32 d.conv.missed)

end Sys2Proof.Machine

/-- Timers (R397 to R407): compare matches, turn-arounds, captures, and the trigger of HKADC-B. -/
def Obligations.TimersComplete : Prop :=
  ∀ (s : State) (n : TimerNo), s.b.d.power.coreOn = true → s.b.d.tmCounts n = true →
    (s.b.d.timer[n].regs.cmp ≤ s.b.d.timer[n].regs.top →
      Gives (.timerCompareMatch n) s fun d => d.timer[n] = { s.b.d.timer[n] with
          regs := { s.b.d.timer[n].regs with
            cmf := true, cnt := s.b.d.timer[n].regs.cmp
            cmp := if n = 7 ∧ s.b.d.tmReserved n = true then nextCompare s.b.d.timer[n].regs.cmp else s.b.d.timer[n].regs.cmp } } ∧
        ((s.b.d.tmCtl n).testBit 9 = false ∨ s.b.d.tmReserved n = true → d = { s.b.d with timer := d.timer }) ∧
        ((s.b.d.tmCtl n).testBit 9 = true → s.b.d.tmReserved n = false → TimerTrigger s.b.d d n.val) ∧
        ((s.b.d.tmCtl n).testBit 9 = true → s.b.d.tmReserved n = false → s.b.d.tmWake n = true →
          s.b.d.power.state = .standby → d.power.state = .run ∧ d.power.wakeSource = 5)) ∧
    (s.b.d.timer[n].regs.up = true → Gives (.turnAround n true) s fun d => d.timer[n] = { s.b.d.timer[n] with
          regs := { s.b.d.timer[n].regs with
            cnt := s.b.d.timer[n].regs.top, up := false, hpc := (s.b.d.timer[n].regs.hpc + 1) % 256, ttf := true } } ∧
        ((s.b.d.tmCtl n).testBit 8 = false ∨ s.b.d.tmReserved n = true → d = { s.b.d with timer := d.timer }) ∧
        ((s.b.d.tmCtl n).testBit 8 = true → s.b.d.tmReserved n = false → TimerTrigger s.b.d d (0x10 + n.val))) ∧
    (s.b.d.timer[n].regs.up = false → Gives (.turnAround n false) s fun d => d.timer[n] = { s.b.d.timer[n] with
          regs := { s.b.d.timer[n].regs with
            cnt := 0, up := true, hpc := (s.b.d.timer[n].regs.hpc + 1) % 256, tbf := true
            psc := if s.b.d.tmReserved n then s.b.d.timer[n].regs.psc else s.b.d.tm n 2
            top := if s.b.d.tmReserved n then s.b.d.timer[n].regs.top else s.b.d.tm n 3
            cmp := if s.b.d.tmReserved n then s.b.d.timer[n].regs.cmp else s.b.d.tm n 4 } } ∧
        ((s.b.d.tmCtl n).testBit 7 = false ∨ s.b.d.tmReserved n = true → d = { s.b.d with timer := d.timer }) ∧
        ((s.b.d.tmCtl n).testBit 7 = true → s.b.d.tmReserved n = false → TimerTrigger s.b.d d (0x10 + n.val))) ∧
    (∀ (k : Fin 4) rising samples counter, n.val = k.val → s.b.d.tmCtl n / 4096 % 4 = 2 → s.b.d.tm n 8 ≤ samples →
      edgeSelected (s.b.d.tmCtl n / 1024 % 4) rising = true →
      (s.b.d.timer[n].regs.edges + 1) % 2 ^ s.b.d.tm n 9 = 0 →
      Gives (.capture k rising samples counter) s fun d => d = { s.b.d with timer := d.timer } ∧ d.timer[n] = { s.b.d.timer[n] with
        regs := { s.b.d.timer[n].regs with
          edges := s.b.d.timer[n].regs.edges + 1, cnt := counter % 65536, cpf := true
          ovc := s.b.d.timer[n].regs.ovc || s.b.d.timer[n].regs.cpf
          word := s.b.d.timer[n].regs.hpc * 2 ^ 24 + ofBool s.b.d.timer[n].regs.up * 2 ^ 16 + counter % 65536 } })

namespace Sys2Proof.Machine

/-! ## Watchdogs (chapter 16) -/

/-- What a WD-C failure leaves (R417): a core restart with cause 0x04, the retained count and time, the reason and the source. -/
abbrev WdcFailed (b b' : Body) (reason : Nat) : Prop :=
  b'.hw = { b.hw with lastCause := 4, lastResetTime := b.hw.counter, wdcResets := satInc 16 b.hw.wdcResets, wdcTime := b.hw.counter } ∧
    b'.host = b.host ∧ b'.d.wdc.reason = reason ∧ b'.d.sticky (115 + reason) = true

/-- WD-C (R415 to R419). -/
def CoreWatchdogComplete : Prop :=
  ∀ s : State, s.b.d.power.coreOn = true → s.b.d.wdcRuns = true →
    (∀ stamp, s.b.d.wdcOpens ≤ stamp → stamp < s.b.d.wdcPeriod →
      Gives (.wdCService 0x5EED stamp) s fun d => d = { s.b.d with wdc := { s.b.d.wdc with first := false } }) ∧
    (∀ key stamp, key ≠ 0x5EED → GivesBody (.wdCService key stamp) s fun b =>
        b.d.still = { s.b.d with
          grove := b.d.grove, wdc := b.d.wdc, portA := b.d.portA, portB := b.d.portB, dict := b.d.dict, pool := b.d.pool
          jour := b.d.jour, nv := b.d.nv, otp := b.d.otp, test := b.d.test }.still ∧
        WdcFailed s.b b 2) ∧
    (∀ tick, s.b.d.wdcPeriod ≤ tick → GivesBody (.wdCExpiry tick) s fun b =>
        b.d.still = { s.b.d with
          grove := b.d.grove, wdc := b.d.wdc, portA := b.d.portA, portB := b.d.portB, dict := b.d.dict, pool := b.d.pool
          jour := b.d.jour, nv := b.d.nv, otp := b.d.otp, test := b.d.test }.still ∧
        WdcFailed s.b b 1) ∧
    (∀ tick, tick < s.b.d.wdcPeriod → Gives (.wdCExpiry tick) s fun d => d = s.b.d)

/-- WD-H (R420 to R429): a period that is not completed fails; the pulse on nHRST, its read-back and the freeze input. -/
def HostWatchdogComplete : Prop :=
  ∀ s : State, s.b.d.power.coreOn = true →
    (∀ tick, s.b.d.wdhJudges = true → s.b.d.wdh.late ≤ tick →
      GivesBody (if s.b.d.wdh.grace then .graceEnd tick else .wdHMissing tick) s fun b =>
          b.d.still = s.b.d.still ∧
          b.hw = { s.b.hw with wdhFails := satInc 16 s.b.hw.wdhFails } ∧ b.host = s.b.host ∧ b.d.sticky 118 = true ∧
          b.d.wdh.reason = 2 ∧ b.d.wdh.task = 0xFF ∧ b.d.wdh.missing = s.b.d.wdh.mask &&& (65535 - s.b.d.wdh.tally) ∧
          b.d.wdh.failTime = s.b.hw.counter ∧
          (s.b.d.nat 0x24C4 6 = 0 ∨ s.b.d.power.state = .safe →
            b.d.wdh.hrstLow = true ∧ b.d.wdh.armed = false ∧ b.d.wdh.action = some 0) ∧
          (s.b.d.nat 0x24C4 6 = 1 → s.b.d.power.state = .run → s.b.d.seq.state = .idle → b.d.wdh.action = some 1) ∧
          (s.b.d.nat 0x24C4 6 = 2 → s.b.d.power.state = .run → s.b.d.seq.state = .idle → s.b.d.slaveJoined = false →
            s.b.d.path.ship ≠ .pastReturn → b.d.seq.order = .safeOff ∨ b.d.power.state = .safe)) ∧
    (∀ ms, s.b.d.wdh.hrstLow = true → s.b.d.wdh.width ≤ ms →
      Gives (.nhrstPulseEnd ms) s fun d => d = { s.b.d with wdh := d.wdh } ∧ d.wdh.hrstLow = false ∧ d.wdh.action = none) ∧
    (s.b.d.wdh.hrstLow = true → s.b.d.wdh.readBack = false →
      Gives (.nhrstReadBack true) s fun d => d.wdh.readBack = true ∧ d.sticky 119 = true ∧ d.still = s.b.d.still) ∧
    (∀ high, Gives (.hfrz high) s fun d => d = { s.b.d with wdh := { s.b.d.wdh with hfrz := high } } ∧
      d.wdhFrozen = (high && s.b.d.debugOpen) ∧ (high = true → s.b.d.debugOpen = true → d.wdhJudges = false))

end Sys2Proof.Machine

/-- WD-C and WD-H. -/
def Obligations.WatchdogsComplete : Prop := Sys2Proof.Machine.CoreWatchdogComplete ∧ Sys2Proof.Machine.HostWatchdogComplete

namespace Sys2Proof.Machine

/-! ## Fault collector (chapter 17) -/

/-- A reaction timer that runs out escalates its source (R437, Table 17-1), and each escalation code has its effect
(Table 17-2); in HOLDUP it is owed (R445). -/
def EscalationsComplete : Prop :=
  ∀ (s : State) (src : Source) (us : Nat), s.b.d.power.coreOn = true → s.b.d.srcState src.val = .timing →
    s.b.d.nat 0x2511 (src.val + 1) ≤ us →
    Gives (.reactionTimerExpiry src us) s fun d =>
      d.srcState src.val = .escalated ∧ d.still = s.b.d.still ∧
      (s.b.d.power.state = .holdup → d.faults.owed = s.b.d.faults.owed ++ [src.val]) ∧
      (s.b.d.power.state ≠ .holdup →
        (∀ b, s.b.d.escalation src.val = 1 → sourceBranch src.val = some b → d.branchOn b = false) ∧
        (s.b.d.escalation src.val = 2 → d.int 0x2140 1 = 0 ∧ d.chg.phase = .disabled) ∧
        (s.b.d.escalation src.val = 3 ∨ s.b.d.escalation src.val = 4 → s.b.d.slaveJoined = false →
          s.b.d.power.state = .run → s.b.d.seq.state = .idle → s.b.d.path.ship ≠ .pastReturn →
          d.seq.order = .safeOff ∨ d.power.state = .safe) ∧
        (∀ b, s.b.d.escalation src.val = 4 → inMask s.b.d.safeSet b = false → d.branchOn b = false) ∧
        (s.b.d.escalation src.val = 5 → s.b.d.path.dcinValid = false → s.b.d.power.state = .run → s.b.d.path.ship = .none →
          s.b.d.seq.state = .idle →
          d.path.ship = .offOrder ∨ d.path.ship = .committing))

/-- nFAULT and the emergency messages (R440, R443, R444). -/
def SignalsComplete : Prop :=
  ∀ s : State, s.b.d.power.coreOn = true →
    (∀ us, 100 ≤ us → Gives (.nfaultPulseEnd us) s fun d => d = { s.b.d with faults := { s.b.d.faults with pulse := false } }) ∧
    (∀ e r since, s.b.d.faults.emcyA = e :: r → s.b.d.coresRun = true → s.b.d.power.state ≠ .standby →
      s.b.d.portA.sendsEmcy = true → s.b.d.nat 0x1015 0 ≤ since → (s.b.d.nat 0x1014 0).testBit 31 = false →
      s.b.d.portA.live = true → s.b.d.power.test = false →
      Gives (.emergencyMessage .a since) s fun d => d = { s.b.d with
        faults := { s.b.d.faults with emcyA := r }
        portA := { s.b.d.portA with sent := satInc 32 s.b.d.portA.sent }, out := .emcy .a e :: s.b.d.out }) ∧
    (∀ e r since, s.b.d.faults.emcyB = e :: r → s.b.d.coresRun = true → s.b.d.power.state ≠ .standby →
      s.b.d.portB.sendsEmcy = true → s.b.d.nat 0x1015 0 ≤ since → (s.b.d.nat 0x1014 0).testBit 31 = false →
      s.b.d.portB.live = true → s.b.d.power.test = false →
      Gives (.emergencyMessage .b since) s fun d => d = { s.b.d with
        faults := { s.b.d.faults with emcyB := r }
        portB := { s.b.d.portB with sent := satInc 32 s.b.d.portB.sent }, out := .emcy .b e :: s.b.d.out })

end Sys2Proof.Machine

/-- Escalation codes, nFAULT and emergency messages. -/
def Obligations.EscalationsAndSignalsComplete : Prop := Sys2Proof.Machine.EscalationsComplete ∧ Sys2Proof.Machine.SignalsComplete

namespace Sys2Proof.Machine

/-! ## Resets, clocks and wakes (chapters 2 and 3) -/

/-- The heartwood retained registers after a reset with a cause (R37, Table 2-3). -/
def Caused (h : Heartwood) (cause : Nat) : Heartwood := { h with lastCause := cause, lastResetTime := h.counter }

end Sys2Proof.Machine

/-- Power-on and brown-out resets (R37, R38, R61, R66, R86, R87). -/
def Obligations.PowerOnResetsComplete : Prop :=
  ∀ s : State,
    (∀ dcin bat, max dcin bat < 8000 → s.b.hw.powered = true →
      GivesBody (.heartwoodPowerOnReset dcin bat) s fun b => b.host = s.b.host ∧
        b.hw = { powered := false, lastCause := if s.b.hw.thermalLatch then 9 else 1, powerOnCount := 0 } ∧
        b.d.power.state = .off ∧ b.d.path.dcinValid = false ∧ b.d.path.batValid = false ∧ Unpowered b.d ∧ Stored s.b.d b.d) ∧
    (∀ dcin bat, 10000 < max dcin bat → s.b.hw.powered = false →
      GivesBody (.heartwoodPowerOnReset dcin bat) s fun b => b = { s.b with hw := { s.b.hw with powered := true } }) ∧
    (∀ dcin bat, (s.b.hw.powered = true ∧ 8000 ≤ max dcin bat) ∨ (s.b.hw.powered = false ∧ max dcin bat ≤ 10000) →
      GivesBody (.heartwoodPowerOnReset dcin bat) s fun b => b = s.b) ∧
    (∀ p : PowerOn, s.b.d.power.coreOn = false → s.b.hw.powered = true → s.b.hw.thermalLatch = false →
      s.b.hw.shipHold = false → 4650 < p.vpreMv →
      GivesBody (.devicePowerOnReset p) s fun b =>
        b.hw = { s.b.hw with
          powerOnCount := satInc 16 s.b.hw.powerOnCount, lastResetTime := s.b.hw.counter
          lastCause := if s.b.hw.powerOnCount = 0 then s.b.hw.lastCause else if s.b.d.power.brownOut then 3 else 2 } ∧
        b.host = s.b.host ∧ b.d.power.coreOn = true ∧ b.d.straps = sampleStraps p.node p.addr ∧
        b.d.nv.banks = s.b.d.nv.banks ∧ b.d.otp.words = s.b.d.otp.words ∧ b.d.path.dcinValid = s.b.d.path.dcinValid ∧
        ((s.b.d.recs.life.startUp lifeDefault).1 = none → b.d.life.powerOns = satInc 32 s.b.d.life.powerOns) ∧
        (∀ x, b.d.branchOn x = false)) ∧
    (∀ mv, s.b.d.power.coreOn = true → mv < 4200 → s.b.d.path.ship ≠ .pastReturn →
      Gives (.brownOutReset mv) s fun d => Unpowered d ∧ Stored s.b.d d ∧
        d.power.state = s.b.d.power.state ∧ d.power.brownOut = true ∧
        d.path.dcinValid = s.b.d.path.dcinValid ∧ d.path.batValid = s.b.d.path.batValid ∧
        d.path.holdupUs = (if s.b.d.power.state = .holdup
          then (s.b.hw.counter - s.b.d.power.holdupEntry) * 1000000 / 32768 else s.b.d.path.holdupUs) ∧
        d.life.brownOuts = satInc 32 s.b.d.life.brownOuts) ∧
    (∀ mv, s.b.d.power.coreOn = true → s.b.d.path.ship = .pastReturn → Gives (.brownOutReset mv) s fun d => d = s.b.d)

/-- nRST and the control cores (R18 to R20, R39, R246, R572, Table 2-7): nRST low alone resets the cores and holds the sequencer;
what the restart rebuilds is rebuilt at the release. -/
def Obligations.CoreResetsComplete : Prop :=
  ∀ s : State, s.b.d.power.coreOn = true →
    (∀ cycles, (if s.b.d.power.state = .standby then 250 else 1200) ≤ cycles → s.b.d.power.nrstLow = false →
      GivesBody (.nrstLow cycles) s fun b =>
          b.d.still = { s.b.d with power := { s.b.d.power with nrstLow := true } }.still ∧
          b.hw = Caused s.b.hw 6 ∧ b.host = s.b.host ∧ b.d.power = { s.b.d.power with nrstLow := true, test := false } ∧
        b.d.grove = s.b.d.grove ∧ b.d.integ = s.b.d.integ ∧ b.d.dict = s.b.d.dict ∧ b.d.timer = s.b.d.timer ∧
        b.d.chg = s.b.d.chg ∧ b.d.faults = s.b.d.faults ∧
        (s.b.d.seq.state.holds = true → b.d.seq.state = .held ∧ b.d.seq.before = s.b.d.seq.state) ∧
        (s.b.d.seq.state.holds = false → b.d.seq = s.b.d.seq)) ∧
    (s.b.d.power.nrstLow = true →
      Gives .nrstRelease s fun d =>
          d.still = { s.b.d with
            power := d.power, grove := d.grove, chg := d.chg, conv := d.conv, wdc := d.wdc, portA := d.portA, portB := d.portB
            dict := d.dict, pool := d.pool, jour := d.jour, nv := d.nv, otp := d.otp, test := d.test, tap := d.tap
            life := d.life, th := d.th }.still ∧
          d.power.nrstLow = false ∧ (d.portA.enabled = true → d.portA.nmt = .preOp) ∧
        (d.portB.enabled = true → d.portB.nmt = .preOp) ∧
        d.dict.unlocked = false ∧ d.tap = { s.b.d.tap with keyed := false } ∧ d.pool.buffers = [] ∧
        d.wdc = { s.b.d.wdc with first := true } ∧ d.jour.replayDue = true ∧ d.portA.sessions = [] ∧ d.portB.sessions = [] ∧
        d.nv.banks = s.b.d.nv.banks ∧ d.nv.remap = s.b.d.nv.remap ∧ d.otp.words = s.b.d.otp.words ∧
        d.life = { s.b.d.life.wholeHours with recordDue := d.life.recordDue } ∧
        (s.b.d.seq.heldFail = [] → s.b.d.seq.state = .held → s.b.d.seq.before = .pause → s.b.d.power.state ≠ .standby →
          d.seq.state = .pause ∧ ∀ x, d.branchOn x = s.b.d.branchOn x)) ∧
    (s.b.d.power.nrstLow = false → s.b.d.power.lockstepWindow = false → s.b.d.sticky 107 = false →
      GivesBody .lockstepMismatch s fun b =>
          b.d.still = { s.b.d with
          power := b.d.power, grove := b.d.grove, wdc := b.d.wdc, portA := b.d.portA, portB := b.d.portB
          dict := b.d.dict, pool := b.d.pool, jour := b.d.jour, nv := b.d.nv, otp := b.d.otp, test := b.d.test }.still ∧
          b.hw = Caused s.b.hw 5 ∧ b.host = s.b.host ∧
        b.d.power.lockstepWindow = true ∧ b.d.faults.src[107].retrying = true ∧ b.d.sticky 107 = false ∧
        b.d.dict.unlocked = false ∧ b.d.jour.replayDue = true ∧ b.d.wdc.first = true ∧ ∀ x, b.d.branchOn x = s.b.d.branchOn x) ∧
    (s.b.d.power.nrstLow = false → s.b.d.power.lockstepWindow = true →
      GivesBody .lockstepMismatch s fun b =>
          b.d.still = { s.b.d with
          grove := b.d.grove, wdc := b.d.wdc, portA := b.d.portA, portB := b.d.portB, dict := b.d.dict, pool := b.d.pool
          jour := b.d.jour, nv := b.d.nv, otp := b.d.otp, test := b.d.test }.still ∧
          b.hw = Caused s.b.hw 5 ∧ b.host = s.b.host ∧ b.d.sticky 107 = true ∧
        b.d.power.lockstepWindow = true) ∧
    (∀ ms, s.b.d.power.lockstepWindow = true → 1000 ≤ ms → s.b.d.retrying 107 = true → s.b.d.sticky 107 = false →
      Gives (.lockstepRetryWindowEnd ms) s fun d => d.power.lockstepWindow = false ∧ d.retrying 107 = false ∧
        d.faults.transient = satInc 32 s.b.d.faults.transient ∧
        d = { s.b.d with power := d.power, faults := d.faults, nv := d.nv } ∧
        (d.power = { s.b.d.power with lockstepWindow := false } ∨
          d.power = { s.b.d.power with lockstepWindow := false }.leaveIdle s.b.hw.counter)) ∧
    (∀ ms, s.b.d.power.lockstepWindow = true → 1000 ≤ ms → s.b.d.retrying 107 = false →
      Gives (.lockstepRetryWindowEnd ms) s fun d => d = { s.b.d with power := { s.b.d.power with lockstepWindow := false } }) ∧
    (∀ mapped, s.b.d.sticky 101 = false →
      Gives (.sramWordError (.uncorrectable mapped)) s fun d => d.still = s.b.d.still ∧
        (mapped = true → d.sticky 101 = true) ∧
        (mapped = false → d.faults.transient = satInc 32 s.b.d.faults.transient)) ∧
    (Gives (.sramWordError .correctable) s fun d => d.sticky 100 = true ∧ KeepsPower s d ∧
      d = { s.b.d with power := d.power, faults := d.faults, nv := d.nv })

namespace Sys2Proof.Machine

/-- Reference and root clocks and their checks (R40 to R44, R259). -/
def ClocksComplete : Prop :=
  ∀ s : State, s.b.d.power.coreOn = true →
    (∀ us, s.b.d.clk.crystalWanted = true → us ≤ 10000 →
      Gives (.crystalStable us) s fun d => d = { s.b.d with clk := { s.b.d.clk with crystal := true, crystalWanted := false } }) ∧
    (∀ us, s.b.d.clk.crystalWanted = true → 10000 ≤ us →
      Gives (.crystalStartTimeout us) s fun d =>
          d.still = { s.b.d with clk := d.clk, casc := d.casc }.still ∧
          d.sticky 96 = true ∧ d.clk.crystalWanted = false ∧
        d.clk.crystal = s.b.d.clk.crystal ∧ (s.b.d.casc.role ≠ 0 → d.sticky 112 = true ∧ d.casc.linkReason = 4)) ∧
    (s.b.d.clk.crystal = true →
      Gives .crystalStop s fun d =>
          d.still = { s.b.d with clk := d.clk, casc := d.casc }.still ∧
          d.sticky 96 = true ∧ d.clk.crystal = false ∧
        (s.b.d.casc.role ≠ 0 → d.sticky 112 = true ∧ d.casc.linkReason = 4)) ∧
    (Gives .pllLockLoss s fun d =>
        d.still = s.b.d.still ∧
        d.sticky 97 = true ∧ ∀ r : Rail, d.branchOn (railBranch r) = false) ∧
    (∀ count, s.b.d.power.state ≠ .standby → count < 96 ∨ 160 < count → s.b.d.retrying 98 = false → s.b.d.sticky 98 = false →
      Gives (.wdoscCrossCheck count) s fun d => d = { s.b.d with
        clk := { s.b.d.clk with wdoscCount := count }, faults := d.faults } ∧ d.retrying 98 = true) ∧
    (∀ count, s.b.d.power.state ≠ .standby → count < 96 ∨ 160 < count → s.b.d.retrying 98 = true →
      Gives (.wdoscCrossCheck count) s fun d => d = { s.b.d with
        clk := { s.b.d.clk with wdoscCount := count, measuring := true } }) ∧
    (∀ count, s.b.d.power.state ≠ .standby → 96 ≤ count → count ≤ 160 → s.b.d.retrying 98 = false →
      Gives (.wdoscCrossCheck count) s fun d => d = { s.b.d with clk := { s.b.d.clk with wdoscCount := count } }) ∧
    (∀ count, s.b.d.power.state ≠ .standby → 96 ≤ count → count ≤ 160 → s.b.d.retrying 98 = true → s.b.d.clk.measuring = false →
      s.b.d.sticky 98 = false →
      Gives (.wdoscCrossCheck count) s fun d => d.retrying 98 = false ∧
        d.faults.transient = satInc 32 s.b.d.faults.transient ∧
        KeepsPower s d ∧ d = { s.b.d with power := d.power, clk := { s.b.d.clk with wdoscCount := count }, faults := d.faults, nv := d.nv }) ∧
    (∀ wdosc bclk, s.b.d.clk.measuring = true →
      Gives (.clockDeviationMeasurement wdosc bclk) s fun d => d.clk.measuring = false ∧ d.sticky 98 = true ∧
        (s.b.d.sticky 98 = false → d.faults.src[98].reason = deviating wdosc bclk) ∧
        d.still = { s.b.d with clk := { s.b.d.clk with measuring := false } }.still)

/-- The crystal of the heartwood domain (R45, R573); FS099 is raised where the core domain is powered. -/
def HeartwoodClockComplete : Prop :=
  ∀ s : State,
    (s.b.hw.powered = true → s.b.hw.crystalRunning = true →
      GivesBody .heartwoodCrystalStop s fun b => b.hw = { s.b.hw with crystalRunning := false, fallback := true } ∧
        b.host = s.b.host ∧ b.d.still = s.b.d.still ∧ (s.b.d.power.coreOn = true → b.d.sticky 99 = true) ∧
        (s.b.d.power.coreOn = false → b.d = s.b.d)) ∧
    (∀ us, s.b.hw.powered = true → s.b.hw.fallback = false → us ≤ 2000000 →
      GivesBody (.heartwoodCrystalStable us) s fun b => b = { s.b with hw := { s.b.hw with crystalRunning := true } }) ∧
    (∀ us, s.b.hw.powered = true → s.b.hw.crystalRunning = false → 2000000 ≤ us →
      GivesBody (.heartwoodCrystalTimeout us) s fun b => b.hw = { s.b.hw with fallback := true } ∧
        b.host = s.b.host ∧ b.d.still = s.b.d.still ∧ (s.b.d.power.coreOn = true → b.d.sticky 99 = true) ∧
        (s.b.d.power.coreOn = false → b.d = s.b.d))

end Sys2Proof.Machine

/-- The reference and root clocks, and the clock of the heartwood domain. -/
def Obligations.ClocksComplete : Prop := Sys2Proof.Machine.ClocksComplete ∧ Sys2Proof.Machine.HeartwoodClockComplete

/-- IDLE, the wakes from STANDBY, and TIME (R30, R33, R34, R47, R561). -/
def Obligations.WakesComplete : Prop :=
  ∀ s : State, s.b.d.power.coreOn = true →
    (∀ p, s.b.d.power.state = .standby →
      Gives (.canRxWake p) s fun d => d.power.state = .run ∧ d.power.previous = s.b.d.power.code ∧
        d.power.wakeSource = 3 + portNo p ∧ d.clk.pllLocked = true ∧ d.still = s.b.d.still) ∧
    (∀ ns, s.b.d.power.state = .standby → s.b.d.casc.role ≠ 0 → 2000 ≤ ns →
      Gives (.cascadeCsyncWake ns) s fun d => d.power.state = .run ∧ d.power.wakeSource = 7 ∧ d.clk.pllLocked = true ∧
        d.still = s.b.d.still) ∧
    (s.b.d.power.state = .standby → s.b.d.coresRun = true → s.b.d.tap.haltDue = true →
      Gives .standbyWdCWake s fun d => d = { s.b.d with
        tap := { s.b.d.tap with halted := true, haltDue := false }
        power := { s.b.d.power with coresStopped := true }, wdc := { s.b.d.wdc with halted := true } }) ∧
    (s.b.d.power.state = .standby → s.b.d.coresRun = true → s.b.d.tap.haltDue = false →
      Gives .standbyWdCWake s fun d => d = { s.b.d with wdc := { s.b.d.wdc with first := false } }) ∧
    (s.b.d.power.state = .run → s.b.d.coresRun = true → s.b.d.portA.sessions = [] → s.b.d.portB.sessions = [] →
      s.b.d.jour.replayDue = false → (∀ e ∈ s.b.d.jour.entries, e.state.ended = true) → s.b.d.otp.prog = none →
      Gives .idleEntry s fun d => d = { s.b.d with power := { s.b.d.power with
        state := .idle, previous := s.b.d.power.code, lastTime := s.b.hw.counter } }) ∧
    (∀ p value, s.b.d.served = true → (s.b.d.port p).consumes = true → (s.b.d.nat 0x1012 0).testBit 31 = true →
      Gives (.timeObject p value) s fun d => d.clk = { s.b.d.clk with
        lastTimeValue := value % 2 ^ 48, counterAtTime := s.b.hw.counter } ∧
        d = { s.b.d with clk := d.clk, power := d.power } ∧ d.power.state ≠ .idle)

namespace Sys2Proof.Machine

/-! ## Non-volatile storage, OTP and service life (chapter 20) -/

/-- The bank that a store or restore writes: the one that is not current (R514). -/
def otherBank (d : Dev) : Fin 2 := match d.nv.current with | some 0 => 1 | _ => 0

/-- Commits (R448, R465, R496, R512 to R514, R516, R517, R542, R543): what each keeps once its first programming verifies. -/
def CommitsComplete : Prop :=
  ∀ s : State, s.b.d.power.coreOn = true → s.b.d.power.test = false →
    (∀ r rest, s.b.d.nv.logQueue = r :: rest → s.b.d.commitAdmitted logUs = true →
      Gives (.logRecordCommit .first) s fun d => d = { s.b.d with
        nv := Nv.append { s.b.d.nv with logQueue := rest } r
        life := { s.b.d.life with pageWrites := satAdd 64 s.b.d.life.pageWrites 1 } }) ∧
    (∀ r rest, s.b.d.nv.logQueue = r :: rest → s.b.d.commitAdmitted logUs = true →
      Gives (.logRecordCommit .failed) s fun d =>
          d.still = { s.b.d with nv := d.nv, life := d.life }.still ∧
          d.nv.log = s.b.d.nv.log ∧ d.nv.newest = s.b.d.nv.newest ∧ d.sticky 103 = true) ∧
    (∀ sec, s.b.d.inRun = true ∨ s.b.d.power.state = .safe →
      Gives (.operatingHour sec) s fun d => d = { s.b.d with life := d.life } ∧
        d.life.hours = satAdd 32 s.b.d.life.hours ((s.b.d.life.seconds + sec) / 3600) ∧
        d.life.seconds = (s.b.d.life.seconds + sec) % 3600) ∧
    (s.b.d.life.recordDue = true → s.b.d.shipCommitAdmitted recordUs = true →
      Gives (.serviceLifeRecordWrite .first) s fun d =>
        d.life = { s.b.d.life with
          recordDue := false, lastWrite := s.b.hw.counter, pageWrites := satAdd 64 s.b.d.life.pageWrites 4 } ∧
        d = { s.b.d with life := d.life, recs := { s.b.d.recs with
          life := s.b.d.recs.life.put { d.life with seconds := 0, firingS := List.replicate 20 0 } true } }) ∧
    (∀ page : Fin 1024, 104 ≤ page.val → page.val < 112 → s.b.d.commitAdmitted recordUs = true →
      s.b.d.recs.roles.newest.getD roleDefault ≠ s.b.d.roleContent →
      Gives (.commitComplete .record page .first) s fun d => d = { s.b.d with
        recs := { s.b.d.recs with roles := s.b.d.recs.roles.put s.b.d.roleContent true }
        life := { s.b.d.life with pageWrites := satAdd 64 s.b.d.life.pageWrites 4 } }) ∧
    (∀ page : Fin 1024, 114 ≤ page.val → page.val < 116 → s.b.d.commitAdmitted recordUs = true →
      s.b.d.recs.misc.newest.getD miscDefault ≠ s.b.d.miscContent →
      Gives (.commitComplete .record page .first) s fun d => d = { s.b.d with
        recs := { s.b.d.recs with misc := s.b.d.recs.misc.put s.b.d.miscContent true }
        life := { s.b.d.life with pageWrites := satAdd 64 s.b.d.life.pageWrites 1 } }) ∧
    (∀ w a data rest page, s.b.d.nv.waiting = .host w a data :: rest → s.b.d.commitAdmitted hostUs = true →
      (s.b.d.port w.port).live = true →
      GivesBody (.commitComplete .hostArea page .first) s fun b => b.hw = s.b.hw ∧ b.host = hostWrite s.b.host a data ∧
        b.d.nv.waiting = rest ∧ b.d.out = .ok w :: s.b.d.out ∧ b.d.still = { s.b.d with
          nv := { s.b.d.nv with waiting := rest }
          life := { s.b.d.life with pageWrites := satAdd 64 s.b.d.life.pageWrites 1 } }.still) ∧
    (∀ w sub rest page, s.b.d.nv.waiting = .store w sub :: rest → s.b.d.commitAdmitted imageUs = true →
      imageBytes (s.b.d.storeEntries sub s.b.d.bankEntries) ≤ 3056 →
      Gives (.commitComplete .image page .first) s fun d =>
          KeepsPower s d ∧ d = { s.b.d with
            power := d.power, portA := d.portA, portB := d.portB, nv := d.nv, life := d.life, test := d.test
            out := d.out } ∧
          d.nv.banks[otherBank s.b.d].entries = s.b.d.storeEntries sub s.b.d.bankEntries ∧
        d.nv.banks[otherBank s.b.d].ok = true ∧ d.nv.imageStatus = (otherBank s.b.d).val + 1 ∧
        d.nv.banks[1 - otherBank s.b.d] = s.b.d.nv.banks[1 - otherBank s.b.d] ∧ d.nv.waiting = rest) ∧
    (∀ page, s.b.d.commitAdmitted entryUs = true →
      Gives (.commitComplete .journal page .first) s fun d => d = { s.b.d with
        jour := { s.b.d.jour with writeFailed := false, unmapped := false }
        life := { s.b.d.life with pageWrites := satAdd 64 s.b.d.life.pageWrites 2 } }) ∧
    (∀ page, s.b.d.commitAdmitted entryUs = true →
      Gives (.commitComplete .journal page .failed) s fun d =>
          d.still = { s.b.d with jour := d.jour, nv := d.nv, life := d.life }.still ∧
          d.jour.writeFailed = true ∧ d.sticky 111 = true ∧
        d.sticky 103 = true)

end Sys2Proof.Machine

/-- Commits of non-volatile storage, the first-fail record among them. -/
def Obligations.CommitsComplete : Prop := Sys2Proof.Machine.CommitsComplete ∧ Sys2Proof.Machine.FirstFailCommitComplete

/-- Margin reads (R521, R522) and the programming of OTP (R532, R533). -/
def Obligations.MarginAndOtpComplete : Prop :=
  ∀ s : State, s.b.d.power.coreOn = true →
    (∀ _ : s.b.d.commitAdmitted logUs = true, s.b.d.power.state = .run →
      Gives (.marginRead .good) s (fun d => d = { s.b.d with nv := { s.b.d.nv with sweep := (s.b.d.nv.sweep + 1) % 1024 } }) ∧
      Gives (.marginRead .uncorrectable) s (fun d =>
        d = ({ s.b.d with nv := { s.b.d.nv with sweep := (s.b.d.nv.sweep + 1) % 1024 } }).losePage s.b.d.nv.sweep) ∧
      (s.b.d.nv.marginOnce.contains s.b.d.nv.sweep = false →
        Gives (.marginRead .margin) s fun d =>
            KeepsPower s d ∧ d = { s.b.d with power := d.power, faults := d.faults, nv := d.nv, life := d.life } ∧
            d.sticky 102 = true ∧
          d.nv.marginOnce = s.b.d.nv.marginOnce ++ [s.b.d.nv.sweep] ∧ d.nv.refreshes = satInc 32 s.b.d.nv.refreshes ∧
          d.nv.remap = s.b.d.nv.remap) ∧
      (s.b.d.nv.marginOnce.contains s.b.d.nv.sweep = true → s.b.d.nv.freeSpares ≠ 0 →
        Gives (.marginRead .margin) s fun d =>
            d.still = { s.b.d with nv := d.nv, life := d.life, recs := d.recs }.still ∧
            d.sticky 102 = true ∧ d.nv.remap = s.b.d.nv.remap ++ [s.b.d.nv.sweep] ∧
          d.recs = { s.b.d.recs with remap := s.b.d.recs.remap.put d.nv.remap true } ∧
          (s.b.d.nv.freeSpares = 1 → d.sticky 104 = true) ∧ d.nv.sweep = (s.b.d.nv.sweep + 1) % 1024)) ∧
    (∀ p r r2 rest, s.b.d.otp.prog = some p → p.rows = r :: r2 :: rest → s.b.d.commitAdmitted otpRowUs = true →
      Gives (.otpRowProgrammed true) s fun d => d = { s.b.d with otp := { s.b.d.otp with
        words := (s.b.d.rowWords p r).foldl (fun m y => Words.set m y.1 y.2) s.b.d.otp.words
        prog := some { p with rows := r2 :: rest } } }) ∧
    (∀ p r, s.b.d.otp.prog = some p → p.rows = [r] → s.b.d.commitAdmitted otpRowUs = true →
      (s.b.d.port p.who.port).live = true → s.b.d.power.test = false →
      Gives (.otpRowProgrammed true) s fun d =>
          d = { s.b.d with portA := d.portA, portB := d.portB, otp := d.otp, test := d.test, out := d.out } ∧
          d.otp.prog = none ∧ d.otp.lastResult = 1 ∧
        d.otp.words = (s.b.d.rowWords p r).foldl (fun m y => Words.set m y.1 y.2) s.b.d.otp.words ∧
        d.out = .ok p.who :: s.b.d.out) ∧
    (∀ p us, s.b.d.otp.prog = some p → 100000 < us ∨ s.b.d.progConditions s.b.d.dieForOtp = false →
      Gives (.programmingStop us) s fun d =>
          d = { s.b.d with portA := d.portA, portB := d.portB, otp := d.otp, test := d.test, out := d.out } ∧
          d.otp = { s.b.d.otp with prog := none, lastResult := 0x0A })

namespace Sys2Proof.Machine

/-! ## Test access port and keys (chapters 18 and 21) -/

/-- What the test port has just shifted out, if that was the last thing the unit sent. -/
def tapOut (d : Dev) : Option Nat :=
  match d.out with
  | .tap y :: _ => some y
  | _ => none

/-- The device after an instruction register is loaded (R551): a free value drawn for bit 4 of what it captures, that capture
sent, the instruction and the refusal bit. -/
abbrev Loaded (d d' : Dev) (code : Nat) (refused : Bool) : Prop :=
  d' = { d with free := d'.free, out := d'.out, tap := { d.tap with instr := code, refused := refused } } ∧
    d'.out.tail = d.out ∧ (tapOut d').map (· % 16) = some (bit 3 d.debugOpen + bit 2 d.tap.refused + 1)

/-- The instructions of the test access port (R551, R552, Table 21-4). -/
def TestPortComplete : Prop :=
  ∀ s : State, s.b.d.power.coreOn = true →
    (Gives .tapReset s fun d => d = { s.b.d with tap := { s.b.d.tap with instr := 1, refused := false, keyed := false } } ∧
      (s.b.d.dict.key.isSome = true → d.debugOpen = false ∧ d.wdhFrozen = false)) ∧
    (Gives .bypass s fun d => Loaded s.b.d d 0x1F false) ∧
    (Gives .idcode s fun d => d.tap.instr = 1 ∧ d.tap.refused = false ∧ d.out.head? = some (.tap 0x292203AB) ∧
      d = { s.b.d with tap := d.tap, free := d.free, out := d.out }) ∧
    (∀ cells, Gives (.samplePreload cells) s fun d =>
        d = { s.b.d with tap := d.tap, out := d.out, free := d.free } ∧
        d.tap = { s.b.d.tap with instr := 2, refused := false, cells := cells % 2 ^ 153 } ∧
        ∃ outside, d.out.head? = some (.tap (s.b.d.scanCapture outside))) ∧
    (s.b.d.scanAllowed = true →
      (∀ cells, Gives (.extest cells) s fun d =>
          d = { s.b.d with tap := d.tap, out := d.out, free := d.free } ∧
          d.tap = { s.b.d.tap with instr := 0, refused := false, cells := cells % 2 ^ 153 } ∧
          ∃ outside, d.out.head? = some (.tap (s.b.d.scanCapture outside))) ∧
      Gives .clamp s (fun d => Loaded s.b.d d 4 false) ∧ Gives .highz s (fun d => Loaded s.b.d d 5 false)) ∧
    (s.b.d.scanAllowed = false →
      (∀ cells, Gives (.extest cells) s fun d => Loaded s.b.d d 0x1F true) ∧
      Gives .clamp s (fun d => Loaded s.b.d d 0x1F true) ∧ Gives .highz s (fun d => Loaded s.b.d d 0x1F true))

/-- Keys and debug access (R467, R468, R553 to R555): a key that matches, one that does not, the lockout, and what open and
closed access do. -/
def DebugAccessComplete : Prop :=
  ∀ s : State, s.b.d.power.coreOn = true →
    (∀ k v, s.b.d.dict.key = some k → s.b.d.dict.lockout = false → v % 2 ^ 32 = k →
      Gives (.dbgkey v) s fun d =>
          d = { s.b.d with dict := d.dict, tap := d.tap, out := d.out, free := d.free } ∧
          d.tap.keyed = true ∧ d.dict = { s.b.d.dict with consecutive := 0 } ∧ d.tap.instr = 0x10 ∧
          d.debugOpen = !s.b.d.tap.lockBlown) ∧
    (∀ k v, s.b.d.dict.key = some k → s.b.d.dict.lockout = false → v % 2 ^ 32 ≠ k →
      Gives (.dbgkey v) s fun d =>
          d = { s.b.d with dict := d.dict, tap := d.tap, out := d.out, free := d.free } ∧
          d.tap.keyed = s.b.d.tap.keyed ∧ d.tap.instr = 0x10 ∧ d.dict = { s.b.d.dict with
        mismatches := satInc 16 s.b.d.dict.mismatches, lockout := decide (2 ≤ s.b.d.dict.consecutive)
        consecutive := if 2 ≤ s.b.d.dict.consecutive then 0 else s.b.d.dict.consecutive + 1 }) ∧
    (∀ v, s.b.d.dict.key = none ∨ s.b.d.dict.lockout = true →
      Gives (.dbgkey v) s fun d => Loaded s.b.d d 0x10 false) ∧
    (∀ ms, s.b.d.dict.lockout = true → 10000 ≤ ms →
      Gives (.keyLockoutEnd ms) s fun d => d = { s.b.d with dict := { s.b.d.dict with lockout := false, consecutive := 0 } }) ∧
    (∀ q, s.b.d.debugOpen = false →
      Gives (.dbgacc q) s fun d =>
          d = { s.b.d with tap := d.tap, out := d.out, free := d.free } ∧
          d.tap = { s.b.d.tap with instr := 0x11, refused := false } ∧
        d.out.head? = some (.tap 0) ∧ d.power = s.b.d.power) ∧
    (s.b.d.debugOpen = true →
      (s.b.d.power.state ≠ .standby → Gives (.dbgacc .halt) s fun d =>
          d = { s.b.d with power := d.power, wdc := d.wdc, tap := d.tap, out := d.out, free := d.free } ∧
          d.tap.halted = true ∧
        d.power = { s.b.d.power with coresStopped := true } ∧ d.wdc = { s.b.d.wdc with halted := true }) ∧
      (s.b.d.power.state = .standby → Gives (.dbgacc .halt) s fun d =>
          d = { s.b.d with tap := d.tap, out := d.out, free := d.free } ∧
          d.tap.haltDue = true ∧ d.power = s.b.d.power) ∧
      (s.b.d.tap.halted = true → Gives (.dbgacc .resume) s fun d =>
          d = { s.b.d with
            power := d.power, wdc := d.wdc, portA := d.portA, portB := d.portB, test := d.test, tap := d.tap
            out := d.out, free := d.free } ∧
          d.tap.halted = false ∧
        d.power = { s.b.d.power with coresStopped := false } ∧ d.wdc = { s.b.d.wdc with halted := false }) ∧
      (∀ reg, Gives (.dbgacc (.vendorRead reg)) s fun d =>
          d = { s.b.d with tap := d.tap, out := d.out, free := d.free } ∧
          d.out.head? = some (.tap (Config.vendorPort reg))))

end Sys2Proof.Machine

/-- The test access port and debug access. -/
def Obligations.TestPortComplete : Prop := Sys2Proof.Machine.TestPortComplete ∧ Sys2Proof.Machine.DebugAccessComplete

namespace Sys2Proof.Machine

/-! ## Writes by clients (chapters 18 and the objects of every chapter) -/

/-- The device when it serves a request: IDLE has ended (Table 2-2). -/
def awake (s : State) : Dev := s.b.d.leaveIdle s.b.hw.counter

/-- A request of a client is served: the dictionary is served, the port hears it and has a session free (R458, R463). -/
abbrev Heard (s : State) (w : Who) : Prop :=
  s.b.d.power.coreOn = true ∧ s.b.d.hears w.port = true ∧ (s.b.d.port w.port).sessions.length < 4

/-- A write of an object passes every check of Table 18-4, and `v'` is the value that takes effect. -/
abbrev Passes (s : State) (w : Who) (idx sub len : Nat) (v v' : Int) : Prop :=
  Heard s w ∧ (awake s).checkWrite idx sub len v = .ok v' ∧ (awake s).step12 idx sub v' = true

/-- A client's write that runs leaves the device `d1` with success answered to the client, and nothing else. -/
abbrev Wrote (c : Instr) (s : State) (w : Who) (d1 : Dev) : Prop := Gives c s fun d => d = d1.ok w

/-- A value that a write puts in force reads back; every other setting keeps its effective value (R21, R465). -/
def SettingReadsBack : Prop :=
  ∀ (d : Dev) (i j : Nat × Nat) (v : Int), i.2 < 256 → j.2 < 256 →
    (d.setLive i.1 i.2 v).int j.1 j.2 = if i = j then v else d.int j.1 j.2

end Sys2Proof.Machine

/-- Writes that put a setting in force and do no more (R71, R292, R440, R438, R472, R473): the value, and success. -/
def Obligations.SettingWritesComplete : Prop :=
  ∀ (s : State) (w : Who) (v v' : Int),
    (Passes s w 0x2100 2 (objectSize 0x2100 2) v v' → Wrote (.inputCurrentLimitWrite w v) s w ((awake s).setLive 0x2100 2 v')) ∧
    (Passes s w 0x2140 2 (objectSize 0x2140 2) v v' →
      Wrote (.chargeSettingWrite w false v) s w ((awake s).setLive 0x2140 2 v')) ∧
    (Passes s w 0x2140 3 (objectSize 0x2140 3) v v' →
      Wrote (.chargeSettingWrite w true v) s w ((awake s).setLive 0x2140 3 v')) ∧
    (∀ len, Passes s w 0x2182 1 len v v' → Wrote (.ocvTableWrite w len v) s w ((awake s).setLive 0x2182 1 v')) ∧
    (Passes s w 0x2500 7 (objectSize 0x2500 7) v v' → Wrote (.nfaultDrive w v) s w ((awake s).setLive 0x2500 7 v')) ∧
    (∀ src : Source, Passes s w 0x2510 (src.val + 1) (objectSize 0x2510 (src.val + 1)) v v' →
      Wrote (.sourceConfigurationWrite w src v) s w ((awake s).setLive 0x2510 (src.val + 1) v')) ∧
    (∀ p : Fin 16, Passes s w (0x1600 + p.val) 0 (objectSize (0x1600 + p.val) 0) v v' →
      Wrote (.pdoMappingCount w false p v) s w ((awake s).setLive (0x1600 + p.val) 0 v')) ∧
    (∀ p : Fin 16, Passes s w (0x1A00 + p.val) 0 (objectSize (0x1A00 + p.val) 0) v v' →
      Wrote (.pdoMappingCount w true p v) s w ((awake s).setLive (0x1A00 + p.val) 0 v')) ∧
    (∀ p : Fin 16, Passes s w (0x1400 + p.val) 1 (objectSize (0x1400 + p.val) 1) v v' →
      Wrote (.cobIdWrite w false p v) s w ((awake s).setLive (0x1400 + p.val) 1 v')) ∧
    (∀ p : Fin 16, Passes s w (0x1800 + p.val) 1 (objectSize (0x1800 + p.val) 1) v v' →
      Wrote (.cobIdWrite w true p v) s w ((awake s).setLive (0x1800 + p.val) 1 v'))

/-- Writes that act on power path, charger, gauge and sequencer (R254, R298, R299, R310, R330, R333). -/
def Obligations.PowerWritesComplete : Prop :=
  ∀ (s : State) (w : Who) (v v' : Int),
    (Passes s w 0x2140 1 (objectSize 0x2140 1) 1 1 → s.b.d.inRun = true → s.b.d.chg.phase = .disabled →
      Gives (.chargerEnable w) s fun d =>
          d = { s.b.d with
            power := d.power, chg := d.chg, timer := d.timer, portA := d.portA, portB := d.portB, dict := d.dict
            test := d.test, out := d.out } ∧
          d.int 0x2140 1 = 1 ∧ d.chg.phase = .wait ∧ d.chg.phaseTime = s.b.hw.counter) ∧
    (Passes s w 0x2140 1 (objectSize 0x2140 1) 0 0 → s.b.d.chg.phase ≠ .disabled →
      Gives (.chargerDisable w) s fun d =>
          d = { s.b.d with
            power := d.power, chg := d.chg, timer := d.timer, portA := d.portA, portB := d.portB, dict := d.dict
            test := d.test, out := d.out } ∧
          d.int 0x2140 1 = 0 ∧ d.chg.phase = .disabled ∧ d.chg.stopReason = 2 ∧
        d.chg.region = 0) ∧
    (Passes s w 0x2180 0x0D (objectSize 0x2180 0x0D) v v' →
      Wrote (.newPack w v) s w (if v' = 1 then (awake s).newPackValues else awake s)) ∧
    (Passes s w 0x2180 1 (objectSize 0x2180 1) v v' →
      Wrote (.shuntResistanceWrite w v) s w (((awake s).setLive 0x2180 1 v').rescaleShunt ((awake s).int 0x2180 1) v')) ∧
    (Passes s w 0x2310 4 (objectSize 0x2310 4) v v' → v' = 1 →
      Wrote (.clearRecord w v) s w { awake s with seq := { s.b.d.seq with record := none, staged := none, events := 0 } })

/-- Writes that act on rails, phases, tuning and channels (R133, R139, R140, R154, R159, R208, R209). -/
def Obligations.BranchWritesComplete : Prop :=
  ∀ (s : State) (w : Who) (v v' : Int),
    (∀ r : Rail, Passes s w (0x2200 + r.val) 1 (objectSize (0x2200 + r.val) 1) v v' →
      Gives (.grSetPointWrite w r v) s fun d =>
          d.still = { s.b.d with grove := d.grove }.still ∧ d.int (0x2200 + r.val) 1 = v' ∧
        d.grove.rail[r].lp.target =
          (if s.b.d.grove.rail[r].mode = .regulating ∨ s.b.d.grove.rail[r].mode = .softStart
            then setPointCode v'.toNat (s.b.d.ratio r) else s.b.d.grove.rail[r].lp.target) ∧
        d.grove.rail[r].lp.vref = s.b.d.grove.rail[r].lp.vref ∧ d.grove.rail[r].mode = s.b.d.grove.rail[r].mode ∧
        (∀ run, s.b.d.grove.run = some run → run.rail = r.val → d.grove.run = none ∧ d.grove.result[r].outcome = 0x13) ∧
        d.grove.ph = s.b.d.grove.ph ∧ d.integ = s.b.d.integ ∧ ∀ q, q ≠ r → d.grove.rail[q] = s.b.d.grove.rail[q]) ∧
    (∀ c : Integrated, Passes s w (chanIndex c) 1 (objectSize (chanIndex c) 1) v v' →
      Gives (.ibLdSetPointWrite w c v) s fun d =>
          d.still = { s.b.d with integ := d.integ }.still ∧
          d.int (chanIndex c) 1 = v' ∧ d.chan c =
        (if (s.b.d.chan c).on = true ∧ (s.b.d.chan c).hiccup = false then { s.b.d.chan c with targetMv := v'.toNat }
          else s.b.d.chan c)) ∧
    (∀ r : Rail, Passes s w (0x2200 + r.val) 0x0E (objectSize (0x2200 + r.val) 0x0E) v v' → v' = 1 →
      Wrote (.coefficientCommit w r v) s w ((awake s).lp' r fun l =>
        if s.b.d.grove.rail[r].mode = .off then { l with committed := some (s.b.d.shadowSet r) }
        else { l with active := s.b.d.shadowSet r, configured := s.b.d.shadowSet r })) ∧
    (Passes s w 0x2238 3 (objectSize 0x2238 3) v v' →
      Wrote (.runNow w v) s w { awake s with grove := { s.b.d.grove with
        runNext := v'.toNat :: s.b.d.grove.runNext.filter (· ≠ v'.toNat) } }) ∧
    (∀ p : Phase, Passes s w 0x2234 3 (objectSize 0x2234 3) v (p.val : Int) → s.b.d.roleIs p .sapling = true →
      s.b.d.grove.rail[s.b.d.phaseRail p].pl.insertion = none →
      Gives (.manualInsert w v) s fun d =>
          d.still = { s.b.d with path := d.path, grove := d.grove }.still ∧
          d.path = { s.b.d.path with deferred := d.path.deferred } ∧
          (s.b.d.grove.rail[s.b.d.phaseRail p].mode = .off → d.grove.ph[p].role = .available ∧
          d.grove.ph[p].roleTime = s.b.hw.counter ∧ d.grove.ph[p].fstate = .shed) ∧
        (s.b.d.grove.rail[s.b.d.phaseRail p].mode ≠ .off →
          d.grove.rail[s.b.d.phaseRail p].pl.insertion =
            some ⟨p.val, none, none, 0, !s.b.d.insertionDeferred (s.b.d.phaseRail p)⟩ ∧
          d.firingIs p .ramping = !s.b.d.insertionDeferred (s.b.d.phaseRail p)) ∧
        ∀ q, q ≠ p → d.grove.ph[q] = s.b.d.grove.ph[q]) ∧
    (∀ p : Phase, Passes s w 0x2234 4 (objectSize 0x2234 4) v (p.val : Int) → s.b.d.roleIs p .retired = true →
      Gives (.reinstate w v) s fun d =>
          d = { s.b.d with power := d.power, grove := d.grove, portA := d.portA, portB := d.portB, test := d.test, out := d.out } ∧
          d.grove.ph[p].role = (if s.b.d.sapDecl p then .sapling else .available) ∧ d.grove.ph[p].reason = 0 ∧
        d.grove.ph[p].roleTime = s.b.hw.counter ∧ d.grove.ph[p].fstate = .shed) ∧
    (∀ p : Phase, Passes s w 0x2234 6 (objectSize 0x2234 6) v (p.val : Int) → s.b.d.roleIs p .sapling = true →
      Gives (.retire w v) s fun d =>
          d = { s.b.d with
            power := d.power, grove := d.grove, faults := d.faults, portA := d.portA, portB := d.portB, nv := d.nv
            test := d.test, out := d.out } ∧
          d.grove.ph[p].role = .retired ∧ d.grove.ph[p].reason = 0x20)

namespace Sys2Proof.Machine

/-- Writes that act on thermal sensors, converters, timers and the fault collector (R371, R387, R402, R406, R434, R437). -/
def ServiceWritesComplete : Prop :=
  ∀ (s : State) (w : Who) (v v' : Int),
    (∀ n : Fin 28, n.val < 12 → Passes s w 0x240C 6 (objectSize 0x240C 6) v (n.val : Int) →
      s.b.d.th.sensor[n].broken = true →
      Wrote (.reinstateSensor w v) s w ((awake s).sensor' n fun x =>
        { x with broken := false, inTest := false, suspect := false, bad := 0, history := [] })) ∧
    (Passes s w 0x2441 1 (objectSize 0x2441 1) v v' → Wrote (.hkadcBModeWrite w v) s w ((awake s).hkMode v'.toNat)) ∧
    (∀ w, Heard s w → Gives (.resultRead w) s fun d =>
      d = (({ awake s with conv := { s.b.d.conv with
        full := if s.b.d.nat 0x2441 5 < 24 then s.b.d.conv.full else false } }).send (.value w s.b.d.conv.word))) ∧
    (Passes s w 0x2480 1 (objectSize 0x2480 1) v v' →
      Gives (.globalStart w v) s fun d =>
          d = { s.b.d with power := d.power, timer := d.timer, portA := d.portA, portB := d.portB, test := d.test, out := d.out } ∧
          (∀ n : TimerNo, v'.toNat.testBit n.val = true → d.timer[n].run = true)) ∧
    (Passes s w 0x2480 2 (objectSize 0x2480 2) v v' →
      Gives (.globalStop w v) s fun d =>
          d = { s.b.d with
            power := d.power, chg := d.chg, timer := d.timer, portA := d.portA, portB := d.portB, test := d.test
            out := d.out } ∧
          (s.b.d.chg.timerHold = false → d.chg = s.b.d.chg) ∧
          (∀ n : TimerNo, v'.toNat.testBit n.val = true → d.timer[n].run = false)) ∧
    (∀ n : TimerNo, Passes s w (0x2481 + n.val) 1 (objectSize (0x2481 + n.val) 1) v v' →
      Gives (.timerControlWrite w n v) s fun d =>
          d = { s.b.d with
            power := d.power, chg := d.chg, timer := d.timer, portA := d.portA, portB := d.portB, dict := d.dict
            test := d.test, out := d.out } ∧
          (s.b.d.chg.timerHold = false → d.chg = s.b.d.chg) ∧
          d.tmCtl n = v'.toNat % 32768 ∧
        d.timer[n].run = v'.toNat.testBit 15) ∧
    (∀ n : TimerNo, Passes s w (0x2481 + n.val) 6 (objectSize (0x2481 + n.val) 6) v v' →
      Wrote (.flagClear w n v) s w ((awake s).tmRegs n fun r => r.clearFlags v'.toNat)) ∧
    (∀ n : Source, Passes s w 0x2500 6 (objectSize 0x2500 6) v (n.val : Int) →
      Gives (.acknowledge w v) s fun d => d.srcState n.val = .acked ∧ d.still = (awake s).still) ∧
    (∀ k : Fin 4, Passes s w 0x2500 (2 + k.val) (objectSize 0x2500 (2 + k.val)) v v' →
      Gives (.stickyClear w k v) s fun d =>
          d = { s.b.d with
            power := d.power, faults := d.faults, portA := d.portA, portB := d.portB, nv := d.nv, test := d.test
            out := d.out, free := d.free } ∧
          (∀ n : Source, d.sticky n.val = (s.b.d.sticky n.val && !(decide (n.val / 32 = k.val) && v'.toNat.testBit (n.val % 32))))) ∧
    (∀ stamp, Heard s w → (awake s).checkWrite 0x24C5 1 4 v = .ok v' → checkInTask v' = some 0 → s.b.d.wdhJudges = true →
      s.b.d.wdh.mask.testBit 0 = true → s.b.d.wdh.tally = 0 → s.b.d.wdh.mask ≠ 1 → s.b.d.wdh.early ≤ stamp →
      stamp < s.b.d.wdh.late →
      Wrote (.checkIn w v stamp) s w { awake s with wdh := { s.b.d.wdh with tally := 1, last := v'.toNat } })

/-- Writes that act on clients, keys and ports (R453, R457, R461, R467 to R469). -/
def AccessWritesComplete : Prop :=
  ∀ (s : State) (w : Who) (v v' : Int),
    (∀ p : Port, Passes s w (portIndex p) 5 (objectSize (portIndex p) 5) v v' → v' = 1 →
      Gives (.portRestart w p v) s fun d =>
          d = { s.b.d with power := d.power, portA := d.portA, portB := d.portB, pool := d.pool, test := d.test, out := d.out } ∧
          (d.port p).busOff = false ∧ (d.port p).heldOff = false ∧
        (d.port p).sessions = [] ∧ (d.port p).txErr = 0 ∧ ((s.b.d.port p).enabled = true → (d.port p).nmt = .preOp)) ∧
    (∀ k : Fin 4, Passes s w 0x1016 (k.val + 1) (objectSize 0x1016 (k.val + 1)) v v' →
      Gives (.clientRegistration w k v) s fun d =>
          d = { s.b.d with
            power := d.power, portA := d.portA, portB := d.portB, dict := d.dict, jour := d.jour, test := d.test
            out := d.out } ∧
          d.int 0x1016 (k.val + 1) = v' ∧ d.dict.clients[k] = {} ∧
        (d.clientNode (k.val + 1) ≠ s.b.d.clientNode (k.val + 1) → d.jour.next[k] = 1) ∧
        (d.clientNode (k.val + 1) = s.b.d.clientNode (k.val + 1) → d.jour = s.b.d.jour)) ∧
    (∀ k, Passes s w 0x2002 1 (objectSize 0x2002 1) v v' → s.b.d.dict.key = some k → v'.toNat = k →
      Wrote (.integratorKey w v) s w { awake s with dict := { s.b.d.dict with consecutive := 0, unlocked := true } }) ∧
    (∀ k, Passes s w 0x2002 1 (objectSize 0x2002 1) v v' → s.b.d.dict.key = some k → v'.toNat ≠ k →
      Gives (.integratorKey w v) s fun d =>
          d = { s.b.d with power := d.power, portA := d.portA, portB := d.portB, dict := d.dict, test := d.test, out := d.out } ∧
          d.dict = { s.b.d.dict with
        mismatches := satInc 16 s.b.d.dict.mismatches, lockout := decide (2 ≤ s.b.d.dict.consecutive)
        consecutive := if 2 ≤ s.b.d.dict.consecutive then 0 else s.b.d.dict.consecutive + 1 }) ∧
    (Passes s w 0x2002 3 (objectSize 0x2002 3) v v' → v' = 1 →
      Wrote (.relock w v) s w { awake s with dict := { s.b.d.dict with unlocked := false } })

end Sys2Proof.Machine

/-- Writes that act on sensors, converters, timers, watchdogs and faults, and on access and communication. -/
def Obligations.ServiceWritesComplete : Prop := Sys2Proof.Machine.ServiceWritesComplete ∧ Sys2Proof.Machine.AccessWritesComplete

/-- Writes that act on the sampler pool, storage, OTP, TEST and debug (R485, R514, R519, R520, R532 to R534, R545, R546, R555). -/
def Obligations.StorageWritesComplete : Prop :=
  ∀ (s : State) (w : Who) (v v' : Int),
    (∀ c : ChanNo, Passes s w (0x2590 + c.val) 1 (objectSize (0x2590 + c.val) 1) 0 0 →
      Wrote (.channelDisable w c) s w { (awake s).setLive (0x2590 + c.val) 1 0 with
        pool := { s.b.d.pool with buffers := s.b.d.pool.buffers.filter fun b => b.chan ≠ c.val } }) ∧
    (Passes s w 0x2601 5 (objectSize 0x2601 5) v v' → v' = 1 →
      Wrote (.hide w v) s w { awake s with nv := { s.b.d.nv with hidden := s.b.d.nv.newest } }) ∧
    (Passes s w 0x2610 4 (objectSize 0x2610 4) v v' →
      Wrote (.blockProtection w v) s w { awake s with nv := { s.b.d.nv with protection := v'.toNat } }) ∧
    (∀ words : List Nat, Passes s w 0x2681 1 (8 * words.length) (imageValue words : Nat) v' →
      Wrote (.stagedImage w words) s w { awake s with
        otp := { s.b.d.otp with staged := stagedWords (domainWords v'.toNat) } }) ∧
    (∀ (temp : Int) new, Heard s w → (awake s).checkWrite 0x2681 2 1 v = .ok 1 → 0 ≤ temp → temp ≤ 1360 →
      s.b.d.otp.prog = none → (awake s).programResult true = .ok new → s.b.d.commitAdmitted otpRowUs = true →
      Gives (.program w v temp) s fun d => d = (awake s).startProgram w new) ∧
    (Heard s w → (awake s).checkWrite 0x2682 1 4 v = .ok v' → s.b.d.otp.prog = none → s.b.d.otp.locked = false →
      crcMatches s.b.d.otp.words = true →
      Wrote (.lock w v true) s w { awake s with otp := { s.b.d.otp with locked := true } }) ∧
    (Passes s w 0x2740 1 (objectSize 0x2740 1) 1 1 → s.b.d.power.test = false →
      Gives (.testEnable w) s fun d =>
          d = { s.b.d with power := d.power, portA := d.portA, portB := d.portB, test := d.test, out := d.out } ∧
          d.power.test = true ∧ d.test.began = s.b.hw.counter) ∧
    (Passes s w 0x2740 1 (objectSize 0x2740 1) 0 0 →
      Gives (.testDisable w) s fun d =>
          d = { s.b.d with
            power := d.power, th := d.th, conv := d.conv, gauge := d.gauge, portA := d.portA, portB := d.portB
            test := d.test, out := d.out } ∧
          d.power.test = false ∧
        (s.b.d.power.test = true → ∀ k : SlotNo, d.test.slots[k].armed = false)) ∧
    (∀ k : SlotNo, Passes s w (0x2741 + k.val) 6 (objectSize (0x2741 + k.val) 6) v v' →
      Wrote (.arm w k v) s w ((awake s).armSlot k (v' = 1))) ∧
    (Passes s w 0x2750 1 (objectSize 0x2750 1) v v' →
      Gives (.debugLock w v) s fun d =>
          d = { s.b.d with
            power := d.power, wdc := d.wdc, portA := d.portA, portB := d.portB, test := d.test, tap := d.tap
            out := d.out } ∧
          d.tap.lockBlown = true ∧ d.tap.halted = false ∧ d.wdhFrozen = false ∧
        (s.b.d.tap.halted = true → d.power.coresStopped = false ∧ d.wdc.halted = false)) ∧
    (∀ (data : List Byte), data.length = 64 → s.b.d.nat 0x2610 3 ≤ 64 →
      Passes s w 0x2610 2 64 (ofBytesLE (data.map BitVec.toNat) : Nat) v' → s.b.d.power.test = false →
      GivesBody (.hostAreaWrite w data .first) s fun b =>
          b.d = { s.b.d with power := b.d.power, portA := b.d.portA, portB := b.d.portB, life := b.d.life, test := b.d.test, out := b.d.out } ∧
          b.hw = s.b.hw ∧
        b.host = hostWrite s.b.host (s.b.d.nat 0x2610 1) (data.take (s.b.d.nat 0x2610 3)) ∧ b.d.nv.waiting = s.b.d.nv.waiting ∧
        b.d.out = .ok w :: s.b.d.out) ∧
    (∀ corrected, Heard s w → s.b.d.nat 0x2610 1 + s.b.d.nat 0x2610 3 ≤ 0x4000 →
      s.b.d.power.test = false →
      Gives (.hostAreaRead w corrected false) s fun d =>
          d = { s.b.d with
            power := d.power, faults := d.faults, portA := d.portA, portB := d.portB, nv := d.nv, life := d.life
            test := d.test, out := d.out } ∧
          d.out.head? = some (.value w (ofBytesLE (s.b.hostRead (s.b.d.nat 0x2610 1) (s.b.d.nat 0x2610 3)) : Nat)) ∧
        (corrected = true → d.sticky 102 = true) ∧ (corrected = false → d.nv = s.b.d.nv)) ∧
    (∀ corrected, Heard s w → s.b.d.nat 0x2610 1 + s.b.d.nat 0x2610 3 ≤ 0x4000 →
      Gives (.hostAreaRead w corrected true) s fun d => d = (awake s).abort w 0x08000024) ∧
    (∀ sub : Fin 3, Passes s w 0x1010 (sub.val + 1) 4 v v' → s.b.d.power.test = false →
      imageBytes (s.b.d.storeEntries (sub.val + 1) s.b.d.bankEntries) ≤ 3056 →
      Gives (.storeParameters w sub v .first) s fun d =>
          d = { s.b.d with
            power := d.power, portA := d.portA, portB := d.portB, nv := d.nv, life := d.life, test := d.test
            out := d.out } ∧
          d.out.head? = some (.ok w) ∧
        d.nv.banks[otherBank s.b.d].entries = s.b.d.storeEntries (sub.val + 1) s.b.d.bankEntries ∧
        d.nv.imageStatus = (otherBank s.b.d).val + 1) ∧
    (∀ sub : Fin 3, Passes s w 0x1011 (sub.val + 1) 4 v v' → s.b.d.power.test = false →
      imageBytes (List.filter (fun e => !inClass (sub.val + 1) e.1) s.b.d.bankEntries) ≤ 3056 →
      Gives (.restoreParameters w sub v .first) s fun d =>
          d = { s.b.d with
            power := d.power, portA := d.portA, portB := d.portB, nv := d.nv, life := d.life, test := d.test
            out := d.out } ∧
          d.out.head? = some (.ok w) ∧
        d.nv.banks[otherBank s.b.d].entries = List.filter (fun e => !inClass (sub.val + 1) e.1) s.b.d.bankEntries)

/-- Any write by USDO (R470): one that passes has its object's effect and is answered 0; one that a check refuses is answered
with the abort of the first check that fails, and changes nothing but what the budget rule records. -/
def Obligations.ObjectWritesComplete : Prop :=
  ∀ (s : State) (w : Who) (idx sub len : Nat) (v : Int), Heard s w → ¬(idx = 0x2640 ∧ sub = 1) →
    (∀ v', (awake s).checkWrite idx sub len v = .ok v' → idx < 0x2100 → idx ≠ 0x1010 → idx ≠ 0x1011 → idx ≠ 0x1016 →
      idx ≠ 0x2002 → sub ≠ 5 → Wrote (.objectWrite w idx sub len v) s w ((awake s).setLive idx sub v')) ∧
    (∀ v' : Int, (awake s).checkWrite idx sub len v = .ok v' → 0x2300 ≤ idx → idx < 0x2310 →
      Wrote (.objectWrite w idx sub len v) s w ((awake s).setLive idx sub v')) ∧
    (∀ c d1, (awake s).checkWrite idx sub len v = .error (c, d1) → c ≠ 0 →
      Gives (.objectWrite w idx sub len v) s fun d => d = d1.abort w c ∧ d1 = { awake s with integ := d1.integ })

namespace Sys2Proof.Machine

/-! ## Command journal (chapter 19) -/

/-- The command that submits an action of Table 19-1 by USDO: targets, STANDBY, SHIP or resume. -/
def actionCommand (action : Nat) (c : JCmd) : Instr :=
  if action = 1 then .targetsAction c else if action = 2 then .standbyAction c
  else if action = 3 then .shipAction c else .resumeAction c

/-- A command reaches the checks of R495: its client is heard and registered as `k`, and checks 1 to 6 pass. -/
abbrev Judged (s : State) (action : Nat) (c : JCmd) (k : Fin 4) : Prop :=
  Heard s c.who ∧ s.b.d.power.test = false ∧ ((awake s).steps1to5 0x2640 1).isOk = true ∧ s.b.d.clientOf c.who.node = some k ∧
    (awake s).commandCheck (some k) action c = none

/-- The distance of a command's number from the one expected next, modulo 2^32 (R492, R493). -/
def seqDistance (s : State) (c : JCmd) (k : Fin 4) : Nat := (c.seq + 2 ^ 32 - s.b.d.jour.next[k] % 2 ^ 32) % 2 ^ 32

/-- Acceptance (R491 to R497, R506): a command with the expected number and room in the journal becomes an entry in ACCEPTED, the
next number follows, and success is answered. TARGETS_ACTION, STANDBY_ACTION, SHIP_ACTION and RESUME_ACTION. -/
def CommandsAccepted : Prop :=
  ∀ (s : State) (action : Nat) (c : JCmd) (k : Fin 4), 1 ≤ action → action ≤ 4 → Judged s action c k →
    seqDistance s c k = 0 → s.b.d.journalBusy c.targets = false → c.verify = .first →
    slotsOf s.b.d.jour.entries + slotsFor c.targets.length ≤ 128 →
    Gives (actionCommand action c) s fun d =>
        d.still = { s.b.d with jour := d.jour, life := d.life, free := d.free }.still ∧
        d.jour = { s.b.d.jour with
        writeFailed := false, unmapped := false
        entries := s.b.d.jour.entries ++ [s.b.d.newEntry k false (c.who.port = .b) action c]
        next := s.b.d.jour.next.set k (nextSeq s.b.d.jour.next[k]), accepted := satInc 32 s.b.d.jour.accepted
        nextTag := if c.targets.any (fun t => t.unit ≠ 0) ∧ s.b.d.jour.nextTag ≠ 0xFFFF
          then (s.b.d.jour.nextTag + 1) % 0xFFFF else s.b.d.jour.nextTag } ∧
      d.out = .ok c.who :: s.b.d.out ∧ d.seq = s.b.d.seq ∧ d.grove = s.b.d.grove ∧ d.integ = s.b.d.integ

/-- Refusals and duplicates (R493, R495, R496): the answer of each check, and that no entry is made. -/
def CommandsRefused : Prop :=
  ∀ (s : State) (action : Nat) (c : JCmd) (k : Fin 4), 1 ≤ action → action ≤ 4 → Judged s action c k →
    (seqDistance s c k ≠ 0 → seqDistance s c k < 2 ^ 31 →
      Gives (actionCommand action c) s fun d =>
          d.still = s.b.d.still ∧
          d.out = .abort c.who 0x0F000011 :: s.b.d.out ∧
        d.jour.entries = s.b.d.jour.entries ∧ d.jour.next = s.b.d.jour.next ∧
        d.jour.rejections = satInc 32 s.b.d.jour.rejections) ∧
    (∀ e : Entry, 2 ^ 31 < seqDistance s c k → s.b.d.heldEntry k c.seq = some e → e.action = action →
      e.targets = c.targets.map Target.plain →
      Gives (actionCommand action c) s fun d =>
          d.still = s.b.d.still ∧
          d.out = .ok c.who :: s.b.d.out ∧
        d.jour = { s.b.d.jour with duplicates := satInc 32 s.b.d.jour.duplicates }) ∧
    (2 ^ 31 < seqDistance s c k → s.b.d.heldEntry k c.seq = none →
      Gives (actionCommand action c) s fun d =>
          d = { s.b.d with power := d.power, portA := d.portA, portB := d.portB, test := d.test, out := d.out } ∧
          d.out = .ok c.who :: s.b.d.out ∧ d.jour = s.b.d.jour) ∧
    (seqDistance s c k = 0 → s.b.d.journalBusy c.targets = true →
      Gives (actionCommand action c) s fun d =>
          d.still = s.b.d.still ∧
          d.out = .abort c.who 0x0F000012 :: s.b.d.out ∧
        d.jour.entries = s.b.d.jour.entries ∧ d.jour.next = s.b.d.jour.next ∧ d.jour.busy = satInc 32 s.b.d.jour.busy) ∧
    (seqDistance s c k = 0 → s.b.d.journalBusy c.targets = false → c.verify = .failed →
      slotsOf s.b.d.jour.entries + slotsFor c.targets.length ≤ 128 →
      Gives (actionCommand action c) s fun d =>
          d.still = { s.b.d with jour := d.jour, nv := d.nv, life := d.life, free := d.free }.still ∧
          d.out.head? = some (.abort c.who 0x0F000012) ∧ d.sticky 111 = true ∧ d.jour.writeFailed = true ∧
        d.jour.entries = s.b.d.jour.entries ∧ d.jour.next = s.b.d.jour.next ∧ d.jour.busy = satInc 32 s.b.d.jour.busy)

end Sys2Proof.Machine

/-- The acceptance and the refusal of commands of the journal. -/
def Obligations.CommandsJudged : Prop := Sys2Proof.Machine.CommandsAccepted ∧ Sys2Proof.Machine.CommandsRefused

namespace Sys2Proof.Machine

/-- The journal prepares the entry `i`: no transaction is open, no end waits for its commit, and the cores drive the journal. -/
abbrev Preparing (s : State) (i : Nat) (e : Entry) : Prop :=
  s.b.d.power.coreOn = true ∧ s.b.d.casc.txn = none ∧ s.b.d.journalRuns = true ∧ s.b.d.nextEntry = some (i, e) ∧ e.tag = 0xFFFF ∧
    ∀ x ∈ s.b.d.jour.entries, x.pend = none

end Sys2Proof.Machine

/-- Prepare and application of entries that concern this unit alone (R234, R499 to R502, R31, R32). -/
def Obligations.PrepareComplete : Prop :=
  ∀ (s : State) (i : Nat) (e : Entry) (starts : Vector StartMeas 30), Preparing s i e →
    (∀ (detail : Nat) (d1 : Dev), e.action = 1 →
      s.b.prepareTargets (s.b.d.entryWho e) e.targets false = some (detail, d1) →
      Gives (.prepareEntry starts) s fun d => d.jour.entries = updList s.b.d.jour.entries i (fun x =>
          { x with state := .failed, detail := detail, endNo := s.b.d.jour.ends + 1 }) ∧
        d = { s.b.d with jour := d.jour, integ := d1.integ } ∧
        (detail = 2 → d.integ.refusal ≠ 0)) ∧
    (∀ b : Branch, e.action = 1 → s.b.prepareTargets (s.b.d.entryWho e) e.targets false = none →
      e.targets = [⟨0, 3, 0, b.val, 0, 0⟩] →
      GivesBody (.prepareEntry starts) s fun x => x.hw = s.b.hw ∧ x.d.branchOn b = false ∧ x.d.still = s.b.d.still) ∧
    (∀ n : Fin 8, e.action = 1 → s.b.prepareTargets (s.b.d.entryWho e) e.targets false = none →
      e.targets = [⟨0, 2, 0, 22 + n.val, 0, 0⟩] → s.b.d.tapHolds = false →
      GivesBody (.prepareEntry starts) s fun x =>
          x.d.still = { s.b.d with integ := x.d.integ }.still ∧ x.d.integ.ib = s.b.d.integ.ib ∧ x.d.integ.ld = s.b.d.integ.ld ∧
          x.hw = s.b.hw ∧ x.d.integ.xe[n].en = true) ∧
    (∀ (r : Rail) (v : Nat), e.action = 1 → s.b.prepareTargets (s.b.d.entryWho e) e.targets false = none →
      e.targets = [⟨0, 1, 0x2200 + r.val, 1, 0, v⟩] →
      GivesBody (.prepareEntry starts) s fun x =>
          x.d.still = s.b.d.still ∧
          x.hw = s.b.hw ∧ x.d.int (0x2200 + r.val) 1 = v % 2 ^ 32) ∧
    (∀ detail : Nat, e.action ≠ 1 → s.b.d.actionRefused e.action = some detail →
      Gives (.prepareEntry starts) s fun d => d.jour.entries = updList s.b.d.jour.entries i (fun x =>
          { x with state := .failed, detail := detail, endNo := s.b.d.jour.ends + 1 }) ∧
        d = { s.b.d with jour := d.jour }) ∧
    (e.action = 2 → s.b.d.actionRefused 2 = none → s.b.d.seq.wakeDue = false →
      Gives (.prepareEntry starts) s fun d =>
          d.still = s.b.d.still ∧
          ((d.seq.state = .offOrder ∧ d.seq.after = .standby) ∨ d.power.state = .standby)) ∧
    (e.action = 3 → s.b.d.actionRefused 3 = none → s.b.d.seq.state ≠ .held →
      Gives (.prepareEntry starts) s fun d =>
          d.still = s.b.d.still ∧
          (d.path.ship = .offOrder ∨ d.path.ship = .committing)) ∧
    (e.action = 4 → s.b.d.actionRefused 4 = none → s.b.d.seq.state = .idle →
      Gives (.prepareEntry starts) s fun d =>
          d.still = s.b.d.still ∧
          d.power.state = .run)

/-- Ends of entries (R498, R501) and replay (R503, R504): a resolved entry ends, or its end is kept while no commit is admitted. -/
def Obligations.EntryEndsComplete : Prop :=
  ∀ s : State, s.b.d.coresRun = true →
    (∀ (i : Nat) (e : Entry), s.b.d.jour.entries[i]? = some e → e.state = .prepared → e.action = 1 → e.going = true →
      e.resolved = true → e.pend = none → s.b.d.commitAdmitted entryUs = true →
      Gives .entryEnd s fun d => d.still = s.b.d.still ∧
        ∃ x : Entry, d.jour.entries[i]? = some x ∧ x.state = e.outcome.1 ∧ x.detail = e.outcome.2 ∧ x.targets = e.targets) ∧
    (∀ (i : Nat) (e : Entry), s.b.d.jour.entries[i]? = some e → e.state = .prepared → e.action = 1 → e.going = true →
      e.resolved = true → e.pend = none → s.b.d.commitAdmitted entryUs = false →
      Gives .entryEnd s fun d => d.still = s.b.d.still ∧ d.jour.entries[i]? = some { e with pend := some e.outcome }) ∧
    (∀ starts : Vector StartMeas 30, s.b.d.jour.replayDue = true → s.b.d.replayHeld = false → s.b.d.casc.txn = none →
      (∀ e ∈ s.b.d.jour.entries, e.state ≠ .prepared ∨ e.cascade = true) →
      Gives (.journalReplay starts) s fun d => d = { s.b.d with jour := { s.b.d.jour with
        replayDue := false, replayWaits := false, replays := satInc 32 s.b.d.jour.replays } }) ∧
    (∀ starts : Vector StartMeas 30, s.b.d.jour.replayDue = false →
      Gives (.journalReplay starts) s fun d => d = s.b.d)

namespace Sys2Proof.Machine

/-! ## CAN ports (chapter 18) -/

end Sys2Proof.Machine

/-- Received frames and their queue (R450, R454): what a frame leaves while the cores run, while a debugger halts them, and where the
port does not take it; and the end of a reorder injection's wait. -/
def Obligations.CanFramesComplete : Prop :=
  ∀ s : State, s.b.d.power.coreOn = true →
    (∀ f : CanFrame, f.ext = false → s.b.d.onBus f.port = true → s.b.d.power.state ≠ .standby → s.b.d.power.test = false →
      s.b.d.coresRun = true →
      Gives (.canFrameReceived f) s fun d =>
        d = ((s.b.d.port' f.port fun x => { x with received := satInc 32 x.received }).test' fun x =>
          { x with held := x.held.filter fun g => g.port ≠ f.port }).leaveIdle s.b.hw.counter) ∧
    (∀ f : CanFrame, f.ext = false → s.b.d.onBus f.port = true → s.b.d.power.state ≠ .standby → s.b.d.power.test = false →
      s.b.d.coresRun = false → s.b.d.power.nrstLow = false → s.b.d.heldOf f.port = [] →
      Gives (.canFrameReceived f) s fun d =>
          d = { s.b.d with portA := d.portA, portB := d.portB } ∧ (∀ q, q ≠ f.port → d.port q = s.b.d.port q) ∧
          (s.b.d.portA.queued + s.b.d.portB.queued < 64 → (d.port f.port).queued = (s.b.d.port f.port).queued + 1) ∧
        (64 ≤ s.b.d.portA.queued + s.b.d.portB.queued → (d.port f.port).queued = (s.b.d.port f.port).queued ∧
          (d.port f.port).discarded = satInc 32 (s.b.d.port f.port).discarded) ∧
        (d.port f.port).received = satInc 32 (s.b.d.port f.port).received ∧ d.power = s.b.d.power ∧ d.dict = s.b.d.dict) ∧
    (∀ f : CanFrame, f.ext = true ∨ s.b.d.onBus f.port = false ∨ s.b.d.power.state = .standby →
      Gives (.canFrameReceived f) s fun d => d = s.b.d) ∧
    (∀ (p : Port) (us : Nat), 10000 ≤ us → s.b.d.coresRun = true →
      Gives (.rxReorderTimeout p us) s fun d =>
          d = { s.b.d with power := d.power, test := d.test } ∧
          d.portA = s.b.d.portA ∧ d.portB = s.b.d.portB ∧
        d.test = { s.b.d.test with held := s.b.d.test.held.filter fun g => g.port ≠ p }) ∧
    (∀ p : Port, s.b.d.hears p = true → (s.b.d.port p).syncRpdo = [] → (∀ n : Fin 16, 240 < s.b.d.tpdoType n) →
      Gives (.sync p) s fun d => d = (awake s).port' p fun x => { x with syncs := x.syncs + 1 })

namespace Sys2Proof.Machine

/-- USDO sessions (R458, R463, R464): reads, the opening of a segmented write, its segments, and its end. -/
def UsdoComplete : Prop :=
  ∀ (s : State) (u : Usdo),
    (u.op = .remote → s.b.d.power.coreOn = true → Gives (.usdoRequest u) s fun d => d = s.b.d) ∧
    (u.op = .badSpecifier → Heard s u.who → Gives (.usdoRequest u) s fun d => d = (awake s).abort u.who 0x05040001) ∧
    (∀ (idx sub : Nat) (v : Int) (x : Body), u.op = .read idx sub → Heard s u.who →
      Body.read { s.b with d := awake s } idx sub = .ok (v, x) →
      GivesBody (.usdoRequest u) s fun b => b = { x with d := x.d.send (.value u.who v) }) ∧
    (∀ idx sub c : Nat, u.op = .read idx sub → Heard s u.who → Body.read { s.b with d := awake s } idx sub = .error c → c ≠ 0 →
      Gives (.usdoRequest u) s fun d => d = (awake s).abort u.who c) ∧
    (∀ idx sub total : Nat, u.op = .openWrite idx sub total → s.b.d.power.coreOn = true → s.b.d.hears u.who.port = true →
      ((s.b.d.port u.who.port).sessions.filter fun x => !(x.node = u.who.node && x.id = u.session)).length < 4 →
      Gives (.usdoRequest u) s fun d =>
          d = { s.b.d with power := d.power, portA := d.portA, portB := d.portB, pool := d.pool, test := d.test, out := d.out } ∧
          (d.port u.who.port).sessions =
        ((s.b.d.port u.who.port).sessions.filter fun x => !(x.node = u.who.node && x.id = u.session)) ++
          [⟨u.who.node, u.session, idx, sub, total, 0, 0, false, none⟩]) ∧
    (∀ (toggle : Bool) (len value : Nat) (last : Bool) (x : Session), u.op = .segment toggle len value last →
      s.b.d.power.coreOn = true → s.b.d.hears u.who.port = true → s.b.d.power.test = false →
      (s.b.d.port u.who.port).session u.who.node u.session = some x → x.buffer = none → x.toggle ≠ toggle →
      Gives (.usdoRequest u) s fun d =>
          d = { s.b.d with power := d.power, portA := d.portA, portB := d.portB, pool := d.pool, test := d.test, out := d.out } ∧
          (d.port u.who.port).session u.who.node u.session = none ∧
        d.out = .abort u.who 0x05030000 :: s.b.d.out) ∧
    (∀ (toggle : Bool) (len value : Nat) (x : Session), u.op = .segment toggle len value false →
      s.b.d.power.coreOn = true → s.b.d.hears u.who.port = true →
      (s.b.d.port u.who.port).session u.who.node u.session = some x → x.buffer = none → x.toggle = toggle → x.got + len ≤ x.total →
      Gives (.usdoRequest u) s fun d =>
          d = { s.b.d with power := d.power, portA := d.portA, portB := d.portB, test := d.test, out := d.out } ∧
          (d.port u.who.port).session u.who.node u.session =
        some { x with got := x.got + len, value := x.value + value % 256 ^ len * 256 ^ x.got, toggle := !toggle }) ∧
    (∀ (toggle : Bool) (len value : Nat) (x : Session) (v' : Int), u.op = .segment toggle len value true →
      s.b.d.power.coreOn = true → s.b.d.hears u.who.port = true →
      (s.b.d.port u.who.port).session u.who.node u.session = some x → x.buffer = none → x.toggle = toggle → x.got + len = x.total →
      0x2300 ≤ x.index → x.index < 0x2310 → (∀ r, row x.index x.sub = some r → r.ty ≠ .s) →
      ((awake s).dropSession u.who u.session).checkWrite x.index x.sub x.total
        ((x.value + value % 256 ^ len * 256 ^ x.got : Nat) : Int) = .ok v' →
      Gives (.usdoRequest u) s fun d =>
        d = (((awake s).dropSession u.who u.session).setLive x.index x.sub v').ok u.who) ∧
    (∀ (w : Who) (id ms : Nat) (x : Session), s.b.d.coresRun = true → 500 ≤ ms → (s.b.d.port w.port).live = true →
      s.b.d.power.test = false → (s.b.d.port w.port).session w.node id = some x →
      Gives (.usdoSessionTimeout w id ms) s fun d =>
          d = { s.b.d with portA := d.portA, portB := d.portB, pool := d.pool, test := d.test, out := d.out } ∧
          (d.port w.port).session w.node id = none ∧
        d.out = .closed w.port w.node id 0x05040000 :: s.b.d.out)

/-- Buffer reads and samplers (R480, R484): the record fixed at the beginning leaves at the end, which frees the buffer; a sampler
appends one record to the open buffer of its channel. -/
def BuffersComplete : Prop :=
  ∀ (s : State) (w : Who) (c : ChanNo), s.b.d.power.coreOn = true →
    (∀ (d1 : Dev) (x : Buffer), s.b.d.hears w.port = true →
      (((awake s).dropSession w (bufferSession c.val)).port w.port).sessions.length < 4 →
      ((awake s).dropSession w (bufferSession c.val)).pickBuffer c.val = .ok (d1, x) →
      Gives (.readBuffer w c false) s fun d =>
          d = { s.b.d with power := d.power, portA := d.portA, portB := d.portB, pool := d.pool } ∧
          (∀ q, q ≠ w.port → d.port q = s.b.d.port q) ∧ (d.port w.port).sessions.getLast? = some
        { node := w.node, id := bufferSession c.val, index := 0x2590 + c.val, sub := 0x0B, total := d1.pool.chans[c].lostBuffers
          got := 0, value := ofBytesLE (x.read (d1.lossOf c.val)), toggle := false, buffer := some (c.val, x.seq) }) ∧
    (∀ e : Nat, s.b.d.hears w.port = true →
      (((awake s).dropSession w (bufferSession c.val)).port w.port).sessions.length < 4 →
      ((awake s).dropSession w (bufferSession c.val)).pickBuffer c.val = .error e →
      Gives (.readBuffer w c false) s fun d => d = ((awake s).dropSession w (bufferSession c.val)).abort w e) ∧
    (∀ (x : Session) (seq : Nat), s.b.d.hears w.port = true → s.b.d.power.test = false →
      (s.b.d.port w.port).session w.node (bufferSession c.val) = some x → x.buffer = some (c.val, seq) →
      Gives (.readBuffer w c true) s fun d =>
          d = { s.b.d with power := d.power, portA := d.portA, portB := d.portB, pool := d.pool, test := d.test, out := d.out } ∧
          d.out = .value w x.value :: s.b.d.out ∧
        (d.port w.port).session w.node (bufferSession c.val) = none ∧
        (∀ y ∈ d.pool.buffers, y.chan = c.val → y.seq = seq → y.isOpen = true) ∧
        d.pool.chans[c].loss = decide (s.b.d.pool.chans[c].lostBuffers ≠ x.total)) ∧
    (∀ l : List Nat, s.b.d.served = true → s.b.d.flag (0x2590 + c.val) 1 = true → s.b.d.chanSource c.val = 2 →
      s.b.sample ((mapWords (s.b.d.nat (0x2590 + c.val) 6)).filter (· ≠ 0)) = (l, s.b) → s.b.d.pool.fits c.val l.length = true →
      Gives (.sampler c) s fun d => d = { s.b.d with pool := { s.b.d.pool with buffers := s.b.d.pool.buffers.map fun y =>
        if y.chan = c.val ∧ y.isOpen then { y with bytes := y.bytes ++ l } else y } })

end Sys2Proof.Machine

/-- USDO sessions, buffer reads and samplers. -/
def Obligations.UsdoComplete : Prop := Sys2Proof.Machine.UsdoComplete ∧ Sys2Proof.Machine.BuffersComplete

/-- PDOs (R474, R475): a short frame is counted, synchronous data waits, an entry is a write whose refusal is counted; a TPDO
leaves with the sampled objects. -/
def Obligations.PdosComplete : Prop :=
  ∀ (s : State) (p : Port) (n : Fin 16), s.b.d.power.coreOn = true →
    (∀ data : List Nat, s.b.d.pdoOn (0x1400 + n.val) (n.val + 1) p = true →
      data.length < mappedLength (s.b.d.mapping (0x1600 + n.val) (s.b.d.nat (0x1600 + n.val) 0)) →
      Gives (.rpdo p n data) s fun d => d = (awake s).port' p fun x => { x with shortPdos := satInc 32 x.shortPdos }) ∧
    (∀ data : List Nat, s.b.d.pdoOn (0x1400 + n.val) (n.val + 1) p = true →
      mappedLength (s.b.d.mapping (0x1600 + n.val) (s.b.d.nat (0x1600 + n.val) 0)) ≤ data.length →
      s.b.d.nat (0x1400 + n.val) 2 ≤ 240 →
      Gives (.rpdo p n data) s fun d => d = (awake s).port' p fun x =>
        { x with syncRpdo := (x.syncRpdo.filter fun y => y.1 ≠ n.val) ++ [(n.val, data)] }) ∧
    (∀ (data : List Nat) (e : Nat) (v' : Int), s.b.d.pdoOn (0x1400 + n.val) (n.val + 1) p = true →
      s.b.d.mapping (0x1600 + n.val) (s.b.d.nat (0x1600 + n.val) 0) = [e] → e % 256 / 8 ≤ data.length →
      240 < s.b.d.nat (0x1400 + n.val) 2 → (s.b.d.nat 0x2007 (n.val + 1)).testBit 7 = false →
      0x2300 ≤ entryIndex e → entryIndex e < 0x2310 →
      (awake s).checkWrite (entryIndex e) (entrySubindex e) (e % 256 / 8)
        (slotValue e (ofBytesLE (data.take (e % 256 / 8)))) = .ok v' →
      Gives (.rpdo p n data) s fun d => d = (awake s).setLive (entryIndex e) (entrySubindex e) v') ∧
    (∀ (data : List Nat) (e c : Nat) (d1 : Dev), s.b.d.pdoOn (0x1400 + n.val) (n.val + 1) p = true →
      s.b.d.mapping (0x1600 + n.val) (s.b.d.nat (0x1600 + n.val) 0) = [e] → e % 256 / 8 ≤ data.length →
      240 < s.b.d.nat (0x1400 + n.val) 2 → (s.b.d.nat 0x2007 (n.val + 1)).testBit 7 = false →
      (awake s).checkWrite (entryIndex e) (entrySubindex e) (e % 256 / 8)
        (slotValue e (ofBytesLE (data.take (e % 256 / 8)))) = .error (c, d1) → c ≠ 0 →
      Gives (.rpdo p n data) s fun d => d = d1.port' p fun x => { x with refused := satInc 32 x.refused }) ∧
    (∀ (since : Nat) (l : List Nat), s.b.d.pdoOn (0x1800 + n.val) (17 + n.val) p = true → 254 ≤ s.b.d.tpdoType n →
      s.b.d.nat (0x1800 + n.val) 3 ≤ since → s.b.d.power.test = false →
      s.b.sample (s.b.d.mapping (0x1A00 + n.val) (s.b.d.nat (0x1A00 + n.val) 0)) = (l, s.b) → s.b.d.tpdoSent n.val p ≠ some l →
      Gives (.tpdo p n since) s fun d => d.out = .pdo p n.val (padTo l) :: s.b.d.out ∧ d.tpdoSent n.val p = some l ∧
        d.still = s.b.d.still.dict' fun x => { x with tpdoLast := d.dict.tpdoLast }) ∧
    (∀ since : Nat, s.b.d.tpdoType n < 254 ∨ since < s.b.d.nat (0x1800 + n.val) 3 →
      Gives (.tpdo p n since) s fun d => d = s.b.d) ∧
    (∀ since : Nat, s.b.d.pdoOn (0x1800 + n.val) (17 + n.val) .a = true →
      s.b.d.pdoOn (0x1800 + n.val) (17 + n.val) .b = true → 254 ≤ s.b.d.tpdoType n → s.b.d.nat (0x1800 + n.val) 5 ≠ 0 →
      s.b.d.nat (0x1800 + n.val) 5 ≤ since → s.b.d.power.test = false → s.b.d.nat (0x1A00 + n.val) 0 = 0 →
      Gives (.tpdoEventTimer n since) s fun d =>
          d = { s.b.d with portA := d.portA, portB := d.portB, dict := d.dict, test := d.test, out := d.out } ∧
          d.out = .pdo .b n.val [] :: .pdo .a n.val [] :: s.b.d.out) ∧
    (∀ since : Nat, s.b.d.tpdoType n < 254 ∨ s.b.d.nat (0x1800 + n.val) 5 = 0 ∨ since < s.b.d.nat (0x1800 + n.val) 5 →
      Gives (.tpdoEventTimer n since) s fun d => d = s.b.d)

namespace Sys2Proof.Machine

/-- Heartbeats and bus errors (R453, R461, R462): what each leaves, with its frame. -/
def BusEventsComplete : Prop :=
  ∀ (s : State) (p : Port), s.b.d.power.coreOn = true →
    (∀ (node nmt : Nat) (k : Fin 4), s.b.d.served = true → s.b.d.onBus p = true → s.b.d.clientOf node = some k →
      Gives (.heartbeatReceived p node nmt) s fun d =>
        d.dict.clients[k].active = true ∧ d.dict.clients[k].timeout = false ∧ d.dict.clients[k].nmt = nmt % 256 ∧
        (∀ j : Fin 4, j ≠ k → d.dict.clients[j] = s.b.d.dict.clients[j]) ∧
        d = { awake s with dict := { s.b.d.dict with clients := d.dict.clients }, chg := d.chg }) ∧
    (∀ node nmt : Nat, s.b.d.clientOf node = none → Gives (.heartbeatReceived p node nmt) s fun d => d = s.b.d) ∧
    (∀ (k : Fin 4) (ms : Nat), s.b.d.coresRun = true → s.b.d.dict.clients[k].active = true →
      s.b.d.dict.clients[k].timeout = false → s.b.d.clientNode (k.val + 1) ≠ 0 → s.b.d.nat 0x1016 (k.val + 1) % 65536 ≤ ms →
      Gives (.heartbeatConsumerTimeout k ms) s fun d => d.sticky 110 = true ∧
        (s.b.d.sticky 110 = false → d.faults.src[110].reason = k.val + 1) ∧
        d.still = { s.b.d with dict := { s.b.d.dict with
          clients := upd s.b.d.dict.clients k fun c => { c with timeout := true } } }.still) ∧
    (∀ ms : Nat, s.b.d.served = true → s.b.d.nat 0x1017 0 ≠ 0 → s.b.d.nat 0x1017 0 ≤ ms → s.b.d.power.test = false →
      s.b.d.onBus .a = true → s.b.d.onBus .b = true →
      Gives (.heartbeatProducer ms) s fun d =>
        d.out = .heartbeat .b s.b.d.portB.nmt.code :: .heartbeat .a s.b.d.portA.nmt.code :: s.b.d.out ∧
        d.still = s.b.d.still) ∧
    (∀ ms : Nat, ms < s.b.d.nat 0x1017 0 → Gives (.heartbeatProducer ms) s fun d => d = s.b.d) ∧
    (∀ ms : Nat, (s.b.d.port p).live = true → 1000 ≤ ms → s.b.d.sticky (portSource p) = false →
      Gives (.busOff p ms) s fun d => d.retrying (portSource p) = true ∧ d.sticky (portSource p) = false ∧
        d.still = (s.b.d.port' p fun x => { x with busOff := true }).still) ∧
    (∀ ms : Nat, (s.b.d.port p).live = true → ms < 1000 →
      Gives (.busOff p ms) s fun d => d.sticky (portSource p) = true ∧
        d.still = (s.b.d.port' p fun x => { x with busOff := true, heldOff := true }).still) ∧
    (∀ n : Nat, (s.b.d.port p).busOff = true → (s.b.d.port p).heldOff = false → 128 ≤ n →
      Gives (.busOffRecovery p n) s fun d => d.retrying (portSource p) = false ∧ d.still = (s.b.d.port' p fun x =>
        { x with busOff := false, passive := false, warning := false, txErr := 0, rxErr := 0 }).still) ∧
    (∀ ms : Nat, (s.b.d.port p).live = true → 1000 ≤ ms →
      Gives (.errorPassive p ms) s fun d => d.sticky (portSource p) = true ∧ (d.port p).passive = true ∧
        (d.port p).warning = true ∧ (128 ≤ (d.port p).txErr ∨ 128 ≤ (d.port p).rxErr) ∧
        d.still = { (s.b.d.port' p fun x => { x with
          passive := true, warning := true, txErr := (d.port p).txErr, rxErr := (d.port p).rxErr }) with
          free := s.b.d.free + 1 }.still)

/-- NMT commands (Tables 18-2 and 2-3): the state of the port they reach, and the resets; a command for another node does nothing. -/
def NmtComplete : Prop :=
  ∀ (s : State) (p : Port) (node : Nat), s.b.d.power.coreOn = true →
    (s.b.d.nmtFor p node = true →
      Gives (.nmtStart p node) s (fun d => d = (awake s).port' p fun x => { x with nmt := .operational }) ∧
      Gives (.nmtEnterPreOperational p node) s (fun d => d = (awake s).port' p fun x => { x with nmt := .preOp }) ∧
      Gives (.nmtStop p node) s (fun d => (d.port p).nmt = .stopped ∧ (d.port p).sessions = [] ∧
        d = { (awake s).port' p (fun x => { x with nmt := .stopped, sessions := [] }) with pool := d.pool }) ∧
      GivesBody (.nmtResetNode p node) s (fun b =>
          b.d.still = { s.b.d with
            grove := b.d.grove, chg := b.d.chg, conv := b.d.conv, wdc := b.d.wdc, portA := b.d.portA, portB := b.d.portB
            dict := b.d.dict, pool := b.d.pool, jour := b.d.jour, nv := b.d.nv, otp := b.d.otp, test := b.d.test, tap := b.d.tap
            life := b.d.life, th := b.d.th }.still ∧
          b.hw = Caused s.b.hw 7 ∧ b.host = s.b.host ∧
        (∀ n : TimerNo, n.val < 6 → b.d.timer[n].saved = none ∧ b.d.timer[n].regs.cnt = 0 ∧
          b.d.timer[n].regs.word = (s.b.d.timer[n].saved.getD s.b.d.timer[n].regs).word ∧
          b.d.timer[n].run = (b.d.tm n 1).testBit 15) ∧
        b.d.nv.banks = s.b.d.nv.banks ∧ b.d.otp.words = s.b.d.otp.words ∧ b.d.dict.unlocked = false ∧ b.d.tap.keyed = false ∧
        b.d.pool.buffers = [] ∧
        b.d.jour.replayDue = true ∧ (∀ x, b.d.branchOn x = s.b.d.branchOn x) ∧
        (b.d.portA.enabled = true → b.d.portA.nmt = .preOp) ∧ (b.d.portB.enabled = true → b.d.portB.nmt = .preOp)) ∧
      GivesBody (.nmtResetCommunication p node) s (fun b =>
          b.d = { s.b.d with
            power := b.d.power, portA := b.d.portA, portB := b.d.portB, dict := b.d.dict, pool := b.d.pool, test := b.d.test
            out := b.d.out, nv := { s.b.d.nv with logQueue := b.d.nv.logQueue }
            faults := { s.b.d.faults with logDropped := b.d.faults.logDropped } } ∧
          b.hw = Caused s.b.hw 8 ∧ b.host = s.b.host ∧
        b.d.dict.unlocked = false ∧ ((b.d.port p).enabled = true → (b.d.port p).nmt = .preOp))) ∧
    (s.b.d.nmtFor p node = false → ∀ c ∈ [Instr.nmtStart p node, .nmtEnterPreOperational p node, .nmtStop p node,
      .nmtResetNode p node, .nmtResetCommunication p node], GivesBody c s fun b => b = s.b)

end Sys2Proof.Machine

/-- Heartbeats, bus errors and NMT. -/
def Obligations.BusEventsComplete : Prop := Sys2Proof.Machine.BusEventsComplete ∧ Sys2Proof.Machine.NmtComplete

namespace Sys2Proof.Machine

/-! ## Cascade (chapter 10) -/

/-- The sequencer stands idle with nothing due, and the device is not in STANDBY: a source that is raised moves nothing else. -/
abbrev Quiet (d : Dev) : Prop :=
  d.seq.state = .idle ∧ d.seq.groupDue = false ∧ d.seq.shipDue = false ∧ d.power.state ≠ .standby

/-- What a slave answers in the reply window. -/
def Answering (d : Dev) (r : ReplyMsg) : Dev := { d with casc := { d.casc with reply := r, replyDue := true } }

end Sys2Proof.Machine

/-- The frames of the link (R262, R264 to R267, R270, R271, R275, R277): what the master's beacon carries, what a beacon does to
a slave's link, what status frames and replies leave with and do to the master's view. -/
def Obligations.LinkComplete : Prop :=
  ∀ s : State, s.b.d.power.coreOn = true →
    (s.b.d.isMaster = true → s.b.d.power.test = false →
      Gives .beacon s fun d =>
        d = { s.b.d with casc := d.casc, out := d.out } ∧ d.casc.slaves = s.b.d.casc.slaves.map SlaveView.newCycle ∧
        ∃ m : Beacon, d.out = (if m.cstart then [Out.startPulse] else []) ++ .copak (copakFrame 1 0 m.bytes) :: s.b.d.out ∧
        m.cycle = (s.b.d.casc.cycle + 1) % 256 ∧ m.time = s.b.hw.counter ∧ m.masterState = s.b.d.stateCode ∧
        m.order = s.b.d.casc.order ∧ m.orderTag = s.b.d.casc.orderTag ∧ m.nslv = s.b.d.casc.units - 1 ∧
        m.summary = decide (5 ≤ s.b.d.casc.units) ∧ m.cstart = (s.b.d.seq.awaitPulse && decide (s.b.d.casc.order = 1)) ∧
        d.casc.announced = m.cstart ∧ (s.b.d.casc.messages = [] → m.msgType = 0 ∧ m.tag = 0xFFFF ∧ d.casc.messages = []) ∧
        ∀ (x : Msg) (r : List Msg), s.b.d.casc.messages = x :: r → m.msgAddr = x.addr ∧ m.msgType = x.type ∧ m.tag = x.tag ∧
          m.data = x.data ∧ d.casc.messages = r ++ [x] ∧ d.casc.sent = some x) ∧
    (∀ (c : RxCheck) (m : Beacon), s.b.d.casc.role = 2 → s.b.d.casc.link ≠ .conflict → RxOk c 1 32 = false →
      Gives (.beaconReceived c m) s fun d => d = { s.b.d with casc := { s.b.d.casc with
        discarded := satInc 32 s.b.d.casc.discarded, announced := false, statusDue := false, replyDue := false
        validBeacons := if s.b.d.casc.link = .joined then s.b.d.casc.validBeacons else 0 } }) ∧
    (∀ (c : RxCheck) (m : Beacon), s.b.d.casc.role = 2 → s.b.d.casc.link = .search ∨ s.b.d.casc.link = .lost →
      2 ≤ s.b.d.casc.validBeacons → RxOk c 1 32 = true → s.b.d.straps.addr ≤ m.nslv → m.msgType = 0 →
      s.b.d.test.lateMsg = none →
      Gives (.beaconReceived c m) s fun d => d = { s.b.d with casc := { s.b.d.casc with
        offset := (m.time : Int) - s.b.hw.counter, announced := m.cstart, summary := m.summary, cycle := m.cycle % 256
        statusDue := true, replyDue := false, link := .joined, validBeacons := 3
        rejoin := s.b.d.casc.rejoin || decide (s.b.d.casc.link = .lost) } }) ∧
    (∀ (c : RxCheck) (m : Beacon), s.b.d.casc.role = 2 → s.b.d.casc.link ≠ .conflict → s.b.d.casc.link ≠ .noSlot →
      RxOk c 1 32 = true → m.nslv < s.b.d.straps.addr → m.msgType = 0 → Quiet s.b.d →
      Gives (.beaconReceived c m) s fun d =>
          KeepsPower s d ∧ d = { s.b.d with power := d.power, casc := d.casc, wdh := d.wdh, faults := d.faults, nv := d.nv } ∧
          d.casc.link = .noSlot ∧ d.sticky 112 = true ∧ d.casc.linkReason = 3) ∧
    (s.b.d.isSlave = true → s.b.d.casc.statusDue = true → s.b.d.power.test = false →
      Gives .statusFrame s fun d => d = { s.b.d with
        casc := { s.b.d.casc with statusDue := false }
        out := .copak (copakFrame (if s.b.d.casc.summary then 3 else 2) s.b.d.straps.addr s.b.d.statusOf.payload) :: s.b.d.out }) ∧
    (s.b.d.isSlave = false ∨ s.b.d.casc.statusDue = false → Gives .statusFrame s fun d => d = s.b.d) ∧
    (∀ (u : Unit8) (c : RxCheck) (st : Status), s.b.d.isMaster = true → u.val ≠ 0 → u.val < s.b.d.casc.units →
      RxOk c (if 5 ≤ s.b.d.casc.units then 3 else 2) (if 5 ≤ s.b.d.casc.units then 4 else 16) = false →
      Gives (.statusFrameReceived u c st) s fun d => d = { s.b.d with casc := { s.b.d.casc with
        discarded := satInc 32 s.b.d.casc.discarded, slaves := upd s.b.d.casc.slaves u fun x => { x with valid := 0 } } }) ∧
    (∀ (u : Unit8) (c : RxCheck) (a f b r on good fw : Nat), s.b.d.isMaster = true → u.val ≠ 0 → u.val < s.b.d.casc.units →
      s.b.d.casc.units < 5 → RxOk c 2 16 = true → Quiet s.b.d → s.b.d.casc.slaves[u].present = true →
      (f.testBit 6 = true → s.b.d.casc.slaves[u].safeReq = true) → (f.testBit 5 = true → s.b.d.casc.slaves[u].fstart = true) →
      Gives (.statusFrameReceived u c (.full a f b r on good fw)) s fun d =>
          d = { s.b.d with casc := d.casc, wdh := d.wdh } ∧
          d.casc = { s.b.d.casc with
        slaves := upd s.b.d.casc.slaves u fun x => { x with
          status := (Status.full a f b r on good fw).bytes, on := on, good := good - (good &&& fw), ready := f.testBit 7
          idle := !f.testBit 4, safeReq := f.testBit 6, fstart := f.testBit 5, valid := min 3 (x.valid + 1), missed := 0 } }) ∧
    (∀ (u : Unit8) (c : RxCheck) (a f b r on good fw : Nat), s.b.d.isMaster = true → u.val ≠ 0 → u.val < s.b.d.casc.units →
      s.b.d.casc.units < 5 → RxOk c 2 16 = true → Quiet s.b.d → s.b.d.power.state = .run → s.b.d.path.ship ≠ .pastReturn →
      s.b.d.casc.slaves[u].present = true → s.b.d.casc.slaves[u].safeReq = false → f.testBit 6 = true →
      Gives (.statusFrameReceived u c (.full a f b r on good fw)) s fun d =>
          d.still = { s.b.d with casc := d.casc }.still ∧
          d.casc.order = 3 ∧ d.casc.orderTag = (s.b.d.casc.orderTag + 1) % 256) ∧
    (s.b.d.isSlave = true → s.b.d.coresRun = true → s.b.d.casc.replyDue = true → s.b.d.power.test = false →
      Gives .reply s fun d => d = { s.b.d with
        casc := { s.b.d.casc with replyDue := false }
        out := .copak (copakFrame 4 s.b.d.straps.addr s.b.d.casc.reply.bytes) :: s.b.d.out })

/-- The messages of Table 10-8 at a slave that hears them (R281 to R285): the answer of each, and what it changes. -/
def Obligations.MessagesComplete : Prop :=
  ∀ (s : State) (tag : Nat), s.b.d.power.coreOn = true → s.b.d.isSlave = true → s.b.d.coresRun = true →
    s.b.d.test.lateDue = false → s.b.d.test.lateMsg = none →
    (∀ (l : List CTarget) (count : Nat), s.b.d.tagEntry tag = none → s.b.d.casc.voteTag ≠ tag → 1 < count →
      Gives (.prepareSegment tag 0 count l) s fun d => d = Answering { s.b.d with casc := { s.b.d.casc with
        segments := l.take 3, segGot := 1, segCount := count, voteTag := tag, vote := 0, voteDetail := 0 } } ⟨0x01, 0, tag, 0⟩) ∧
    (∀ (l : List CTarget) (index count : Nat), s.b.d.tagEntry tag = none → s.b.d.casc.voteTag ≠ tag → index ≠ 0 →
      Gives (.prepareSegment tag index count l) s fun d => d = Answering s.b.d ⟨0x0C, 0, tag, 0⟩) ∧
    (∀ (l : List CTarget) (d1 : Dev), s.b.d.tagEntry tag = none → s.b.d.casc.voteTag ≠ tag →
      d1 = { s.b.d with casc := { s.b.d.casc with
        segments := l.take 3, segGot := 1, segCount := 1, voteTag := tag, vote := 0, voteDetail := 0 } } →
      (∀ (detail : Nat) (d2 : Dev), Body.voteOn { s.b with d := d1 } ((l.take 3).filterMap ofCTarget) = some (detail, d2) →
        Gives (.prepareSegment tag 0 1 l) s fun d =>
          d = Answering { d1 with integ := d2.integ, casc := { d1.casc with vote := 3, voteDetail := detail } } ⟨0x01, 0, tag, 0⟩) ∧
      (Body.voteOn { s.b with d := d1 } ((l.take 3).filterMap ofCTarget) = none →
        Gives (.prepareSegment tag 0 1 l) s fun d => d.casc.vote = 2 ∧ d.casc.reply = ⟨0x01, 0, tag, 0⟩ ∧
          (∃ e : Entry, d.jour.entries.getLast? = some e ∧ e.cascade = true ∧ e.tag = tag ∧ e.state = .prepared ∧ e.going = false ∧
            e.targets = (l.take 3).filterMap ofCTarget) ∧
          d = { s.b.d with casc := d.casc, jour := { s.b.d.jour with entries := d.jour.entries } })) ∧
    (∀ x : Nat × Entry, s.b.d.tagEntry tag = some x →
      Gives (.pollVote tag) s (fun d => d = Answering s.b.d ⟨0x02, 0, tag, 0⟩) ∧
      (∀ starts : Vector StartMeas 30, x.2.state ≠ .prepared ∨ x.2.going = true →
        Gives (.commit tag starts) s fun d => d = Answering s.b.d ⟨0x04, 0, tag, 0⟩) ∧
      (∀ (starts : Vector StartMeas 30) (b : Branch), x.2.state = .prepared → x.2.going = false → s.b.d.inRun = true →
        x.2.targets = [⟨0, 3, 0, b.val, 0, 0⟩] → Gives (.commit tag starts) s fun d =>
          d.casc.reply = ⟨0x04, 0, tag, 0⟩ ∧ d.casc.replyDue = true ∧ d.branchOn b = false ∧ d.still = s.b.d.still) ∧
      Gives (.pollOutcome tag) s (fun d => d = Answering s.b.d (match x.2.state with
        | .applied => ⟨0x05, 0, tag, x.2.missedBranches⟩
        | .partially => ⟨0x06, 0, tag, x.2.missedBranches⟩
        | .failed => ⟨0x07, 0, tag, x.2.missedBranches⟩
        | _ => ⟨0x00, 0, tag, 0⟩)) ∧
      Gives (.abort tag) s (fun d => d.casc = (Answering s.b.d ⟨0x08, 0, tag, 0⟩).casc ∧
        d = { s.b.d with casc := d.casc, jour := d.jour } ∧
        (x.2.state.ended = true → d.jour = s.b.d.jour) ∧
        (x.2.state.ended = false → d.jour.entries = updList s.b.d.jour.entries x.1 fun e =>
          if s.b.d.commitAdmitted entryUs then
            { e with state := .failed, detail := 0x0A, endNo := s.b.d.jour.ends + 1, pend := none }
          else { e with pend := some (e.pend.getD (.failed, 0x0A)) })) ∧
      (∀ type : Nat, Gives (.unknownTag tag type) s fun d => d = s.b.d)) ∧
    (s.b.d.tagEntry tag = none →
      Gives (.pollVote tag) s (fun d => d = Answering s.b.d (if s.b.d.casc.voteTag ≠ tag then ⟨0x0F, 0, tag, 0⟩
        else if s.b.d.casc.vote = 3 then ⟨0x03, s.b.d.casc.voteDetail, tag, 0⟩ else ⟨0x00, 0, tag, 0⟩)) ∧
      (∀ starts : Vector StartMeas 30, Gives (.commit tag starts) s fun d => d = Answering s.b.d ⟨0x0F, 0, tag, 0⟩) ∧
      Gives (.pollOutcome tag) s (fun d => d = Answering s.b.d ⟨0x0F, 0, tag, 0⟩) ∧
      Gives (.abort tag) s (fun d => d = if s.b.d.casc.voteTag = tag
        then Answering { s.b.d with casc := { s.b.d.casc with voteTag := 0xFFFF, vote := 0, segments := [], segGot := 0 } }
          ⟨0x08, 0, tag, 0⟩
        else Answering s.b.d ⟨0x0F, 0, tag, 0⟩) ∧
      (∀ type : Nat, s.b.d.casc.voteTag ≠ tag →
        Gives (.unknownTag tag type) s fun d => d = Answering s.b.d ⟨0x0F, 0, tag, 0⟩)) ∧
    (∀ e : Entry, s.b.d.jour.entries.find? (fun e => e.cascade && e.state = .prepared) = some e →
      Gives .inquire s fun d => d = Answering { s.b.d with casc := { s.b.d.casc with rejoin := false } } ⟨0x09, 0, e.tag, 0⟩) ∧
    (s.b.d.jour.entries.find? (fun e => e.cascade && e.state = .prepared) = none →
      Gives .inquire s fun d => d = Answering { s.b.d with casc := { s.b.d.casc with rejoin := false } } ⟨0x09, 0, 0xFFFF, 0⟩) ∧
    (s.b.d.casc.safeReq = false →
      Gives .getFail s fun d => d = Answering s.b.d ⟨0x0A, 0, 0xFFFF, s.b.d.casc.lastFail.1 % 256 +
        s.b.d.casc.lastFail.2 % 256 * 2 ^ 8 + s.b.d.stateCode * 2 ^ 16 + s.b.d.seq.attempt % 256 * 2 ^ 24⟩) ∧
    Gives .getInfo s (fun d => d = Answering s.b.d ⟨0x0B, 0, 0xFFFF, s.b.d.members⟩)

/-- The master's transactions (R280 to R282): the prepare, the replies that drive it, and its abort. -/
def Obligations.TransactionsComplete : Prop :=
  ∀ s : State, s.b.d.power.coreOn = true →
    (∀ (i : Nat) (e : Entry) (detail : Nat) (d1 : Dev), s.b.d.casc.role = 1 → s.b.d.casc.txn = none → s.b.d.journalRuns = true →
      s.b.d.nextEntry = some (i, e) → e.tag ≠ 0xFFFF →
      s.b.prepareTargets (s.b.d.entryWho e) (e.targets.filter fun t => t.unit = 0) false = some (detail, d1) →
      Gives .cascadePrepareStart s fun d => d = { s.b.d with jour := d.jour, integ := d1.integ } ∧
        d.jour.entries = updList s.b.d.jour.entries i fun x =>
          { x with state := .failed, detail := detail, endNo := s.b.d.jour.ends + 1, pend := none }) ∧
    (∀ (i : Nat) (e : Entry), s.b.d.casc.role = 1 → s.b.d.casc.txn = none → s.b.d.journalRuns = true →
      s.b.d.nextEntry = some (i, e) → e.tag ≠ 0xFFFF →
      s.b.prepareTargets (s.b.d.entryWho e) (e.targets.filter fun t => t.unit = 0) false = none →
      Gives .cascadePrepareStart s fun d => d = { s.b.d with casc := { s.b.d.casc with
        txn := some { tag := e.tag, committed := false, units := e.units, prepared := 0, voted := 0, confirmed := 0, ended := 0 }
        messages := s.b.d.casc.messages ++ ((List.range 8).filter fun u => e.units.testBit u).flatMap e.segments } }) ∧
    (∀ (u : Unit8) (us : Nat) (x : Txn), s.b.d.casc.txn = some x → s.b.d.coresRun = true → x.committed = false →
      x.prepared.testBit u.val = true → x.voted.testBit u.val = false → s.b.d.nat 0x2380 5 ≤ us →
      Gives (.prepareDeadline u us) s fun d =>
          d = { s.b.d with casc := d.casc, jour := d.jour } ∧
          (d.casc.txn = none ∧
        ∀ v : Unit8, x.prepared.testBit v.val = true → ⟨v.val, 5, x.tag, []⟩ ∈ d.casc.messages)) ∧
    (∀ (u : Unit8) (us : Nat), s.b.d.casc.txn = none → Gives (.prepareDeadline u us) s fun d => d = s.b.d) ∧
    (∀ (u : Unit8) (c : RxCheck) (r : ReplyMsg) (starts : Vector StartMeas 30), s.b.d.isMaster = true → RxOk c 4 8 = false →
      Gives (.replyReceived u c r starts) s fun d =>
        d = { s.b.d with casc := { s.b.d.casc with discarded := satInc 32 s.b.d.casc.discarded } }) ∧
    (∀ (u : Unit8) (c : RxCheck) (r : ReplyMsg) (starts : Vector StartMeas 30) (m : Msg), s.b.d.isMaster = true →
      s.b.d.coresRun = true → RxOk c 4 8 = true → s.b.d.casc.sent = some m → m.addr = u.val → r.tag = m.tag →
      (m.type = 1 → r.code = 1 → s.b.d.casc.messages = [m] → Gives (.replyReceived u c r starts) s fun d =>
        d = { s.b.d with casc := { s.b.d.casc with messages := [⟨u.val, 2, m.tag, []⟩] } }) ∧
      (∀ x : Txn, m.type = 2 → r.code = 2 → s.b.d.casc.txn = some x → x.tag = m.tag → x.voted ||| 2 ^ u.val ≠ x.units →
        Gives (.replyReceived u c r starts) s fun d => d = { s.b.d with casc := { s.b.d.casc with
          messages := s.b.d.casc.messages.erase m, txn := some { x with voted := x.voted ||| 2 ^ u.val } } }) ∧
      (∀ x : Txn, m.type = 2 → r.code = 3 → s.b.d.casc.txn = some x → x.committed = false →
        Gives (.replyReceived u c r starts) s fun d =>
            d = { s.b.d with casc := d.casc, jour := d.jour } ∧
            (d.casc.txn = none ∧
          ∀ v : Unit8, x.prepared.testBit v.val = true → ⟨v.val, 5, x.tag, []⟩ ∈ d.casc.messages)) ∧
      (∀ x : Txn, m.type = 3 → r.code = 4 → s.b.d.casc.txn = some x → x.tag = m.tag →
        Gives (.replyReceived u c r starts) s fun d => d.casc.txn = some { x with confirmed := x.confirmed ||| 2 ^ u.val } ∧
          ⟨u.val, 4, m.tag, []⟩ ∈ d.casc.messages ∧ d = { s.b.d with casc := d.casc }) ∧
      (m.type = 5 → r.code = 8 ∨ r.code = 0x0F → Gives (.replyReceived u c r starts) s fun d =>
        d = { s.b.d with casc := { s.b.d.casc with messages := s.b.d.casc.messages.erase m } }) ∧
      (m.type = 6 → r.code = 9 → m.tag = 0xFFFF → Gives (.replyReceived u c r starts) s fun d =>
        d = { s.b.d with casc := { s.b.d.casc with messages := s.b.d.casc.messages.erase m } }) ∧
      (m.type = 7 → r.code = 0x0A → Gives (.replyReceived u c r starts) s fun d =>
        d.casc.messages = s.b.d.casc.messages.erase m ∧
        d.seq.held = s.b.d.seq.held.map (fillFail u.val (r.data % 256) (r.data / 256 % 256)) ∧ d.still = s.b.d.still) ∧
      (m.type = 8 → r.code = 0x0B → Gives (.replyReceived u c r starts) s fun d =>
        d = { s.b.d with casc := { s.b.d.casc with
          messages := s.b.d.casc.messages.erase m, slaves := upd s.b.d.casc.slaves u fun x => { x with members := r.data } } }))

/-- The master's orders at a slave, each carried out once (R268, R271, Table 10-7). -/
def Obligations.OrdersComplete : Prop :=
  ∀ (s : State) (tag : Nat), s.b.d.power.coreOn = true →
    (s.b.d.takesOrder tag = false → ∀ c ∈ [Instr.startOrder tag, .abortOrder tag, .safeOrder tag, .standbyOrder tag, .shipOrder tag],
      Gives c s fun d => d = s.b.d) ∧
    (s.b.d.takesOrder tag = true →
      Gives (.startOrder tag) s (fun d => d = { s.b.d with casc := { s.b.d.casc with
        lastTag := tag % 256, failPending := none, startArmed := true, lastFail := (0xFF, 0) } }) ∧
      (s.b.d.seq.state = .onOrder → Gives (.abortOrder tag) s fun d => d.casc.lastTag = tag % 256 ∧
        (d.seq.order = .abort ∨ d.seq.order = .pause) ∧
        d.still = { s.b.d with casc := { s.b.d.casc with lastTag := tag % 256 } }.still) ∧
      (s.b.d.seq.state = .pause → Gives (.abortOrder tag) s fun d =>
        d = { s.b.d with casc := { s.b.d.casc with lastTag := tag % 256, failPending := none } }) ∧
      (s.b.d.power.state = .run → s.b.d.seq.state = .idle → Gives (.safeOrder tag) s fun d => d.casc.lastTag = tag % 256 ∧
        (d.seq.order = .safeOff ∨ d.power.state = .safe) ∧
        d.still = { s.b.d with casc := { s.b.d.casc with lastTag := tag % 256 } }.still) ∧
      (s.b.d.actionRefused 2 = none → s.b.d.seq.wakeDue = false → Gives (.standbyOrder tag) s fun d =>
          d.still = { s.b.d with casc := d.casc }.still ∧
          d.casc.lastTag = tag % 256 ∧ ((d.seq.order = .offOrder ∧ d.seq.after = .standby) ∨ d.power.state = .standby)) ∧
      (s.b.d.actionRefused 3 = none → s.b.d.seq.order ≠ .safeOff → Gives (.shipOrder tag) s fun d =>
          d.still = { s.b.d with casc := d.casc }.still ∧
          d.casc.lastTag = tag % 256 ∧ (d.path.ship = .offOrder ∨ d.path.ship = .committing)))

/-- CSYNC and the supervision of the link (R262, R269, R273, R274, R276 to R279, R287). -/
def Obligations.SupervisionComplete : Prop :=
  ∀ s : State, s.b.d.power.coreOn = true →
    (∀ ns : Nat, ns < 2000 ∨ 8000 < ns ∨ s.b.d.casc.announced = false → Gives (.csyncStartPulse ns) s fun d => d = s.b.d) ∧
    (∀ ns : Nat, 2000 ≤ ns → ns ≤ 8000 → s.b.d.casc.announced = true → s.b.d.members ≠ 0 → s.b.d.casc.role = 1 →
      s.b.d.seq.awaitPulse = true → s.b.d.missingSlaves = [] → s.b.d.power.nrstLow = false → s.b.d.tapHolds = false →
      Gives (.csyncStartPulse ns) s fun d =>
          d.still = { s.b.d with casc := d.casc }.still ∧
          d.casc.announced = false ∧ d.casc.starts = satInc 32 s.b.d.casc.starts ∧
        d.grove = s.b.d.grove ∧ d.integ = s.b.d.integ ∧
        d.seq = { s.b.d.seq.sync s.b.hw.counter with
          state := .onOrder, members := s.b.d.members, todo := s.b.d.members, timerUs := 0
          awaitPulse := false, tapWait := false, starts := s.b.d.seq.starts + 1, cascade := true }) ∧
    (∀ ns : Nat, 2000 ≤ ns → ns ≤ 8000 → s.b.d.casc.announced = true → s.b.d.members ≠ 0 → s.b.d.casc.role = 2 →
      s.b.d.casc.startArmed = true → s.b.d.power.state = .run → s.b.d.seq.state = .idle → s.b.d.power.nrstLow = false →
      s.b.d.tapHolds = false →
      Gives (.csyncStartPulse ns) s fun d =>
          d.still = { s.b.d with casc := d.casc }.still ∧
          d.casc.announced = false ∧ d.casc.startArmed = false ∧
        d.casc.starts = satInc 32 s.b.d.casc.starts ∧ d.grove = s.b.d.grove ∧ d.integ = s.b.d.integ ∧
        d.seq = { s.b.d.seq.sync s.b.hw.counter with
          state := .onOrder, members := s.b.d.members, todo := s.b.d.members, timerUs := 0, awaitPulse := false, tapWait := false
          starts := 1, startDue := false, attempt := 0, failed := 0, held := none, cascade := true }) ∧
    (∀ ns : Nat, s.b.d.casc.role ≠ 0 → 20000 ≤ ns → s.b.d.casc.announced = false → s.b.d.casc.csyncLow = true →
      Gives (.faultBroadcast ns) s fun d => d = { s.b.d with casc := { s.b.d.casc with csyncLow := false } }) ∧
    (∀ ns : Nat, s.b.d.casc.role ≠ 0 → 20000 ≤ ns → s.b.d.casc.announced = false → s.b.d.casc.csyncLow = false →
      Gives (.faultBroadcast ns) s fun d => d.sticky 114 = true ∧ d.still = { s.b.d with casc := { s.b.d.casc with
        broadcasts := satInc 16 s.b.d.casc.broadcasts } }.still) ∧
    (∀ us : Nat, s.b.d.casc.role ≠ 0 → 10000 ≤ us → Gives (.csyncStuck us) s fun d => d.sticky 112 = true ∧
      d.still = { s.b.d with casc := { s.b.d.casc with linkReason := 5 } }.still) ∧
    (∀ n : Nat, s.b.d.linkRuns = true → 3 ≤ n → Quiet s.b.d → Gives (.readbackConflict n) s fun d => d.casc.link = .conflict ∧
      d.sticky 112 = true ∧ d.still = { s.b.d with casc := { s.b.d.casc with linkReason := 2 } }.still) ∧
    (∀ n : Nat, s.b.d.casc.role = 2 → s.b.d.casc.link = .joined → 3 ≤ n → Quiet s.b.d → s.b.d.casc.safeReq = false →
      Gives (.linkLost n) s fun d => d.casc.link = .lost ∧ d.sticky 113 = true ∧ d.still = s.b.d.still) ∧
    (∀ (u : Unit8) (n : Nat), s.b.d.isMaster = true → s.b.d.casc.slaves[u].present = true → 3 ≤ n →
      Gives (.slaveLost u n) s fun d =>
          d.still = { s.b.d with casc := d.casc }.still ∧
          (d.casc.slaves[u].present = false ∧ d.casc.slaves[u].lost = true ∧ d.sticky 113 = true ∧
        ∀ v : Unit8, v ≠ u → d.casc.slaves[v] = s.b.d.casc.slaves[v])) ∧
    (∀ n : Nat, s.b.d.casc.role ≠ 0 → 16 < n → Gives (.discardThreshold n) s fun d => d.sticky 112 = true ∧
      d.still = { s.b.d with casc := { s.b.d.casc with linkReason := 1 } }.still) ∧
    (∀ ms : Nat, s.b.d.casc.role = 1 → s.b.d.seq.startDue = true → s.b.d.nat 0x2380 2 ≤ ms → s.b.d.otp.boardOk = true →
      17000 ≤ s.b.d.path.vsysMv → s.b.d.inRun = true → s.b.d.seq.state = .idle → s.b.d.seq.tapWait = false → s.b.d.tapHolds = false →
      s.b.d.power.nrstLow = false →
      Gives (.joinTimeout ms) s fun d =>
          d.still = s.b.d.still ∧
          d.casc.joinDone = true ∧ d.casc.order = 1 ∧
        d.casc.orderTag = (s.b.d.casc.orderTag + 1) % 256 ∧ d.seq.awaitPulse = true ∧ d.seq.startDue = false ∧
        d.seq.state = .onOrder) ∧
    (∀ ms : Nat, s.b.d.casc.role = 2 → s.b.d.casc.link = .lost → s.b.d.nat 0x2380 4 ≤ ms → s.b.d.nat 0x2380 3 ≠ 0 →
      s.b.d.power.state = .run → s.b.d.seq.state = .idle → s.b.d.path.ship ≠ .pastReturn →
      Gives (.linkLossHoldExpiry ms) s fun d => (d.seq.order = .safeOff ∨ d.power.state = .safe) ∧ d.still = s.b.d.still)

namespace Sys2Proof.Machine

/-! ## The whole machine -/

end Sys2Proof.Machine

/-- The block takes the command at the front of its queue, with the queue's rest: the order of commands is theirs. -/
def Obligations.StepTakesFront : Prop :=
  ∀ (c : Instr) (rest : List Instr) (s : State), step { s with pending := c :: rest } = exec c { s with pending := rest }

/-- With no command waiting, one heartwood tick passes and nothing else; an unpowered heartwood counts nothing (R66). That a step
on an empty queue is a tick is the model's choice (log entry 1). -/
def Obligations.IdleStepTicks : Prop :=
  (∀ s : State, s.pending = [] → s.b.hw.powered = true →
    step s = .next { s with b := { s.b with hw := { s.b.hw with counter := min (s.b.hw.counter + 1) maxTime } } }) ∧
  ∀ s : State, s.pending = [] → s.b.hw.powered = false → step s = .next s

/-- No command touches the queue of commands that wait: who sends them is outside the block. -/
def Obligations.CommandsKeepTheQueue : Prop := ∀ (c : Instr) (s t : State), exec c s = .next t → t.pending = s.pending

/-- Every command of the block completes in every state, but for a write to a vendor register through open debug access, which
R553 leaves undescribed: that one is refused by name. -/
def Obligations.OnlyVendorWritesStop : Prop :=
  (∀ (c : Instr) (s : State), (∃ t, exec c s = .next t) ∨
    ∃ reg value, c = .dbgacc (.vendorWrite reg value) ∧ s.b.d.power.coreOn = true ∧ s.b.d.debugOpen = true) ∧
  ∀ (s : State) (reg value : Nat), s.b.d.power.coreOn = true → s.b.d.debugOpen = true →
    exec (.dbgacc (.vendorWrite reg value)) s = .refused .vendorDebugPort

namespace Sys2Proof.Machine

/-- The commands that reach a device whose core domain is unpowered: its inputs and the heartwood domain's own events. -/
def reachesUnpowered (c : Instr) : Bool :=
  match c with
  | .dcinValid _ _ | .dcinInvalid _ _ | .batsnsValid _ _ | .batsnsInvalid _ _ | .nwakeLow _ => true
  | .heartwoodPowerOnReset _ _ | .devicePowerOnReset _ => true
  | .heartwoodCrystalStop | .heartwoodCrystalStable _ | .heartwoodCrystalTimeout _ => true
  | _ => false

/-- While the core domain is unpowered, nothing but the device's inputs and the heartwood domain's own events changes anything
(R14 to R16, R29). -/
def UnpoweredCoreIsInert : Prop :=
  ∀ (c : Instr) (s : State), s.b.d.power.coreOn = false → reachesUnpowered c = false → exec c s = .next s

end Sys2Proof.Machine

/-- The heartwood time counter (R10): it does not wrap; it holds at its largest value, which is reached after more than 272 years of
365.25 days; and no command but a heartwood power-on reset moves it. -/
def Obligations.TimeCounterHolds : Prop :=
  (∀ s t : State, step s = .next t → s.b.hw.counter ≤ maxTime →
    s.b.hw.counter ≤ t.b.hw.counter ∨ ∃ dcin bat rest, s.pending = .heartwoodPowerOnReset dcin bat :: rest) ∧
  (∀ s t : State, step s = .next t → s.b.hw.counter = maxTime →
    t.b.hw.counter = maxTime ∨ ∃ dcin bat rest, s.pending = .heartwoodPowerOnReset dcin bat :: rest) ∧
  (∀ (c : Instr) (s t : State), exec c s = .next t →
    t.b.hw.counter = s.b.hw.counter ∨ ∃ dcin bat, c = .heartwoodPowerOnReset dcin bat) ∧
  272 * 31557600 * 32768 < maxTime

namespace Sys2Proof.Machine

/-- Only a heartwood power-on reset releases the thermal latch, or returns the heartwood domain to its crystal (R35, R45); and
while the latch is set, no power-on reset of the core domain and no wake from SHIP takes place. -/
def LatchHolds : Prop :=
  (∀ (c : Instr) (s t : State), exec c s = .next t → s.b.hw.thermalLatch = true →
    t.b.hw.thermalLatch = true ∨ ∃ dcin bat, c = .heartwoodPowerOnReset dcin bat) ∧
  (∀ (c : Instr) (s t : State), exec c s = .next t → s.b.hw.fallback = true →
    t.b.hw.fallback = true ∨ ∃ dcin bat, c = .heartwoodPowerOnReset dcin bat) ∧
  ∀ (s : State) (p : PowerOn) (us : Nat), s.b.hw.thermalLatch = true → s.b.d.power.coreOn = false →
    exec (.devicePowerOnReset p) s = .next s ∧
    (s.b.d.power.state = .ship → exec (.nwakeLow us) s = .next s)

end Sys2Proof.Machine

/-- The unpowered core domain, and what only a heartwood power-on reset releases. -/
def Obligations.UnpoweredCoreIsInert : Prop := Sys2Proof.Machine.UnpoweredCoreIsInert ∧ Sys2Proof.Machine.LatchHolds

/-- The host area (R519): no command but a host-area write and its commit changes a byte of it, and a host-area write leaves every
byte outside the page it addresses as it was. -/
def Obligations.HostAreaFrame : Prop :=
  (∀ (c : Instr) (s t : State), exec c s = .next t → (∀ w data v, c ≠ .hostAreaWrite w data v) →
    (∀ page v, c ≠ .commitComplete .hostArea page v) → t.b.host = s.b.host) ∧
  ∀ (s t : State) (w : Who) (data : List Byte) (v : Verify), exec (.hostAreaWrite w data v) s = .next t →
    ∀ a, a / 64 ≠ s.b.d.nat 0x2610 1 / 64 → memGet t.b.host a = memGet s.b.host a

/-- The bytes that a host-area write stores, each at its own place in the page, read back; every other byte reads as before, and
the memory keeps its canonical form. -/
def Obligations.HostBytesReadBack : Prop :=
  ∀ (m : Memory) (a : Nat) (data : List Byte), Memory.wf m = true → data.length ≤ 64 →
    (∀ (i : Nat) (h : i < data.length), memGet (hostWrite m a data) (a / 64 * 64 + (a + i) % 64) = data[i]) ∧
    (∀ k, (∀ i, i < data.length → k ≠ a / 64 * 64 + (a + i) % 64) → memGet (hostWrite m a data) k = memGet m k) ∧
    Memory.wf (hostWrite m a data) = true

namespace Sys2Proof.Machine

/-- The effective value of a setting (R21): that of the highest layer that holds an entry for it; a layer without an entry leaves
the value of the layer beneath in force. -/
def LayersDecide : Prop :=
  ∀ (d : Dev) (idx sub : Nat),
    (∀ v, ObjMap.get d.dict.live (key idx sub) = some v → d.int idx sub = v) ∧
    (ObjMap.get d.dict.live (key idx sub) = none →
      (∀ v, ObjMap.get d.dict.image (key idx sub) = some v → d.int idx sub = v) ∧
      (ObjMap.get d.dict.image (key idx sub) = none →
        (∀ v, ObjMap.get d.dict.otp (key idx sub) = some v → d.int idx sub = v) ∧
        (ObjMap.get d.dict.otp (key idx sub) = none → d.int idx sub = romDefault d idx sub)))

end Sys2Proof.Machine

/-- The effective value of a setting is that of the highest layer with an entry for it, and a live write becomes that layer. -/
def Obligations.LayersDecide : Prop := Sys2Proof.Machine.LayersDecide ∧ Sys2Proof.Machine.SettingReadsBack

/-- The first power-up of a new board (R576): with blank OTP and a blank stored image, no branch is in the sequence, every phase is
unwired, INTEGRATOR level is open, and no load is driven. -/
def Obligations.NewBoardDrivesNoLoad : Prop :=
  ∀ (s : State) (p : PowerOn), s.b.d.power.coreOn = false → s.b.hw.powered = true → s.b.hw.thermalLatch = false →
    s.b.hw.shipHold = false → 4650 < p.vpreMv → s.b.d.otp.words = [] → s.b.d.nv.banks[0].blank = true → s.b.d.nv.banks[1].blank = true →
    GivesBody (.devicePowerOnReset p) s fun b => b.d.otp.boardEmpty = true ∧ (∀ x : Branch, b.d.onDelay x = 0xFFFF) ∧
      b.d.members = 0 ∧ (∀ x : Phase, b.d.grove.ph[x].role = .unwired) ∧ b.d.integrator = true ∧
      ∀ x : Branch, b.d.branchOn x = false

/-- The machine right after reset: RUN with every branch off, every source CLEAR, both ports pre-operational, the heartwood
counter at 0 and the cause that of a power-on (R9, R28, R37, R433; Tables 2-2, 2-3, 18-2). Blank storage, and the values of fields
that no rule gives, are the model's choice (log entry 2); nothing here rests on one. -/
def Obligations.ResetValues : Prop :=
  State.reset.pending = [] ∧ State.reset.b.hw.counter = 0 ∧ State.reset.b.hw.lastCause = 1 ∧
    State.reset.b.hw.powerOnCount = 1 ∧ State.reset.b.hw.thermalLatch = false ∧ State.reset.b.d.power.state = .run ∧
    State.reset.b.d.power.test = false ∧ (∀ b : Branch, State.reset.b.d.branchOn b = false) ∧
    (∀ n : Source, State.reset.b.d.sticky n.val = false) ∧ State.reset.b.d.portA.nmt = .preOp ∧
    State.reset.b.d.portB.nmt = .preOp ∧ State.reset.b.d.seq.state = .idle ∧ State.reset.b.d.seq.attempt = 0 ∧
    (∀ n : TimerNo, State.reset.b.d.timer[n].run = false) ∧ State.reset.b.d.chg.phase = .disabled ∧
    State.reset.b.d.jour.next = Vector.replicate 4 1

/-- The invariant holds after reset. -/
def Obligations.ResetKeepsTheInvariant : Prop := State.Inv State.reset

/-- Every step keeps the invariant, from every state that meets it: the host area stays in canonical form, the time counter never
passes its largest value nor falls behind a kept time, the heartwood counters stay within their widths, the reset cause stays one of
Table 2-3, and a fallback of the heartwood clock stays one (R9, R10, R37, R45, R519). -/
def Obligations.EveryStepKeepsTheInvariant : Prop := ∀ s t : State, Steps s t → s.Inv → t.Inv
end

