-- ==== Sys2Proof/Laws/Memory.lean ====
section
/-!
SUPPORT. Laws/Memory.lean: the host area as memory: what a read gives after a write, and that every write keeps the canonical form.
-/
namespace Sys2Proof.Machine

theorem memGet_memSet_self (m : Memory) (a : Nat) (v : Byte) (h : Memory.wf m = true) : memGet (memSet m a v) a = v := by
  induction m with
  | nil => unfold memSet; split <;> simp_all [memGet]
  | cons c r ih =>
    obtain ⟨k, w⟩ := c
    have hr : Memory.wf r = true := by
      cases r with
      | nil => rfl
      | cons d r => simp [Memory.wf] at h; exact h.2
    have hlow : ∀ (r : Memory) (k : Nat), Memory.wf ((k, w) :: r) = true → ∀ a ≤ k, memGet r a = blankByte := by
      intro r
      induction r with
      | nil => intros; rfl
      | cons d r ih' =>
        obtain ⟨j, x⟩ := d
        intro k hk a ha
        simp [Memory.wf] at hk
        have hj : ¬ j = a := by omega
        simp only [memGet, hj, if_false]
        refine ih' j ?_ a (by omega)
        cases r with
        | nil => simpa [Memory.wf] using hk.1.1
        | cons e r => simp [Memory.wf] at hk ⊢; exact ⟨⟨hk.1.1, hk.2.1.2⟩, hk.2.2⟩
    unfold memSet
    split
    · split
      · rename_i hv
        have hk : ¬ k = a := by omega
        simp only [memGet, hk, if_false]
        rw [hlow r k h a (by omega), hv]
      · simp [memGet]
    · split
      · rename_i hv
        subst hv
        split
        · rename_i hv
          rw [hlow r a h a (by omega), hv]
        · simp [memGet]
      · have hk : ¬ k = a := by omega
        simp only [memGet, hk, if_false]
        exact ih hr

theorem memGet_memSet_other (m : Memory) (a b : Nat) (v : Byte) (h : b ≠ a) : memGet (memSet m a v) b = memGet m b := by
  induction m with
  | nil =>
    unfold memSet
    split
    · rfl
    · have hb : ¬ a = b := fun e => h e.symm
      simp [memGet, hb]
  | cons c r ih =>
    obtain ⟨k, w⟩ := c
    have hb : ¬ a = b := fun e => h e.symm
    unfold memSet
    split
    · split
      · rfl
      · simp [memGet, hb]
    · split
      · rename_i hk
        subst hk
        split <;> simp [memGet, hb]
      · simp only [memGet, ih]

/-- The first address of a canonical memory bounds the others from below; a write keeps every bound below its own address. -/
def memAbove (m : Memory) (k : Nat) : Prop := match m with | [] => True | c :: _ => k < c.1

theorem wf_cons (c : Host.Cell) (m : Memory) : Memory.wf (c :: m) = true ↔ c.2 ≠ blankByte ∧ memAbove m c.1 ∧ Memory.wf m = true := by
  cases m with
  | nil => simp [Memory.wf, memAbove]
  | cons d r => simp [Memory.wf, memAbove, and_assoc]

theorem memAbove_trans {m : Memory} {j k : Nat} (h : memAbove m k) (hj : j ≤ k) : memAbove m j := by
  cases m with
  | nil => trivial
  | cons c r => exact Nat.lt_of_le_of_lt hj h

theorem memSet_wf_above (m : Memory) (a : Nat) (v : Byte) (h : Memory.wf m = true) :
    Memory.wf (memSet m a v) = true ∧ ∀ k, k < a → memAbove m k → memAbove (memSet m a v) k := by
  induction m with
  | nil =>
    unfold memSet
    split
    · exact ⟨rfl, fun _ _ _ => trivial⟩
    · rename_i hv
      exact ⟨by simp [Memory.wf, hv], fun k hk _ => hk⟩
  | cons c r ih =>
    obtain ⟨j, w⟩ := c
    obtain ⟨hw, ha, hr⟩ := (wf_cons _ _).1 h
    unfold memSet
    split
    · rename_i hlt
      split
      · exact ⟨h, fun _ _ x => x⟩
      · rename_i hv
        exact ⟨(wf_cons _ _).2 ⟨hv, hlt, h⟩, fun k hk _ => hk⟩
    · split
      · rename_i he
        subst he
        split
        · exact ⟨hr, fun k hk _ => memAbove_trans ha (Nat.le_of_lt hk)⟩
        · rename_i hv
          exact ⟨(wf_cons _ _).2 ⟨hv, ha, hr⟩, fun k hk _ => hk⟩
      · have hja : j < a := by omega
        exact ⟨(wf_cons _ _).2 ⟨hw, (ih hr).2 j hja ha, (ih hr).1⟩, fun k _ x => x⟩

theorem memSet_wf (m : Memory) (a : Nat) (v : Byte) (h : Memory.wf m = true) : Memory.wf (memSet m a v) = true :=
  (memSet_wf_above m a v h).1

theorem hostWrite_wf (m : Memory) (a : Nat) (data : List Byte) (h : Memory.wf m = true) : Memory.wf (hostWrite m a data) = true := by
  unfold hostWrite
  generalize data.zipIdx = l
  induction l generalizing m with
  | nil => exact h
  | cons x r ih => exact ih _ (memSet_wf _ _ _ h)

/-- A byte outside the page written reads as before. -/
theorem hostWrite_other (m : Memory) (a b : Nat) (data : List Byte) (h : b / 64 ≠ a / 64) :
    memGet (hostWrite m a data) b = memGet m b := by
  unfold hostWrite
  generalize data.zipIdx = l
  induction l generalizing m with
  | nil => rfl
  | cons x r ih =>
    rw [List.foldl_cons, ih, memGet_memSet_other]
    intro e
    apply h
    omega

end Sys2Proof.Machine
end

