-- ==== Sys2Proof/Laws/State.lean ====
section
/-!
SUPPORT. Laws/State.lean: what an update of one part of the device leaves in every part; true by definition.
-/
namespace Sys2Proof.Machine

variable (d : Dev)

@[simp] theorem Dev.power'_power (f : Power → Power) : (d.power' f).power = f d.power := rfl
@[simp] theorem Dev.power'_clk (f : Power → Power) : (d.power' f).clk = d.clk := rfl
@[simp] theorem Dev.power'_straps (f : Power → Power) : (d.power' f).straps = d.straps := rfl
@[simp] theorem Dev.power'_path (f : Power → Power) : (d.power' f).path = d.path := rfl
@[simp] theorem Dev.power'_grove (f : Power → Power) : (d.power' f).grove = d.grove := rfl
@[simp] theorem Dev.power'_integ (f : Power → Power) : (d.power' f).integ = d.integ := rfl
@[simp] theorem Dev.power'_seq (f : Power → Power) : (d.power' f).seq = d.seq := rfl
@[simp] theorem Dev.power'_judge (f : Power → Power) : (d.power' f).judge = d.judge := rfl
@[simp] theorem Dev.power'_casc (f : Power → Power) : (d.power' f).casc = d.casc := rfl
@[simp] theorem Dev.power'_chg (f : Power → Power) : (d.power' f).chg = d.chg := rfl
@[simp] theorem Dev.power'_gauge (f : Power → Power) : (d.power' f).gauge = d.gauge := rfl
@[simp] theorem Dev.power'_th (f : Power → Power) : (d.power' f).th = d.th := rfl
@[simp] theorem Dev.power'_conv (f : Power → Power) : (d.power' f).conv = d.conv := rfl
@[simp] theorem Dev.power'_timer (f : Power → Power) : (d.power' f).timer = d.timer := rfl
@[simp] theorem Dev.power'_wdc (f : Power → Power) : (d.power' f).wdc = d.wdc := rfl
@[simp] theorem Dev.power'_wdh (f : Power → Power) : (d.power' f).wdh = d.wdh := rfl
@[simp] theorem Dev.power'_faults (f : Power → Power) : (d.power' f).faults = d.faults := rfl
@[simp] theorem Dev.power'_portA (f : Power → Power) : (d.power' f).portA = d.portA := rfl
@[simp] theorem Dev.power'_portB (f : Power → Power) : (d.power' f).portB = d.portB := rfl
@[simp] theorem Dev.power'_dict (f : Power → Power) : (d.power' f).dict = d.dict := rfl
@[simp] theorem Dev.power'_pool (f : Power → Power) : (d.power' f).pool = d.pool := rfl
@[simp] theorem Dev.power'_jour (f : Power → Power) : (d.power' f).jour = d.jour := rfl
@[simp] theorem Dev.power'_nv (f : Power → Power) : (d.power' f).nv = d.nv := rfl
@[simp] theorem Dev.power'_otp (f : Power → Power) : (d.power' f).otp = d.otp := rfl
@[simp] theorem Dev.power'_life (f : Power → Power) : (d.power' f).life = d.life := rfl
@[simp] theorem Dev.power'_recs (f : Power → Power) : (d.power' f).recs = d.recs := rfl
@[simp] theorem Dev.power'_test (f : Power → Power) : (d.power' f).test = d.test := rfl
@[simp] theorem Dev.power'_tap (f : Power → Power) : (d.power' f).tap = d.tap := rfl
@[simp] theorem Dev.power'_out (f : Power → Power) : (d.power' f).out = d.out := rfl
@[simp] theorem Dev.power'_free (f : Power → Power) : (d.power' f).free = d.free := rfl

@[simp] theorem Dev.clk'_power (f : Clocks → Clocks) : (d.clk' f).power = d.power := rfl
@[simp] theorem Dev.clk'_clk (f : Clocks → Clocks) : (d.clk' f).clk = f d.clk := rfl
@[simp] theorem Dev.clk'_straps (f : Clocks → Clocks) : (d.clk' f).straps = d.straps := rfl
@[simp] theorem Dev.clk'_path (f : Clocks → Clocks) : (d.clk' f).path = d.path := rfl
@[simp] theorem Dev.clk'_grove (f : Clocks → Clocks) : (d.clk' f).grove = d.grove := rfl
@[simp] theorem Dev.clk'_integ (f : Clocks → Clocks) : (d.clk' f).integ = d.integ := rfl
@[simp] theorem Dev.clk'_seq (f : Clocks → Clocks) : (d.clk' f).seq = d.seq := rfl
@[simp] theorem Dev.clk'_judge (f : Clocks → Clocks) : (d.clk' f).judge = d.judge := rfl
@[simp] theorem Dev.clk'_casc (f : Clocks → Clocks) : (d.clk' f).casc = d.casc := rfl
@[simp] theorem Dev.clk'_chg (f : Clocks → Clocks) : (d.clk' f).chg = d.chg := rfl
@[simp] theorem Dev.clk'_gauge (f : Clocks → Clocks) : (d.clk' f).gauge = d.gauge := rfl
@[simp] theorem Dev.clk'_th (f : Clocks → Clocks) : (d.clk' f).th = d.th := rfl
@[simp] theorem Dev.clk'_conv (f : Clocks → Clocks) : (d.clk' f).conv = d.conv := rfl
@[simp] theorem Dev.clk'_timer (f : Clocks → Clocks) : (d.clk' f).timer = d.timer := rfl
@[simp] theorem Dev.clk'_wdc (f : Clocks → Clocks) : (d.clk' f).wdc = d.wdc := rfl
@[simp] theorem Dev.clk'_wdh (f : Clocks → Clocks) : (d.clk' f).wdh = d.wdh := rfl
@[simp] theorem Dev.clk'_faults (f : Clocks → Clocks) : (d.clk' f).faults = d.faults := rfl
@[simp] theorem Dev.clk'_portA (f : Clocks → Clocks) : (d.clk' f).portA = d.portA := rfl
@[simp] theorem Dev.clk'_portB (f : Clocks → Clocks) : (d.clk' f).portB = d.portB := rfl
@[simp] theorem Dev.clk'_dict (f : Clocks → Clocks) : (d.clk' f).dict = d.dict := rfl
@[simp] theorem Dev.clk'_pool (f : Clocks → Clocks) : (d.clk' f).pool = d.pool := rfl
@[simp] theorem Dev.clk'_jour (f : Clocks → Clocks) : (d.clk' f).jour = d.jour := rfl
@[simp] theorem Dev.clk'_nv (f : Clocks → Clocks) : (d.clk' f).nv = d.nv := rfl
@[simp] theorem Dev.clk'_otp (f : Clocks → Clocks) : (d.clk' f).otp = d.otp := rfl
@[simp] theorem Dev.clk'_life (f : Clocks → Clocks) : (d.clk' f).life = d.life := rfl
@[simp] theorem Dev.clk'_recs (f : Clocks → Clocks) : (d.clk' f).recs = d.recs := rfl
@[simp] theorem Dev.clk'_test (f : Clocks → Clocks) : (d.clk' f).test = d.test := rfl
@[simp] theorem Dev.clk'_tap (f : Clocks → Clocks) : (d.clk' f).tap = d.tap := rfl
@[simp] theorem Dev.clk'_out (f : Clocks → Clocks) : (d.clk' f).out = d.out := rfl
@[simp] theorem Dev.clk'_free (f : Clocks → Clocks) : (d.clk' f).free = d.free := rfl

@[simp] theorem Dev.path'_power (f : Path → Path) : (d.path' f).power = d.power := rfl
@[simp] theorem Dev.path'_clk (f : Path → Path) : (d.path' f).clk = d.clk := rfl
@[simp] theorem Dev.path'_straps (f : Path → Path) : (d.path' f).straps = d.straps := rfl
@[simp] theorem Dev.path'_path (f : Path → Path) : (d.path' f).path = f d.path := rfl
@[simp] theorem Dev.path'_grove (f : Path → Path) : (d.path' f).grove = d.grove := rfl
@[simp] theorem Dev.path'_integ (f : Path → Path) : (d.path' f).integ = d.integ := rfl
@[simp] theorem Dev.path'_seq (f : Path → Path) : (d.path' f).seq = d.seq := rfl
@[simp] theorem Dev.path'_judge (f : Path → Path) : (d.path' f).judge = d.judge := rfl
@[simp] theorem Dev.path'_casc (f : Path → Path) : (d.path' f).casc = d.casc := rfl
@[simp] theorem Dev.path'_chg (f : Path → Path) : (d.path' f).chg = d.chg := rfl
@[simp] theorem Dev.path'_gauge (f : Path → Path) : (d.path' f).gauge = d.gauge := rfl
@[simp] theorem Dev.path'_th (f : Path → Path) : (d.path' f).th = d.th := rfl
@[simp] theorem Dev.path'_conv (f : Path → Path) : (d.path' f).conv = d.conv := rfl
@[simp] theorem Dev.path'_timer (f : Path → Path) : (d.path' f).timer = d.timer := rfl
@[simp] theorem Dev.path'_wdc (f : Path → Path) : (d.path' f).wdc = d.wdc := rfl
@[simp] theorem Dev.path'_wdh (f : Path → Path) : (d.path' f).wdh = d.wdh := rfl
@[simp] theorem Dev.path'_faults (f : Path → Path) : (d.path' f).faults = d.faults := rfl
@[simp] theorem Dev.path'_portA (f : Path → Path) : (d.path' f).portA = d.portA := rfl
@[simp] theorem Dev.path'_portB (f : Path → Path) : (d.path' f).portB = d.portB := rfl
@[simp] theorem Dev.path'_dict (f : Path → Path) : (d.path' f).dict = d.dict := rfl
@[simp] theorem Dev.path'_pool (f : Path → Path) : (d.path' f).pool = d.pool := rfl
@[simp] theorem Dev.path'_jour (f : Path → Path) : (d.path' f).jour = d.jour := rfl
@[simp] theorem Dev.path'_nv (f : Path → Path) : (d.path' f).nv = d.nv := rfl
@[simp] theorem Dev.path'_otp (f : Path → Path) : (d.path' f).otp = d.otp := rfl
@[simp] theorem Dev.path'_life (f : Path → Path) : (d.path' f).life = d.life := rfl
@[simp] theorem Dev.path'_recs (f : Path → Path) : (d.path' f).recs = d.recs := rfl
@[simp] theorem Dev.path'_test (f : Path → Path) : (d.path' f).test = d.test := rfl
@[simp] theorem Dev.path'_tap (f : Path → Path) : (d.path' f).tap = d.tap := rfl
@[simp] theorem Dev.path'_out (f : Path → Path) : (d.path' f).out = d.out := rfl
@[simp] theorem Dev.path'_free (f : Path → Path) : (d.path' f).free = d.free := rfl

@[simp] theorem Dev.grove'_power (f : Grove → Grove) : (d.grove' f).power = d.power := rfl
@[simp] theorem Dev.grove'_clk (f : Grove → Grove) : (d.grove' f).clk = d.clk := rfl
@[simp] theorem Dev.grove'_straps (f : Grove → Grove) : (d.grove' f).straps = d.straps := rfl
@[simp] theorem Dev.grove'_path (f : Grove → Grove) : (d.grove' f).path = d.path := rfl
@[simp] theorem Dev.grove'_grove (f : Grove → Grove) : (d.grove' f).grove = f d.grove := rfl
@[simp] theorem Dev.grove'_integ (f : Grove → Grove) : (d.grove' f).integ = d.integ := rfl
@[simp] theorem Dev.grove'_seq (f : Grove → Grove) : (d.grove' f).seq = d.seq := rfl
@[simp] theorem Dev.grove'_judge (f : Grove → Grove) : (d.grove' f).judge = d.judge := rfl
@[simp] theorem Dev.grove'_casc (f : Grove → Grove) : (d.grove' f).casc = d.casc := rfl
@[simp] theorem Dev.grove'_chg (f : Grove → Grove) : (d.grove' f).chg = d.chg := rfl
@[simp] theorem Dev.grove'_gauge (f : Grove → Grove) : (d.grove' f).gauge = d.gauge := rfl
@[simp] theorem Dev.grove'_th (f : Grove → Grove) : (d.grove' f).th = d.th := rfl
@[simp] theorem Dev.grove'_conv (f : Grove → Grove) : (d.grove' f).conv = d.conv := rfl
@[simp] theorem Dev.grove'_timer (f : Grove → Grove) : (d.grove' f).timer = d.timer := rfl
@[simp] theorem Dev.grove'_wdc (f : Grove → Grove) : (d.grove' f).wdc = d.wdc := rfl
@[simp] theorem Dev.grove'_wdh (f : Grove → Grove) : (d.grove' f).wdh = d.wdh := rfl
@[simp] theorem Dev.grove'_faults (f : Grove → Grove) : (d.grove' f).faults = d.faults := rfl
@[simp] theorem Dev.grove'_portA (f : Grove → Grove) : (d.grove' f).portA = d.portA := rfl
@[simp] theorem Dev.grove'_portB (f : Grove → Grove) : (d.grove' f).portB = d.portB := rfl
@[simp] theorem Dev.grove'_dict (f : Grove → Grove) : (d.grove' f).dict = d.dict := rfl
@[simp] theorem Dev.grove'_pool (f : Grove → Grove) : (d.grove' f).pool = d.pool := rfl
@[simp] theorem Dev.grove'_jour (f : Grove → Grove) : (d.grove' f).jour = d.jour := rfl
@[simp] theorem Dev.grove'_nv (f : Grove → Grove) : (d.grove' f).nv = d.nv := rfl
@[simp] theorem Dev.grove'_otp (f : Grove → Grove) : (d.grove' f).otp = d.otp := rfl
@[simp] theorem Dev.grove'_life (f : Grove → Grove) : (d.grove' f).life = d.life := rfl
@[simp] theorem Dev.grove'_recs (f : Grove → Grove) : (d.grove' f).recs = d.recs := rfl
@[simp] theorem Dev.grove'_test (f : Grove → Grove) : (d.grove' f).test = d.test := rfl
@[simp] theorem Dev.grove'_tap (f : Grove → Grove) : (d.grove' f).tap = d.tap := rfl
@[simp] theorem Dev.grove'_out (f : Grove → Grove) : (d.grove' f).out = d.out := rfl
@[simp] theorem Dev.grove'_free (f : Grove → Grove) : (d.grove' f).free = d.free := rfl

@[simp] theorem Dev.integ'_power (f : Integ → Integ) : (d.integ' f).power = d.power := rfl
@[simp] theorem Dev.integ'_clk (f : Integ → Integ) : (d.integ' f).clk = d.clk := rfl
@[simp] theorem Dev.integ'_straps (f : Integ → Integ) : (d.integ' f).straps = d.straps := rfl
@[simp] theorem Dev.integ'_path (f : Integ → Integ) : (d.integ' f).path = d.path := rfl
@[simp] theorem Dev.integ'_grove (f : Integ → Integ) : (d.integ' f).grove = d.grove := rfl
@[simp] theorem Dev.integ'_integ (f : Integ → Integ) : (d.integ' f).integ = f d.integ := rfl
@[simp] theorem Dev.integ'_seq (f : Integ → Integ) : (d.integ' f).seq = d.seq := rfl
@[simp] theorem Dev.integ'_judge (f : Integ → Integ) : (d.integ' f).judge = d.judge := rfl
@[simp] theorem Dev.integ'_casc (f : Integ → Integ) : (d.integ' f).casc = d.casc := rfl
@[simp] theorem Dev.integ'_chg (f : Integ → Integ) : (d.integ' f).chg = d.chg := rfl
@[simp] theorem Dev.integ'_gauge (f : Integ → Integ) : (d.integ' f).gauge = d.gauge := rfl
@[simp] theorem Dev.integ'_th (f : Integ → Integ) : (d.integ' f).th = d.th := rfl
@[simp] theorem Dev.integ'_conv (f : Integ → Integ) : (d.integ' f).conv = d.conv := rfl
@[simp] theorem Dev.integ'_timer (f : Integ → Integ) : (d.integ' f).timer = d.timer := rfl
@[simp] theorem Dev.integ'_wdc (f : Integ → Integ) : (d.integ' f).wdc = d.wdc := rfl
@[simp] theorem Dev.integ'_wdh (f : Integ → Integ) : (d.integ' f).wdh = d.wdh := rfl
@[simp] theorem Dev.integ'_faults (f : Integ → Integ) : (d.integ' f).faults = d.faults := rfl
@[simp] theorem Dev.integ'_portA (f : Integ → Integ) : (d.integ' f).portA = d.portA := rfl
@[simp] theorem Dev.integ'_portB (f : Integ → Integ) : (d.integ' f).portB = d.portB := rfl
@[simp] theorem Dev.integ'_dict (f : Integ → Integ) : (d.integ' f).dict = d.dict := rfl
@[simp] theorem Dev.integ'_pool (f : Integ → Integ) : (d.integ' f).pool = d.pool := rfl
@[simp] theorem Dev.integ'_jour (f : Integ → Integ) : (d.integ' f).jour = d.jour := rfl
@[simp] theorem Dev.integ'_nv (f : Integ → Integ) : (d.integ' f).nv = d.nv := rfl
@[simp] theorem Dev.integ'_otp (f : Integ → Integ) : (d.integ' f).otp = d.otp := rfl
@[simp] theorem Dev.integ'_life (f : Integ → Integ) : (d.integ' f).life = d.life := rfl
@[simp] theorem Dev.integ'_recs (f : Integ → Integ) : (d.integ' f).recs = d.recs := rfl
@[simp] theorem Dev.integ'_test (f : Integ → Integ) : (d.integ' f).test = d.test := rfl
@[simp] theorem Dev.integ'_tap (f : Integ → Integ) : (d.integ' f).tap = d.tap := rfl
@[simp] theorem Dev.integ'_out (f : Integ → Integ) : (d.integ' f).out = d.out := rfl
@[simp] theorem Dev.integ'_free (f : Integ → Integ) : (d.integ' f).free = d.free := rfl

@[simp] theorem Dev.seq'_power (f : Seq → Seq) : (d.seq' f).power = d.power := rfl
@[simp] theorem Dev.seq'_clk (f : Seq → Seq) : (d.seq' f).clk = d.clk := rfl
@[simp] theorem Dev.seq'_straps (f : Seq → Seq) : (d.seq' f).straps = d.straps := rfl
@[simp] theorem Dev.seq'_path (f : Seq → Seq) : (d.seq' f).path = d.path := rfl
@[simp] theorem Dev.seq'_grove (f : Seq → Seq) : (d.seq' f).grove = d.grove := rfl
@[simp] theorem Dev.seq'_integ (f : Seq → Seq) : (d.seq' f).integ = d.integ := rfl
@[simp] theorem Dev.seq'_seq (f : Seq → Seq) : (d.seq' f).seq = f d.seq := rfl
@[simp] theorem Dev.seq'_judge (f : Seq → Seq) : (d.seq' f).judge = d.judge := rfl
@[simp] theorem Dev.seq'_casc (f : Seq → Seq) : (d.seq' f).casc = d.casc := rfl
@[simp] theorem Dev.seq'_chg (f : Seq → Seq) : (d.seq' f).chg = d.chg := rfl
@[simp] theorem Dev.seq'_gauge (f : Seq → Seq) : (d.seq' f).gauge = d.gauge := rfl
@[simp] theorem Dev.seq'_th (f : Seq → Seq) : (d.seq' f).th = d.th := rfl
@[simp] theorem Dev.seq'_conv (f : Seq → Seq) : (d.seq' f).conv = d.conv := rfl
@[simp] theorem Dev.seq'_timer (f : Seq → Seq) : (d.seq' f).timer = d.timer := rfl
@[simp] theorem Dev.seq'_wdc (f : Seq → Seq) : (d.seq' f).wdc = d.wdc := rfl
@[simp] theorem Dev.seq'_wdh (f : Seq → Seq) : (d.seq' f).wdh = d.wdh := rfl
@[simp] theorem Dev.seq'_faults (f : Seq → Seq) : (d.seq' f).faults = d.faults := rfl
@[simp] theorem Dev.seq'_portA (f : Seq → Seq) : (d.seq' f).portA = d.portA := rfl
@[simp] theorem Dev.seq'_portB (f : Seq → Seq) : (d.seq' f).portB = d.portB := rfl
@[simp] theorem Dev.seq'_dict (f : Seq → Seq) : (d.seq' f).dict = d.dict := rfl
@[simp] theorem Dev.seq'_pool (f : Seq → Seq) : (d.seq' f).pool = d.pool := rfl
@[simp] theorem Dev.seq'_jour (f : Seq → Seq) : (d.seq' f).jour = d.jour := rfl
@[simp] theorem Dev.seq'_nv (f : Seq → Seq) : (d.seq' f).nv = d.nv := rfl
@[simp] theorem Dev.seq'_otp (f : Seq → Seq) : (d.seq' f).otp = d.otp := rfl
@[simp] theorem Dev.seq'_life (f : Seq → Seq) : (d.seq' f).life = d.life := rfl
@[simp] theorem Dev.seq'_recs (f : Seq → Seq) : (d.seq' f).recs = d.recs := rfl
@[simp] theorem Dev.seq'_test (f : Seq → Seq) : (d.seq' f).test = d.test := rfl
@[simp] theorem Dev.seq'_tap (f : Seq → Seq) : (d.seq' f).tap = d.tap := rfl
@[simp] theorem Dev.seq'_out (f : Seq → Seq) : (d.seq' f).out = d.out := rfl
@[simp] theorem Dev.seq'_free (f : Seq → Seq) : (d.seq' f).free = d.free := rfl

@[simp] theorem Dev.casc'_power (f : Cascade → Cascade) : (d.casc' f).power = d.power := rfl
@[simp] theorem Dev.casc'_clk (f : Cascade → Cascade) : (d.casc' f).clk = d.clk := rfl
@[simp] theorem Dev.casc'_straps (f : Cascade → Cascade) : (d.casc' f).straps = d.straps := rfl
@[simp] theorem Dev.casc'_path (f : Cascade → Cascade) : (d.casc' f).path = d.path := rfl
@[simp] theorem Dev.casc'_grove (f : Cascade → Cascade) : (d.casc' f).grove = d.grove := rfl
@[simp] theorem Dev.casc'_integ (f : Cascade → Cascade) : (d.casc' f).integ = d.integ := rfl
@[simp] theorem Dev.casc'_seq (f : Cascade → Cascade) : (d.casc' f).seq = d.seq := rfl
@[simp] theorem Dev.casc'_judge (f : Cascade → Cascade) : (d.casc' f).judge = d.judge := rfl
@[simp] theorem Dev.casc'_casc (f : Cascade → Cascade) : (d.casc' f).casc = f d.casc := rfl
@[simp] theorem Dev.casc'_chg (f : Cascade → Cascade) : (d.casc' f).chg = d.chg := rfl
@[simp] theorem Dev.casc'_gauge (f : Cascade → Cascade) : (d.casc' f).gauge = d.gauge := rfl
@[simp] theorem Dev.casc'_th (f : Cascade → Cascade) : (d.casc' f).th = d.th := rfl
@[simp] theorem Dev.casc'_conv (f : Cascade → Cascade) : (d.casc' f).conv = d.conv := rfl
@[simp] theorem Dev.casc'_timer (f : Cascade → Cascade) : (d.casc' f).timer = d.timer := rfl
@[simp] theorem Dev.casc'_wdc (f : Cascade → Cascade) : (d.casc' f).wdc = d.wdc := rfl
@[simp] theorem Dev.casc'_wdh (f : Cascade → Cascade) : (d.casc' f).wdh = d.wdh := rfl
@[simp] theorem Dev.casc'_faults (f : Cascade → Cascade) : (d.casc' f).faults = d.faults := rfl
@[simp] theorem Dev.casc'_portA (f : Cascade → Cascade) : (d.casc' f).portA = d.portA := rfl
@[simp] theorem Dev.casc'_portB (f : Cascade → Cascade) : (d.casc' f).portB = d.portB := rfl
@[simp] theorem Dev.casc'_dict (f : Cascade → Cascade) : (d.casc' f).dict = d.dict := rfl
@[simp] theorem Dev.casc'_pool (f : Cascade → Cascade) : (d.casc' f).pool = d.pool := rfl
@[simp] theorem Dev.casc'_jour (f : Cascade → Cascade) : (d.casc' f).jour = d.jour := rfl
@[simp] theorem Dev.casc'_nv (f : Cascade → Cascade) : (d.casc' f).nv = d.nv := rfl
@[simp] theorem Dev.casc'_otp (f : Cascade → Cascade) : (d.casc' f).otp = d.otp := rfl
@[simp] theorem Dev.casc'_life (f : Cascade → Cascade) : (d.casc' f).life = d.life := rfl
@[simp] theorem Dev.casc'_recs (f : Cascade → Cascade) : (d.casc' f).recs = d.recs := rfl
@[simp] theorem Dev.casc'_test (f : Cascade → Cascade) : (d.casc' f).test = d.test := rfl
@[simp] theorem Dev.casc'_tap (f : Cascade → Cascade) : (d.casc' f).tap = d.tap := rfl
@[simp] theorem Dev.casc'_out (f : Cascade → Cascade) : (d.casc' f).out = d.out := rfl
@[simp] theorem Dev.casc'_free (f : Cascade → Cascade) : (d.casc' f).free = d.free := rfl

@[simp] theorem Dev.chg'_power (f : Charger → Charger) : (d.chg' f).power = d.power := rfl
@[simp] theorem Dev.chg'_clk (f : Charger → Charger) : (d.chg' f).clk = d.clk := rfl
@[simp] theorem Dev.chg'_straps (f : Charger → Charger) : (d.chg' f).straps = d.straps := rfl
@[simp] theorem Dev.chg'_path (f : Charger → Charger) : (d.chg' f).path = d.path := rfl
@[simp] theorem Dev.chg'_grove (f : Charger → Charger) : (d.chg' f).grove = d.grove := rfl
@[simp] theorem Dev.chg'_integ (f : Charger → Charger) : (d.chg' f).integ = d.integ := rfl
@[simp] theorem Dev.chg'_seq (f : Charger → Charger) : (d.chg' f).seq = d.seq := rfl
@[simp] theorem Dev.chg'_judge (f : Charger → Charger) : (d.chg' f).judge = d.judge := rfl
@[simp] theorem Dev.chg'_casc (f : Charger → Charger) : (d.chg' f).casc = d.casc := rfl
@[simp] theorem Dev.chg'_chg (f : Charger → Charger) : (d.chg' f).chg = f d.chg := rfl
@[simp] theorem Dev.chg'_gauge (f : Charger → Charger) : (d.chg' f).gauge = d.gauge := rfl
@[simp] theorem Dev.chg'_th (f : Charger → Charger) : (d.chg' f).th = d.th := rfl
@[simp] theorem Dev.chg'_conv (f : Charger → Charger) : (d.chg' f).conv = d.conv := rfl
@[simp] theorem Dev.chg'_timer (f : Charger → Charger) : (d.chg' f).timer = d.timer := rfl
@[simp] theorem Dev.chg'_wdc (f : Charger → Charger) : (d.chg' f).wdc = d.wdc := rfl
@[simp] theorem Dev.chg'_wdh (f : Charger → Charger) : (d.chg' f).wdh = d.wdh := rfl
@[simp] theorem Dev.chg'_faults (f : Charger → Charger) : (d.chg' f).faults = d.faults := rfl
@[simp] theorem Dev.chg'_portA (f : Charger → Charger) : (d.chg' f).portA = d.portA := rfl
@[simp] theorem Dev.chg'_portB (f : Charger → Charger) : (d.chg' f).portB = d.portB := rfl
@[simp] theorem Dev.chg'_dict (f : Charger → Charger) : (d.chg' f).dict = d.dict := rfl
@[simp] theorem Dev.chg'_pool (f : Charger → Charger) : (d.chg' f).pool = d.pool := rfl
@[simp] theorem Dev.chg'_jour (f : Charger → Charger) : (d.chg' f).jour = d.jour := rfl
@[simp] theorem Dev.chg'_nv (f : Charger → Charger) : (d.chg' f).nv = d.nv := rfl
@[simp] theorem Dev.chg'_otp (f : Charger → Charger) : (d.chg' f).otp = d.otp := rfl
@[simp] theorem Dev.chg'_life (f : Charger → Charger) : (d.chg' f).life = d.life := rfl
@[simp] theorem Dev.chg'_recs (f : Charger → Charger) : (d.chg' f).recs = d.recs := rfl
@[simp] theorem Dev.chg'_test (f : Charger → Charger) : (d.chg' f).test = d.test := rfl
@[simp] theorem Dev.chg'_tap (f : Charger → Charger) : (d.chg' f).tap = d.tap := rfl
@[simp] theorem Dev.chg'_out (f : Charger → Charger) : (d.chg' f).out = d.out := rfl
@[simp] theorem Dev.chg'_free (f : Charger → Charger) : (d.chg' f).free = d.free := rfl

@[simp] theorem Dev.faults'_power (f : Faults → Faults) : (d.faults' f).power = d.power := rfl
@[simp] theorem Dev.faults'_clk (f : Faults → Faults) : (d.faults' f).clk = d.clk := rfl
@[simp] theorem Dev.faults'_straps (f : Faults → Faults) : (d.faults' f).straps = d.straps := rfl
@[simp] theorem Dev.faults'_path (f : Faults → Faults) : (d.faults' f).path = d.path := rfl
@[simp] theorem Dev.faults'_grove (f : Faults → Faults) : (d.faults' f).grove = d.grove := rfl
@[simp] theorem Dev.faults'_integ (f : Faults → Faults) : (d.faults' f).integ = d.integ := rfl
@[simp] theorem Dev.faults'_seq (f : Faults → Faults) : (d.faults' f).seq = d.seq := rfl
@[simp] theorem Dev.faults'_judge (f : Faults → Faults) : (d.faults' f).judge = d.judge := rfl
@[simp] theorem Dev.faults'_casc (f : Faults → Faults) : (d.faults' f).casc = d.casc := rfl
@[simp] theorem Dev.faults'_chg (f : Faults → Faults) : (d.faults' f).chg = d.chg := rfl
@[simp] theorem Dev.faults'_gauge (f : Faults → Faults) : (d.faults' f).gauge = d.gauge := rfl
@[simp] theorem Dev.faults'_th (f : Faults → Faults) : (d.faults' f).th = d.th := rfl
@[simp] theorem Dev.faults'_conv (f : Faults → Faults) : (d.faults' f).conv = d.conv := rfl
@[simp] theorem Dev.faults'_timer (f : Faults → Faults) : (d.faults' f).timer = d.timer := rfl
@[simp] theorem Dev.faults'_wdc (f : Faults → Faults) : (d.faults' f).wdc = d.wdc := rfl
@[simp] theorem Dev.faults'_wdh (f : Faults → Faults) : (d.faults' f).wdh = d.wdh := rfl
@[simp] theorem Dev.faults'_faults (f : Faults → Faults) : (d.faults' f).faults = f d.faults := rfl
@[simp] theorem Dev.faults'_portA (f : Faults → Faults) : (d.faults' f).portA = d.portA := rfl
@[simp] theorem Dev.faults'_portB (f : Faults → Faults) : (d.faults' f).portB = d.portB := rfl
@[simp] theorem Dev.faults'_dict (f : Faults → Faults) : (d.faults' f).dict = d.dict := rfl
@[simp] theorem Dev.faults'_pool (f : Faults → Faults) : (d.faults' f).pool = d.pool := rfl
@[simp] theorem Dev.faults'_jour (f : Faults → Faults) : (d.faults' f).jour = d.jour := rfl
@[simp] theorem Dev.faults'_nv (f : Faults → Faults) : (d.faults' f).nv = d.nv := rfl
@[simp] theorem Dev.faults'_otp (f : Faults → Faults) : (d.faults' f).otp = d.otp := rfl
@[simp] theorem Dev.faults'_life (f : Faults → Faults) : (d.faults' f).life = d.life := rfl
@[simp] theorem Dev.faults'_recs (f : Faults → Faults) : (d.faults' f).recs = d.recs := rfl
@[simp] theorem Dev.faults'_test (f : Faults → Faults) : (d.faults' f).test = d.test := rfl
@[simp] theorem Dev.faults'_tap (f : Faults → Faults) : (d.faults' f).tap = d.tap := rfl
@[simp] theorem Dev.faults'_out (f : Faults → Faults) : (d.faults' f).out = d.out := rfl
@[simp] theorem Dev.faults'_free (f : Faults → Faults) : (d.faults' f).free = d.free := rfl

@[simp] theorem Dev.dict'_power (f : Dict → Dict) : (d.dict' f).power = d.power := rfl
@[simp] theorem Dev.dict'_clk (f : Dict → Dict) : (d.dict' f).clk = d.clk := rfl
@[simp] theorem Dev.dict'_straps (f : Dict → Dict) : (d.dict' f).straps = d.straps := rfl
@[simp] theorem Dev.dict'_path (f : Dict → Dict) : (d.dict' f).path = d.path := rfl
@[simp] theorem Dev.dict'_grove (f : Dict → Dict) : (d.dict' f).grove = d.grove := rfl
@[simp] theorem Dev.dict'_integ (f : Dict → Dict) : (d.dict' f).integ = d.integ := rfl
@[simp] theorem Dev.dict'_seq (f : Dict → Dict) : (d.dict' f).seq = d.seq := rfl
@[simp] theorem Dev.dict'_judge (f : Dict → Dict) : (d.dict' f).judge = d.judge := rfl
@[simp] theorem Dev.dict'_casc (f : Dict → Dict) : (d.dict' f).casc = d.casc := rfl
@[simp] theorem Dev.dict'_chg (f : Dict → Dict) : (d.dict' f).chg = d.chg := rfl
@[simp] theorem Dev.dict'_gauge (f : Dict → Dict) : (d.dict' f).gauge = d.gauge := rfl
@[simp] theorem Dev.dict'_th (f : Dict → Dict) : (d.dict' f).th = d.th := rfl
@[simp] theorem Dev.dict'_conv (f : Dict → Dict) : (d.dict' f).conv = d.conv := rfl
@[simp] theorem Dev.dict'_timer (f : Dict → Dict) : (d.dict' f).timer = d.timer := rfl
@[simp] theorem Dev.dict'_wdc (f : Dict → Dict) : (d.dict' f).wdc = d.wdc := rfl
@[simp] theorem Dev.dict'_wdh (f : Dict → Dict) : (d.dict' f).wdh = d.wdh := rfl
@[simp] theorem Dev.dict'_faults (f : Dict → Dict) : (d.dict' f).faults = d.faults := rfl
@[simp] theorem Dev.dict'_portA (f : Dict → Dict) : (d.dict' f).portA = d.portA := rfl
@[simp] theorem Dev.dict'_portB (f : Dict → Dict) : (d.dict' f).portB = d.portB := rfl
@[simp] theorem Dev.dict'_dict (f : Dict → Dict) : (d.dict' f).dict = f d.dict := rfl
@[simp] theorem Dev.dict'_pool (f : Dict → Dict) : (d.dict' f).pool = d.pool := rfl
@[simp] theorem Dev.dict'_jour (f : Dict → Dict) : (d.dict' f).jour = d.jour := rfl
@[simp] theorem Dev.dict'_nv (f : Dict → Dict) : (d.dict' f).nv = d.nv := rfl
@[simp] theorem Dev.dict'_otp (f : Dict → Dict) : (d.dict' f).otp = d.otp := rfl
@[simp] theorem Dev.dict'_life (f : Dict → Dict) : (d.dict' f).life = d.life := rfl
@[simp] theorem Dev.dict'_recs (f : Dict → Dict) : (d.dict' f).recs = d.recs := rfl
@[simp] theorem Dev.dict'_test (f : Dict → Dict) : (d.dict' f).test = d.test := rfl
@[simp] theorem Dev.dict'_tap (f : Dict → Dict) : (d.dict' f).tap = d.tap := rfl
@[simp] theorem Dev.dict'_out (f : Dict → Dict) : (d.dict' f).out = d.out := rfl
@[simp] theorem Dev.dict'_free (f : Dict → Dict) : (d.dict' f).free = d.free := rfl

@[simp] theorem Dev.wdh'_power (f : Wdh → Wdh) : (d.wdh' f).power = d.power := rfl
@[simp] theorem Dev.wdh'_clk (f : Wdh → Wdh) : (d.wdh' f).clk = d.clk := rfl
@[simp] theorem Dev.wdh'_straps (f : Wdh → Wdh) : (d.wdh' f).straps = d.straps := rfl
@[simp] theorem Dev.wdh'_path (f : Wdh → Wdh) : (d.wdh' f).path = d.path := rfl
@[simp] theorem Dev.wdh'_grove (f : Wdh → Wdh) : (d.wdh' f).grove = d.grove := rfl
@[simp] theorem Dev.wdh'_integ (f : Wdh → Wdh) : (d.wdh' f).integ = d.integ := rfl
@[simp] theorem Dev.wdh'_seq (f : Wdh → Wdh) : (d.wdh' f).seq = d.seq := rfl
@[simp] theorem Dev.wdh'_judge (f : Wdh → Wdh) : (d.wdh' f).judge = d.judge := rfl
@[simp] theorem Dev.wdh'_casc (f : Wdh → Wdh) : (d.wdh' f).casc = d.casc := rfl
@[simp] theorem Dev.wdh'_chg (f : Wdh → Wdh) : (d.wdh' f).chg = d.chg := rfl
@[simp] theorem Dev.wdh'_gauge (f : Wdh → Wdh) : (d.wdh' f).gauge = d.gauge := rfl
@[simp] theorem Dev.wdh'_th (f : Wdh → Wdh) : (d.wdh' f).th = d.th := rfl
@[simp] theorem Dev.wdh'_conv (f : Wdh → Wdh) : (d.wdh' f).conv = d.conv := rfl
@[simp] theorem Dev.wdh'_timer (f : Wdh → Wdh) : (d.wdh' f).timer = d.timer := rfl
@[simp] theorem Dev.wdh'_wdc (f : Wdh → Wdh) : (d.wdh' f).wdc = d.wdc := rfl
@[simp] theorem Dev.wdh'_wdh (f : Wdh → Wdh) : (d.wdh' f).wdh = f d.wdh := rfl
@[simp] theorem Dev.wdh'_faults (f : Wdh → Wdh) : (d.wdh' f).faults = d.faults := rfl
@[simp] theorem Dev.wdh'_portA (f : Wdh → Wdh) : (d.wdh' f).portA = d.portA := rfl
@[simp] theorem Dev.wdh'_portB (f : Wdh → Wdh) : (d.wdh' f).portB = d.portB := rfl
@[simp] theorem Dev.wdh'_dict (f : Wdh → Wdh) : (d.wdh' f).dict = d.dict := rfl
@[simp] theorem Dev.wdh'_pool (f : Wdh → Wdh) : (d.wdh' f).pool = d.pool := rfl
@[simp] theorem Dev.wdh'_jour (f : Wdh → Wdh) : (d.wdh' f).jour = d.jour := rfl
@[simp] theorem Dev.wdh'_nv (f : Wdh → Wdh) : (d.wdh' f).nv = d.nv := rfl
@[simp] theorem Dev.wdh'_otp (f : Wdh → Wdh) : (d.wdh' f).otp = d.otp := rfl
@[simp] theorem Dev.wdh'_life (f : Wdh → Wdh) : (d.wdh' f).life = d.life := rfl
@[simp] theorem Dev.wdh'_recs (f : Wdh → Wdh) : (d.wdh' f).recs = d.recs := rfl
@[simp] theorem Dev.wdh'_test (f : Wdh → Wdh) : (d.wdh' f).test = d.test := rfl
@[simp] theorem Dev.wdh'_tap (f : Wdh → Wdh) : (d.wdh' f).tap = d.tap := rfl
@[simp] theorem Dev.wdh'_out (f : Wdh → Wdh) : (d.wdh' f).out = d.out := rfl
@[simp] theorem Dev.wdh'_free (f : Wdh → Wdh) : (d.wdh' f).free = d.free := rfl

@[simp] theorem Dev.nv'_power (f : Nv → Nv) : (d.nv' f).power = d.power := rfl
@[simp] theorem Dev.nv'_clk (f : Nv → Nv) : (d.nv' f).clk = d.clk := rfl
@[simp] theorem Dev.nv'_straps (f : Nv → Nv) : (d.nv' f).straps = d.straps := rfl
@[simp] theorem Dev.nv'_path (f : Nv → Nv) : (d.nv' f).path = d.path := rfl
@[simp] theorem Dev.nv'_grove (f : Nv → Nv) : (d.nv' f).grove = d.grove := rfl
@[simp] theorem Dev.nv'_integ (f : Nv → Nv) : (d.nv' f).integ = d.integ := rfl
@[simp] theorem Dev.nv'_seq (f : Nv → Nv) : (d.nv' f).seq = d.seq := rfl
@[simp] theorem Dev.nv'_judge (f : Nv → Nv) : (d.nv' f).judge = d.judge := rfl
@[simp] theorem Dev.nv'_casc (f : Nv → Nv) : (d.nv' f).casc = d.casc := rfl
@[simp] theorem Dev.nv'_chg (f : Nv → Nv) : (d.nv' f).chg = d.chg := rfl
@[simp] theorem Dev.nv'_gauge (f : Nv → Nv) : (d.nv' f).gauge = d.gauge := rfl
@[simp] theorem Dev.nv'_th (f : Nv → Nv) : (d.nv' f).th = d.th := rfl
@[simp] theorem Dev.nv'_conv (f : Nv → Nv) : (d.nv' f).conv = d.conv := rfl
@[simp] theorem Dev.nv'_timer (f : Nv → Nv) : (d.nv' f).timer = d.timer := rfl
@[simp] theorem Dev.nv'_wdc (f : Nv → Nv) : (d.nv' f).wdc = d.wdc := rfl
@[simp] theorem Dev.nv'_wdh (f : Nv → Nv) : (d.nv' f).wdh = d.wdh := rfl
@[simp] theorem Dev.nv'_faults (f : Nv → Nv) : (d.nv' f).faults = d.faults := rfl
@[simp] theorem Dev.nv'_portA (f : Nv → Nv) : (d.nv' f).portA = d.portA := rfl
@[simp] theorem Dev.nv'_portB (f : Nv → Nv) : (d.nv' f).portB = d.portB := rfl
@[simp] theorem Dev.nv'_dict (f : Nv → Nv) : (d.nv' f).dict = d.dict := rfl
@[simp] theorem Dev.nv'_pool (f : Nv → Nv) : (d.nv' f).pool = d.pool := rfl
@[simp] theorem Dev.nv'_jour (f : Nv → Nv) : (d.nv' f).jour = d.jour := rfl
@[simp] theorem Dev.nv'_nv (f : Nv → Nv) : (d.nv' f).nv = f d.nv := rfl
@[simp] theorem Dev.nv'_otp (f : Nv → Nv) : (d.nv' f).otp = d.otp := rfl
@[simp] theorem Dev.nv'_life (f : Nv → Nv) : (d.nv' f).life = d.life := rfl
@[simp] theorem Dev.nv'_recs (f : Nv → Nv) : (d.nv' f).recs = d.recs := rfl
@[simp] theorem Dev.nv'_test (f : Nv → Nv) : (d.nv' f).test = d.test := rfl
@[simp] theorem Dev.nv'_tap (f : Nv → Nv) : (d.nv' f).tap = d.tap := rfl
@[simp] theorem Dev.nv'_out (f : Nv → Nv) : (d.nv' f).out = d.out := rfl
@[simp] theorem Dev.nv'_free (f : Nv → Nv) : (d.nv' f).free = d.free := rfl

@[simp] theorem Dev.otp'_power (f : Otp → Otp) : (d.otp' f).power = d.power := rfl
@[simp] theorem Dev.otp'_clk (f : Otp → Otp) : (d.otp' f).clk = d.clk := rfl
@[simp] theorem Dev.otp'_straps (f : Otp → Otp) : (d.otp' f).straps = d.straps := rfl
@[simp] theorem Dev.otp'_path (f : Otp → Otp) : (d.otp' f).path = d.path := rfl
@[simp] theorem Dev.otp'_grove (f : Otp → Otp) : (d.otp' f).grove = d.grove := rfl
@[simp] theorem Dev.otp'_integ (f : Otp → Otp) : (d.otp' f).integ = d.integ := rfl
@[simp] theorem Dev.otp'_seq (f : Otp → Otp) : (d.otp' f).seq = d.seq := rfl
@[simp] theorem Dev.otp'_judge (f : Otp → Otp) : (d.otp' f).judge = d.judge := rfl
@[simp] theorem Dev.otp'_casc (f : Otp → Otp) : (d.otp' f).casc = d.casc := rfl
@[simp] theorem Dev.otp'_chg (f : Otp → Otp) : (d.otp' f).chg = d.chg := rfl
@[simp] theorem Dev.otp'_gauge (f : Otp → Otp) : (d.otp' f).gauge = d.gauge := rfl
@[simp] theorem Dev.otp'_th (f : Otp → Otp) : (d.otp' f).th = d.th := rfl
@[simp] theorem Dev.otp'_conv (f : Otp → Otp) : (d.otp' f).conv = d.conv := rfl
@[simp] theorem Dev.otp'_timer (f : Otp → Otp) : (d.otp' f).timer = d.timer := rfl
@[simp] theorem Dev.otp'_wdc (f : Otp → Otp) : (d.otp' f).wdc = d.wdc := rfl
@[simp] theorem Dev.otp'_wdh (f : Otp → Otp) : (d.otp' f).wdh = d.wdh := rfl
@[simp] theorem Dev.otp'_faults (f : Otp → Otp) : (d.otp' f).faults = d.faults := rfl
@[simp] theorem Dev.otp'_portA (f : Otp → Otp) : (d.otp' f).portA = d.portA := rfl
@[simp] theorem Dev.otp'_portB (f : Otp → Otp) : (d.otp' f).portB = d.portB := rfl
@[simp] theorem Dev.otp'_dict (f : Otp → Otp) : (d.otp' f).dict = d.dict := rfl
@[simp] theorem Dev.otp'_pool (f : Otp → Otp) : (d.otp' f).pool = d.pool := rfl
@[simp] theorem Dev.otp'_jour (f : Otp → Otp) : (d.otp' f).jour = d.jour := rfl
@[simp] theorem Dev.otp'_nv (f : Otp → Otp) : (d.otp' f).nv = d.nv := rfl
@[simp] theorem Dev.otp'_otp (f : Otp → Otp) : (d.otp' f).otp = f d.otp := rfl
@[simp] theorem Dev.otp'_life (f : Otp → Otp) : (d.otp' f).life = d.life := rfl
@[simp] theorem Dev.otp'_recs (f : Otp → Otp) : (d.otp' f).recs = d.recs := rfl
@[simp] theorem Dev.otp'_test (f : Otp → Otp) : (d.otp' f).test = d.test := rfl
@[simp] theorem Dev.otp'_tap (f : Otp → Otp) : (d.otp' f).tap = d.tap := rfl
@[simp] theorem Dev.otp'_out (f : Otp → Otp) : (d.otp' f).out = d.out := rfl
@[simp] theorem Dev.otp'_free (f : Otp → Otp) : (d.otp' f).free = d.free := rfl

@[simp] theorem Dev.life'_power (f : Life → Life) : (d.life' f).power = d.power := rfl
@[simp] theorem Dev.life'_clk (f : Life → Life) : (d.life' f).clk = d.clk := rfl
@[simp] theorem Dev.life'_straps (f : Life → Life) : (d.life' f).straps = d.straps := rfl
@[simp] theorem Dev.life'_path (f : Life → Life) : (d.life' f).path = d.path := rfl
@[simp] theorem Dev.life'_grove (f : Life → Life) : (d.life' f).grove = d.grove := rfl
@[simp] theorem Dev.life'_integ (f : Life → Life) : (d.life' f).integ = d.integ := rfl
@[simp] theorem Dev.life'_seq (f : Life → Life) : (d.life' f).seq = d.seq := rfl
@[simp] theorem Dev.life'_judge (f : Life → Life) : (d.life' f).judge = d.judge := rfl
@[simp] theorem Dev.life'_casc (f : Life → Life) : (d.life' f).casc = d.casc := rfl
@[simp] theorem Dev.life'_chg (f : Life → Life) : (d.life' f).chg = d.chg := rfl
@[simp] theorem Dev.life'_gauge (f : Life → Life) : (d.life' f).gauge = d.gauge := rfl
@[simp] theorem Dev.life'_th (f : Life → Life) : (d.life' f).th = d.th := rfl
@[simp] theorem Dev.life'_conv (f : Life → Life) : (d.life' f).conv = d.conv := rfl
@[simp] theorem Dev.life'_timer (f : Life → Life) : (d.life' f).timer = d.timer := rfl
@[simp] theorem Dev.life'_wdc (f : Life → Life) : (d.life' f).wdc = d.wdc := rfl
@[simp] theorem Dev.life'_wdh (f : Life → Life) : (d.life' f).wdh = d.wdh := rfl
@[simp] theorem Dev.life'_faults (f : Life → Life) : (d.life' f).faults = d.faults := rfl
@[simp] theorem Dev.life'_portA (f : Life → Life) : (d.life' f).portA = d.portA := rfl
@[simp] theorem Dev.life'_portB (f : Life → Life) : (d.life' f).portB = d.portB := rfl
@[simp] theorem Dev.life'_dict (f : Life → Life) : (d.life' f).dict = d.dict := rfl
@[simp] theorem Dev.life'_pool (f : Life → Life) : (d.life' f).pool = d.pool := rfl
@[simp] theorem Dev.life'_jour (f : Life → Life) : (d.life' f).jour = d.jour := rfl
@[simp] theorem Dev.life'_nv (f : Life → Life) : (d.life' f).nv = d.nv := rfl
@[simp] theorem Dev.life'_otp (f : Life → Life) : (d.life' f).otp = d.otp := rfl
@[simp] theorem Dev.life'_life (f : Life → Life) : (d.life' f).life = f d.life := rfl
@[simp] theorem Dev.life'_recs (f : Life → Life) : (d.life' f).recs = d.recs := rfl
@[simp] theorem Dev.life'_test (f : Life → Life) : (d.life' f).test = d.test := rfl
@[simp] theorem Dev.life'_tap (f : Life → Life) : (d.life' f).tap = d.tap := rfl
@[simp] theorem Dev.life'_out (f : Life → Life) : (d.life' f).out = d.out := rfl
@[simp] theorem Dev.life'_free (f : Life → Life) : (d.life' f).free = d.free := rfl

@[simp] theorem Dev.tap'_power (f : Tap → Tap) : (d.tap' f).power = d.power := rfl
@[simp] theorem Dev.tap'_clk (f : Tap → Tap) : (d.tap' f).clk = d.clk := rfl
@[simp] theorem Dev.tap'_straps (f : Tap → Tap) : (d.tap' f).straps = d.straps := rfl
@[simp] theorem Dev.tap'_path (f : Tap → Tap) : (d.tap' f).path = d.path := rfl
@[simp] theorem Dev.tap'_grove (f : Tap → Tap) : (d.tap' f).grove = d.grove := rfl
@[simp] theorem Dev.tap'_integ (f : Tap → Tap) : (d.tap' f).integ = d.integ := rfl
@[simp] theorem Dev.tap'_seq (f : Tap → Tap) : (d.tap' f).seq = d.seq := rfl
@[simp] theorem Dev.tap'_judge (f : Tap → Tap) : (d.tap' f).judge = d.judge := rfl
@[simp] theorem Dev.tap'_casc (f : Tap → Tap) : (d.tap' f).casc = d.casc := rfl
@[simp] theorem Dev.tap'_chg (f : Tap → Tap) : (d.tap' f).chg = d.chg := rfl
@[simp] theorem Dev.tap'_gauge (f : Tap → Tap) : (d.tap' f).gauge = d.gauge := rfl
@[simp] theorem Dev.tap'_th (f : Tap → Tap) : (d.tap' f).th = d.th := rfl
@[simp] theorem Dev.tap'_conv (f : Tap → Tap) : (d.tap' f).conv = d.conv := rfl
@[simp] theorem Dev.tap'_timer (f : Tap → Tap) : (d.tap' f).timer = d.timer := rfl
@[simp] theorem Dev.tap'_wdc (f : Tap → Tap) : (d.tap' f).wdc = d.wdc := rfl
@[simp] theorem Dev.tap'_wdh (f : Tap → Tap) : (d.tap' f).wdh = d.wdh := rfl
@[simp] theorem Dev.tap'_faults (f : Tap → Tap) : (d.tap' f).faults = d.faults := rfl
@[simp] theorem Dev.tap'_portA (f : Tap → Tap) : (d.tap' f).portA = d.portA := rfl
@[simp] theorem Dev.tap'_portB (f : Tap → Tap) : (d.tap' f).portB = d.portB := rfl
@[simp] theorem Dev.tap'_dict (f : Tap → Tap) : (d.tap' f).dict = d.dict := rfl
@[simp] theorem Dev.tap'_pool (f : Tap → Tap) : (d.tap' f).pool = d.pool := rfl
@[simp] theorem Dev.tap'_jour (f : Tap → Tap) : (d.tap' f).jour = d.jour := rfl
@[simp] theorem Dev.tap'_nv (f : Tap → Tap) : (d.tap' f).nv = d.nv := rfl
@[simp] theorem Dev.tap'_otp (f : Tap → Tap) : (d.tap' f).otp = d.otp := rfl
@[simp] theorem Dev.tap'_life (f : Tap → Tap) : (d.tap' f).life = d.life := rfl
@[simp] theorem Dev.tap'_recs (f : Tap → Tap) : (d.tap' f).recs = d.recs := rfl
@[simp] theorem Dev.tap'_test (f : Tap → Tap) : (d.tap' f).test = d.test := rfl
@[simp] theorem Dev.tap'_tap (f : Tap → Tap) : (d.tap' f).tap = f d.tap := rfl
@[simp] theorem Dev.tap'_out (f : Tap → Tap) : (d.tap' f).out = d.out := rfl
@[simp] theorem Dev.tap'_free (f : Tap → Tap) : (d.tap' f).free = d.free := rfl

@[simp] theorem Dev.gauge'_power (f : Gauge → Gauge) : (d.gauge' f).power = d.power := rfl
@[simp] theorem Dev.gauge'_clk (f : Gauge → Gauge) : (d.gauge' f).clk = d.clk := rfl
@[simp] theorem Dev.gauge'_straps (f : Gauge → Gauge) : (d.gauge' f).straps = d.straps := rfl
@[simp] theorem Dev.gauge'_path (f : Gauge → Gauge) : (d.gauge' f).path = d.path := rfl
@[simp] theorem Dev.gauge'_grove (f : Gauge → Gauge) : (d.gauge' f).grove = d.grove := rfl
@[simp] theorem Dev.gauge'_integ (f : Gauge → Gauge) : (d.gauge' f).integ = d.integ := rfl
@[simp] theorem Dev.gauge'_seq (f : Gauge → Gauge) : (d.gauge' f).seq = d.seq := rfl
@[simp] theorem Dev.gauge'_judge (f : Gauge → Gauge) : (d.gauge' f).judge = d.judge := rfl
@[simp] theorem Dev.gauge'_casc (f : Gauge → Gauge) : (d.gauge' f).casc = d.casc := rfl
@[simp] theorem Dev.gauge'_chg (f : Gauge → Gauge) : (d.gauge' f).chg = d.chg := rfl
@[simp] theorem Dev.gauge'_gauge (f : Gauge → Gauge) : (d.gauge' f).gauge = f d.gauge := rfl
@[simp] theorem Dev.gauge'_th (f : Gauge → Gauge) : (d.gauge' f).th = d.th := rfl
@[simp] theorem Dev.gauge'_conv (f : Gauge → Gauge) : (d.gauge' f).conv = d.conv := rfl
@[simp] theorem Dev.gauge'_timer (f : Gauge → Gauge) : (d.gauge' f).timer = d.timer := rfl
@[simp] theorem Dev.gauge'_wdc (f : Gauge → Gauge) : (d.gauge' f).wdc = d.wdc := rfl
@[simp] theorem Dev.gauge'_wdh (f : Gauge → Gauge) : (d.gauge' f).wdh = d.wdh := rfl
@[simp] theorem Dev.gauge'_faults (f : Gauge → Gauge) : (d.gauge' f).faults = d.faults := rfl
@[simp] theorem Dev.gauge'_portA (f : Gauge → Gauge) : (d.gauge' f).portA = d.portA := rfl
@[simp] theorem Dev.gauge'_portB (f : Gauge → Gauge) : (d.gauge' f).portB = d.portB := rfl
@[simp] theorem Dev.gauge'_dict (f : Gauge → Gauge) : (d.gauge' f).dict = d.dict := rfl
@[simp] theorem Dev.gauge'_pool (f : Gauge → Gauge) : (d.gauge' f).pool = d.pool := rfl
@[simp] theorem Dev.gauge'_jour (f : Gauge → Gauge) : (d.gauge' f).jour = d.jour := rfl
@[simp] theorem Dev.gauge'_nv (f : Gauge → Gauge) : (d.gauge' f).nv = d.nv := rfl
@[simp] theorem Dev.gauge'_otp (f : Gauge → Gauge) : (d.gauge' f).otp = d.otp := rfl
@[simp] theorem Dev.gauge'_life (f : Gauge → Gauge) : (d.gauge' f).life = d.life := rfl
@[simp] theorem Dev.gauge'_recs (f : Gauge → Gauge) : (d.gauge' f).recs = d.recs := rfl
@[simp] theorem Dev.gauge'_test (f : Gauge → Gauge) : (d.gauge' f).test = d.test := rfl
@[simp] theorem Dev.gauge'_tap (f : Gauge → Gauge) : (d.gauge' f).tap = d.tap := rfl
@[simp] theorem Dev.gauge'_out (f : Gauge → Gauge) : (d.gauge' f).out = d.out := rfl
@[simp] theorem Dev.gauge'_free (f : Gauge → Gauge) : (d.gauge' f).free = d.free := rfl

@[simp] theorem Dev.test'_power (f : Test → Test) : (d.test' f).power = d.power := rfl
@[simp] theorem Dev.test'_clk (f : Test → Test) : (d.test' f).clk = d.clk := rfl
@[simp] theorem Dev.test'_straps (f : Test → Test) : (d.test' f).straps = d.straps := rfl
@[simp] theorem Dev.test'_path (f : Test → Test) : (d.test' f).path = d.path := rfl
@[simp] theorem Dev.test'_grove (f : Test → Test) : (d.test' f).grove = d.grove := rfl
@[simp] theorem Dev.test'_integ (f : Test → Test) : (d.test' f).integ = d.integ := rfl
@[simp] theorem Dev.test'_seq (f : Test → Test) : (d.test' f).seq = d.seq := rfl
@[simp] theorem Dev.test'_judge (f : Test → Test) : (d.test' f).judge = d.judge := rfl
@[simp] theorem Dev.test'_casc (f : Test → Test) : (d.test' f).casc = d.casc := rfl
@[simp] theorem Dev.test'_chg (f : Test → Test) : (d.test' f).chg = d.chg := rfl
@[simp] theorem Dev.test'_gauge (f : Test → Test) : (d.test' f).gauge = d.gauge := rfl
@[simp] theorem Dev.test'_th (f : Test → Test) : (d.test' f).th = d.th := rfl
@[simp] theorem Dev.test'_conv (f : Test → Test) : (d.test' f).conv = d.conv := rfl
@[simp] theorem Dev.test'_timer (f : Test → Test) : (d.test' f).timer = d.timer := rfl
@[simp] theorem Dev.test'_wdc (f : Test → Test) : (d.test' f).wdc = d.wdc := rfl
@[simp] theorem Dev.test'_wdh (f : Test → Test) : (d.test' f).wdh = d.wdh := rfl
@[simp] theorem Dev.test'_faults (f : Test → Test) : (d.test' f).faults = d.faults := rfl
@[simp] theorem Dev.test'_portA (f : Test → Test) : (d.test' f).portA = d.portA := rfl
@[simp] theorem Dev.test'_portB (f : Test → Test) : (d.test' f).portB = d.portB := rfl
@[simp] theorem Dev.test'_dict (f : Test → Test) : (d.test' f).dict = d.dict := rfl
@[simp] theorem Dev.test'_pool (f : Test → Test) : (d.test' f).pool = d.pool := rfl
@[simp] theorem Dev.test'_jour (f : Test → Test) : (d.test' f).jour = d.jour := rfl
@[simp] theorem Dev.test'_nv (f : Test → Test) : (d.test' f).nv = d.nv := rfl
@[simp] theorem Dev.test'_otp (f : Test → Test) : (d.test' f).otp = d.otp := rfl
@[simp] theorem Dev.test'_life (f : Test → Test) : (d.test' f).life = d.life := rfl
@[simp] theorem Dev.test'_recs (f : Test → Test) : (d.test' f).recs = d.recs := rfl
@[simp] theorem Dev.test'_test (f : Test → Test) : (d.test' f).test = f d.test := rfl
@[simp] theorem Dev.test'_tap (f : Test → Test) : (d.test' f).tap = d.tap := rfl
@[simp] theorem Dev.test'_out (f : Test → Test) : (d.test' f).out = d.out := rfl
@[simp] theorem Dev.test'_free (f : Test → Test) : (d.test' f).free = d.free := rfl

@[simp] theorem Dev.th'_power (f : Thermal → Thermal) : (d.th' f).power = d.power := rfl
@[simp] theorem Dev.th'_clk (f : Thermal → Thermal) : (d.th' f).clk = d.clk := rfl
@[simp] theorem Dev.th'_straps (f : Thermal → Thermal) : (d.th' f).straps = d.straps := rfl
@[simp] theorem Dev.th'_path (f : Thermal → Thermal) : (d.th' f).path = d.path := rfl
@[simp] theorem Dev.th'_grove (f : Thermal → Thermal) : (d.th' f).grove = d.grove := rfl
@[simp] theorem Dev.th'_integ (f : Thermal → Thermal) : (d.th' f).integ = d.integ := rfl
@[simp] theorem Dev.th'_seq (f : Thermal → Thermal) : (d.th' f).seq = d.seq := rfl
@[simp] theorem Dev.th'_judge (f : Thermal → Thermal) : (d.th' f).judge = d.judge := rfl
@[simp] theorem Dev.th'_casc (f : Thermal → Thermal) : (d.th' f).casc = d.casc := rfl
@[simp] theorem Dev.th'_chg (f : Thermal → Thermal) : (d.th' f).chg = d.chg := rfl
@[simp] theorem Dev.th'_gauge (f : Thermal → Thermal) : (d.th' f).gauge = d.gauge := rfl
@[simp] theorem Dev.th'_th (f : Thermal → Thermal) : (d.th' f).th = f d.th := rfl
@[simp] theorem Dev.th'_conv (f : Thermal → Thermal) : (d.th' f).conv = d.conv := rfl
@[simp] theorem Dev.th'_timer (f : Thermal → Thermal) : (d.th' f).timer = d.timer := rfl
@[simp] theorem Dev.th'_wdc (f : Thermal → Thermal) : (d.th' f).wdc = d.wdc := rfl
@[simp] theorem Dev.th'_wdh (f : Thermal → Thermal) : (d.th' f).wdh = d.wdh := rfl
@[simp] theorem Dev.th'_faults (f : Thermal → Thermal) : (d.th' f).faults = d.faults := rfl
@[simp] theorem Dev.th'_portA (f : Thermal → Thermal) : (d.th' f).portA = d.portA := rfl
@[simp] theorem Dev.th'_portB (f : Thermal → Thermal) : (d.th' f).portB = d.portB := rfl
@[simp] theorem Dev.th'_dict (f : Thermal → Thermal) : (d.th' f).dict = d.dict := rfl
@[simp] theorem Dev.th'_pool (f : Thermal → Thermal) : (d.th' f).pool = d.pool := rfl
@[simp] theorem Dev.th'_jour (f : Thermal → Thermal) : (d.th' f).jour = d.jour := rfl
@[simp] theorem Dev.th'_nv (f : Thermal → Thermal) : (d.th' f).nv = d.nv := rfl
@[simp] theorem Dev.th'_otp (f : Thermal → Thermal) : (d.th' f).otp = d.otp := rfl
@[simp] theorem Dev.th'_life (f : Thermal → Thermal) : (d.th' f).life = d.life := rfl
@[simp] theorem Dev.th'_recs (f : Thermal → Thermal) : (d.th' f).recs = d.recs := rfl
@[simp] theorem Dev.th'_test (f : Thermal → Thermal) : (d.th' f).test = d.test := rfl
@[simp] theorem Dev.th'_tap (f : Thermal → Thermal) : (d.th' f).tap = d.tap := rfl
@[simp] theorem Dev.th'_out (f : Thermal → Thermal) : (d.th' f).out = d.out := rfl
@[simp] theorem Dev.th'_free (f : Thermal → Thermal) : (d.th' f).free = d.free := rfl

@[simp] theorem Dev.conv'_power (f : Hkadc → Hkadc) : (d.conv' f).power = d.power := rfl
@[simp] theorem Dev.conv'_clk (f : Hkadc → Hkadc) : (d.conv' f).clk = d.clk := rfl
@[simp] theorem Dev.conv'_straps (f : Hkadc → Hkadc) : (d.conv' f).straps = d.straps := rfl
@[simp] theorem Dev.conv'_path (f : Hkadc → Hkadc) : (d.conv' f).path = d.path := rfl
@[simp] theorem Dev.conv'_grove (f : Hkadc → Hkadc) : (d.conv' f).grove = d.grove := rfl
@[simp] theorem Dev.conv'_integ (f : Hkadc → Hkadc) : (d.conv' f).integ = d.integ := rfl
@[simp] theorem Dev.conv'_seq (f : Hkadc → Hkadc) : (d.conv' f).seq = d.seq := rfl
@[simp] theorem Dev.conv'_judge (f : Hkadc → Hkadc) : (d.conv' f).judge = d.judge := rfl
@[simp] theorem Dev.conv'_casc (f : Hkadc → Hkadc) : (d.conv' f).casc = d.casc := rfl
@[simp] theorem Dev.conv'_chg (f : Hkadc → Hkadc) : (d.conv' f).chg = d.chg := rfl
@[simp] theorem Dev.conv'_gauge (f : Hkadc → Hkadc) : (d.conv' f).gauge = d.gauge := rfl
@[simp] theorem Dev.conv'_th (f : Hkadc → Hkadc) : (d.conv' f).th = d.th := rfl
@[simp] theorem Dev.conv'_conv (f : Hkadc → Hkadc) : (d.conv' f).conv = f d.conv := rfl
@[simp] theorem Dev.conv'_timer (f : Hkadc → Hkadc) : (d.conv' f).timer = d.timer := rfl
@[simp] theorem Dev.conv'_wdc (f : Hkadc → Hkadc) : (d.conv' f).wdc = d.wdc := rfl
@[simp] theorem Dev.conv'_wdh (f : Hkadc → Hkadc) : (d.conv' f).wdh = d.wdh := rfl
@[simp] theorem Dev.conv'_faults (f : Hkadc → Hkadc) : (d.conv' f).faults = d.faults := rfl
@[simp] theorem Dev.conv'_portA (f : Hkadc → Hkadc) : (d.conv' f).portA = d.portA := rfl
@[simp] theorem Dev.conv'_portB (f : Hkadc → Hkadc) : (d.conv' f).portB = d.portB := rfl
@[simp] theorem Dev.conv'_dict (f : Hkadc → Hkadc) : (d.conv' f).dict = d.dict := rfl
@[simp] theorem Dev.conv'_pool (f : Hkadc → Hkadc) : (d.conv' f).pool = d.pool := rfl
@[simp] theorem Dev.conv'_jour (f : Hkadc → Hkadc) : (d.conv' f).jour = d.jour := rfl
@[simp] theorem Dev.conv'_nv (f : Hkadc → Hkadc) : (d.conv' f).nv = d.nv := rfl
@[simp] theorem Dev.conv'_otp (f : Hkadc → Hkadc) : (d.conv' f).otp = d.otp := rfl
@[simp] theorem Dev.conv'_life (f : Hkadc → Hkadc) : (d.conv' f).life = d.life := rfl
@[simp] theorem Dev.conv'_recs (f : Hkadc → Hkadc) : (d.conv' f).recs = d.recs := rfl
@[simp] theorem Dev.conv'_test (f : Hkadc → Hkadc) : (d.conv' f).test = d.test := rfl
@[simp] theorem Dev.conv'_tap (f : Hkadc → Hkadc) : (d.conv' f).tap = d.tap := rfl
@[simp] theorem Dev.conv'_out (f : Hkadc → Hkadc) : (d.conv' f).out = d.out := rfl
@[simp] theorem Dev.conv'_free (f : Hkadc → Hkadc) : (d.conv' f).free = d.free := rfl

@[simp] theorem Dev.jour'_power (f : Journal → Journal) : (d.jour' f).power = d.power := rfl
@[simp] theorem Dev.jour'_clk (f : Journal → Journal) : (d.jour' f).clk = d.clk := rfl
@[simp] theorem Dev.jour'_straps (f : Journal → Journal) : (d.jour' f).straps = d.straps := rfl
@[simp] theorem Dev.jour'_path (f : Journal → Journal) : (d.jour' f).path = d.path := rfl
@[simp] theorem Dev.jour'_grove (f : Journal → Journal) : (d.jour' f).grove = d.grove := rfl
@[simp] theorem Dev.jour'_integ (f : Journal → Journal) : (d.jour' f).integ = d.integ := rfl
@[simp] theorem Dev.jour'_seq (f : Journal → Journal) : (d.jour' f).seq = d.seq := rfl
@[simp] theorem Dev.jour'_judge (f : Journal → Journal) : (d.jour' f).judge = d.judge := rfl
@[simp] theorem Dev.jour'_casc (f : Journal → Journal) : (d.jour' f).casc = d.casc := rfl
@[simp] theorem Dev.jour'_chg (f : Journal → Journal) : (d.jour' f).chg = d.chg := rfl
@[simp] theorem Dev.jour'_gauge (f : Journal → Journal) : (d.jour' f).gauge = d.gauge := rfl
@[simp] theorem Dev.jour'_th (f : Journal → Journal) : (d.jour' f).th = d.th := rfl
@[simp] theorem Dev.jour'_conv (f : Journal → Journal) : (d.jour' f).conv = d.conv := rfl
@[simp] theorem Dev.jour'_timer (f : Journal → Journal) : (d.jour' f).timer = d.timer := rfl
@[simp] theorem Dev.jour'_wdc (f : Journal → Journal) : (d.jour' f).wdc = d.wdc := rfl
@[simp] theorem Dev.jour'_wdh (f : Journal → Journal) : (d.jour' f).wdh = d.wdh := rfl
@[simp] theorem Dev.jour'_faults (f : Journal → Journal) : (d.jour' f).faults = d.faults := rfl
@[simp] theorem Dev.jour'_portA (f : Journal → Journal) : (d.jour' f).portA = d.portA := rfl
@[simp] theorem Dev.jour'_portB (f : Journal → Journal) : (d.jour' f).portB = d.portB := rfl
@[simp] theorem Dev.jour'_dict (f : Journal → Journal) : (d.jour' f).dict = d.dict := rfl
@[simp] theorem Dev.jour'_pool (f : Journal → Journal) : (d.jour' f).pool = d.pool := rfl
@[simp] theorem Dev.jour'_jour (f : Journal → Journal) : (d.jour' f).jour = f d.jour := rfl
@[simp] theorem Dev.jour'_nv (f : Journal → Journal) : (d.jour' f).nv = d.nv := rfl
@[simp] theorem Dev.jour'_otp (f : Journal → Journal) : (d.jour' f).otp = d.otp := rfl
@[simp] theorem Dev.jour'_life (f : Journal → Journal) : (d.jour' f).life = d.life := rfl
@[simp] theorem Dev.jour'_recs (f : Journal → Journal) : (d.jour' f).recs = d.recs := rfl
@[simp] theorem Dev.jour'_test (f : Journal → Journal) : (d.jour' f).test = d.test := rfl
@[simp] theorem Dev.jour'_tap (f : Journal → Journal) : (d.jour' f).tap = d.tap := rfl
@[simp] theorem Dev.jour'_out (f : Journal → Journal) : (d.jour' f).out = d.out := rfl
@[simp] theorem Dev.jour'_free (f : Journal → Journal) : (d.jour' f).free = d.free := rfl

@[simp] theorem Dev.pool'_power (f : Pool → Pool) : (d.pool' f).power = d.power := rfl
@[simp] theorem Dev.pool'_clk (f : Pool → Pool) : (d.pool' f).clk = d.clk := rfl
@[simp] theorem Dev.pool'_straps (f : Pool → Pool) : (d.pool' f).straps = d.straps := rfl
@[simp] theorem Dev.pool'_path (f : Pool → Pool) : (d.pool' f).path = d.path := rfl
@[simp] theorem Dev.pool'_grove (f : Pool → Pool) : (d.pool' f).grove = d.grove := rfl
@[simp] theorem Dev.pool'_integ (f : Pool → Pool) : (d.pool' f).integ = d.integ := rfl
@[simp] theorem Dev.pool'_seq (f : Pool → Pool) : (d.pool' f).seq = d.seq := rfl
@[simp] theorem Dev.pool'_judge (f : Pool → Pool) : (d.pool' f).judge = d.judge := rfl
@[simp] theorem Dev.pool'_casc (f : Pool → Pool) : (d.pool' f).casc = d.casc := rfl
@[simp] theorem Dev.pool'_chg (f : Pool → Pool) : (d.pool' f).chg = d.chg := rfl
@[simp] theorem Dev.pool'_gauge (f : Pool → Pool) : (d.pool' f).gauge = d.gauge := rfl
@[simp] theorem Dev.pool'_th (f : Pool → Pool) : (d.pool' f).th = d.th := rfl
@[simp] theorem Dev.pool'_conv (f : Pool → Pool) : (d.pool' f).conv = d.conv := rfl
@[simp] theorem Dev.pool'_timer (f : Pool → Pool) : (d.pool' f).timer = d.timer := rfl
@[simp] theorem Dev.pool'_wdc (f : Pool → Pool) : (d.pool' f).wdc = d.wdc := rfl
@[simp] theorem Dev.pool'_wdh (f : Pool → Pool) : (d.pool' f).wdh = d.wdh := rfl
@[simp] theorem Dev.pool'_faults (f : Pool → Pool) : (d.pool' f).faults = d.faults := rfl
@[simp] theorem Dev.pool'_portA (f : Pool → Pool) : (d.pool' f).portA = d.portA := rfl
@[simp] theorem Dev.pool'_portB (f : Pool → Pool) : (d.pool' f).portB = d.portB := rfl
@[simp] theorem Dev.pool'_dict (f : Pool → Pool) : (d.pool' f).dict = d.dict := rfl
@[simp] theorem Dev.pool'_pool (f : Pool → Pool) : (d.pool' f).pool = f d.pool := rfl
@[simp] theorem Dev.pool'_jour (f : Pool → Pool) : (d.pool' f).jour = d.jour := rfl
@[simp] theorem Dev.pool'_nv (f : Pool → Pool) : (d.pool' f).nv = d.nv := rfl
@[simp] theorem Dev.pool'_otp (f : Pool → Pool) : (d.pool' f).otp = d.otp := rfl
@[simp] theorem Dev.pool'_life (f : Pool → Pool) : (d.pool' f).life = d.life := rfl
@[simp] theorem Dev.pool'_recs (f : Pool → Pool) : (d.pool' f).recs = d.recs := rfl
@[simp] theorem Dev.pool'_test (f : Pool → Pool) : (d.pool' f).test = d.test := rfl
@[simp] theorem Dev.pool'_tap (f : Pool → Pool) : (d.pool' f).tap = d.tap := rfl
@[simp] theorem Dev.pool'_out (f : Pool → Pool) : (d.pool' f).out = d.out := rfl
@[simp] theorem Dev.pool'_free (f : Pool → Pool) : (d.pool' f).free = d.free := rfl

@[simp] theorem Dev.timer'_power (n : TimerNo) (f : Timer → Timer) : (d.timer' n f).power = d.power := rfl
@[simp] theorem Dev.timer'_clk (n : TimerNo) (f : Timer → Timer) : (d.timer' n f).clk = d.clk := rfl
@[simp] theorem Dev.timer'_straps (n : TimerNo) (f : Timer → Timer) : (d.timer' n f).straps = d.straps := rfl
@[simp] theorem Dev.timer'_path (n : TimerNo) (f : Timer → Timer) : (d.timer' n f).path = d.path := rfl
@[simp] theorem Dev.timer'_grove (n : TimerNo) (f : Timer → Timer) : (d.timer' n f).grove = d.grove := rfl
@[simp] theorem Dev.timer'_integ (n : TimerNo) (f : Timer → Timer) : (d.timer' n f).integ = d.integ := rfl
@[simp] theorem Dev.timer'_seq (n : TimerNo) (f : Timer → Timer) : (d.timer' n f).seq = d.seq := rfl
@[simp] theorem Dev.timer'_judge (n : TimerNo) (f : Timer → Timer) : (d.timer' n f).judge = d.judge := rfl
@[simp] theorem Dev.timer'_casc (n : TimerNo) (f : Timer → Timer) : (d.timer' n f).casc = d.casc := rfl
@[simp] theorem Dev.timer'_chg (n : TimerNo) (f : Timer → Timer) : (d.timer' n f).chg = d.chg := rfl
@[simp] theorem Dev.timer'_gauge (n : TimerNo) (f : Timer → Timer) : (d.timer' n f).gauge = d.gauge := rfl
@[simp] theorem Dev.timer'_th (n : TimerNo) (f : Timer → Timer) : (d.timer' n f).th = d.th := rfl
@[simp] theorem Dev.timer'_conv (n : TimerNo) (f : Timer → Timer) : (d.timer' n f).conv = d.conv := rfl
@[simp] theorem Dev.timer'_timer (n : TimerNo) (f : Timer → Timer) : (d.timer' n f).timer = upd d.timer n f := rfl
@[simp] theorem Dev.timer'_wdc (n : TimerNo) (f : Timer → Timer) : (d.timer' n f).wdc = d.wdc := rfl
@[simp] theorem Dev.timer'_wdh (n : TimerNo) (f : Timer → Timer) : (d.timer' n f).wdh = d.wdh := rfl
@[simp] theorem Dev.timer'_faults (n : TimerNo) (f : Timer → Timer) : (d.timer' n f).faults = d.faults := rfl
@[simp] theorem Dev.timer'_portA (n : TimerNo) (f : Timer → Timer) : (d.timer' n f).portA = d.portA := rfl
@[simp] theorem Dev.timer'_portB (n : TimerNo) (f : Timer → Timer) : (d.timer' n f).portB = d.portB := rfl
@[simp] theorem Dev.timer'_dict (n : TimerNo) (f : Timer → Timer) : (d.timer' n f).dict = d.dict := rfl
@[simp] theorem Dev.timer'_pool (n : TimerNo) (f : Timer → Timer) : (d.timer' n f).pool = d.pool := rfl
@[simp] theorem Dev.timer'_jour (n : TimerNo) (f : Timer → Timer) : (d.timer' n f).jour = d.jour := rfl
@[simp] theorem Dev.timer'_nv (n : TimerNo) (f : Timer → Timer) : (d.timer' n f).nv = d.nv := rfl
@[simp] theorem Dev.timer'_otp (n : TimerNo) (f : Timer → Timer) : (d.timer' n f).otp = d.otp := rfl
@[simp] theorem Dev.timer'_life (n : TimerNo) (f : Timer → Timer) : (d.timer' n f).life = d.life := rfl
@[simp] theorem Dev.timer'_test (n : TimerNo) (f : Timer → Timer) : (d.timer' n f).test = d.test := rfl
@[simp] theorem Dev.timer'_tap (n : TimerNo) (f : Timer → Timer) : (d.timer' n f).tap = d.tap := rfl
@[simp] theorem Dev.timer'_out (n : TimerNo) (f : Timer → Timer) : (d.timer' n f).out = d.out := rfl
@[simp] theorem Dev.timer'_free (n : TimerNo) (f : Timer → Timer) : (d.timer' n f).free = d.free := rfl

@[simp] theorem Dev.sensor'_power (n : Fin 28) (f : Sensor → Sensor) : (d.sensor' n f).power = d.power := rfl
@[simp] theorem Dev.sensor'_clk (n : Fin 28) (f : Sensor → Sensor) : (d.sensor' n f).clk = d.clk := rfl
@[simp] theorem Dev.sensor'_straps (n : Fin 28) (f : Sensor → Sensor) : (d.sensor' n f).straps = d.straps := rfl
@[simp] theorem Dev.sensor'_path (n : Fin 28) (f : Sensor → Sensor) : (d.sensor' n f).path = d.path := rfl
@[simp] theorem Dev.sensor'_grove (n : Fin 28) (f : Sensor → Sensor) : (d.sensor' n f).grove = d.grove := rfl
@[simp] theorem Dev.sensor'_integ (n : Fin 28) (f : Sensor → Sensor) : (d.sensor' n f).integ = d.integ := rfl
@[simp] theorem Dev.sensor'_seq (n : Fin 28) (f : Sensor → Sensor) : (d.sensor' n f).seq = d.seq := rfl
@[simp] theorem Dev.sensor'_judge (n : Fin 28) (f : Sensor → Sensor) : (d.sensor' n f).judge = d.judge := rfl
@[simp] theorem Dev.sensor'_casc (n : Fin 28) (f : Sensor → Sensor) : (d.sensor' n f).casc = d.casc := rfl
@[simp] theorem Dev.sensor'_chg (n : Fin 28) (f : Sensor → Sensor) : (d.sensor' n f).chg = d.chg := rfl
@[simp] theorem Dev.sensor'_gauge (n : Fin 28) (f : Sensor → Sensor) : (d.sensor' n f).gauge = d.gauge := rfl
@[simp] theorem Dev.sensor'_th (n : Fin 28) (f : Sensor → Sensor) : (d.sensor' n f).th = { d.th with sensor := upd d.th.sensor n f } := rfl
@[simp] theorem Dev.sensor'_conv (n : Fin 28) (f : Sensor → Sensor) : (d.sensor' n f).conv = d.conv := rfl
@[simp] theorem Dev.sensor'_timer (n : Fin 28) (f : Sensor → Sensor) : (d.sensor' n f).timer = d.timer := rfl
@[simp] theorem Dev.sensor'_wdc (n : Fin 28) (f : Sensor → Sensor) : (d.sensor' n f).wdc = d.wdc := rfl
@[simp] theorem Dev.sensor'_wdh (n : Fin 28) (f : Sensor → Sensor) : (d.sensor' n f).wdh = d.wdh := rfl
@[simp] theorem Dev.sensor'_faults (n : Fin 28) (f : Sensor → Sensor) : (d.sensor' n f).faults = d.faults := rfl
@[simp] theorem Dev.sensor'_portA (n : Fin 28) (f : Sensor → Sensor) : (d.sensor' n f).portA = d.portA := rfl
@[simp] theorem Dev.sensor'_portB (n : Fin 28) (f : Sensor → Sensor) : (d.sensor' n f).portB = d.portB := rfl
@[simp] theorem Dev.sensor'_dict (n : Fin 28) (f : Sensor → Sensor) : (d.sensor' n f).dict = d.dict := rfl
@[simp] theorem Dev.sensor'_pool (n : Fin 28) (f : Sensor → Sensor) : (d.sensor' n f).pool = d.pool := rfl
@[simp] theorem Dev.sensor'_jour (n : Fin 28) (f : Sensor → Sensor) : (d.sensor' n f).jour = d.jour := rfl
@[simp] theorem Dev.sensor'_nv (n : Fin 28) (f : Sensor → Sensor) : (d.sensor' n f).nv = d.nv := rfl
@[simp] theorem Dev.sensor'_otp (n : Fin 28) (f : Sensor → Sensor) : (d.sensor' n f).otp = d.otp := rfl
@[simp] theorem Dev.sensor'_life (n : Fin 28) (f : Sensor → Sensor) : (d.sensor' n f).life = d.life := rfl
@[simp] theorem Dev.sensor'_test (n : Fin 28) (f : Sensor → Sensor) : (d.sensor' n f).test = d.test := rfl
@[simp] theorem Dev.sensor'_tap (n : Fin 28) (f : Sensor → Sensor) : (d.sensor' n f).tap = d.tap := rfl
@[simp] theorem Dev.sensor'_out (n : Fin 28) (f : Sensor → Sensor) : (d.sensor' n f).out = d.out := rfl
@[simp] theorem Dev.sensor'_free (n : Fin 28) (f : Sensor → Sensor) : (d.sensor' n f).free = d.free := rfl

@[simp] theorem Dev.rail'_power (r : Rail) (f : RailSt → RailSt) : (d.rail' r f).power = d.power := rfl
@[simp] theorem Dev.rail'_clk (r : Rail) (f : RailSt → RailSt) : (d.rail' r f).clk = d.clk := rfl
@[simp] theorem Dev.rail'_straps (r : Rail) (f : RailSt → RailSt) : (d.rail' r f).straps = d.straps := rfl
@[simp] theorem Dev.rail'_path (r : Rail) (f : RailSt → RailSt) : (d.rail' r f).path = d.path := rfl
@[simp] theorem Dev.rail'_grove (r : Rail) (f : RailSt → RailSt) : (d.rail' r f).grove = { d.grove with rail := upd d.grove.rail r f } := rfl
@[simp] theorem Dev.rail'_integ (r : Rail) (f : RailSt → RailSt) : (d.rail' r f).integ = d.integ := rfl
@[simp] theorem Dev.rail'_seq (r : Rail) (f : RailSt → RailSt) : (d.rail' r f).seq = d.seq := rfl
@[simp] theorem Dev.rail'_judge (r : Rail) (f : RailSt → RailSt) : (d.rail' r f).judge = d.judge := rfl
@[simp] theorem Dev.rail'_casc (r : Rail) (f : RailSt → RailSt) : (d.rail' r f).casc = d.casc := rfl
@[simp] theorem Dev.rail'_chg (r : Rail) (f : RailSt → RailSt) : (d.rail' r f).chg = d.chg := rfl
@[simp] theorem Dev.rail'_gauge (r : Rail) (f : RailSt → RailSt) : (d.rail' r f).gauge = d.gauge := rfl
@[simp] theorem Dev.rail'_th (r : Rail) (f : RailSt → RailSt) : (d.rail' r f).th = d.th := rfl
@[simp] theorem Dev.rail'_conv (r : Rail) (f : RailSt → RailSt) : (d.rail' r f).conv = d.conv := rfl
@[simp] theorem Dev.rail'_timer (r : Rail) (f : RailSt → RailSt) : (d.rail' r f).timer = d.timer := rfl
@[simp] theorem Dev.rail'_wdc (r : Rail) (f : RailSt → RailSt) : (d.rail' r f).wdc = d.wdc := rfl
@[simp] theorem Dev.rail'_wdh (r : Rail) (f : RailSt → RailSt) : (d.rail' r f).wdh = d.wdh := rfl
@[simp] theorem Dev.rail'_faults (r : Rail) (f : RailSt → RailSt) : (d.rail' r f).faults = d.faults := rfl
@[simp] theorem Dev.rail'_portA (r : Rail) (f : RailSt → RailSt) : (d.rail' r f).portA = d.portA := rfl
@[simp] theorem Dev.rail'_portB (r : Rail) (f : RailSt → RailSt) : (d.rail' r f).portB = d.portB := rfl
@[simp] theorem Dev.rail'_dict (r : Rail) (f : RailSt → RailSt) : (d.rail' r f).dict = d.dict := rfl
@[simp] theorem Dev.rail'_pool (r : Rail) (f : RailSt → RailSt) : (d.rail' r f).pool = d.pool := rfl
@[simp] theorem Dev.rail'_jour (r : Rail) (f : RailSt → RailSt) : (d.rail' r f).jour = d.jour := rfl
@[simp] theorem Dev.rail'_nv (r : Rail) (f : RailSt → RailSt) : (d.rail' r f).nv = d.nv := rfl
@[simp] theorem Dev.rail'_otp (r : Rail) (f : RailSt → RailSt) : (d.rail' r f).otp = d.otp := rfl
@[simp] theorem Dev.rail'_life (r : Rail) (f : RailSt → RailSt) : (d.rail' r f).life = d.life := rfl
@[simp] theorem Dev.rail'_test (r : Rail) (f : RailSt → RailSt) : (d.rail' r f).test = d.test := rfl
@[simp] theorem Dev.rail'_tap (r : Rail) (f : RailSt → RailSt) : (d.rail' r f).tap = d.tap := rfl
@[simp] theorem Dev.rail'_out (r : Rail) (f : RailSt → RailSt) : (d.rail' r f).out = d.out := rfl
@[simp] theorem Dev.rail'_free (r : Rail) (f : RailSt → RailSt) : (d.rail' r f).free = d.free := rfl

@[simp] theorem Dev.lp'_power (r : Rail) (f : Loop → Loop) : (d.lp' r f).power = d.power := rfl
@[simp] theorem Dev.lp'_clk (r : Rail) (f : Loop → Loop) : (d.lp' r f).clk = d.clk := rfl
@[simp] theorem Dev.lp'_straps (r : Rail) (f : Loop → Loop) : (d.lp' r f).straps = d.straps := rfl
@[simp] theorem Dev.lp'_path (r : Rail) (f : Loop → Loop) : (d.lp' r f).path = d.path := rfl
@[simp] theorem Dev.lp'_grove (r : Rail) (f : Loop → Loop) : (d.lp' r f).grove = { d.grove with rail := upd d.grove.rail r fun x => { x with lp := f x.lp } } := rfl
@[simp] theorem Dev.lp'_integ (r : Rail) (f : Loop → Loop) : (d.lp' r f).integ = d.integ := rfl
@[simp] theorem Dev.lp'_seq (r : Rail) (f : Loop → Loop) : (d.lp' r f).seq = d.seq := rfl
@[simp] theorem Dev.lp'_judge (r : Rail) (f : Loop → Loop) : (d.lp' r f).judge = d.judge := rfl
@[simp] theorem Dev.lp'_casc (r : Rail) (f : Loop → Loop) : (d.lp' r f).casc = d.casc := rfl
@[simp] theorem Dev.lp'_chg (r : Rail) (f : Loop → Loop) : (d.lp' r f).chg = d.chg := rfl
@[simp] theorem Dev.lp'_gauge (r : Rail) (f : Loop → Loop) : (d.lp' r f).gauge = d.gauge := rfl
@[simp] theorem Dev.lp'_th (r : Rail) (f : Loop → Loop) : (d.lp' r f).th = d.th := rfl
@[simp] theorem Dev.lp'_conv (r : Rail) (f : Loop → Loop) : (d.lp' r f).conv = d.conv := rfl
@[simp] theorem Dev.lp'_timer (r : Rail) (f : Loop → Loop) : (d.lp' r f).timer = d.timer := rfl
@[simp] theorem Dev.lp'_wdc (r : Rail) (f : Loop → Loop) : (d.lp' r f).wdc = d.wdc := rfl
@[simp] theorem Dev.lp'_wdh (r : Rail) (f : Loop → Loop) : (d.lp' r f).wdh = d.wdh := rfl
@[simp] theorem Dev.lp'_faults (r : Rail) (f : Loop → Loop) : (d.lp' r f).faults = d.faults := rfl
@[simp] theorem Dev.lp'_portA (r : Rail) (f : Loop → Loop) : (d.lp' r f).portA = d.portA := rfl
@[simp] theorem Dev.lp'_portB (r : Rail) (f : Loop → Loop) : (d.lp' r f).portB = d.portB := rfl
@[simp] theorem Dev.lp'_dict (r : Rail) (f : Loop → Loop) : (d.lp' r f).dict = d.dict := rfl
@[simp] theorem Dev.lp'_pool (r : Rail) (f : Loop → Loop) : (d.lp' r f).pool = d.pool := rfl
@[simp] theorem Dev.lp'_jour (r : Rail) (f : Loop → Loop) : (d.lp' r f).jour = d.jour := rfl
@[simp] theorem Dev.lp'_nv (r : Rail) (f : Loop → Loop) : (d.lp' r f).nv = d.nv := rfl
@[simp] theorem Dev.lp'_otp (r : Rail) (f : Loop → Loop) : (d.lp' r f).otp = d.otp := rfl
@[simp] theorem Dev.lp'_life (r : Rail) (f : Loop → Loop) : (d.lp' r f).life = d.life := rfl
@[simp] theorem Dev.lp'_test (r : Rail) (f : Loop → Loop) : (d.lp' r f).test = d.test := rfl
@[simp] theorem Dev.lp'_tap (r : Rail) (f : Loop → Loop) : (d.lp' r f).tap = d.tap := rfl
@[simp] theorem Dev.lp'_out (r : Rail) (f : Loop → Loop) : (d.lp' r f).out = d.out := rfl
@[simp] theorem Dev.lp'_free (r : Rail) (f : Loop → Loop) : (d.lp' r f).free = d.free := rfl

@[simp] theorem Dev.pl'_power (r : Rail) (f : Placement → Placement) : (d.pl' r f).power = d.power := rfl
@[simp] theorem Dev.pl'_clk (r : Rail) (f : Placement → Placement) : (d.pl' r f).clk = d.clk := rfl
@[simp] theorem Dev.pl'_straps (r : Rail) (f : Placement → Placement) : (d.pl' r f).straps = d.straps := rfl
@[simp] theorem Dev.pl'_path (r : Rail) (f : Placement → Placement) : (d.pl' r f).path = d.path := rfl
@[simp] theorem Dev.pl'_grove (r : Rail) (f : Placement → Placement) : (d.pl' r f).grove = { d.grove with rail := upd d.grove.rail r fun x => { x with pl := f x.pl } } := rfl
@[simp] theorem Dev.pl'_integ (r : Rail) (f : Placement → Placement) : (d.pl' r f).integ = d.integ := rfl
@[simp] theorem Dev.pl'_seq (r : Rail) (f : Placement → Placement) : (d.pl' r f).seq = d.seq := rfl
@[simp] theorem Dev.pl'_judge (r : Rail) (f : Placement → Placement) : (d.pl' r f).judge = d.judge := rfl
@[simp] theorem Dev.pl'_casc (r : Rail) (f : Placement → Placement) : (d.pl' r f).casc = d.casc := rfl
@[simp] theorem Dev.pl'_chg (r : Rail) (f : Placement → Placement) : (d.pl' r f).chg = d.chg := rfl
@[simp] theorem Dev.pl'_gauge (r : Rail) (f : Placement → Placement) : (d.pl' r f).gauge = d.gauge := rfl
@[simp] theorem Dev.pl'_th (r : Rail) (f : Placement → Placement) : (d.pl' r f).th = d.th := rfl
@[simp] theorem Dev.pl'_conv (r : Rail) (f : Placement → Placement) : (d.pl' r f).conv = d.conv := rfl
@[simp] theorem Dev.pl'_timer (r : Rail) (f : Placement → Placement) : (d.pl' r f).timer = d.timer := rfl
@[simp] theorem Dev.pl'_wdc (r : Rail) (f : Placement → Placement) : (d.pl' r f).wdc = d.wdc := rfl
@[simp] theorem Dev.pl'_wdh (r : Rail) (f : Placement → Placement) : (d.pl' r f).wdh = d.wdh := rfl
@[simp] theorem Dev.pl'_faults (r : Rail) (f : Placement → Placement) : (d.pl' r f).faults = d.faults := rfl
@[simp] theorem Dev.pl'_portA (r : Rail) (f : Placement → Placement) : (d.pl' r f).portA = d.portA := rfl
@[simp] theorem Dev.pl'_portB (r : Rail) (f : Placement → Placement) : (d.pl' r f).portB = d.portB := rfl
@[simp] theorem Dev.pl'_dict (r : Rail) (f : Placement → Placement) : (d.pl' r f).dict = d.dict := rfl
@[simp] theorem Dev.pl'_pool (r : Rail) (f : Placement → Placement) : (d.pl' r f).pool = d.pool := rfl
@[simp] theorem Dev.pl'_jour (r : Rail) (f : Placement → Placement) : (d.pl' r f).jour = d.jour := rfl
@[simp] theorem Dev.pl'_nv (r : Rail) (f : Placement → Placement) : (d.pl' r f).nv = d.nv := rfl
@[simp] theorem Dev.pl'_otp (r : Rail) (f : Placement → Placement) : (d.pl' r f).otp = d.otp := rfl
@[simp] theorem Dev.pl'_life (r : Rail) (f : Placement → Placement) : (d.pl' r f).life = d.life := rfl
@[simp] theorem Dev.pl'_test (r : Rail) (f : Placement → Placement) : (d.pl' r f).test = d.test := rfl
@[simp] theorem Dev.pl'_tap (r : Rail) (f : Placement → Placement) : (d.pl' r f).tap = d.tap := rfl
@[simp] theorem Dev.pl'_out (r : Rail) (f : Placement → Placement) : (d.pl' r f).out = d.out := rfl
@[simp] theorem Dev.pl'_free (r : Rail) (f : Placement → Placement) : (d.pl' r f).free = d.free := rfl

@[simp] theorem Dev.ph'_power (p : Phase) (f : PhaseSt → PhaseSt) : (d.ph' p f).power = d.power := rfl
@[simp] theorem Dev.ph'_clk (p : Phase) (f : PhaseSt → PhaseSt) : (d.ph' p f).clk = d.clk := rfl
@[simp] theorem Dev.ph'_straps (p : Phase) (f : PhaseSt → PhaseSt) : (d.ph' p f).straps = d.straps := rfl
@[simp] theorem Dev.ph'_path (p : Phase) (f : PhaseSt → PhaseSt) : (d.ph' p f).path = d.path := rfl
@[simp] theorem Dev.ph'_grove (p : Phase) (f : PhaseSt → PhaseSt) : (d.ph' p f).grove = { d.grove with ph := upd d.grove.ph p f } := rfl
@[simp] theorem Dev.ph'_integ (p : Phase) (f : PhaseSt → PhaseSt) : (d.ph' p f).integ = d.integ := rfl
@[simp] theorem Dev.ph'_seq (p : Phase) (f : PhaseSt → PhaseSt) : (d.ph' p f).seq = d.seq := rfl
@[simp] theorem Dev.ph'_judge (p : Phase) (f : PhaseSt → PhaseSt) : (d.ph' p f).judge = d.judge := rfl
@[simp] theorem Dev.ph'_casc (p : Phase) (f : PhaseSt → PhaseSt) : (d.ph' p f).casc = d.casc := rfl
@[simp] theorem Dev.ph'_chg (p : Phase) (f : PhaseSt → PhaseSt) : (d.ph' p f).chg = d.chg := rfl
@[simp] theorem Dev.ph'_gauge (p : Phase) (f : PhaseSt → PhaseSt) : (d.ph' p f).gauge = d.gauge := rfl
@[simp] theorem Dev.ph'_th (p : Phase) (f : PhaseSt → PhaseSt) : (d.ph' p f).th = d.th := rfl
@[simp] theorem Dev.ph'_conv (p : Phase) (f : PhaseSt → PhaseSt) : (d.ph' p f).conv = d.conv := rfl
@[simp] theorem Dev.ph'_timer (p : Phase) (f : PhaseSt → PhaseSt) : (d.ph' p f).timer = d.timer := rfl
@[simp] theorem Dev.ph'_wdc (p : Phase) (f : PhaseSt → PhaseSt) : (d.ph' p f).wdc = d.wdc := rfl
@[simp] theorem Dev.ph'_wdh (p : Phase) (f : PhaseSt → PhaseSt) : (d.ph' p f).wdh = d.wdh := rfl
@[simp] theorem Dev.ph'_faults (p : Phase) (f : PhaseSt → PhaseSt) : (d.ph' p f).faults = d.faults := rfl
@[simp] theorem Dev.ph'_portA (p : Phase) (f : PhaseSt → PhaseSt) : (d.ph' p f).portA = d.portA := rfl
@[simp] theorem Dev.ph'_portB (p : Phase) (f : PhaseSt → PhaseSt) : (d.ph' p f).portB = d.portB := rfl
@[simp] theorem Dev.ph'_dict (p : Phase) (f : PhaseSt → PhaseSt) : (d.ph' p f).dict = d.dict := rfl
@[simp] theorem Dev.ph'_pool (p : Phase) (f : PhaseSt → PhaseSt) : (d.ph' p f).pool = d.pool := rfl
@[simp] theorem Dev.ph'_jour (p : Phase) (f : PhaseSt → PhaseSt) : (d.ph' p f).jour = d.jour := rfl
@[simp] theorem Dev.ph'_nv (p : Phase) (f : PhaseSt → PhaseSt) : (d.ph' p f).nv = d.nv := rfl
@[simp] theorem Dev.ph'_otp (p : Phase) (f : PhaseSt → PhaseSt) : (d.ph' p f).otp = d.otp := rfl
@[simp] theorem Dev.ph'_life (p : Phase) (f : PhaseSt → PhaseSt) : (d.ph' p f).life = d.life := rfl
@[simp] theorem Dev.ph'_test (p : Phase) (f : PhaseSt → PhaseSt) : (d.ph' p f).test = d.test := rfl
@[simp] theorem Dev.ph'_tap (p : Phase) (f : PhaseSt → PhaseSt) : (d.ph' p f).tap = d.tap := rfl
@[simp] theorem Dev.ph'_out (p : Phase) (f : PhaseSt → PhaseSt) : (d.ph' p f).out = d.out := rfl
@[simp] theorem Dev.ph'_free (p : Phase) (f : PhaseSt → PhaseSt) : (d.ph' p f).free = d.free := rfl

@[simp] theorem Dev.judge'_power (b : Branch) (f : BranchJ → BranchJ) : (d.judge' b f).power = d.power := rfl
@[simp] theorem Dev.judge'_clk (b : Branch) (f : BranchJ → BranchJ) : (d.judge' b f).clk = d.clk := rfl
@[simp] theorem Dev.judge'_straps (b : Branch) (f : BranchJ → BranchJ) : (d.judge' b f).straps = d.straps := rfl
@[simp] theorem Dev.judge'_path (b : Branch) (f : BranchJ → BranchJ) : (d.judge' b f).path = d.path := rfl
@[simp] theorem Dev.judge'_grove (b : Branch) (f : BranchJ → BranchJ) : (d.judge' b f).grove = d.grove := rfl
@[simp] theorem Dev.judge'_integ (b : Branch) (f : BranchJ → BranchJ) : (d.judge' b f).integ = d.integ := rfl
@[simp] theorem Dev.judge'_seq (b : Branch) (f : BranchJ → BranchJ) : (d.judge' b f).seq = d.seq := rfl
@[simp] theorem Dev.judge'_judge (b : Branch) (f : BranchJ → BranchJ) : (d.judge' b f).judge = upd d.judge b f := rfl
@[simp] theorem Dev.judge'_casc (b : Branch) (f : BranchJ → BranchJ) : (d.judge' b f).casc = d.casc := rfl
@[simp] theorem Dev.judge'_chg (b : Branch) (f : BranchJ → BranchJ) : (d.judge' b f).chg = d.chg := rfl
@[simp] theorem Dev.judge'_gauge (b : Branch) (f : BranchJ → BranchJ) : (d.judge' b f).gauge = d.gauge := rfl
@[simp] theorem Dev.judge'_th (b : Branch) (f : BranchJ → BranchJ) : (d.judge' b f).th = d.th := rfl
@[simp] theorem Dev.judge'_conv (b : Branch) (f : BranchJ → BranchJ) : (d.judge' b f).conv = d.conv := rfl
@[simp] theorem Dev.judge'_timer (b : Branch) (f : BranchJ → BranchJ) : (d.judge' b f).timer = d.timer := rfl
@[simp] theorem Dev.judge'_wdc (b : Branch) (f : BranchJ → BranchJ) : (d.judge' b f).wdc = d.wdc := rfl
@[simp] theorem Dev.judge'_wdh (b : Branch) (f : BranchJ → BranchJ) : (d.judge' b f).wdh = d.wdh := rfl
@[simp] theorem Dev.judge'_faults (b : Branch) (f : BranchJ → BranchJ) : (d.judge' b f).faults = d.faults := rfl
@[simp] theorem Dev.judge'_portA (b : Branch) (f : BranchJ → BranchJ) : (d.judge' b f).portA = d.portA := rfl
@[simp] theorem Dev.judge'_portB (b : Branch) (f : BranchJ → BranchJ) : (d.judge' b f).portB = d.portB := rfl
@[simp] theorem Dev.judge'_dict (b : Branch) (f : BranchJ → BranchJ) : (d.judge' b f).dict = d.dict := rfl
@[simp] theorem Dev.judge'_pool (b : Branch) (f : BranchJ → BranchJ) : (d.judge' b f).pool = d.pool := rfl
@[simp] theorem Dev.judge'_jour (b : Branch) (f : BranchJ → BranchJ) : (d.judge' b f).jour = d.jour := rfl
@[simp] theorem Dev.judge'_nv (b : Branch) (f : BranchJ → BranchJ) : (d.judge' b f).nv = d.nv := rfl
@[simp] theorem Dev.judge'_otp (b : Branch) (f : BranchJ → BranchJ) : (d.judge' b f).otp = d.otp := rfl
@[simp] theorem Dev.judge'_life (b : Branch) (f : BranchJ → BranchJ) : (d.judge' b f).life = d.life := rfl
@[simp] theorem Dev.judge'_test (b : Branch) (f : BranchJ → BranchJ) : (d.judge' b f).test = d.test := rfl
@[simp] theorem Dev.judge'_tap (b : Branch) (f : BranchJ → BranchJ) : (d.judge' b f).tap = d.tap := rfl
@[simp] theorem Dev.judge'_out (b : Branch) (f : BranchJ → BranchJ) : (d.judge' b f).out = d.out := rfl
@[simp] theorem Dev.judge'_free (b : Branch) (f : BranchJ → BranchJ) : (d.judge' b f).free = d.free := rfl

@[simp] theorem Dev.judgeAll_power (f : BranchJ → BranchJ) : (d.judgeAll f).power = d.power := rfl
@[simp] theorem Dev.judgeAll_clk (f : BranchJ → BranchJ) : (d.judgeAll f).clk = d.clk := rfl
@[simp] theorem Dev.judgeAll_straps (f : BranchJ → BranchJ) : (d.judgeAll f).straps = d.straps := rfl
@[simp] theorem Dev.judgeAll_path (f : BranchJ → BranchJ) : (d.judgeAll f).path = d.path := rfl
@[simp] theorem Dev.judgeAll_grove (f : BranchJ → BranchJ) : (d.judgeAll f).grove = d.grove := rfl
@[simp] theorem Dev.judgeAll_integ (f : BranchJ → BranchJ) : (d.judgeAll f).integ = d.integ := rfl
@[simp] theorem Dev.judgeAll_seq (f : BranchJ → BranchJ) : (d.judgeAll f).seq = d.seq := rfl
@[simp] theorem Dev.judgeAll_judge (f : BranchJ → BranchJ) : (d.judgeAll f).judge = d.judge.map f := rfl
@[simp] theorem Dev.judgeAll_casc (f : BranchJ → BranchJ) : (d.judgeAll f).casc = d.casc := rfl
@[simp] theorem Dev.judgeAll_chg (f : BranchJ → BranchJ) : (d.judgeAll f).chg = d.chg := rfl
@[simp] theorem Dev.judgeAll_gauge (f : BranchJ → BranchJ) : (d.judgeAll f).gauge = d.gauge := rfl
@[simp] theorem Dev.judgeAll_th (f : BranchJ → BranchJ) : (d.judgeAll f).th = d.th := rfl
@[simp] theorem Dev.judgeAll_conv (f : BranchJ → BranchJ) : (d.judgeAll f).conv = d.conv := rfl
@[simp] theorem Dev.judgeAll_timer (f : BranchJ → BranchJ) : (d.judgeAll f).timer = d.timer := rfl
@[simp] theorem Dev.judgeAll_wdc (f : BranchJ → BranchJ) : (d.judgeAll f).wdc = d.wdc := rfl
@[simp] theorem Dev.judgeAll_wdh (f : BranchJ → BranchJ) : (d.judgeAll f).wdh = d.wdh := rfl
@[simp] theorem Dev.judgeAll_faults (f : BranchJ → BranchJ) : (d.judgeAll f).faults = d.faults := rfl
@[simp] theorem Dev.judgeAll_portA (f : BranchJ → BranchJ) : (d.judgeAll f).portA = d.portA := rfl
@[simp] theorem Dev.judgeAll_portB (f : BranchJ → BranchJ) : (d.judgeAll f).portB = d.portB := rfl
@[simp] theorem Dev.judgeAll_dict (f : BranchJ → BranchJ) : (d.judgeAll f).dict = d.dict := rfl
@[simp] theorem Dev.judgeAll_pool (f : BranchJ → BranchJ) : (d.judgeAll f).pool = d.pool := rfl
@[simp] theorem Dev.judgeAll_jour (f : BranchJ → BranchJ) : (d.judgeAll f).jour = d.jour := rfl
@[simp] theorem Dev.judgeAll_nv (f : BranchJ → BranchJ) : (d.judgeAll f).nv = d.nv := rfl
@[simp] theorem Dev.judgeAll_otp (f : BranchJ → BranchJ) : (d.judgeAll f).otp = d.otp := rfl
@[simp] theorem Dev.judgeAll_life (f : BranchJ → BranchJ) : (d.judgeAll f).life = d.life := rfl
@[simp] theorem Dev.judgeAll_test (f : BranchJ → BranchJ) : (d.judgeAll f).test = d.test := rfl
@[simp] theorem Dev.judgeAll_tap (f : BranchJ → BranchJ) : (d.judgeAll f).tap = d.tap := rfl
@[simp] theorem Dev.judgeAll_out (f : BranchJ → BranchJ) : (d.judgeAll f).out = d.out := rfl
@[simp] theorem Dev.judgeAll_free (f : BranchJ → BranchJ) : (d.judgeAll f).free = d.free := rfl

@[simp] theorem Dev.ib'_power (n : Fin 6) (f : ChanSt → ChanSt) : (d.ib' n f).power = d.power := rfl
@[simp] theorem Dev.ib'_clk (n : Fin 6) (f : ChanSt → ChanSt) : (d.ib' n f).clk = d.clk := rfl
@[simp] theorem Dev.ib'_straps (n : Fin 6) (f : ChanSt → ChanSt) : (d.ib' n f).straps = d.straps := rfl
@[simp] theorem Dev.ib'_path (n : Fin 6) (f : ChanSt → ChanSt) : (d.ib' n f).path = d.path := rfl
@[simp] theorem Dev.ib'_grove (n : Fin 6) (f : ChanSt → ChanSt) : (d.ib' n f).grove = d.grove := rfl
@[simp] theorem Dev.ib'_integ (n : Fin 6) (f : ChanSt → ChanSt) : (d.ib' n f).integ = { d.integ with ib := upd d.integ.ib n f } := rfl
@[simp] theorem Dev.ib'_seq (n : Fin 6) (f : ChanSt → ChanSt) : (d.ib' n f).seq = d.seq := rfl
@[simp] theorem Dev.ib'_judge (n : Fin 6) (f : ChanSt → ChanSt) : (d.ib' n f).judge = d.judge := rfl
@[simp] theorem Dev.ib'_casc (n : Fin 6) (f : ChanSt → ChanSt) : (d.ib' n f).casc = d.casc := rfl
@[simp] theorem Dev.ib'_chg (n : Fin 6) (f : ChanSt → ChanSt) : (d.ib' n f).chg = d.chg := rfl
@[simp] theorem Dev.ib'_gauge (n : Fin 6) (f : ChanSt → ChanSt) : (d.ib' n f).gauge = d.gauge := rfl
@[simp] theorem Dev.ib'_th (n : Fin 6) (f : ChanSt → ChanSt) : (d.ib' n f).th = d.th := rfl
@[simp] theorem Dev.ib'_conv (n : Fin 6) (f : ChanSt → ChanSt) : (d.ib' n f).conv = d.conv := rfl
@[simp] theorem Dev.ib'_timer (n : Fin 6) (f : ChanSt → ChanSt) : (d.ib' n f).timer = d.timer := rfl
@[simp] theorem Dev.ib'_wdc (n : Fin 6) (f : ChanSt → ChanSt) : (d.ib' n f).wdc = d.wdc := rfl
@[simp] theorem Dev.ib'_wdh (n : Fin 6) (f : ChanSt → ChanSt) : (d.ib' n f).wdh = d.wdh := rfl
@[simp] theorem Dev.ib'_faults (n : Fin 6) (f : ChanSt → ChanSt) : (d.ib' n f).faults = d.faults := rfl
@[simp] theorem Dev.ib'_portA (n : Fin 6) (f : ChanSt → ChanSt) : (d.ib' n f).portA = d.portA := rfl
@[simp] theorem Dev.ib'_portB (n : Fin 6) (f : ChanSt → ChanSt) : (d.ib' n f).portB = d.portB := rfl
@[simp] theorem Dev.ib'_dict (n : Fin 6) (f : ChanSt → ChanSt) : (d.ib' n f).dict = d.dict := rfl
@[simp] theorem Dev.ib'_pool (n : Fin 6) (f : ChanSt → ChanSt) : (d.ib' n f).pool = d.pool := rfl
@[simp] theorem Dev.ib'_jour (n : Fin 6) (f : ChanSt → ChanSt) : (d.ib' n f).jour = d.jour := rfl
@[simp] theorem Dev.ib'_nv (n : Fin 6) (f : ChanSt → ChanSt) : (d.ib' n f).nv = d.nv := rfl
@[simp] theorem Dev.ib'_otp (n : Fin 6) (f : ChanSt → ChanSt) : (d.ib' n f).otp = d.otp := rfl
@[simp] theorem Dev.ib'_life (n : Fin 6) (f : ChanSt → ChanSt) : (d.ib' n f).life = d.life := rfl
@[simp] theorem Dev.ib'_test (n : Fin 6) (f : ChanSt → ChanSt) : (d.ib' n f).test = d.test := rfl
@[simp] theorem Dev.ib'_tap (n : Fin 6) (f : ChanSt → ChanSt) : (d.ib' n f).tap = d.tap := rfl
@[simp] theorem Dev.ib'_out (n : Fin 6) (f : ChanSt → ChanSt) : (d.ib' n f).out = d.out := rfl
@[simp] theorem Dev.ib'_free (n : Fin 6) (f : ChanSt → ChanSt) : (d.ib' n f).free = d.free := rfl

@[simp] theorem Dev.ld'_power (n : Fin 8) (f : ChanSt → ChanSt) : (d.ld' n f).power = d.power := rfl
@[simp] theorem Dev.ld'_clk (n : Fin 8) (f : ChanSt → ChanSt) : (d.ld' n f).clk = d.clk := rfl
@[simp] theorem Dev.ld'_straps (n : Fin 8) (f : ChanSt → ChanSt) : (d.ld' n f).straps = d.straps := rfl
@[simp] theorem Dev.ld'_path (n : Fin 8) (f : ChanSt → ChanSt) : (d.ld' n f).path = d.path := rfl
@[simp] theorem Dev.ld'_grove (n : Fin 8) (f : ChanSt → ChanSt) : (d.ld' n f).grove = d.grove := rfl
@[simp] theorem Dev.ld'_integ (n : Fin 8) (f : ChanSt → ChanSt) : (d.ld' n f).integ = { d.integ with ld := upd d.integ.ld n f } := rfl
@[simp] theorem Dev.ld'_seq (n : Fin 8) (f : ChanSt → ChanSt) : (d.ld' n f).seq = d.seq := rfl
@[simp] theorem Dev.ld'_judge (n : Fin 8) (f : ChanSt → ChanSt) : (d.ld' n f).judge = d.judge := rfl
@[simp] theorem Dev.ld'_casc (n : Fin 8) (f : ChanSt → ChanSt) : (d.ld' n f).casc = d.casc := rfl
@[simp] theorem Dev.ld'_chg (n : Fin 8) (f : ChanSt → ChanSt) : (d.ld' n f).chg = d.chg := rfl
@[simp] theorem Dev.ld'_gauge (n : Fin 8) (f : ChanSt → ChanSt) : (d.ld' n f).gauge = d.gauge := rfl
@[simp] theorem Dev.ld'_th (n : Fin 8) (f : ChanSt → ChanSt) : (d.ld' n f).th = d.th := rfl
@[simp] theorem Dev.ld'_conv (n : Fin 8) (f : ChanSt → ChanSt) : (d.ld' n f).conv = d.conv := rfl
@[simp] theorem Dev.ld'_timer (n : Fin 8) (f : ChanSt → ChanSt) : (d.ld' n f).timer = d.timer := rfl
@[simp] theorem Dev.ld'_wdc (n : Fin 8) (f : ChanSt → ChanSt) : (d.ld' n f).wdc = d.wdc := rfl
@[simp] theorem Dev.ld'_wdh (n : Fin 8) (f : ChanSt → ChanSt) : (d.ld' n f).wdh = d.wdh := rfl
@[simp] theorem Dev.ld'_faults (n : Fin 8) (f : ChanSt → ChanSt) : (d.ld' n f).faults = d.faults := rfl
@[simp] theorem Dev.ld'_portA (n : Fin 8) (f : ChanSt → ChanSt) : (d.ld' n f).portA = d.portA := rfl
@[simp] theorem Dev.ld'_portB (n : Fin 8) (f : ChanSt → ChanSt) : (d.ld' n f).portB = d.portB := rfl
@[simp] theorem Dev.ld'_dict (n : Fin 8) (f : ChanSt → ChanSt) : (d.ld' n f).dict = d.dict := rfl
@[simp] theorem Dev.ld'_pool (n : Fin 8) (f : ChanSt → ChanSt) : (d.ld' n f).pool = d.pool := rfl
@[simp] theorem Dev.ld'_jour (n : Fin 8) (f : ChanSt → ChanSt) : (d.ld' n f).jour = d.jour := rfl
@[simp] theorem Dev.ld'_nv (n : Fin 8) (f : ChanSt → ChanSt) : (d.ld' n f).nv = d.nv := rfl
@[simp] theorem Dev.ld'_otp (n : Fin 8) (f : ChanSt → ChanSt) : (d.ld' n f).otp = d.otp := rfl
@[simp] theorem Dev.ld'_life (n : Fin 8) (f : ChanSt → ChanSt) : (d.ld' n f).life = d.life := rfl
@[simp] theorem Dev.ld'_test (n : Fin 8) (f : ChanSt → ChanSt) : (d.ld' n f).test = d.test := rfl
@[simp] theorem Dev.ld'_tap (n : Fin 8) (f : ChanSt → ChanSt) : (d.ld' n f).tap = d.tap := rfl
@[simp] theorem Dev.ld'_out (n : Fin 8) (f : ChanSt → ChanSt) : (d.ld' n f).out = d.out := rfl
@[simp] theorem Dev.ld'_free (n : Fin 8) (f : ChanSt → ChanSt) : (d.ld' n f).free = d.free := rfl

@[simp] theorem Dev.xe'_power (n : Fin 8) (f : XeSt → XeSt) : (d.xe' n f).power = d.power := rfl
@[simp] theorem Dev.xe'_clk (n : Fin 8) (f : XeSt → XeSt) : (d.xe' n f).clk = d.clk := rfl
@[simp] theorem Dev.xe'_straps (n : Fin 8) (f : XeSt → XeSt) : (d.xe' n f).straps = d.straps := rfl
@[simp] theorem Dev.xe'_path (n : Fin 8) (f : XeSt → XeSt) : (d.xe' n f).path = d.path := rfl
@[simp] theorem Dev.xe'_grove (n : Fin 8) (f : XeSt → XeSt) : (d.xe' n f).grove = d.grove := rfl
@[simp] theorem Dev.xe'_integ (n : Fin 8) (f : XeSt → XeSt) : (d.xe' n f).integ = { d.integ with xe := upd d.integ.xe n f } := rfl
@[simp] theorem Dev.xe'_seq (n : Fin 8) (f : XeSt → XeSt) : (d.xe' n f).seq = d.seq := rfl
@[simp] theorem Dev.xe'_judge (n : Fin 8) (f : XeSt → XeSt) : (d.xe' n f).judge = d.judge := rfl
@[simp] theorem Dev.xe'_casc (n : Fin 8) (f : XeSt → XeSt) : (d.xe' n f).casc = d.casc := rfl
@[simp] theorem Dev.xe'_chg (n : Fin 8) (f : XeSt → XeSt) : (d.xe' n f).chg = d.chg := rfl
@[simp] theorem Dev.xe'_gauge (n : Fin 8) (f : XeSt → XeSt) : (d.xe' n f).gauge = d.gauge := rfl
@[simp] theorem Dev.xe'_th (n : Fin 8) (f : XeSt → XeSt) : (d.xe' n f).th = d.th := rfl
@[simp] theorem Dev.xe'_conv (n : Fin 8) (f : XeSt → XeSt) : (d.xe' n f).conv = d.conv := rfl
@[simp] theorem Dev.xe'_timer (n : Fin 8) (f : XeSt → XeSt) : (d.xe' n f).timer = d.timer := rfl
@[simp] theorem Dev.xe'_wdc (n : Fin 8) (f : XeSt → XeSt) : (d.xe' n f).wdc = d.wdc := rfl
@[simp] theorem Dev.xe'_wdh (n : Fin 8) (f : XeSt → XeSt) : (d.xe' n f).wdh = d.wdh := rfl
@[simp] theorem Dev.xe'_faults (n : Fin 8) (f : XeSt → XeSt) : (d.xe' n f).faults = d.faults := rfl
@[simp] theorem Dev.xe'_portA (n : Fin 8) (f : XeSt → XeSt) : (d.xe' n f).portA = d.portA := rfl
@[simp] theorem Dev.xe'_portB (n : Fin 8) (f : XeSt → XeSt) : (d.xe' n f).portB = d.portB := rfl
@[simp] theorem Dev.xe'_dict (n : Fin 8) (f : XeSt → XeSt) : (d.xe' n f).dict = d.dict := rfl
@[simp] theorem Dev.xe'_pool (n : Fin 8) (f : XeSt → XeSt) : (d.xe' n f).pool = d.pool := rfl
@[simp] theorem Dev.xe'_jour (n : Fin 8) (f : XeSt → XeSt) : (d.xe' n f).jour = d.jour := rfl
@[simp] theorem Dev.xe'_nv (n : Fin 8) (f : XeSt → XeSt) : (d.xe' n f).nv = d.nv := rfl
@[simp] theorem Dev.xe'_otp (n : Fin 8) (f : XeSt → XeSt) : (d.xe' n f).otp = d.otp := rfl
@[simp] theorem Dev.xe'_life (n : Fin 8) (f : XeSt → XeSt) : (d.xe' n f).life = d.life := rfl
@[simp] theorem Dev.xe'_test (n : Fin 8) (f : XeSt → XeSt) : (d.xe' n f).test = d.test := rfl
@[simp] theorem Dev.xe'_tap (n : Fin 8) (f : XeSt → XeSt) : (d.xe' n f).tap = d.tap := rfl
@[simp] theorem Dev.xe'_out (n : Fin 8) (f : XeSt → XeSt) : (d.xe' n f).out = d.out := rfl
@[simp] theorem Dev.xe'_free (n : Fin 8) (f : XeSt → XeSt) : (d.xe' n f).free = d.free := rfl

@[simp] theorem Dev.setLive_power (i s : Nat) (v : Int) : (d.setLive i s v).power = d.power := rfl
@[simp] theorem Dev.setLive_clk (i s : Nat) (v : Int) : (d.setLive i s v).clk = d.clk := rfl
@[simp] theorem Dev.setLive_straps (i s : Nat) (v : Int) : (d.setLive i s v).straps = d.straps := rfl
@[simp] theorem Dev.setLive_path (i s : Nat) (v : Int) : (d.setLive i s v).path = d.path := rfl
@[simp] theorem Dev.setLive_grove (i s : Nat) (v : Int) : (d.setLive i s v).grove = d.grove := rfl
@[simp] theorem Dev.setLive_integ (i s : Nat) (v : Int) : (d.setLive i s v).integ = d.integ := rfl
@[simp] theorem Dev.setLive_seq (i s : Nat) (v : Int) : (d.setLive i s v).seq = d.seq := rfl
@[simp] theorem Dev.setLive_judge (i s : Nat) (v : Int) : (d.setLive i s v).judge = d.judge := rfl
@[simp] theorem Dev.setLive_casc (i s : Nat) (v : Int) : (d.setLive i s v).casc = d.casc := rfl
@[simp] theorem Dev.setLive_chg (i s : Nat) (v : Int) : (d.setLive i s v).chg = d.chg := rfl
@[simp] theorem Dev.setLive_gauge (i s : Nat) (v : Int) : (d.setLive i s v).gauge = d.gauge := rfl
@[simp] theorem Dev.setLive_th (i s : Nat) (v : Int) : (d.setLive i s v).th = d.th := rfl
@[simp] theorem Dev.setLive_conv (i s : Nat) (v : Int) : (d.setLive i s v).conv = d.conv := rfl
@[simp] theorem Dev.setLive_timer (i s : Nat) (v : Int) : (d.setLive i s v).timer = d.timer := rfl
@[simp] theorem Dev.setLive_wdc (i s : Nat) (v : Int) : (d.setLive i s v).wdc = d.wdc := rfl
@[simp] theorem Dev.setLive_wdh (i s : Nat) (v : Int) : (d.setLive i s v).wdh = d.wdh := rfl
@[simp] theorem Dev.setLive_faults (i s : Nat) (v : Int) : (d.setLive i s v).faults = d.faults := rfl
@[simp] theorem Dev.setLive_portA (i s : Nat) (v : Int) : (d.setLive i s v).portA = d.portA := rfl
@[simp] theorem Dev.setLive_portB (i s : Nat) (v : Int) : (d.setLive i s v).portB = d.portB := rfl
@[simp] theorem Dev.setLive_pool (i s : Nat) (v : Int) : (d.setLive i s v).pool = d.pool := rfl
@[simp] theorem Dev.setLive_jour (i s : Nat) (v : Int) : (d.setLive i s v).jour = d.jour := rfl
@[simp] theorem Dev.setLive_nv (i s : Nat) (v : Int) : (d.setLive i s v).nv = d.nv := rfl
@[simp] theorem Dev.setLive_otp (i s : Nat) (v : Int) : (d.setLive i s v).otp = d.otp := rfl
@[simp] theorem Dev.setLive_life (i s : Nat) (v : Int) : (d.setLive i s v).life = d.life := rfl
@[simp] theorem Dev.setLive_test (i s : Nat) (v : Int) : (d.setLive i s v).test = d.test := rfl
@[simp] theorem Dev.setLive_tap (i s : Nat) (v : Int) : (d.setLive i s v).tap = d.tap := rfl
@[simp] theorem Dev.setLive_out (i s : Nat) (v : Int) : (d.setLive i s v).out = d.out := rfl
@[simp] theorem Dev.setLive_free (i s : Nat) (v : Int) : (d.setLive i s v).free = d.free := rfl

@[simp] theorem Dev.port'_power (p : Port) (f : PortSt → PortSt) : (d.port' p f).power = d.power := by cases p <;> rfl
@[simp] theorem Dev.port'_clk (p : Port) (f : PortSt → PortSt) : (d.port' p f).clk = d.clk := by cases p <;> rfl
@[simp] theorem Dev.port'_straps (p : Port) (f : PortSt → PortSt) : (d.port' p f).straps = d.straps := by cases p <;> rfl
@[simp] theorem Dev.port'_path (p : Port) (f : PortSt → PortSt) : (d.port' p f).path = d.path := by cases p <;> rfl
@[simp] theorem Dev.port'_grove (p : Port) (f : PortSt → PortSt) : (d.port' p f).grove = d.grove := by cases p <;> rfl
@[simp] theorem Dev.port'_seq (p : Port) (f : PortSt → PortSt) : (d.port' p f).seq = d.seq := by cases p <;> rfl
@[simp] theorem Dev.port'_judge (p : Port) (f : PortSt → PortSt) : (d.port' p f).judge = d.judge := by cases p <;> rfl
@[simp] theorem Dev.port'_casc (p : Port) (f : PortSt → PortSt) : (d.port' p f).casc = d.casc := by cases p <;> rfl
@[simp] theorem Dev.port'_chg (p : Port) (f : PortSt → PortSt) : (d.port' p f).chg = d.chg := by cases p <;> rfl
@[simp] theorem Dev.port'_gauge (p : Port) (f : PortSt → PortSt) : (d.port' p f).gauge = d.gauge := by cases p <;> rfl
@[simp] theorem Dev.port'_th (p : Port) (f : PortSt → PortSt) : (d.port' p f).th = d.th := by cases p <;> rfl
@[simp] theorem Dev.port'_conv (p : Port) (f : PortSt → PortSt) : (d.port' p f).conv = d.conv := by cases p <;> rfl
@[simp] theorem Dev.port'_timer (p : Port) (f : PortSt → PortSt) : (d.port' p f).timer = d.timer := by cases p <;> rfl
@[simp] theorem Dev.port'_wdc (p : Port) (f : PortSt → PortSt) : (d.port' p f).wdc = d.wdc := by cases p <;> rfl
@[simp] theorem Dev.port'_wdh (p : Port) (f : PortSt → PortSt) : (d.port' p f).wdh = d.wdh := by cases p <;> rfl
@[simp] theorem Dev.port'_faults (p : Port) (f : PortSt → PortSt) : (d.port' p f).faults = d.faults := by cases p <;> rfl
@[simp] theorem Dev.port'_dict (p : Port) (f : PortSt → PortSt) : (d.port' p f).dict = d.dict := by cases p <;> rfl
@[simp] theorem Dev.port'_pool (p : Port) (f : PortSt → PortSt) : (d.port' p f).pool = d.pool := by cases p <;> rfl
@[simp] theorem Dev.port'_jour (p : Port) (f : PortSt → PortSt) : (d.port' p f).jour = d.jour := by cases p <;> rfl
@[simp] theorem Dev.port'_nv (p : Port) (f : PortSt → PortSt) : (d.port' p f).nv = d.nv := by cases p <;> rfl
@[simp] theorem Dev.port'_otp (p : Port) (f : PortSt → PortSt) : (d.port' p f).otp = d.otp := by cases p <;> rfl
@[simp] theorem Dev.port'_life (p : Port) (f : PortSt → PortSt) : (d.port' p f).life = d.life := by cases p <;> rfl
@[simp] theorem Dev.port'_test (p : Port) (f : PortSt → PortSt) : (d.port' p f).test = d.test := by cases p <;> rfl
@[simp] theorem Dev.port'_tap (p : Port) (f : PortSt → PortSt) : (d.port' p f).tap = d.tap := by cases p <;> rfl
@[simp] theorem Dev.port'_out (p : Port) (f : PortSt → PortSt) : (d.port' p f).out = d.out := by cases p <;> rfl
@[simp] theorem Dev.port'_free (p : Port) (f : PortSt → PortSt) : (d.port' p f).free = d.free := by cases p <;> rfl
@[simp] theorem Dev.chan'_power (c : Integrated) (f : ChanSt → ChanSt) : (d.chan' c f).power = d.power := by cases c <;> rfl
@[simp] theorem Dev.chan'_clk (c : Integrated) (f : ChanSt → ChanSt) : (d.chan' c f).clk = d.clk := by cases c <;> rfl
@[simp] theorem Dev.chan'_straps (c : Integrated) (f : ChanSt → ChanSt) : (d.chan' c f).straps = d.straps := by cases c <;> rfl
@[simp] theorem Dev.chan'_path (c : Integrated) (f : ChanSt → ChanSt) : (d.chan' c f).path = d.path := by cases c <;> rfl
@[simp] theorem Dev.chan'_grove (c : Integrated) (f : ChanSt → ChanSt) : (d.chan' c f).grove = d.grove := by cases c <;> rfl
@[simp] theorem Dev.chan'_seq (c : Integrated) (f : ChanSt → ChanSt) : (d.chan' c f).seq = d.seq := by cases c <;> rfl
@[simp] theorem Dev.chan'_judge (c : Integrated) (f : ChanSt → ChanSt) : (d.chan' c f).judge = d.judge := by cases c <;> rfl
@[simp] theorem Dev.chan'_casc (c : Integrated) (f : ChanSt → ChanSt) : (d.chan' c f).casc = d.casc := by cases c <;> rfl
@[simp] theorem Dev.chan'_chg (c : Integrated) (f : ChanSt → ChanSt) : (d.chan' c f).chg = d.chg := by cases c <;> rfl
@[simp] theorem Dev.chan'_gauge (c : Integrated) (f : ChanSt → ChanSt) : (d.chan' c f).gauge = d.gauge := by cases c <;> rfl
@[simp] theorem Dev.chan'_th (c : Integrated) (f : ChanSt → ChanSt) : (d.chan' c f).th = d.th := by cases c <;> rfl
@[simp] theorem Dev.chan'_conv (c : Integrated) (f : ChanSt → ChanSt) : (d.chan' c f).conv = d.conv := by cases c <;> rfl
@[simp] theorem Dev.chan'_timer (c : Integrated) (f : ChanSt → ChanSt) : (d.chan' c f).timer = d.timer := by cases c <;> rfl
@[simp] theorem Dev.chan'_wdc (c : Integrated) (f : ChanSt → ChanSt) : (d.chan' c f).wdc = d.wdc := by cases c <;> rfl
@[simp] theorem Dev.chan'_wdh (c : Integrated) (f : ChanSt → ChanSt) : (d.chan' c f).wdh = d.wdh := by cases c <;> rfl
@[simp] theorem Dev.chan'_faults (c : Integrated) (f : ChanSt → ChanSt) : (d.chan' c f).faults = d.faults := by cases c <;> rfl
@[simp] theorem Dev.chan'_portA (c : Integrated) (f : ChanSt → ChanSt) : (d.chan' c f).portA = d.portA := by cases c <;> rfl
@[simp] theorem Dev.chan'_portB (c : Integrated) (f : ChanSt → ChanSt) : (d.chan' c f).portB = d.portB := by cases c <;> rfl
@[simp] theorem Dev.chan'_dict (c : Integrated) (f : ChanSt → ChanSt) : (d.chan' c f).dict = d.dict := by cases c <;> rfl
@[simp] theorem Dev.chan'_pool (c : Integrated) (f : ChanSt → ChanSt) : (d.chan' c f).pool = d.pool := by cases c <;> rfl
@[simp] theorem Dev.chan'_jour (c : Integrated) (f : ChanSt → ChanSt) : (d.chan' c f).jour = d.jour := by cases c <;> rfl
@[simp] theorem Dev.chan'_nv (c : Integrated) (f : ChanSt → ChanSt) : (d.chan' c f).nv = d.nv := by cases c <;> rfl
@[simp] theorem Dev.chan'_otp (c : Integrated) (f : ChanSt → ChanSt) : (d.chan' c f).otp = d.otp := by cases c <;> rfl
@[simp] theorem Dev.chan'_life (c : Integrated) (f : ChanSt → ChanSt) : (d.chan' c f).life = d.life := by cases c <;> rfl
@[simp] theorem Dev.chan'_test (c : Integrated) (f : ChanSt → ChanSt) : (d.chan' c f).test = d.test := by cases c <;> rfl
@[simp] theorem Dev.chan'_tap (c : Integrated) (f : ChanSt → ChanSt) : (d.chan' c f).tap = d.tap := by cases c <;> rfl
@[simp] theorem Dev.chan'_out (c : Integrated) (f : ChanSt → ChanSt) : (d.chan' c f).out = d.out := by cases c <;> rfl
@[simp] theorem Dev.chan'_free (c : Integrated) (f : ChanSt → ChanSt) : (d.chan' c f).free = d.free := by cases c <;> rfl

/-! ## Members of register files -/

@[simp] theorem upd_val {α : Type} {n : Nat} (v : Vector α n) (i : Fin n) (f : α → α) : (upd v i f)[i.val] = f v[i.val] := by
  simp [upd]

theorem upd_self {α : Type} {n : Nat} (v : Vector α n) (i : Fin n) (f : α → α) : (upd v i f)[i] = f v[i] := upd_val v i f

theorem upd_get {α : Type} {n : Nat} (v : Vector α n) (i j : Fin n) (f : α → α) :
    (upd v i f)[j] = if i = j then f v[j] else v[j] := by
  have e : (upd v i f)[j] = (v.set i (f v[i]))[j.val] := rfl
  rw [e, Vector.getElem_set]
  by_cases h : i = j
  · subst h; simp
  · have hn : i.val ≠ j.val := fun e => h (Fin.ext e)
    simp [h, hn]

theorem upd_other {α : Type} {n : Nat} (v : Vector α n) (i j : Fin n) (f : α → α) (h : i ≠ j) : (upd v i f)[j] = v[j] := by
  simpa [h] using upd_get v i j f

/-- A projection that an update does not change is unchanged throughout the file. -/
theorem map_upd {α β : Type} {n : Nat} (v : Vector α n) (i : Fin n) (f : α → α) (g : α → β) (h : g (f v[i]) = g v[i]) :
    (upd v i f).map g = v.map g := by
  apply Vector.ext
  intro k hk
  have e := upd_get v i ⟨k, hk⟩ f
  simp only [Fin.getElem_fin] at e
  simp only [Vector.getElem_map, e]
  split
  · rename_i e
    have e' : i.val = k := congrArg Fin.val e
    subst e'
    exact h
  · rfl

end Sys2Proof.Machine
end

