-- ==== Sys2Proof/Laws/Still.lean ====
section
/-!
SUPPORT. Laws/Still.lean: everything that the sequencer's orders, the raising of a source and the sending of a frame leave
unchanged, said once for each shared operation: `still` (the parts of the device they never touch), the fault sources' states,
and the dictionary.
-/
namespace Sys2Proof.Machine

/-! ## Updates of one part -/

@[simp] theorem Dev.seq'_still (d : Dev) (f : Seq → Seq) : (d.seq' f).still = d.still := rfl
@[simp] theorem Dev.judgeAll_still (d : Dev) (f : BranchJ → BranchJ) : (d.judgeAll f).still = d.still := rfl
@[simp] theorem Dev.wdh'_still (d : Dev) (f : Wdh → Wdh) : (d.wdh' f).still = d.still := rfl
@[simp] theorem Dev.faults'_still (d : Dev) (f : Faults → Faults) : (d.faults' f).still = d.still := rfl
@[simp] theorem Dev.judge'_still (d : Dev) (b : Branch) (f : BranchJ → BranchJ) : (d.judge' b f).still = d.still := rfl
@[simp] theorem Dev.timer'_still (d : Dev) (n : TimerNo) (f : Timer → Timer) : (d.timer' n f).still = d.still := rfl
@[simp] theorem Dev.ph'_still (d : Dev) (p : Phase) (f : PhaseSt → PhaseSt) : (d.ph' p f).still = d.still := rfl
@[simp] theorem Dev.setLive_still (d : Dev) (i s : Nat) (v : Int) : (d.setLive i s v).still = d.still := rfl
@[simp] theorem Dev.src'_still (d : Dev) (n : Nat) (f : FaultSrc → FaultSrc) : (d.src' n f).still = d.still := by
  unfold Dev.src'; split <;> rfl
@[simp] theorem Dev.emcy_still (d : Dev) (e : Emcy) : (d.emcy e).still = d.still := rfl
@[simp] theorem Dev.nfPulse_still (d : Dev) : d.nfPulse.still = d.still := rfl
@[simp] theorem Dev.power'_still (d : Dev) (f : Power → Power) (h : (f d.power).still = d.power.still) : (d.power' f).still = d.still := by
  simp [Dev.power', Dev.still, h]
@[simp] theorem Dev.clk'_still (d : Dev) (f : Clocks → Clocks) (h : (f d.clk).still = d.clk.still) : (d.clk' f).still = d.still := by
  simp [Dev.clk', Dev.still, h]
@[simp] theorem Dev.path'_still (d : Dev) (f : Path → Path) (h : (f d.path).still = d.path.still) : (d.path' f).still = d.still := by
  simp [Dev.path', Dev.still, h]
@[simp] theorem Dev.grove'_still (d : Dev) (f : Grove → Grove) (h : (f d.grove).still = d.grove.still) : (d.grove' f).still = d.still := by
  simp [Dev.grove', Dev.still, h]
@[simp] theorem Dev.integ'_still (d : Dev) (f : Integ → Integ) (h : (f d.integ).still = d.integ.still) : (d.integ' f).still = d.still := by
  simp [Dev.integ', Dev.still, h]
@[simp] theorem Dev.casc'_still (d : Dev) (f : Cascade → Cascade) (h : (f d.casc).still = d.casc.still) : (d.casc' f).still = d.still := by
  simp [Dev.casc', Dev.still, h]
@[simp] theorem Dev.chg'_still (d : Dev) (f : Charger → Charger) (h : (f d.chg).still = d.chg.still) : (d.chg' f).still = d.still := by
  simp [Dev.chg', Dev.still, h]
@[simp] theorem Dev.gauge'_still (d : Dev) (f : Gauge → Gauge) (h : (f d.gauge).still = d.gauge.still) : (d.gauge' f).still = d.still := by
  simp [Dev.gauge', Dev.still, h]
@[simp] theorem Dev.th'_still (d : Dev) (f : Thermal → Thermal) (h : (f d.th).still = d.th.still) : (d.th' f).still = d.still := by
  simp [Dev.th', Dev.still, h]
@[simp] theorem Dev.conv'_still (d : Dev) (f : Hkadc → Hkadc) (h : (f d.conv).still = d.conv.still) : (d.conv' f).still = d.still := by
  simp [Dev.conv', Dev.still, h]
@[simp] theorem Dev.jour'_still (d : Dev) (f : Journal → Journal) (h : (f d.jour).still = d.jour.still) : (d.jour' f).still = d.still := by
  simp [Dev.jour', Dev.still, h]
@[simp] theorem Dev.nv'_still (d : Dev) (f : Nv → Nv) (h : (f d.nv).still = d.nv.still) : (d.nv' f).still = d.still := by
  simp [Dev.nv', Dev.still, h]
@[simp] theorem Dev.life'_still (d : Dev) (f : Life → Life) (h : (f d.life).still = d.life.still) : (d.life' f).still = d.still := by
  simp [Dev.life', Dev.still, h]
@[simp] theorem Dev.test'_still (d : Dev) (f : Test → Test) (h : (f d.test).still = d.test.still) : (d.test' f).still = d.still := by
  simp [Dev.test', Dev.still, h]
@[simp] theorem Dev.port'_still (d : Dev) (p : Port) (f : PortSt → PortSt) (h : (f (d.port p)).still = (d.port p).still) :
    (d.port' p f).still = d.still := by
  cases p <;> simp_all [Dev.port', Dev.port, Dev.still]
@[simp] theorem Dev.rail'_still (d : Dev) (r : Rail) (f : RailSt → RailSt)
    (h : (f d.grove.rail[r]).still = d.grove.rail[r].still) : (d.rail' r f).still = d.still := by
  simp [Dev.rail', Dev.still, Grove.still, map_upd _ _ _ _ h]
@[simp] theorem Dev.lp'_still (d : Dev) (r : Rail) (f : Loop → Loop) : (d.lp' r f).still = d.still :=
  by
  unfold Dev.lp'; exact Dev.rail'_still d r _ rfl
@[simp] theorem Dev.chan'_still (d : Dev) (c : Integrated) (f : ChanSt → ChanSt) (h : (f (d.chan c)).still = (d.chan c).still) :
    (d.chan' c f).still = d.still := by
  cases c <;> simp [Dev.chan', Dev.ib', Dev.ld', Dev.still, Integ.still, map_upd _ _ _ _ h]
@[simp] theorem Dev.xe'_still (d : Dev) (n : Fin 8) (f : XeSt → XeSt)
    (h : (f d.integ.xe[n]).still = d.integ.xe[n].still) : (d.xe' n f).still = d.still := by
  simp [Dev.xe', Dev.still, Integ.still, map_upd _ _ _ _ h]

/-- A projection that every pass of a loop keeps, the loop keeps. -/
theorem foldl_keeps {α β : Type} (g : Dev → β) (f : Dev → α → Dev) (h : ∀ d a, g (f d a) = g d) (l : List α) (d : Dev) :
    g (l.foldl f d) = g d := by
  induction l generalizing d with
  | nil => rfl
  | cons a r ih => rw [List.foldl_cons, ih, h]

@[simp] theorem Sensor.lifted_still (x : Sensor) : x.lifted.still = x.still := by unfold Sensor.lifted; split <;> rfl
@[simp] theorem Converter.lifted_still (x : Converter) : x.lifted.still = x.still := by unfold Converter.lifted; split <;> rfl
@[simp] theorem Thermal.lifted_still (x : Thermal) : Thermal.still { x with sensor := x.sensor.map Sensor.lifted } = x.still := by
  simp [Thermal.still, Function.comp_def]

theorem Path.still_ship (p : Path) (s : ShipStage) : Path.still { p with ship := s } = p.still := rfl

/-! ## Sending -/

/-- What `inject` leaves: everything but the slots. -/
theorem inject_keeps {β : Type} (g : Dev → β) (h : ∀ (d : Dev) (x : Test), x.still = d.test.still → g { d with test := x } = g d) (d : Dev)
    (k : List Nat) (n : Nat) (ok : Int → Bool) : g (d.inject k n ok).2 = g d := by
  unfold Dev.inject
  split
  · rfl
  · generalize List.finRange 8 = l
    generalize hx : ((none, d) : Option (Nat × Int) × Dev) = x
    have hd : g d = g x.2 := by rw [← hx]
    rw [hd]; clear hx hd
    induction l generalizing x with
    | nil => rfl
    | cons a r ih =>
      rw [List.foldl_cons, ih]
      dsimp only
      split
      · rfl
      · split
        · refine Eq.trans ?_ (h x.2 { x.2.test with slots := upd x.2.test.slots a fun y => { y with seen := x.2.test.slots[a].seen + 1 } } rfl)
          exact h _ _ rfl
        · exact h x.2 _ rfl

@[simp] theorem Dev.inject_still (d : Dev) (k : List Nat) (n : Nat) (ok : Int → Bool) : (d.inject k n ok).2.still = d.still :=
  inject_keeps Dev.still (fun d x h => by simp [Dev.still, h]) d k n ok
@[simp] theorem Dev.inject_faults (d : Dev) (k : List Nat) (n : Nat) (ok : Int → Bool) : (d.inject k n ok).2.faults = d.faults :=
  inject_keeps Dev.faults (fun _ _ _ => rfl) d k n ok
@[simp] theorem Dev.inject_dict (d : Dev) (k : List Nat) (n : Nat) (ok : Int → Bool) : (d.inject k n ok).2.dict = d.dict :=
  inject_keeps Dev.dict (fun _ _ _ => rfl) d k n ok

theorem send_keeps {β : Type} (g : Dev → β) (hi : ∀ (d : Dev) (x : Test), x.still = d.test.still → g { d with test := x } = g d)
    (hp : ∀ (d : Dev) (p : Port), g (d.port' p fun y => { y with sent := satInc 32 y.sent }) = g d)
    (ho : ∀ (d : Dev) (l : List Out), g { d with out := l } = g d) (d : Dev) (o : Out) : g (d.send o) = g d := by
  unfold Dev.send
  split
  · exact ho _ _
  · split
    · rfl
    · dsimp only
      split
      · rw [hp, inject_keeps g hi]
      · rw [ho, inject_keeps g hi, hp, inject_keeps g hi]

@[simp] theorem Dev.send_still (d : Dev) (o : Out) : (d.send o).still = d.still :=
  send_keeps Dev.still (fun d x h => by simp [Dev.still, h]) (fun d p => Dev.port'_still d p _ rfl) (fun _ _ => rfl) d o
@[simp] theorem Dev.send_faults (d : Dev) (o : Out) : (d.send o).faults = d.faults :=
  send_keeps Dev.faults (fun _ _ _ => rfl) (fun d p => by simp) (fun _ _ => rfl) d o
@[simp] theorem Dev.send_dict (d : Dev) (o : Out) : (d.send o).dict = d.dict :=
  send_keeps Dev.dict (fun _ _ _ => rfl) (fun d p => by simp) (fun _ _ => rfl) d o

/-! ## The shared operations -/

set_option linter.unusedSimpArgs false
set_option linter.unusedTactic false
set_option linter.unreachableTactic false



@[simp] theorem Dev.ok_still (d : Dev) (w : Who) : (d.ok w).still = d.still := by
  unfold Dev.ok
  repeat' first | with_reducible rfl | split | simp [Dev.when, apply_ite Dev.still, apply_ite Dev.faults, apply_ite Dev.dict]

@[simp] theorem Dev.ok_src (d : Dev) (w : Who) : (d.ok w).faults.src = d.faults.src := by
  unfold Dev.ok
  repeat' first | with_reducible rfl | split | simp [Dev.when, apply_ite Dev.still, apply_ite Dev.faults, apply_ite Dev.dict]

@[simp] theorem Dev.ok_dict (d : Dev) (w : Who) : (d.ok w).dict = d.dict := by
  unfold Dev.ok
  repeat' first | with_reducible rfl | split | simp [Dev.when, apply_ite Dev.still, apply_ite Dev.faults, apply_ite Dev.dict]

@[simp] theorem Dev.abort_still (d : Dev) (w : Who) (c : Nat) : (d.abort w c).still = d.still := by
  unfold Dev.abort
  repeat' first | with_reducible rfl | split | simp [Dev.when, apply_ite Dev.still, apply_ite Dev.faults, apply_ite Dev.dict]

@[simp] theorem Dev.abort_src (d : Dev) (w : Who) (c : Nat) : (d.abort w c).faults.src = d.faults.src := by
  unfold Dev.abort
  repeat' first | with_reducible rfl | split | simp [Dev.when, apply_ite Dev.still, apply_ite Dev.faults, apply_ite Dev.dict]

@[simp] theorem Dev.abort_dict (d : Dev) (w : Who) (c : Nat) : (d.abort w c).dict = d.dict := by
  unfold Dev.abort
  repeat' first | with_reducible rfl | split | simp [Dev.when, apply_ite Dev.still, apply_ite Dev.faults, apply_ite Dev.dict]

theorem Power.leaveIdle_still (p : Power) (t : Nat) : (p.leaveIdle t).still = p.still := by unfold Power.leaveIdle; split <;> rfl

@[simp] theorem Dev.log_still (d : Dev) (r : LogRec) : (d.log r).still = d.still := by
  have h : (d.power' fun p => p.leaveIdle r.time).still = d.still := Dev.power'_still _ _ (Power.leaveIdle_still _ _)
  unfold Dev.log
  dsimp only
  split <;> exact h

@[simp] theorem Dev.log_src (d : Dev) (r : LogRec) : (d.log r).faults.src = d.faults.src := by
  unfold Dev.log
  dsimp only
  split <;> rfl

@[simp] theorem Dev.log_dict (d : Dev) (r : LogRec) : (d.log r).dict = d.dict := by
  unfold Dev.log
  dsimp only
  split <;> rfl

@[simp] theorem Dev.logEvent_still (d : Dev) (t k s r : Nat) (l : List Nat) : (d.logEvent t k s r l).still = d.still := by
  unfold Dev.logEvent
  repeat' first | with_reducible rfl | split | simp [Dev.when, apply_ite Dev.still, apply_ite Dev.faults, apply_ite Dev.dict]

@[simp] theorem Dev.logEvent_src (d : Dev) (t k s r : Nat) (l : List Nat) : (d.logEvent t k s r l).faults.src = d.faults.src := by
  unfold Dev.logEvent
  repeat' first | with_reducible rfl | split | simp [Dev.when, apply_ite Dev.still, apply_ite Dev.faults, apply_ite Dev.dict]

@[simp] theorem Dev.logEvent_dict (d : Dev) (t k s r : Nat) (l : List Nat) : (d.logEvent t k s r l).dict = d.dict := by
  unfold Dev.logEvent
  repeat' first | with_reducible rfl | split | simp [Dev.when, apply_ite Dev.still, apply_ite Dev.faults, apply_ite Dev.dict]

@[simp] theorem Dev.logFault_still (d : Dev) (t k s c r e : Nat) (l : List Nat) : (d.logFault t k s c r e l).still = d.still := by
  unfold Dev.logFault
  repeat' first | with_reducible rfl | split | simp [Dev.when, apply_ite Dev.still, apply_ite Dev.faults, apply_ite Dev.dict]

@[simp] theorem Dev.logFault_src (d : Dev) (t k s c r e : Nat) (l : List Nat) : (d.logFault t k s c r e l).faults.src = d.faults.src := by
  unfold Dev.logFault
  repeat' first | with_reducible rfl | split | simp [Dev.when, apply_ite Dev.still, apply_ite Dev.faults, apply_ite Dev.dict]

@[simp] theorem Dev.logFault_dict (d : Dev) (t k s c r e : Nat) (l : List Nat) : (d.logFault t k s c r e l).dict = d.dict := by
  unfold Dev.logFault
  repeat' first | with_reducible rfl | split | simp [Dev.when, apply_ite Dev.still, apply_ite Dev.faults, apply_ite Dev.dict]

@[simp] theorem Dev.setFiring_still (d : Dev) (p : Phase) (x : Firing) : (d.setFiring p x).still = d.still := by
  unfold Dev.setFiring
  rfl

@[simp] theorem Dev.setFiring_src (d : Dev) (p : Phase) (x : Firing) : (d.setFiring p x).faults.src = d.faults.src := by
  unfold Dev.setFiring
  repeat' first | with_reducible rfl | split | simp [Dev.when, apply_ite Dev.still, apply_ite Dev.faults, apply_ite Dev.dict]

@[simp] theorem Dev.setFiring_dict (d : Dev) (p : Phase) (x : Firing) : (d.setFiring p x).dict = d.dict := by
  unfold Dev.setFiring
  repeat' first | with_reducible rfl | split | simp [Dev.when, apply_ite Dev.still, apply_ite Dev.faults, apply_ite Dev.dict]

@[simp] theorem Dev.logRetune_still (d : Dev) (t : Nat) (r : Rail) (o : Nat) (a b : List Nat) : (d.logRetune t r o a b).still = d.still := by
  unfold Dev.logRetune
  repeat' first | with_reducible rfl | split | simp [Dev.when, apply_ite Dev.still, apply_ite Dev.faults, apply_ite Dev.dict]

@[simp] theorem Dev.logRetune_src (d : Dev) (t : Nat) (r : Rail) (o : Nat) (a b : List Nat) : (d.logRetune t r o a b).faults.src = d.faults.src := by
  unfold Dev.logRetune
  repeat' first | with_reducible rfl | split | simp [Dev.when, apply_ite Dev.still, apply_ite Dev.faults, apply_ite Dev.dict]

@[simp] theorem Dev.logRetune_dict (d : Dev) (t : Nat) (r : Rail) (o : Nat) (a b : List Nat) : (d.logRetune t r o a b).dict = d.dict := by
  unfold Dev.logRetune
  repeat' first | with_reducible rfl | split | simp [Dev.when, apply_ite Dev.still, apply_ite Dev.faults, apply_ite Dev.dict]

@[simp] theorem Dev.abortTuning_still (d : Dev) (t : Nat) (r : Rail) (o : Nat) : (d.abortTuning t r o).still = d.still := by
  unfold Dev.abortTuning
  repeat' first | with_reducible rfl | refine (Dev.grove'_still _ _ rfl).trans ?_ | split | simp [Dev.when, apply_ite Dev.still, apply_ite Dev.faults, apply_ite Dev.dict]

@[simp] theorem Dev.abortTuning_src (d : Dev) (t : Nat) (r : Rail) (o : Nat) : (d.abortTuning t r o).faults.src = d.faults.src := by
  unfold Dev.abortTuning
  repeat' first | with_reducible rfl | split | simp [Dev.when, apply_ite Dev.still, apply_ite Dev.faults, apply_ite Dev.dict]

@[simp] theorem Dev.abortTuning_dict (d : Dev) (t : Nat) (r : Rail) (o : Nat) : (d.abortTuning t r o).dict = d.dict := by
  unfold Dev.abortTuning
  repeat' first | with_reducible rfl | split | simp [Dev.when, apply_ite Dev.still, apply_ite Dev.faults, apply_ite Dev.dict]

@[simp] theorem Dev.pl'_still (d : Dev) (r : Rail) (f : Placement → Placement) : (d.pl' r f).still = d.still := Dev.rail'_still d r _ rfl

@[simp] theorem Dev.record_still (d : Dev) (t n r : Nat) (b : Bool) : (d.record t n r b).still = d.still := by
  unfold Dev.record Dev.when
  dsimp only
  repeat' split
  all_goals simp

@[simp] theorem Dev.src'_dict (d : Dev) (n : Nat) (f : FaultSrc → FaultSrc) : (d.src' n f).dict = d.dict := by
  unfold Dev.src'; split <;> rfl

@[simp] theorem Dev.emcy_dict (d : Dev) (e : Emcy) : (d.emcy e).dict = d.dict := rfl
@[simp] theorem Dev.nfPulse_dict (d : Dev) : d.nfPulse.dict = d.dict := rfl

@[simp] theorem Dev.record_dict (d : Dev) (t n r : Nat) (b : Bool) : (d.record t n r b).dict = d.dict := by
  unfold Dev.record Dev.when
  dsimp only
  repeat' split
  all_goals simp

@[simp] theorem Dev.recordNew_still (d : Dev) (t n r : Nat) : (d.recordNew t n r).still = d.still := by
  unfold Dev.recordNew; split <;> simp
@[simp] theorem Dev.recordNew_dict (d : Dev) (t n r : Nat) : (d.recordNew t n r).dict = d.dict := by
  unfold Dev.recordNew; split <;> simp

@[simp] theorem Dev.keepWake_still (d : Dev) : d.keepWake.still = d.still := by
  unfold Dev.keepWake
  split
  · rw [Dev.seq'_still, Dev.power'_still _ _ rfl]
  · rfl
@[simp] theorem Dev.keepWake_dict (d : Dev) : d.keepWake.dict = d.dict := by unfold Dev.keepWake; split <;> rfl
@[simp] theorem Dev.keepWake_src (d : Dev) : d.keepWake.faults.src = d.faults.src := by unfold Dev.keepWake; split <;> rfl

@[simp] theorem Dev.minimumCheck_still (d : Dev) (t : Nat) (r : Rail) : (d.minimumCheck t r).still = d.still := by
  unfold Dev.minimumCheck
  split
  · rw [Dev.keepWake_still, Dev.recordNew_still, Dev.rail'_still _ _ _ rfl]
  · rfl
@[simp] theorem Dev.minimumCheck_dict (d : Dev) (t : Nat) (r : Rail) : (d.minimumCheck t r).dict = d.dict := by
  unfold Dev.minimumCheck; split <;> simp

@[simp] theorem Dev.retireKeeping_still (d : Dev) (t : Nat) (p : Phase) (r : Nat) (b : Bool) :
    (d.retireKeeping t p r b).still = d.still := by
  unfold Dev.retireKeeping
  split
  · rfl
  · dsimp only
    split
    · rw [Dev.minimumCheck_still, Dev.recordNew_still, Dev.pl'_still, Dev.grove'_still _ _ rfl, Dev.ph'_still]
    · rw [Dev.recordNew_still, Dev.pl'_still, Dev.grove'_still _ _ rfl, Dev.ph'_still]
@[simp] theorem Dev.retireKeeping_dict (d : Dev) (t : Nat) (p : Phase) (r : Nat) (b : Bool) :
    (d.retireKeeping t p r b).dict = d.dict := by
  unfold Dev.retireKeeping
  split
  · rfl
  · dsimp only
    split <;> simp

@[simp] theorem Dev.retirePhase_still (d : Dev) (t : Nat) (p : Phase) (r : Nat) : (d.retirePhase t p r).still = d.still :=
  d.retireKeeping_still t p r false
@[simp] theorem Dev.retirePhase_dict (d : Dev) (t : Nat) (p : Phase) (r : Nat) : (d.retirePhase t p r).dict = d.dict :=
  d.retireKeeping_dict t p r false

@[simp] theorem Dev.retireAfter_still (d : Dev) (t : Nat) (o : Option Nat) (r : Nat) : (d.retireAfter t o r).still = d.still := by
  unfold Dev.retireAfter
  exact foldl_keeps Dev.still _ (fun d a => by split <;> simp) _ _
@[simp] theorem Dev.retireAfter_dict (d : Dev) (t : Nat) (o : Option Nat) (r : Nat) : (d.retireAfter t o r).dict = d.dict := by
  unfold Dev.retireAfter
  exact foldl_keeps Dev.dict _ (fun d a => by split <;> simp) _ _

@[simp] theorem Dev.joinList_still (d : Dev) (t : Nat) (r : Rail) (p : Phase) (o : Option Nat) (x : Firing) :
    (d.joinList t r p o x).still = d.still := by
  unfold Dev.joinList
  dsimp only
  rw [Dev.pl'_still, Dev.grove'_still _ _ rfl, Dev.setFiring_still, Dev.ph'_still]
@[simp] theorem Dev.joinList_faults (d : Dev) (t : Nat) (r : Rail) (p : Phase) (o : Option Nat) (x : Firing) :
    (d.joinList t r p o x).faults = d.faults := rfl
@[simp] theorem Dev.joinList_dict (d : Dev) (t : Nat) (r : Rail) (p : Phase) (o : Option Nat) (x : Firing) :
    (d.joinList t r p o x).dict = d.dict := rfl

@[simp] theorem Dev.insertOff_still (d : Dev) (t : Nat) (r : Rail) (o : Owed) : (Dev.insertOff t r d o).still = d.still := by
  unfold Dev.insertOff; split <;> simp
@[simp] theorem Dev.insertOff_dict (d : Dev) (t : Nat) (r : Rail) (o : Owed) : (Dev.insertOff t r d o).dict = d.dict := by
  unfold Dev.insertOff; split <;> simp

@[simp] theorem Dev.settleInsertions_still (d : Dev) (t : Nat) (r : Rail) : (d.settleInsertions t r).still = d.still := by
  unfold Dev.settleInsertions
  dsimp only
  refine (foldl_keeps Dev.still _ (fun d a => by simp) _ _).trans ?_
  repeat' split
  all_goals simp
@[simp] theorem Dev.settleInsertions_dict (d : Dev) (t : Nat) (r : Rail) : (d.settleInsertions t r).dict = d.dict := by
  unfold Dev.settleInsertions
  dsimp only
  refine (foldl_keeps Dev.dict _ (fun d a => by simp) _ _).trans ?_
  repeat' split
  all_goals simp

@[simp] theorem Dev.abandonInsertions_still (d : Dev) (r : Rail) : (d.abandonInsertions r).still = d.still := Dev.pl'_still d r _
@[simp] theorem Dev.abandonInsertions_faults (d : Dev) (r : Rail) : (d.abandonInsertions r).faults = d.faults := rfl
@[simp] theorem Dev.abandonInsertions_dict (d : Dev) (r : Rail) : (d.abandonInsertions r).dict = d.dict := rfl

@[simp] theorem Dev.phasesMid_still (d : Dev) (t : Nat) (r : Rail) : (d.phasesMid t r).still = d.still := by
  unfold Dev.phasesMid
  exact foldl_keeps Dev.still _ (fun d a => by dsimp only; split <;> simp) _ _
@[simp] theorem Dev.phasesMid_dict (d : Dev) (t : Nat) (r : Rail) : (d.phasesMid t r).dict = d.dict := by
  unfold Dev.phasesMid
  exact foldl_keeps Dev.dict _ (fun d a => by dsimp only; split <;> simp) _ _

@[simp] theorem Dev.fastOffRail_still (d : Dev) (t : Nat) (r : Rail) : (d.fastOffRail t r).still = d.still := by
  unfold Dev.fastOffRail
  dsimp only
  split
  · rfl
  · rw [Dev.judge'_still, Dev.settleInsertions_still, Dev.rail'_still _ _ _ rfl, Dev.phasesMid_still, Dev.abortTuning_still]
@[simp] theorem Dev.fastOffRail_dict (d : Dev) (t : Nat) (r : Rail) : (d.fastOffRail t r).dict = d.dict := by
  unfold Dev.fastOffRail
  dsimp only
  split
  · rfl
  · simp

@[simp] theorem Dev.turnOffRail_still (d : Dev) (t : Nat) (r : Rail) : (d.turnOffRail t r).still = d.still := by
  unfold Dev.turnOffRail
  repeat' first | with_reducible rfl | refine (Dev.rail'_still _ _ _ rfl).trans ?_ | split | simp [Dev.when, apply_ite Dev.still, apply_ite Dev.faults, apply_ite Dev.dict]

@[simp] theorem Dev.turnOffRail_dict (d : Dev) (t : Nat) (r : Rail) : (d.turnOffRail t r).dict = d.dict := by
  unfold Dev.turnOffRail
  repeat' first | with_reducible rfl | split | simp [Dev.when, apply_ite Dev.still, apply_ite Dev.faults, apply_ite Dev.dict]

@[simp] theorem Dev.turnOffChan_still (d : Dev) (c : Integrated) : (d.turnOffChan c).still = d.still := by
  unfold Dev.turnOffChan
  repeat' first | with_reducible rfl | refine (Dev.chan'_still _ _ _ rfl).trans ?_ | split | simp [Dev.when, apply_ite Dev.still, apply_ite Dev.faults, apply_ite Dev.dict]

@[simp] theorem Dev.turnOffChan_src (d : Dev) (c : Integrated) : (d.turnOffChan c).faults.src = d.faults.src := by
  unfold Dev.turnOffChan
  repeat' first | with_reducible rfl | split | simp [Dev.when, apply_ite Dev.still, apply_ite Dev.faults, apply_ite Dev.dict]

@[simp] theorem Dev.turnOffChan_dict (d : Dev) (c : Integrated) : (d.turnOffChan c).dict = d.dict := by
  unfold Dev.turnOffChan
  repeat' first | with_reducible rfl | split | simp [Dev.when, apply_ite Dev.still, apply_ite Dev.faults, apply_ite Dev.dict]

@[simp] theorem Dev.turnOffXe_still (d : Dev) (n : Fin 8) : (d.turnOffXe n).still = d.still := by
  unfold Dev.turnOffXe
  repeat' first | with_reducible rfl | refine (Dev.xe'_still _ _ _ rfl).trans ?_ | split | simp [Dev.when, apply_ite Dev.still, apply_ite Dev.faults, apply_ite Dev.dict]

@[simp] theorem Dev.turnOffXe_src (d : Dev) (n : Fin 8) : (d.turnOffXe n).faults.src = d.faults.src := by
  unfold Dev.turnOffXe
  repeat' first | with_reducible rfl | split | simp [Dev.when, apply_ite Dev.still, apply_ite Dev.faults, apply_ite Dev.dict]

@[simp] theorem Dev.turnOffXe_dict (d : Dev) (n : Fin 8) : (d.turnOffXe n).dict = d.dict := by
  unfold Dev.turnOffXe
  repeat' first | with_reducible rfl | split | simp [Dev.when, apply_ite Dev.still, apply_ite Dev.faults, apply_ite Dev.dict]

@[simp] theorem Dev.turnOff_still (d : Dev) (t : Nat) (b : Branch) : (d.turnOff t b).still = d.still := by
  unfold Dev.turnOff byBranch
  repeat' split
  all_goals simp

@[simp] theorem Dev.turnOff_dict (d : Dev) (t : Nat) (b : Branch) : (d.turnOff t b).dict = d.dict := by
  unfold Dev.turnOff byBranch
  repeat' split
  all_goals simp

@[simp] theorem Dev.fastOff_still (d : Dev) (t : Nat) (b : Branch) : (d.fastOff t b).still = d.still := by
  unfold Dev.fastOff byBranch
  repeat' split
  all_goals simp

@[simp] theorem Dev.fastOff_dict (d : Dev) (t : Nat) (b : Branch) : (d.fastOff t b).dict = d.dict := by
  unfold Dev.fastOff byBranch
  repeat' split
  all_goals simp

@[simp] theorem Dev.fastOffMask_still (d : Dev) (t m : Nat) : (d.fastOffMask t m).still = d.still := by
  unfold Dev.fastOffMask
  exact foldl_keeps Dev.still _ (fun d a => by simp) _ _

@[simp] theorem Dev.fastOffMask_dict (d : Dev) (t m : Nat) : (d.fastOffMask t m).dict = d.dict := by
  unfold Dev.fastOffMask
  exact foldl_keeps Dev.dict _ (fun d a => by simp) _ _

@[simp] theorem Dev.takeTimers_still (d : Dev) : d.takeTimers.still = d.still := by
  unfold Dev.takeTimers
  repeat' first | with_reducible rfl | refine (Dev.chg'_still _ _ rfl).trans ?_ | split | simp [Dev.when, apply_ite Dev.still, apply_ite Dev.faults, apply_ite Dev.dict]

@[simp] theorem Dev.takeTimers_src (d : Dev) : d.takeTimers.faults.src = d.faults.src := by
  unfold Dev.takeTimers
  repeat' first | with_reducible rfl | split | simp [Dev.when, apply_ite Dev.still, apply_ite Dev.faults, apply_ite Dev.dict]

@[simp] theorem Dev.takeTimers_dict (d : Dev) : d.takeTimers.dict = d.dict := by
  unfold Dev.takeTimers
  repeat' first | with_reducible rfl | split | simp [Dev.when, apply_ite Dev.still, apply_ite Dev.faults, apply_ite Dev.dict]

@[simp] theorem Dev.releaseTimers_still (d : Dev) : d.releaseTimers.still = d.still := by
  unfold Dev.releaseTimers
  repeat' first | with_reducible rfl | refine (Dev.chg'_still _ _ rfl).trans ?_ | split | simp [Dev.when, apply_ite Dev.still, apply_ite Dev.faults, apply_ite Dev.dict]

@[simp] theorem Dev.releaseTimers_src (d : Dev) : d.releaseTimers.faults.src = d.faults.src := by
  unfold Dev.releaseTimers
  repeat' first | with_reducible rfl | split | simp [Dev.when, apply_ite Dev.still, apply_ite Dev.faults, apply_ite Dev.dict]

@[simp] theorem Dev.releaseTimers_dict (d : Dev) : d.releaseTimers.dict = d.dict := by
  unfold Dev.releaseTimers
  repeat' first | with_reducible rfl | split | simp [Dev.when, apply_ite Dev.still, apply_ite Dev.faults, apply_ite Dev.dict]

@[simp] theorem Dev.setPhase_still (d : Dev) (t : Nat) (p : ChgPhase) : (d.setPhase t p).still = d.still := by
  unfold Dev.setPhase chargerTimers
  dsimp only
  split
  · simp only [Dev.timer'_still]
    refine Dev.chg'_still d _ ?_; rfl
  · refine Dev.chg'_still d _ ?_; rfl

@[simp] theorem Dev.setPhase_src (d : Dev) (t : Nat) (p : ChgPhase) : (d.setPhase t p).faults.src = d.faults.src := by
  unfold Dev.setPhase chargerTimers
  dsimp only
  split <;> rfl

@[simp] theorem Dev.setPhase_dict (d : Dev) (t : Nat) (p : ChgPhase) : (d.setPhase t p).dict = d.dict := by
  unfold Dev.setPhase chargerTimers
  dsimp only
  split <;> rfl

@[simp] theorem Dev.chgClear_still (d : Dev) (t r : Nat) : (d.chgClear t r).still = d.still := by
  unfold Dev.chgClear
  repeat' first | with_reducible rfl | refine (Dev.chg'_still _ _ rfl).trans ?_ | split | simp [Dev.when, apply_ite Dev.still, apply_ite Dev.faults, apply_ite Dev.dict]

@[simp] theorem Dev.chgClear_src (d : Dev) (t r : Nat) : (d.chgClear t r).faults.src = d.faults.src := by
  unfold Dev.chgClear
  repeat' first | with_reducible rfl | split | simp [Dev.when, apply_ite Dev.still, apply_ite Dev.faults, apply_ite Dev.dict]

@[simp] theorem Dev.chgClear_dict (d : Dev) (t r : Nat) : (d.chgClear t r).dict = d.dict := by
  unfold Dev.chgClear
  repeat' first | with_reducible rfl | split | simp [Dev.when, apply_ite Dev.still, apply_ite Dev.faults, apply_ite Dev.dict]

@[simp] theorem Dev.armWdh_still (d : Dev) : d.armWdh.still = d.still := by
  unfold Dev.armWdh
  repeat' first | with_reducible rfl | split | simp [Dev.when, apply_ite Dev.still, apply_ite Dev.faults, apply_ite Dev.dict]

@[simp] theorem Dev.armWdh_src (d : Dev) : d.armWdh.faults.src = d.faults.src := by
  unfold Dev.armWdh
  repeat' first | with_reducible rfl | split | simp [Dev.when, apply_ite Dev.still, apply_ite Dev.faults, apply_ite Dev.dict]

@[simp] theorem Dev.armWdh_dict (d : Dev) : d.armWdh.dict = d.dict := by
  unfold Dev.armWdh
  repeat' first | with_reducible rfl | split | simp [Dev.when, apply_ite Dev.still, apply_ite Dev.faults, apply_ite Dev.dict]

@[simp] theorem Dev.wdhCheck_still (d : Dev) : d.wdhCheck.still = d.still := by
  unfold Dev.wdhCheck
  repeat' first | with_reducible rfl | split | simp [Dev.when, apply_ite Dev.still, apply_ite Dev.faults, apply_ite Dev.dict]

@[simp] theorem Dev.wdhCheck_src (d : Dev) : d.wdhCheck.faults.src = d.faults.src := by
  unfold Dev.wdhCheck
  repeat' first | with_reducible rfl | split | simp [Dev.when, apply_ite Dev.still, apply_ite Dev.faults, apply_ite Dev.dict]

@[simp] theorem Dev.wdhCheck_dict (d : Dev) : d.wdhCheck.dict = d.dict := by
  unfold Dev.wdhCheck
  repeat' first | with_reducible rfl | split | simp [Dev.when, apply_ite Dev.still, apply_ite Dev.faults, apply_ite Dev.dict]

@[simp] theorem Dev.wdhActionDone_still (d : Dev) : d.wdhActionDone.still = d.still := by
  unfold Dev.wdhActionDone
  repeat' first | with_reducible rfl | split | simp [Dev.when, apply_ite Dev.still, apply_ite Dev.faults, apply_ite Dev.dict]

@[simp] theorem Dev.wdhActionDone_src (d : Dev) : d.wdhActionDone.faults.src = d.faults.src := by
  unfold Dev.wdhActionDone
  repeat' first | with_reducible rfl | split | simp [Dev.when, apply_ite Dev.still, apply_ite Dev.faults, apply_ite Dev.dict]

@[simp] theorem Dev.wdhActionDone_dict (d : Dev) : d.wdhActionDone.dict = d.dict := by
  unfold Dev.wdhActionDone
  repeat' first | with_reducible rfl | split | simp [Dev.when, apply_ite Dev.still, apply_ite Dev.faults, apply_ite Dev.dict]

@[simp] theorem Dev.wdhGroupCheck_still (d : Dev) : d.wdhGroupCheck.still = d.still := by
  unfold Dev.wdhGroupCheck
  repeat' first | with_reducible rfl | split | simp [Dev.when, apply_ite Dev.still, apply_ite Dev.faults, apply_ite Dev.dict]

@[simp] theorem Dev.wdhGroupCheck_src (d : Dev) : d.wdhGroupCheck.faults.src = d.faults.src := by
  unfold Dev.wdhGroupCheck
  repeat' first | with_reducible rfl | split | simp [Dev.when, apply_ite Dev.still, apply_ite Dev.faults, apply_ite Dev.dict]

@[simp] theorem Dev.wdhGroupCheck_dict (d : Dev) : d.wdhGroupCheck.dict = d.dict := by
  unfold Dev.wdhGroupCheck
  repeat' first | with_reducible rfl | split | simp [Dev.when, apply_ite Dev.still, apply_ite Dev.faults, apply_ite Dev.dict]

@[simp] theorem Dev.wdhOrderDone_still (d : Dev) : d.wdhOrderDone.still = d.still := by
  unfold Dev.wdhOrderDone
  repeat' first | with_reducible rfl | split | simp [Dev.when, apply_ite Dev.still, apply_ite Dev.faults, apply_ite Dev.dict]

@[simp] theorem Dev.wdhOrderDone_src (d : Dev) : d.wdhOrderDone.faults.src = d.faults.src := by
  unfold Dev.wdhOrderDone
  repeat' first | with_reducible rfl | split | simp [Dev.when, apply_ite Dev.still, apply_ite Dev.faults, apply_ite Dev.dict]

@[simp] theorem Dev.wdhOrderDone_dict (d : Dev) : d.wdhOrderDone.dict = d.dict := by
  unfold Dev.wdhOrderDone
  repeat' first | with_reducible rfl | split | simp [Dev.when, apply_ite Dev.still, apply_ite Dev.faults, apply_ite Dev.dict]

@[simp] theorem Dev.endTest_still (d : Dev) : d.endTest.still = d.still := by
  unfold Dev.endTest
  dsimp only
  split
  · rfl
  · split
    · rw [Dev.gauge'_still _ _ rfl]
      rw [Dev.conv'_still _ _ (by simp [Hkadc.still]), Dev.th'_still _ _ (by simp), Dev.test'_still _ _ rfl, Dev.power'_still _ _ rfl]
    · rw [Dev.conv'_still _ _ (by simp [Hkadc.still]), Dev.th'_still _ _ (by simp), Dev.test'_still _ _ rfl, Dev.power'_still _ _ rfl]

@[simp] theorem Dev.endTest_src (d : Dev) : d.endTest.faults.src = d.faults.src := by
  unfold Dev.endTest
  dsimp only
  split
  · rfl
  · split <;> rfl

@[simp] theorem Dev.endTest_dict (d : Dev) : d.endTest.dict = d.dict := by
  unfold Dev.endTest
  dsimp only
  split
  · rfl
  · split <;> rfl

theorem Dev.when_keeps {β : Type} (g : Dev → β) (d : Dev) (c : Bool) (f : Dev → Dev) (h : g (f d) = g d) : g (d.when c f) = g d := by
  unfold Dev.when; split
  · exact h
  · rfl

@[simp] theorem Dev.goState_still (d : Dev) (t : Nat) (p : PState) : (d.goState t p).still = d.still := by
  unfold Dev.goState
  dsimp only
  split
  · rw [Dev.chgClear_still, Dev.endTest_still, Dev.when_keeps Dev.still, Dev.when_keeps Dev.still] <;> rfl
  · rw [Dev.when_keeps Dev.still, Dev.when_keeps Dev.still] <;> rfl

@[simp] theorem Dev.goState_src (d : Dev) (t : Nat) (p : PState) : (d.goState t p).faults.src = d.faults.src := by
  have h (x : Dev) : ((x.when (decide (p = PState.standby)) fun d => (d.conv' Hkadc.halted).gauge' fun g => { g with meas := none })).faults.src =
      x.faults.src := Dev.when_keeps (fun d : Dev => d.faults.src) _ _ _ rfl
  unfold Dev.goState
  dsimp only
  split
  · rw [Dev.chgClear_src, Dev.endTest_src, h]; exact Dev.when_keeps (fun d : Dev => d.faults.src) _ _ _ rfl
  · rw [h]; exact Dev.when_keeps (fun d : Dev => d.faults.src) _ _ _ rfl

@[simp] theorem Dev.goState_dict (d : Dev) (t : Nat) (p : PState) : (d.goState t p).dict = d.dict := by
  unfold Dev.goState
  dsimp only
  split
  · rw [Dev.chgClear_dict, Dev.endTest_dict, Dev.when_keeps Dev.dict, Dev.when_keeps Dev.dict] <;> rfl
  · rw [Dev.when_keeps Dev.dict, Dev.when_keeps Dev.dict] <;> rfl

@[simp] theorem Dev.endNow_still (d : Dev) (i : Nat) (s : EntryState) (x : Nat) : (d.endNow i s x).still = d.still := by
  unfold Dev.endNow
  repeat' first | with_reducible rfl | refine (Dev.jour'_still _ _ rfl).trans ?_ | split | simp [Dev.when, apply_ite Dev.still, apply_ite Dev.faults, apply_ite Dev.dict]

@[simp] theorem Dev.endNow_src (d : Dev) (i : Nat) (s : EntryState) (x : Nat) : (d.endNow i s x).faults.src = d.faults.src := by
  unfold Dev.endNow
  repeat' first | with_reducible rfl | split | simp [Dev.when, apply_ite Dev.still, apply_ite Dev.faults, apply_ite Dev.dict]

@[simp] theorem Dev.endNow_dict (d : Dev) (i : Nat) (s : EntryState) (x : Nat) : (d.endNow i s x).dict = d.dict := by
  unfold Dev.endNow
  repeat' first | with_reducible rfl | split | simp [Dev.when, apply_ite Dev.still, apply_ite Dev.faults, apply_ite Dev.dict]

@[simp] theorem Dev.endEntry_still (d : Dev) (i : Nat) (s : EntryState) (x : Nat) : (d.endEntry i s x).still = d.still := by
  unfold Dev.endEntry
  repeat' first | with_reducible rfl | refine (Dev.jour'_still _ _ rfl).trans ?_ | split | simp [Dev.when, apply_ite Dev.still, apply_ite Dev.faults, apply_ite Dev.dict]

@[simp] theorem Dev.endEntry_src (d : Dev) (i : Nat) (s : EntryState) (x : Nat) : (d.endEntry i s x).faults.src = d.faults.src := by
  unfold Dev.endEntry
  repeat' first | with_reducible rfl | split | simp [Dev.when, apply_ite Dev.still, apply_ite Dev.faults, apply_ite Dev.dict]

@[simp] theorem Dev.endEntry_dict (d : Dev) (i : Nat) (s : EntryState) (x : Nat) : (d.endEntry i s x).dict = d.dict := by
  unfold Dev.endEntry
  repeat' first | with_reducible rfl | split | simp [Dev.when, apply_ite Dev.still, apply_ite Dev.faults, apply_ite Dev.dict]

@[simp] theorem Dev.endAction_still (d : Dev) (a : Nat) (s : EntryState) (x : Nat) : (d.endAction a s x).still = d.still := by
  exact foldl_keeps Dev.still _ (fun d a => by simp) _ d

@[simp] theorem Dev.endAction_src (d : Dev) (a : Nat) (s : EntryState) (x : Nat) : (d.endAction a s x).faults.src = d.faults.src := by
  exact foldl_keeps (fun d : Dev => d.faults.src) _ (fun d a => by simp) _ d

@[simp] theorem Dev.endAction_dict (d : Dev) (a : Nat) (s : EntryState) (x : Nat) : (d.endAction a s x).dict = d.dict := by
  exact foldl_keeps Dev.dict _ (fun d a => by simp) _ d

@[simp] theorem Dev.loseTargets_still (d : Dev) (b : Branch) : (d.loseTargets b).still = d.still := by
  unfold Dev.loseTargets
  repeat' first | with_reducible rfl | refine (Dev.jour'_still _ _ rfl).trans ?_ | split | simp [Dev.when, apply_ite Dev.still, apply_ite Dev.faults, apply_ite Dev.dict]

@[simp] theorem Dev.loseTargets_src (d : Dev) (b : Branch) : (d.loseTargets b).faults.src = d.faults.src := by
  unfold Dev.loseTargets
  repeat' first | with_reducible rfl | split | simp [Dev.when, apply_ite Dev.still, apply_ite Dev.faults, apply_ite Dev.dict]

@[simp] theorem Dev.loseTargets_dict (d : Dev) (b : Branch) : (d.loseTargets b).dict = d.dict := by
  unfold Dev.loseTargets
  repeat' first | with_reducible rfl | split | simp [Dev.when, apply_ite Dev.still, apply_ite Dev.faults, apply_ite Dev.dict]

@[simp] theorem Dev.closeTxn_still (d : Dev) : d.closeTxn.still = d.still := by
  unfold Dev.closeTxn
  repeat' first | with_reducible rfl | refine (Dev.casc'_still _ _ rfl).trans ?_ | split | simp [Dev.when, apply_ite Dev.still, apply_ite Dev.faults, apply_ite Dev.dict]

@[simp] theorem Dev.closeTxn_src (d : Dev) : d.closeTxn.faults.src = d.faults.src := by
  unfold Dev.closeTxn
  repeat' first | with_reducible rfl | split | simp [Dev.when, apply_ite Dev.still, apply_ite Dev.faults, apply_ite Dev.dict]

@[simp] theorem Dev.closeTxn_dict (d : Dev) : d.closeTxn.dict = d.dict := by
  unfold Dev.closeTxn
  repeat' first | with_reducible rfl | split | simp [Dev.when, apply_ite Dev.still, apply_ite Dev.faults, apply_ite Dev.dict]

@[simp] theorem Dev.payEnds_still (d : Dev) : d.payEnds.still = d.still := by
  unfold Dev.payEnds
  split
  · rfl
  · refine foldl_keeps Dev.still _ (fun d a => ?_) _ _
    repeat' split
    all_goals simp

@[simp] theorem Dev.payEnds_src (d : Dev) : d.payEnds.faults.src = d.faults.src := by
  unfold Dev.payEnds
  split
  · rfl
  · refine foldl_keeps (fun d : Dev => d.faults.src) _ (fun d a => ?_) _ _
    repeat' split
    all_goals simp

@[simp] theorem Dev.payEnds_dict (d : Dev) : d.payEnds.dict = d.dict := by
  unfold Dev.payEnds
  split
  · rfl
  · refine foldl_keeps Dev.dict _ (fun d a => ?_) _ _
    repeat' split
    all_goals simp

@[simp] theorem Dev.settle_still (d : Dev) : d.settle.still = d.still := by
  unfold Dev.settle
  rw [Dev.closeTxn_still]
  refine (foldl_keeps Dev.still _ (fun d a => by split <;> simp) _ _).trans ?_
  rw [Dev.jour'_still _ _ rfl, Dev.payEnds_still]

@[simp] theorem Dev.settle_src (d : Dev) : d.settle.faults.src = d.faults.src := by
  unfold Dev.settle
  rw [Dev.closeTxn_src]
  refine (foldl_keeps (fun d : Dev => d.faults.src) _ (fun d a => by split <;> simp) _ _).trans ?_
  simp

@[simp] theorem Dev.settle_dict (d : Dev) : d.settle.dict = d.dict := by
  unfold Dev.settle
  rw [Dev.closeTxn_dict]
  refine (foldl_keeps Dev.dict _ (fun d a => by split <;> simp) _ _).trans ?_
  simp

@[simp] theorem Dev.firstFail_still (d : Dev) (t : Nat) (f : Failure) : (d.firstFail t f).still = d.still := by
  unfold Dev.firstFail
  repeat' first | with_reducible rfl | split | simp [Dev.when, apply_ite Dev.still, apply_ite Dev.faults, apply_ite Dev.dict]

@[simp] theorem Dev.firstFail_src (d : Dev) (t : Nat) (f : Failure) : (d.firstFail t f).faults.src = d.faults.src := by
  unfold Dev.firstFail
  repeat' first | with_reducible rfl | split | simp [Dev.when, apply_ite Dev.still, apply_ite Dev.faults, apply_ite Dev.dict]

@[simp] theorem Dev.firstFail_dict (d : Dev) (t : Nat) (f : Failure) : (d.firstFail t f).dict = d.dict := by
  unfold Dev.firstFail
  repeat' first | with_reducible rfl | split | simp [Dev.when, apply_ite Dev.still, apply_ite Dev.faults, apply_ite Dev.dict]

@[simp] theorem Dev.abortTxn_still (d : Dev) (x : Nat) : (d.abortTxn x).still = d.still := by
  unfold Dev.abortTxn
  repeat' first | with_reducible rfl | refine (Dev.casc'_still _ _ rfl).trans ?_ | split | simp [Dev.when, apply_ite Dev.still, apply_ite Dev.faults, apply_ite Dev.dict]

@[simp] theorem Dev.abortTxn_src (d : Dev) (x : Nat) : (d.abortTxn x).faults.src = d.faults.src := by
  unfold Dev.abortTxn
  repeat' first | with_reducible rfl | split | simp [Dev.when, apply_ite Dev.still, apply_ite Dev.faults, apply_ite Dev.dict]

@[simp] theorem Dev.abortTxn_dict (d : Dev) (x : Nat) : (d.abortTxn x).dict = d.dict := by
  unfold Dev.abortTxn
  repeat' first | with_reducible rfl | split | simp [Dev.when, apply_ite Dev.still, apply_ite Dev.faults, apply_ite Dev.dict]

@[simp] theorem Dev.issueOrder_still (d : Dev) (o : Nat) : (d.issueOrder o).still = d.still := by
  unfold Dev.issueOrder
  repeat' first | with_reducible rfl | refine (Dev.casc'_still _ _ rfl).trans ?_ | split | simp [Dev.when, apply_ite Dev.still, apply_ite Dev.faults, apply_ite Dev.dict]

@[simp] theorem Dev.issueOrder_src (d : Dev) (o : Nat) : (d.issueOrder o).faults.src = d.faults.src := by
  unfold Dev.issueOrder
  repeat' first | with_reducible rfl | split | simp [Dev.when, apply_ite Dev.still, apply_ite Dev.faults, apply_ite Dev.dict]

@[simp] theorem Dev.issueOrder_dict (d : Dev) (o : Nat) : (d.issueOrder o).dict = d.dict := by
  unfold Dev.issueOrder
  repeat' first | with_reducible rfl | split | simp [Dev.when, apply_ite Dev.still, apply_ite Dev.faults, apply_ite Dev.dict]

@[simp] theorem Dev.onCheck_still (d : Dev) (t : Nat) : (d.onCheck t).still = d.still := by
  unfold Dev.onCheck
  repeat' first | with_reducible rfl | split | simp [Dev.when, apply_ite Dev.still, apply_ite Dev.faults, apply_ite Dev.dict]

@[simp] theorem Dev.onCheck_src (d : Dev) (t : Nat) : (d.onCheck t).faults.src = d.faults.src := by
  unfold Dev.onCheck
  repeat' first | with_reducible rfl | split | simp [Dev.when, apply_ite Dev.still, apply_ite Dev.faults, apply_ite Dev.dict]

@[simp] theorem Dev.onCheck_dict (d : Dev) (t : Nat) : (d.onCheck t).dict = d.dict := by
  unfold Dev.onCheck
  repeat' first | with_reducible rfl | split | simp [Dev.when, apply_ite Dev.still, apply_ite Dev.faults, apply_ite Dev.dict]

@[simp] theorem Dev.seqBegin_still (d : Dev) (t : Nat) (x : SeqState) : (d.seqBegin t x).still = d.still := rfl
@[simp] theorem Dev.seqBegin_src (d : Dev) (t : Nat) (x : SeqState) : (d.seqBegin t x).faults.src = d.faults.src := rfl
@[simp] theorem Dev.seqBegin_dict (d : Dev) (t : Nat) (x : SeqState) : (d.seqBegin t x).dict = d.dict := rfl

@[simp] theorem Dev.commonStart_still (d : Dev) (t m : Nat) (s : SeqState) : (d.commonStart t m s).still = d.still := by
  unfold Dev.commonStart
  repeat' first | with_reducible rfl | split | simp [Dev.when, apply_ite Dev.still, apply_ite Dev.faults, apply_ite Dev.dict]

@[simp] theorem Dev.commonStart_src (d : Dev) (t m : Nat) (s : SeqState) : (d.commonStart t m s).faults.src = d.faults.src := by
  unfold Dev.commonStart
  repeat' first | with_reducible rfl | split | simp [Dev.when, apply_ite Dev.still, apply_ite Dev.faults, apply_ite Dev.dict]

@[simp] theorem Dev.commonStart_dict (d : Dev) (t m : Nat) (s : SeqState) : (d.commonStart t m s).dict = d.dict := by
  unfold Dev.commonStart
  repeat' first | with_reducible rfl | split | simp [Dev.when, apply_ite Dev.still, apply_ite Dev.faults, apply_ite Dev.dict]

@[simp] theorem Dev.startFull_still (d : Dev) (t : Nat) : (d.startFull t).still = d.still := by
  unfold Dev.startFull
  repeat' first | with_reducible rfl | split | simp [Dev.when, apply_ite Dev.still, apply_ite Dev.faults, apply_ite Dev.dict]

@[simp] theorem Dev.startFull_src (d : Dev) (t : Nat) : (d.startFull t).faults.src = d.faults.src := by
  unfold Dev.startFull
  repeat' first | with_reducible rfl | split | simp [Dev.when, apply_ite Dev.still, apply_ite Dev.faults, apply_ite Dev.dict]

@[simp] theorem Dev.startFull_dict (d : Dev) (t : Nat) : (d.startFull t).dict = d.dict := by
  unfold Dev.startFull
  repeat' first | with_reducible rfl | split | simp [Dev.when, apply_ite Dev.still, apply_ite Dev.faults, apply_ite Dev.dict]

@[simp] theorem Dev.newRun_still (d : Dev) (t : Nat) : (d.newRun t).still = d.still := by
  unfold Dev.newRun
  repeat' first | with_reducible rfl | split | simp [Dev.when, apply_ite Dev.still, apply_ite Dev.faults, apply_ite Dev.dict]

@[simp] theorem Dev.newRun_src (d : Dev) (t : Nat) : (d.newRun t).faults.src = d.faults.src := by
  unfold Dev.newRun
  repeat' first | with_reducible rfl | split | simp [Dev.when, apply_ite Dev.still, apply_ite Dev.faults, apply_ite Dev.dict]

@[simp] theorem Dev.newRun_dict (d : Dev) (t : Nat) : (d.newRun t).dict = d.dict := by
  unfold Dev.newRun
  repeat' first | with_reducible rfl | split | simp [Dev.when, apply_ite Dev.still, apply_ite Dev.faults, apply_ite Dev.dict]

@[simp] theorem Dev.safeCheck_still (d : Dev) (t : Nat) : (d.safeCheck t).still = d.still := by
  have h (x : Dev) : Dev.still (if x.seq.resumeDue then ((x.seq' fun s => { s with resumeDue := false }).goState t .run).newRun t else x) = Dev.still x := by
    split <;> simp
  unfold Dev.safeCheck
  split
  · refine (h _).trans ?_
    split <;> simp
  · rfl

@[simp] theorem Dev.safeCheck_src (d : Dev) (t : Nat) : (d.safeCheck t).faults.src = d.faults.src := by
  have h (x : Dev) : (fun d : Dev => d.faults.src) (if x.seq.resumeDue then ((x.seq' fun s => { s with resumeDue := false }).goState t .run).newRun t else x) = (fun d : Dev => d.faults.src) x := by
    split <;> simp
  unfold Dev.safeCheck
  split
  · refine (h _).trans ?_
    split <;> simp
  · rfl

@[simp] theorem Dev.safeCheck_dict (d : Dev) (t : Nat) : (d.safeCheck t).dict = d.dict := by
  have h (x : Dev) : Dev.dict (if x.seq.resumeDue then ((x.seq' fun s => { s with resumeDue := false }).goState t .run).newRun t else x) = Dev.dict x := by
    split <;> simp
  unfold Dev.safeCheck
  split
  · refine (h _).trans ?_
    split <;> simp
  · rfl

@[simp] theorem Dev.enterSafeOn_still (d : Dev) (t : Nat) : (d.enterSafeOn t).still = d.still := by
  unfold Dev.enterSafeOn
  repeat' first | with_reducible rfl | split | simp [Dev.when, apply_ite Dev.still, apply_ite Dev.faults, apply_ite Dev.dict]

@[simp] theorem Dev.enterSafeOn_src (d : Dev) (t : Nat) : (d.enterSafeOn t).faults.src = d.faults.src := by
  unfold Dev.enterSafeOn
  repeat' first | with_reducible rfl | split | simp [Dev.when, apply_ite Dev.still, apply_ite Dev.faults, apply_ite Dev.dict]

@[simp] theorem Dev.enterSafeOn_dict (d : Dev) (t : Nat) : (d.enterSafeOn t).dict = d.dict := by
  unfold Dev.enterSafeOn
  repeat' first | with_reducible rfl | split | simp [Dev.when, apply_ite Dev.still, apply_ite Dev.faults, apply_ite Dev.dict]

@[simp] theorem Dev.wakeRun_still (d : Dev) (t : Nat) : (d.wakeRun t).still = d.still := by
  unfold Dev.wakeRun
  repeat' first | with_reducible rfl | refine (Dev.casc'_still _ _ rfl).trans ?_ | split | simp [Dev.when, apply_ite Dev.still, apply_ite Dev.faults, apply_ite Dev.dict]

@[simp] theorem Dev.wakeRun_src (d : Dev) (t : Nat) : (d.wakeRun t).faults.src = d.faults.src := by
  unfold Dev.wakeRun
  repeat' first | with_reducible rfl | split | simp [Dev.when, apply_ite Dev.still, apply_ite Dev.faults, apply_ite Dev.dict]

@[simp] theorem Dev.wakeRun_dict (d : Dev) (t : Nat) : (d.wakeRun t).dict = d.dict := by
  unfold Dev.wakeRun
  repeat' first | with_reducible rfl | split | simp [Dev.when, apply_ite Dev.still, apply_ite Dev.faults, apply_ite Dev.dict]

@[simp] theorem Dev.wake_still (d : Dev) (t s : Nat) : (d.wake t s).still = d.still := by
  unfold Dev.wake
  repeat' first | with_reducible rfl | refine (Dev.power'_still _ _ rfl).trans ?_ | refine (Dev.clk'_still _ _ rfl).trans ?_ | split | simp [Dev.when, apply_ite Dev.still, apply_ite Dev.faults, apply_ite Dev.dict]

@[simp] theorem Dev.wake_src (d : Dev) (t s : Nat) : (d.wake t s).faults.src = d.faults.src := by
  unfold Dev.wake
  repeat' first | with_reducible rfl | split | simp [Dev.when, apply_ite Dev.still, apply_ite Dev.faults, apply_ite Dev.dict]

@[simp] theorem Dev.wake_dict (d : Dev) (t s : Nat) : (d.wake t s).dict = d.dict := by
  unfold Dev.wake
  repeat' first | with_reducible rfl | split | simp [Dev.when, apply_ite Dev.still, apply_ite Dev.faults, apply_ite Dev.dict]

@[simp] theorem Dev.endShipEntry_still (d : Dev) : d.endShipEntry.still = d.still := by
  unfold Dev.endShipEntry
  split
  · rw [Dev.path'_still _ _ rfl]; simp
  · rfl

@[simp] theorem Dev.endShipEntry_src (d : Dev) : d.endShipEntry.faults.src = d.faults.src := by
  unfold Dev.endShipEntry
  split
  · simp
  · rfl

@[simp] theorem Dev.endShipEntry_dict (d : Dev) : d.endShipEntry.dict = d.dict := by
  unfold Dev.endShipEntry
  split
  · simp
  · rfl

@[simp] theorem Dev.offDone_still (d : Dev) (t : Nat) : (d.offDone t).still = d.still := by
  have h (x : Dev) : Dev.still (if x.seq.wakeDue then (x.seq' fun s => { s with wakeDue := false }).wake t x.power.wakeSource else x) = Dev.still x := by
    split <;> simp
  have h' (x : Dev) : Dev.still (if x.power.state = .safe then x.goState t .run else x) = Dev.still x := by
    split <;> simp
  unfold Dev.offDone
  split
  · simp
  · simp
  · refine (h _).trans ?_
    rw [Dev.clk'_still _ _ rfl]; simp
  · rw [Dev.path'_still _ _ rfl]; simp
  · dsimp only
    rw [Dev.newRun_still]
    exact (h' _).trans (by simp)
  · simp
  · simp

@[simp] theorem Dev.offDone_src (d : Dev) (t : Nat) : (d.offDone t).faults.src = d.faults.src := by
  have h (x : Dev) : (fun d : Dev => d.faults.src) (if x.seq.wakeDue then (x.seq' fun s => { s with wakeDue := false }).wake t x.power.wakeSource else x) = (fun d : Dev => d.faults.src) x := by
    split <;> simp
  have h' (x : Dev) : (fun d : Dev => d.faults.src) (if x.power.state = .safe then x.goState t .run else x) = (fun d : Dev => d.faults.src) x := by
    split <;> simp
  unfold Dev.offDone
  split
  · simp
  · simp
  · refine (h _).trans ?_
    simp
  · simp
  · dsimp only
    rw [Dev.newRun_src]
    exact (h' _).trans (by simp)
  · simp
  · simp

@[simp] theorem Dev.offDone_dict (d : Dev) (t : Nat) : (d.offDone t).dict = d.dict := by
  have h (x : Dev) : Dev.dict (if x.seq.wakeDue then (x.seq' fun s => { s with wakeDue := false }).wake t x.power.wakeSource else x) = Dev.dict x := by
    split <;> simp
  have h' (x : Dev) : Dev.dict (if x.power.state = .safe then x.goState t .run else x) = Dev.dict x := by
    split <;> simp
  unfold Dev.offDone
  split
  · simp
  · simp
  · refine (h _).trans ?_
    simp
  · simp
  · dsimp only
    rw [Dev.newRun_dict]
    exact (h' _).trans (by simp)
  · simp
  · simp

@[simp] theorem Dev.offCheck_still (d : Dev) (t : Nat) : (d.offCheck t).still = d.still := by
  unfold Dev.offCheck
  repeat' first | with_reducible rfl | split | simp [Dev.when, apply_ite Dev.still, apply_ite Dev.faults, apply_ite Dev.dict]

@[simp] theorem Dev.offCheck_src (d : Dev) (t : Nat) : (d.offCheck t).faults.src = d.faults.src := by
  unfold Dev.offCheck
  repeat' first | with_reducible rfl | split | simp [Dev.when, apply_ite Dev.still, apply_ite Dev.faults, apply_ite Dev.dict]

@[simp] theorem Dev.offCheck_dict (d : Dev) (t : Nat) : (d.offCheck t).dict = d.dict := by
  unfold Dev.offCheck
  repeat' first | with_reducible rfl | split | simp [Dev.when, apply_ite Dev.still, apply_ite Dev.faults, apply_ite Dev.dict]

@[simp] theorem Dev.beginOff_still (d : Dev) (t m : Nat) (s : SeqState) (a : AfterOff) : (d.beginOff t m s a).still = d.still := by
  unfold Dev.beginOff
  repeat' first | with_reducible rfl | split | simp [Dev.when, apply_ite Dev.still, apply_ite Dev.faults, apply_ite Dev.dict]

@[simp] theorem Dev.beginOff_src (d : Dev) (t m : Nat) (s : SeqState) (a : AfterOff) : (d.beginOff t m s a).faults.src = d.faults.src := by
  unfold Dev.beginOff
  repeat' first | with_reducible rfl | split | simp [Dev.when, apply_ite Dev.still, apply_ite Dev.faults, apply_ite Dev.dict]

@[simp] theorem Dev.beginOff_dict (d : Dev) (t m : Nat) (s : SeqState) (a : AfterOff) : (d.beginOff t m s a).dict = d.dict := by
  unfold Dev.beginOff
  repeat' first | with_reducible rfl | split | simp [Dev.when, apply_ite Dev.still, apply_ite Dev.faults, apply_ite Dev.dict]

@[simp] theorem Dev.groupCheck_still (d : Dev) (t : Nat) : (d.groupCheck t).still = d.still := by
  unfold Dev.groupCheck
  repeat' first | with_reducible rfl | split | simp [Dev.when, apply_ite Dev.still, apply_ite Dev.faults, apply_ite Dev.dict]

@[simp] theorem Dev.groupCheck_src (d : Dev) (t : Nat) : (d.groupCheck t).faults.src = d.faults.src := by
  unfold Dev.groupCheck
  repeat' first | with_reducible rfl | split | simp [Dev.when, apply_ite Dev.still, apply_ite Dev.faults, apply_ite Dev.dict]

@[simp] theorem Dev.groupCheck_dict (d : Dev) (t : Nat) : (d.groupCheck t).dict = d.dict := by
  unfold Dev.groupCheck
  repeat' first | with_reducible rfl | split | simp [Dev.when, apply_ite Dev.still, apply_ite Dev.faults, apply_ite Dev.dict]

@[simp] theorem Dev.startShip_still (d : Dev) (t : Nat) : (d.startShip t).still = d.still := by
  unfold Dev.startShip
  split
  · rfl
  · rw [Dev.beginOff_still, Dev.path'_still _ _ rfl, Dev.life'_still _ _ rfl, Dev.gauge'_still _ _ rfl, Dev.seq'_still,
      Dev.endAction_still, Dev.endAction_still]

@[simp] theorem Dev.startShip_src (d : Dev) (t : Nat) : (d.startShip t).faults.src = d.faults.src := by
  unfold Dev.startShip
  repeat' first | with_reducible rfl | split | simp [Dev.when, apply_ite Dev.still, apply_ite Dev.faults, apply_ite Dev.dict]

@[simp] theorem Dev.startShip_dict (d : Dev) (t : Nat) : (d.startShip t).dict = d.dict := by
  unfold Dev.startShip
  repeat' first | with_reducible rfl | split | simp [Dev.when, apply_ite Dev.still, apply_ite Dev.faults, apply_ite Dev.dict]

@[simp] theorem Dev.shipCheck_still (d : Dev) (t : Nat) : (d.shipCheck t).still = d.still := by
  unfold Dev.shipCheck
  repeat' first | with_reducible rfl | split | simp [Dev.when, apply_ite Dev.still, apply_ite Dev.faults, apply_ite Dev.dict]

@[simp] theorem Dev.shipCheck_src (d : Dev) (t : Nat) : (d.shipCheck t).faults.src = d.faults.src := by
  unfold Dev.shipCheck
  repeat' first | with_reducible rfl | split | simp [Dev.when, apply_ite Dev.still, apply_ite Dev.faults, apply_ite Dev.dict]

@[simp] theorem Dev.shipCheck_dict (d : Dev) (t : Nat) : (d.shipCheck t).dict = d.dict := by
  unfold Dev.shipCheck
  repeat' first | with_reducible rfl | split | simp [Dev.when, apply_ite Dev.still, apply_ite Dev.faults, apply_ite Dev.dict]

@[simp] theorem Dev.seqCheck_still (d : Dev) (t : Nat) : (d.seqCheck t).still = d.still := by
  unfold Dev.seqCheck
  repeat' first | with_reducible rfl | split | simp [Dev.when, apply_ite Dev.still, apply_ite Dev.faults, apply_ite Dev.dict]

@[simp] theorem Dev.seqCheck_src (d : Dev) (t : Nat) : (d.seqCheck t).faults.src = d.faults.src := by
  unfold Dev.seqCheck
  repeat' first | with_reducible rfl | split | simp [Dev.when, apply_ite Dev.still, apply_ite Dev.faults, apply_ite Dev.dict]

@[simp] theorem Dev.seqCheck_dict (d : Dev) (t : Nat) : (d.seqCheck t).dict = d.dict := by
  unfold Dev.seqCheck
  repeat' first | with_reducible rfl | split | simp [Dev.when, apply_ite Dev.still, apply_ite Dev.faults, apply_ite Dev.dict]

@[simp] theorem Dev.abandonActions_still (d : Dev) : d.abandonActions.still = d.still := by
  unfold Dev.abandonActions
  rw [Dev.seq'_still, Dev.path'_still]
  · simp
  · exact Path.still_ship _ _

@[simp] theorem Dev.abandonActions_src (d : Dev) : d.abandonActions.faults.src = d.faults.src := by
  unfold Dev.abandonActions
  repeat' first | with_reducible rfl | split | simp [Dev.when, apply_ite Dev.still, apply_ite Dev.faults, apply_ite Dev.dict]

@[simp] theorem Dev.abandonActions_dict (d : Dev) : d.abandonActions.dict = d.dict := by
  unfold Dev.abandonActions
  repeat' first | with_reducible rfl | split | simp [Dev.when, apply_ite Dev.still, apply_ite Dev.faults, apply_ite Dev.dict]

@[simp] theorem Dev.abandonEntries_still (d : Dev) : d.abandonEntries.still = d.still := by
  unfold Dev.abandonEntries
  repeat' first | with_reducible rfl | split | simp [Dev.when, apply_ite Dev.still, apply_ite Dev.faults, apply_ite Dev.dict]

@[simp] theorem Dev.abandonEntries_src (d : Dev) : d.abandonEntries.faults.src = d.faults.src := by
  unfold Dev.abandonEntries
  repeat' first | with_reducible rfl | split | simp [Dev.when, apply_ite Dev.still, apply_ite Dev.faults, apply_ite Dev.dict]

@[simp] theorem Dev.abandonEntries_dict (d : Dev) : d.abandonEntries.dict = d.dict := by
  unfold Dev.abandonEntries
  repeat' first | with_reducible rfl | split | simp [Dev.when, apply_ite Dev.still, apply_ite Dev.faults, apply_ite Dev.dict]

@[simp] theorem Dev.safeReaction_still (d : Dev) (t : Nat) (f : Failure) : (d.safeReaction t f).still = d.still := by
  unfold Dev.safeReaction
  split
  · rfl
  split
  · rw [Dev.seq'_still, Dev.casc'_still _ _ rfl]
  · split <;> simp

@[simp] theorem Dev.safeReaction_src (d : Dev) (t : Nat) (f : Failure) : (d.safeReaction t f).faults.src = d.faults.src := by
  unfold Dev.safeReaction
  split
  · rfl
  split
  · simp
  · split <;> simp

@[simp] theorem Dev.safeReaction_dict (d : Dev) (t : Nat) (f : Failure) : (d.safeReaction t f).dict = d.dict := by
  unfold Dev.safeReaction
  split
  · rfl
  split
  · simp
  · split <;> simp

@[simp] theorem Dev.startStandby_still (d : Dev) (t : Nat) : (d.startStandby t).still = d.still := by
  unfold Dev.startStandby
  repeat' first | with_reducible rfl | split | simp [Dev.when, apply_ite Dev.still, apply_ite Dev.faults, apply_ite Dev.dict]

@[simp] theorem Dev.startStandby_src (d : Dev) (t : Nat) : (d.startStandby t).faults.src = d.faults.src := by
  unfold Dev.startStandby
  repeat' first | with_reducible rfl | split | simp [Dev.when, apply_ite Dev.still, apply_ite Dev.faults, apply_ite Dev.dict]

@[simp] theorem Dev.startStandby_dict (d : Dev) (t : Nat) : (d.startStandby t).dict = d.dict := by
  unfold Dev.startStandby
  repeat' first | with_reducible rfl | split | simp [Dev.when, apply_ite Dev.still, apply_ite Dev.faults, apply_ite Dev.dict]

@[simp] theorem Dev.broadcast_still (d : Dev) : d.broadcast.still = d.still := by
  unfold Dev.broadcast
  repeat' first | with_reducible rfl | refine (Dev.casc'_still _ _ rfl).trans ?_ | split | simp [Dev.when, apply_ite Dev.still, apply_ite Dev.faults, apply_ite Dev.dict]

@[simp] theorem Dev.broadcast_src (d : Dev) : d.broadcast.faults.src = d.faults.src := by
  unfold Dev.broadcast
  repeat' first | with_reducible rfl | split | simp [Dev.when, apply_ite Dev.still, apply_ite Dev.faults, apply_ite Dev.dict]

@[simp] theorem Dev.broadcast_dict (d : Dev) : d.broadcast.dict = d.dict := by
  unfold Dev.broadcast
  repeat' first | with_reducible rfl | split | simp [Dev.when, apply_ite Dev.still, apply_ite Dev.faults, apply_ite Dev.dict]

/-! ## Escalation and raising -/

@[simp] theorem Dev.loseCharger_still (d : Dev) : d.loseCharger.still = d.still := Dev.jour'_still d _ rfl
@[simp] theorem Dev.loseCharger_faults (d : Dev) : d.loseCharger.faults = d.faults := rfl
@[simp] theorem Dev.loseCharger_dict (d : Dev) : d.loseCharger.dict = d.dict := rfl

@[simp] theorem Dev.loseBranches_still (d : Dev) (m : Nat) : (d.loseBranches m).still = d.still := by
  unfold Dev.loseBranches
  exact foldl_keeps Dev.still _ (fun d a => by simp) _ _
@[simp] theorem Dev.loseBranches_src (d : Dev) (m : Nat) : (d.loseBranches m).faults.src = d.faults.src := by
  unfold Dev.loseBranches
  exact foldl_keeps (fun d : Dev => d.faults.src) _ (fun d a => by simp) _ _

@[simp] theorem Dev.chgDisable_still (d : Dev) (t r : Nat) : (d.chgDisable t r).still = d.still := by
  unfold Dev.chgDisable
  split
  · rfl
  · refine (Dev.chg'_still _ _ rfl).trans ?_
    simp
@[simp] theorem Dev.chgDisable_src (d : Dev) (t r : Nat) : (d.chgDisable t r).faults.src = d.faults.src := by
  unfold Dev.chgDisable
  split
  · rfl
  · simp

@[simp] theorem Dev.disableCharger_still (d : Dev) (t : Nat) : (d.disableCharger t).still = d.still := by
  unfold Dev.disableCharger
  simp

@[simp] theorem Dev.disableCharger_src (d : Dev) (t : Nat) : (d.disableCharger t).faults.src = d.faults.src := by
  unfold Dev.disableCharger
  simp

@[simp] theorem Dev.escalateEffect_still (d : Dev) (t n c : Nat) : (d.escalateEffect t n c).still = d.still := by
  unfold Dev.escalateEffect
  dsimp only
  repeat' split
  all_goals first | rfl | simp

@[simp] theorem Dev.logEscalation_still (d : Dev) (t n c : Nat) : (d.logEscalation t n c).still = d.still := by
  unfold Dev.logEscalation; simp
@[simp] theorem Dev.logEscalation_src (d : Dev) (t n c : Nat) : (d.logEscalation t n c).faults.src = d.faults.src := by
  unfold Dev.logEscalation; simp

@[simp] theorem Dev.escalate_still (d : Dev) (t n : Nat) : (d.escalate t n).still = d.still := by
  unfold Dev.escalate
  dsimp only
  split <;> simp

@[simp] theorem Dev.faultWake_still (d : Dev) (t n : Nat) : (d.faultWake t n).still = d.still :=
  Dev.when_keeps Dev.still _ _ _ (Dev.wake_still _ _ _)
@[simp] theorem Dev.faultWake_src (d : Dev) (t n : Nat) : (d.faultWake t n).faults.src = d.faults.src :=
  Dev.when_keeps (fun d : Dev => d.faults.src) _ _ _ (Dev.wake_src _ _ _)

@[simp] theorem Dev.raiseAs_still (d : Dev) (t n r : Nat) (b : Bool) : (d.raiseAs t n r b).still = d.still := by
  unfold Dev.raiseAs
  dsimp only
  repeat' split
  all_goals simp

@[simp] theorem Dev.raise_still (d : Dev) (t n r : Nat) : (d.raise t n r).still = d.still := Dev.raiseAs_still d t n r false

@[simp] theorem Dev.transient_still (d : Dev) (t n r : Nat) : (d.transient t n r).still = d.still := by
  unfold Dev.transient Dev.when
  dsimp only
  repeat' split
  all_goals simp

@[simp] theorem Dev.awaitRetry_still (d : Dev) (n : Nat) : (d.awaitRetry n).still = d.still := Dev.src'_still d n _

@[simp] theorem Dev.markFailed_still (d : Dev) (o : Option Branch) : (d.markFailed o).still = d.still := by
  unfold Dev.markFailed; split <;> simp

@[simp] theorem Dev.failedOnOrder_still (d : Dev) (t : Nat) (f : Failure) : (d.failedOnOrder t f).still = d.still := by
  unfold Dev.failedOnOrder
  dsimp only
  split <;> simp

@[simp] theorem Dev.failedOnSlave_still (d : Dev) (b r : Nat) : (d.failedOnSlave b r).still = d.still := by
  unfold Dev.failedOnSlave
  refine (Dev.casc'_still _ _ rfl).trans ?_
  simp

@[simp] theorem Dev.failedGroup_still (d : Dev) (t : Nat) : (d.failedGroup t).still = d.still := by
  unfold Dev.failedGroup
  simp

@[simp] theorem Dev.failedStartAs_still (d : Dev) (t : Nat) (f : Failure) : (d.failedStartAs t f).still = d.still := by
  unfold Dev.failedStartAs
  dsimp only
  split
  · repeat' split
    all_goals simp
  · simp
  · rw [Dev.safeCheck_still]
    split <;> simp
  · simp

@[simp] theorem Dev.failedStart_still (d : Dev) (t b u r : Nat) : (d.failedStart t b u r).still = d.still :=
  d.failedStartAs_still t _

@[simp] theorem Dev.markFailed_src (d : Dev) (o : Option Branch) : (d.markFailed o).faults.src = d.faults.src := by
  unfold Dev.markFailed; split <;> simp

@[simp] theorem Dev.failedOnOrder_src (d : Dev) (t : Nat) (f : Failure) : (d.failedOnOrder t f).faults.src = d.faults.src := by
  unfold Dev.failedOnOrder
  dsimp only
  split <;> simp

@[simp] theorem Dev.failedOnSlave_src (d : Dev) (b r : Nat) : (d.failedOnSlave b r).faults.src = d.faults.src := by
  unfold Dev.failedOnSlave; simp

@[simp] theorem Dev.failedGroup_src (d : Dev) (t : Nat) : (d.failedGroup t).faults.src = d.faults.src := by
  unfold Dev.failedGroup
  simp

@[simp] theorem Dev.tripped_still (d : Dev) (t : Nat) (b : Branch) (r : Nat) (c : Bool) : (d.tripped t b r c).still = d.still := by
  unfold Dev.tripped
  dsimp only
  split <;> simp

/-! ## The fault sources -/

theorem Dev.srcState_of_src {d d' : Dev} (h : d'.faults.src = d.faults.src) (n : Nat) : d'.srcState n = d.srcState n := by
  unfold Dev.srcState; rw [h]

theorem Dev.sticky_of_src {d d' : Dev} (h : d'.faults.src = d.faults.src) (n : Nat) : d'.sticky n = d.sticky n := by
  unfold Dev.sticky; rw [Dev.srcState_of_src h]

theorem Dev.src'_srcState (d : Dev) (n : Nat) (f : FaultSrc → FaultSrc) (h : n < 128) :
    (d.src' n f).srcState n = (f d.faults.src[n]).state := by
  simp only [Dev.src', Dev.srcState, h, dif_pos, Dev.faults'_faults]
  exact congrArg FaultSrc.state (upd_val d.faults.src ⟨n, h⟩ f)

theorem Dev.src'_srcState_ne (d : Dev) (n m : Nat) (f : FaultSrc → FaultSrc) (h : m ≠ n) :
    (d.src' n f).srcState m = d.srcState m := by
  unfold Dev.src'
  split
  · unfold Dev.srcState
    split
    · simp only [Dev.faults'_faults, upd]
      rw [Vector.getElem_set_ne]
      exact fun e => h e.symm
    · rfl
  · rfl

theorem Dev.emcy_src (d : Dev) (e : Emcy) : (d.emcy e).faults.src = d.faults.src := rfl

/-- A lasting event changes the state of its own source alone. -/
theorem Dev.record_src (d : Dev) (t n r : Nat) (b : Bool) : (d.record t n r b).faults.src =
    (d.src' n fun s => { s with state := d.raisedState n b, reason := r, count := satInc 16 s.count, retrying := false }).faults.src := by
  unfold Dev.record Dev.when
  dsimp only
  repeat' split
  all_goals simp [Dev.emcy_src, Dev.nfPulse]

/-- The record of a lasting event leaves its source in the state of Table 17-1. -/
theorem Dev.record_srcState (d : Dev) (t n r : Nat) (b : Bool) (h : n < 128) :
    (d.record t n r b).srcState n = d.raisedState n b := by
  rw [Dev.srcState_of_src (d.record_src t n r b), Dev.src'_srcState _ _ _ h]

theorem Dev.raisedState_ne (d : Dev) (n : Nat) (b : Bool) : d.raisedState n b ≠ .clear := by
  unfold Dev.raisedState
  repeat' split
  all_goals simp

/-! ### Sources that are sticky stay as they are -/

/-- Every source that is sticky stays in its state: what turning a rail off, which may complete a retirement, leaves of the
fault sources. -/
def Dev.Kept (d d' : Dev) : Prop := ∀ n, d.sticky n = true → d'.srcState n = d.srcState n

theorem Dev.Kept.refl (d : Dev) : d.Kept d := fun _ _ => rfl
theorem Dev.Kept.sticky {d d' : Dev} (h : d.Kept d') {n : Nat} (hn : d.sticky n = true) : d'.sticky n = true := by
  unfold Dev.sticky at *; rw [h n hn]; exact hn
theorem Dev.Kept.trans {d d' d'' : Dev} (h : d.Kept d') (h' : d'.Kept d'') : d.Kept d'' :=
  fun n hn => (h' n (h.sticky hn)).trans (h n hn)
theorem Dev.Kept.of_src {d d' : Dev} (h : d'.faults.src = d.faults.src) : d.Kept d' := fun n _ => Dev.srcState_of_src h n
/-- What comes before, or follows, leaves the sources alone. -/
theorem Dev.Kept.after {d e d' : Dev} (h : e.Kept d') (he : e.faults.src = d.faults.src) : d.Kept d' := (Dev.Kept.of_src he).trans h
theorem Dev.Kept.then {d d' d'' : Dev} (h : d.Kept d') (e : d''.faults.src = d'.faults.src) : d.Kept d'' := h.trans (.of_src e)

theorem foldl_kept {α : Type} (f : Dev → α → Dev) (h : ∀ (d : Dev) a, d.Kept (f d a)) (l : List α) (d : Dev) : d.Kept (l.foldl f d) := by
  induction l generalizing d with
  | nil => exact .refl d
  | cons a r ih => exact (h d a).trans (ih (f d a))

theorem Dev.recordNew_kept (d : Dev) (t n r : Nat) : d.Kept (d.recordNew t n r) := by
  unfold Dev.recordNew
  split
  · exact .refl d
  · rename_i h
    intro m hm
    rw [Dev.srcState_of_src (d.record_src t n r false), Dev.src'_srcState_ne _ _ _ _ (fun e => h (by rw [← e]; exact hm))]

theorem Dev.minimumCheck_kept (d : Dev) (t : Nat) (r : Rail) : d.Kept (d.minimumCheck t r) := by
  unfold Dev.minimumCheck
  split
  · exact ((Dev.recordNew_kept _ _ _ _).after (by simp)).then (Dev.keepWake_src _)
  · exact .refl d

theorem Dev.retireKeeping_kept (d : Dev) (t : Nat) (p : Phase) (r : Nat) (b : Bool) : d.Kept (d.retireKeeping t p r b) := by
  unfold Dev.retireKeeping
  split
  · exact .refl d
  · dsimp only
    split
    · exact ((Dev.recordNew_kept _ _ _ _).after (by simp)).trans (Dev.minimumCheck_kept _ _ _)
    · exact (Dev.recordNew_kept _ _ _ _).after (by simp)

theorem Dev.retirePhase_kept (d : Dev) (t : Nat) (p : Phase) (r : Nat) : d.Kept (d.retirePhase t p r) := d.retireKeeping_kept t p r false

theorem Dev.retireAfter_kept (d : Dev) (t : Nat) (o : Option Nat) (r : Nat) : d.Kept (d.retireAfter t o r) := by
  unfold Dev.retireAfter
  refine foldl_kept _ (fun d a => ?_) _ _
  split
  · exact d.retirePhase_kept _ _ _
  · exact .refl d

theorem Dev.insertOff_kept (d : Dev) (t : Nat) (r : Rail) (o : Owed) : d.Kept (Dev.insertOff t r d o) := by
  unfold Dev.insertOff
  split
  · exact (Dev.retireAfter_kept _ _ _ _).after (by simp)
  · exact .of_src (by simp)

theorem Dev.settleInsertions_kept (d : Dev) (t : Nat) (r : Rail) : d.Kept (d.settleInsertions t r) := by
  unfold Dev.settleInsertions
  dsimp only
  refine Dev.Kept.trans ?_ (foldl_kept _ (fun d a => Dev.insertOff_kept d t r a) _ _)
  repeat' split
  · exact .of_src (by simp)
  · exact (Dev.retireAfter_kept _ _ _ _).after (by simp)
  · exact (Dev.insertOff_kept _ _ _ _).after (by simp)

theorem Dev.phasesMid_kept (d : Dev) (t : Nat) (r : Rail) : d.Kept (d.phasesMid t r) := by
  unfold Dev.phasesMid
  refine foldl_kept _ (fun d a => ?_) _ _
  dsimp only
  split
  · exact d.retirePhase_kept _ _ _
  · exact .of_src (by simp)

theorem Dev.fastOffRail_kept (d : Dev) (t : Nat) (r : Rail) : d.Kept (d.fastOffRail t r) := by
  unfold Dev.fastOffRail
  dsimp only
  split
  · exact .refl d
  · refine Dev.Kept.then ?_ (d' := (((d.abortTuning t r 0x11).phasesMid t r).rail' r RailSt.stopped).settleInsertions t r) (by simp)
    refine Dev.Kept.trans ?_ (Dev.settleInsertions_kept _ t r)
    refine Dev.Kept.then ?_ (d' := (d.abortTuning t r 0x11).phasesMid t r) (by simp)
    exact (Dev.phasesMid_kept _ t r).after (by simp)

theorem Dev.turnOffRail_kept (d : Dev) (t : Nat) (r : Rail) : d.Kept (d.turnOffRail t r) := by
  unfold Dev.turnOffRail
  split
  · exact .refl d
  · split
    · exact d.fastOffRail_kept t r
    · exact .of_src (by simp)

theorem Dev.turnOff_kept (d : Dev) (t : Nat) (b : Branch) : d.Kept (d.turnOff t b) := by
  unfold Dev.turnOff byBranch
  repeat' split
  · exact d.turnOffRail_kept t _
  · exact .of_src (Dev.turnOffChan_src _ _)
  · exact .of_src (Dev.turnOffChan_src _ _)
  · exact .of_src (Dev.turnOffXe_src _ _)

theorem Dev.fastOff_kept (d : Dev) (t : Nat) (b : Branch) : d.Kept (d.fastOff t b) := by
  unfold Dev.fastOff byBranch
  repeat' split
  · exact d.fastOffRail_kept t _
  · exact .of_src (Dev.turnOffChan_src _ _)
  · exact .of_src (Dev.turnOffChan_src _ _)
  · exact .of_src (Dev.turnOffXe_src _ _)

theorem Dev.fastOffMask_kept (d : Dev) (t m : Nat) : d.Kept (d.fastOffMask t m) := by
  unfold Dev.fastOffMask
  exact foldl_kept _ (fun d a => d.fastOff_kept t a) _ _

theorem Dev.escalateEffect_kept (d : Dev) (t n c : Nat) : d.Kept (d.escalateEffect t n c) := by
  unfold Dev.escalateEffect
  dsimp only
  split
  · split
    · exact ((Dev.turnOff_kept _ _ _).after (Dev.loseTargets_src _ _)).then (Dev.settle_src _)
    · exact .refl d
  · exact .of_src (d.disableCharger_src t)
  · exact .of_src (d.safeReaction_src t _)
  · exact (((Dev.fastOffMask_kept _ _ _).after (Dev.loseBranches_src _ _)).then (Dev.settle_src _)).then
      (Dev.safeReaction_src _ _ _)
  · split
    · exact .of_src rfl
    · exact .of_src (d.startShip_src t)
  · exact .refl d

theorem Dev.failedStartAs_kept (d : Dev) (t : Nat) (f : Failure) : d.Kept (d.failedStartAs t f) := by
  unfold Dev.failedStartAs
  dsimp only
  split
  · refine Dev.Kept.of_src ?_
    repeat' split
    all_goals simp
  · exact .of_src (by simp)
  · refine Dev.Kept.then ?_ (Dev.safeCheck_src _ _)
    split
    · exact (Dev.turnOff_kept _ _ _).after (Dev.markFailed_src _ _)
    · exact .of_src (by simp)
  · exact .of_src (by simp)

theorem Dev.escalate_srcState (d : Dev) (t n : Nat) (h : n < 128) : (d.escalate t n).srcState n = .escalated := by
  have e (x : Dev) (hx : x.faults.src = (d.src' n fun s => { s with state := .escalated }).faults.src) : x.srcState n = .escalated := by
    rw [Dev.srcState_of_src hx, Dev.src'_srcState _ _ _ h]
  unfold Dev.escalate
  dsimp only
  split
  · exact e _ (by simp)
  · refine (Dev.escalateEffect_kept _ t n _ n ?_).trans (e _ (by simp))
    unfold Dev.sticky
    rw [e _ (by simp)]
    rfl

/-- A source that is raised has its sticky bit set. -/
theorem Dev.raiseAs_sticky (d : Dev) (t n r : Nat) (b : Bool) (h : n < 120) : (d.raiseAs t n r b).sticky n = true := by
  unfold Dev.raiseAs
  split
  · omega
  · split
    · rw [Dev.sticky_of_src (d.faultWake_src t n)]
      assumption
    · dsimp only
      have h0 : (d.record t n r b).sticky n = true := by
        unfold Dev.sticky
        rw [Dev.record_srcState _ _ _ _ _ (by omega)]
        simpa using d.raisedState_ne n b
      split
      · unfold Dev.sticky
        rw [Dev.escalate_srcState _ _ _ (by omega)]
        rfl
      · rw [Dev.sticky_of_src (Dev.faultWake_src _ t n)]
        exact h0

theorem Dev.raise_sticky (d : Dev) (t n r : Nat) (h : n < 120) : (d.raise t n r).sticky n = true := d.raiseAs_sticky t n r false h

/-- What a settling and a check of the sequencer leave of a source. -/
@[simp] theorem Dev.seqCheck_sticky (d : Dev) (t n : Nat) : (d.seqCheck t).sticky n = d.sticky n := Dev.sticky_of_src (by simp) n
@[simp] theorem Dev.settle_sticky (d : Dev) (n : Nat) : d.settle.sticky n = d.sticky n := Dev.sticky_of_src (by simp) n
@[simp] theorem Dev.send_sticky (d : Dev) (o : Out) (n : Nat) : (d.send o).sticky n = d.sticky n := Dev.sticky_of_src (by simp) n

/-- After a trip the source of the branch is sticky (R200, R216, R223). -/
theorem Dev.tripped_sticky (d : Dev) (t : Nat) (b : Branch) (r : Nat) (c : Bool) (h : branchSource b < 120) :
    (d.tripped t b r c).sticky (branchSource b) = true := by
  unfold Dev.tripped
  dsimp only
  rw [Dev.seqCheck_sticky, Dev.settle_sticky]
  have h0 := Dev.raiseAs_sticky (d.loseTargets b) t (branchSource b) r c h
  split
  · exact (Dev.failedStartAs_kept _ t _).sticky h0
  · exact (Dev.sticky_of_src rfl _).trans h0

/-! ## Reading a part off `still` -/

theorem Dev.path_of_still {d d' : Dev} (h : d'.still = d.still) : d'.path.still = d.path.still := congrArg Dev.path h
theorem Dev.rail_of_still {d d' : Dev} (h : d'.still = d.still) (r : Rail) : d'.grove.rail[r].still = d.grove.rail[r].still := by
  have e : d'.grove.rail.map RailSt.still = d.grove.rail.map RailSt.still := congrArg (fun x : Dev => x.grove.rail) h
  have := congrArg (fun v : Vector RailSt 8 => v[r]) e
  simpa using this
theorem Dev.ib_of_still {d d' : Dev} (h : d'.still = d.still) (n : Fin 6) : d'.integ.ib[n].still = d.integ.ib[n].still := by
  have e : d'.integ.ib.map ChanSt.still = d.integ.ib.map ChanSt.still := congrArg (fun x : Dev => x.integ.ib) h
  have := congrArg (fun v : Vector ChanSt 6 => v[n]) e
  simpa using this
theorem Dev.ld_of_still {d d' : Dev} (h : d'.still = d.still) (n : Fin 8) : d'.integ.ld[n].still = d.integ.ld[n].still := by
  have e : d'.integ.ld.map ChanSt.still = d.integ.ld.map ChanSt.still := congrArg (fun x : Dev => x.integ.ld) h
  have := congrArg (fun v : Vector ChanSt 8 => v[n]) e
  simpa using this
theorem Dev.chan_of_still {d d' : Dev} (h : d'.still = d.still) (c : Integrated) : (d'.chan c).still = (d.chan c).still := by
  cases c
  · exact Dev.ib_of_still h _
  · exact Dev.ld_of_still h _
theorem Dev.xe_of_still {d d' : Dev} (h : d'.still = d.still) (n : Fin 8) : d'.integ.xe[n].still = d.integ.xe[n].still := by
  have e : d'.integ.xe.map XeSt.still = d.integ.xe.map XeSt.still := congrArg (fun x : Dev => x.integ.xe) h
  have := congrArg (fun v : Vector XeSt 8 => v[n]) e
  simpa using this

end Sys2Proof.Machine
end

