-- ==== Sys2Proof/WellFormed.lean ====
section
/-!
DEFINITION. WellFormed.lean: which commands a bus can carry: the fields of every frame and write within their widths. The meaning
of a command is total and does not depend on it.
-/
namespace Sys2Proof

/-- A CANopen node-ID. -/
def isNode (n : Nat) : Bool := 1 ≤ n && n ≤ 127
/-- A value of at most 32 bits. -/
def isWord (n : Nat) : Bool := n < 2 ^ 32
/-- A cascade transaction tag (Table 10-4). -/
def isTag (n : Nat) : Bool := n < 2 ^ 16
/-- The address of an object. -/
def isObject (index sub : Nat) : Bool := index < 2 ^ 16 && sub < 2 ^ 8
/-- Bytes. -/
def isBytes (l : List Nat) : Bool := l.all fun b => b < 256
/-- The data field of a CAN FD frame. -/
def isData (l : List Nat) : Bool := l.length ≤ 64 && isBytes l
/-- A value that `n` bytes hold, signed or unsigned. -/
def fits (n : Nat) (v : Int) : Bool := 1 ≤ n && -(2 ^ (8 * n - 1) : Nat) ≤ v && v < (2 ^ (8 * n) : Nat)

def Who.wf (w : Who) : Bool := isNode w.node

/-- A target of Table 19-2. -/
def Target.wf (t : Target) : Bool :=
  t.unit < 256 && t.kind < 256 && isObject t.index t.sub && t.rsv < 256 && isWord t.value

/-- A command of Table 19-1. -/
def JCmd.wf (c : JCmd) : Bool := c.who.wf && isWord c.seq && c.count < 256 && c.rsv < 2 ^ 16 && c.targets.all Target.wf

def RxCheck.wf (c : RxCheck) : Bool := c.type < 256 && c.len < 256

/-- A beacon of Table 10-4. -/
def Beacon.wf (b : Beacon) : Bool :=
  b.nslv < 8 && b.cycle < 256 && b.time < 2 ^ 48 && b.order < 256 && b.orderTag < 256 && b.masterState < 256 && b.msgAddr < 8 &&
    b.msgType < 256 && b.msgLen ≤ 16 && isTag b.tag && b.data.length ≤ 16 && isBytes b.data

/-- A status payload of Table 10-5 or 10-6. -/
def Status.wf : Status → Bool
  | .full state flags failBranch failReason on good fwin =>
    isBytes [state, flags, failBranch, failReason] && isWord on && isWord good && isWord fwin
  | .summary code pg => code < 4 && pg < 2 ^ 30

def ReplyMsg.wf (r : ReplyMsg) : Bool := isBytes [r.code, r.detail] && isTag r.tag && isWord r.data

/-- A target of a PREPARE segment (Table 10-8). -/
def CTarget.wf (t : CTarget) : Bool := t.action < 8 && t.branch < 32 && isWord t.value

def CrossMeas.wf (m : CrossMeas) : Bool :=
  [m.mainB, m.vsysB, m.checkB, m.nodeB, m.mainA, m.vsysA, m.checkA, m.nodeA].all fun x => x < 4096

def CanFrame.wf (f : CanFrame) : Bool := f.cobId < (if f.ext then 2 ^ 29 else 2 ^ 11) && isData f.data

def UsdoOp.wf : UsdoOp → Bool
  | .read index sub => isObject index sub
  | .write index sub len value => isObject index sub && fits len value
  | .openWrite index sub _ => isObject index sub
  | .segment _ len _ _ => len ≤ 64
  | .badSpecifier | .remote => true

def Usdo.wf (u : Usdo) : Bool := u.who.wf && u.session < 256 && u.op.wf

def DebugReq.wf : DebugReq → Bool
  | .halt | .resume => true
  | .vendorRead reg => isWord reg
  | .vendorWrite reg value => isWord reg && isWord value

/-- Fifteen samples of each strap of three bits, and eight check conversions of each converter. -/
def PowerOn.wf (p : PowerOn) : Bool :=
  p.node.length = 15 && p.addr.length = 15 && (p.node ++ p.addr).all (· < 8) && p.checkA.length = 8 && p.checkB.length = 8 &&
    (p.checkA ++ p.checkB).all (· < 4096)

/-- The samples of an error converter that a command carries: in a row, each with the edges of at most the 20 phases near it. -/
def isSamples (l : List Sample) : Bool := l.all fun x => x.edges.length ≤ 20

/-- Whether a command is well formed. -/
def Instr.wf (i : Instr) : Bool :=
  match i with
  | .devicePowerOnReset p => p.wf
  | .inputCurrentLimitWrite who value => who.wf && fits 8 value
  | .shipAction c => c.wf
  | .timeObject _ value => value < 2 ^ 64
  | .standbyAction c => c.wf
  | .resumeAction c => c.wf
  | .targetsAction c => c.wf
  | .railStageFault _ _ reportsMv => reportsMv.all fun x => x.2 < 65536
  | .manualInsert who value => who.wf && fits 8 value
  | .reinstate who value => who.wf && fits 8 value
  | .retire who value => who.wf && fits 8 value
  | .healthEvaluation m => m.length ≤ 20
  | .balanceUpdate _ _ samples readings => isSamples samples && readings.length ≤ 20
  | .grSetPointWrite who _ value => who.wf && fits 8 value
  | .coefficientCommit who _ value => who.wf && fits 8 value
  | .runNow who value => who.wf && fits 8 value
  | .ibLdSetPointWrite who _ value => who.wf && fits 8 value
  | .budgetMeasurement _ _ channels => channels.length ≤ 14
  | .judgementConversion readings => readings.length ≤ 30
  | .clearRecord who value => who.wf && fits 8 value
  | .beaconReceived c m => c.wf && m.wf
  | .statusFrameReceived u c m => u.val ≠ 0 && c.wf && m.wf
  | .replyReceived u c m _ => u.val ≠ 0 && c.wf && m.wf
  | .prepareSegment tag index count targets =>
    isTag tag && index < 16 && 1 ≤ count && count < 16 && targets.length = 3 && targets.all CTarget.wf
  | .pollVote tag => isTag tag
  | .commit tag _ => isTag tag
  | .pollOutcome tag => isTag tag
  | .abort tag => isTag tag
  | .unknownTag tag msgType => isTag tag && msgType < 256
  | .startOrder tag => tag < 256
  | .abortOrder tag => tag < 256
  | .safeOrder tag => tag < 256
  | .standbyOrder tag => tag < 256
  | .shipOrder tag => tag < 256
  | .chargerEnable who => who.wf
  | .chargerDisable who => who.wf
  | .chargeSettingWrite who _ value => who.wf && fits 8 value
  | .newPack who value => who.wf && fits 8 value
  | .shuntResistanceWrite who value => who.wf && fits 8 value
  | .ocvTableWrite who len value => who.wf && fits len value
  | .dieSample temps => temps.length = 12
  | .remoteSample ratios => ratios.length = 8 && ratios.all fun x => x < 4096
  | .stageSample mv => mv.length = 8
  | .reinstateSensor who value => who.wf && fits 8 value
  | .regularConversionEnd _ code => -32768 ≤ code && code < 32768
  | .crossCheckRun m => m.wf
  | .hkadcBModeWrite who value => who.wf && fits 8 value
  | .resultRead who => who.wf
  | .globalStart who mask => who.wf && fits 8 mask
  | .globalStop who mask => who.wf && fits 8 mask
  | .timerControlWrite who _ value => who.wf && fits 8 value
  | .flagClear who _ value => who.wf && fits 8 value
  | .capture _ _ _ counter => isWord counter
  | .wdCService key stamp => isWord key && isWord stamp
  | .checkIn who value stamp => who.wf && fits 8 value && isWord stamp
  | .acknowledge who value => who.wf && fits 8 value
  | .stickyClear who _ value => who.wf && fits 8 value
  | .nfaultDrive who value => who.wf && fits 8 value
  | .sourceConfigurationWrite who _ value => who.wf && fits 8 value
  | .canFrameReceived f => f.wf
  | .usdoRequest u => u.wf
  | .usdoSessionTimeout who session _ => who.wf && session < 256
  | .objectWrite who index sub len value => who.wf && isObject index sub && fits len value
  | .rpdo _ _ data => isData data
  | .heartbeatReceived _ node nmt => isNode node && nmt < 256
  | .portRestart who _ value => who.wf && fits 8 value
  | .nmtStart _ node => node < 128
  | .nmtStop _ node => node < 128
  | .nmtEnterPreOperational _ node => node < 128
  | .nmtResetNode _ node => node < 128
  | .nmtResetCommunication _ node => node < 128
  | .clientRegistration who _ value => who.wf && fits 8 value
  | .integratorKey who value => who.wf && fits 8 value
  | .relock who value => who.wf && fits 8 value
  | .storeParameters who _ value _ => who.wf && fits 8 value
  | .restoreParameters who _ value _ => who.wf && fits 8 value
  | .pdoMappingCount who _ _ value => who.wf && fits 8 value
  | .cobIdWrite who _ _ value => who.wf && fits 8 value
  | .readBuffer who _ _ => who.wf
  | .channelDisable who _ => who.wf
  | .hide who value => who.wf && fits 8 value
  | .hostAreaWrite who data _ => who.wf && 1 ≤ data.length && data.length ≤ 64
  | .hostAreaRead who _ _ => who.wf
  | .blockProtection who value => who.wf && fits 8 value
  | .stagedImage who words => who.wf && words.all fun x => x < 2 ^ 64
  | .program who value _ => who.wf && fits 8 value
  | .lock who value _ => who.wf && fits 8 value
  | .testEnable who => who.wf
  | .testDisable who => who.wf
  | .arm who _ value => who.wf && fits 8 value
  | .extest cells => cells < 2 ^ 153
  | .samplePreload cells => cells < 2 ^ 153
  | .dbgkey key => isWord key
  | .dbgacc q => q.wf
  | .debugLock who value => who.wf && fits 8 value
  | .grSlewComplete _ samples => isSamples samples
  | .softStartComplete _ samples => isSamples samples
  | .startSettleTimeout _ samples _ => isSamples samples
  | .shortInSoftStart _ samples _ => isSamples samples
  | .softStopEnd _ samples => isSamples samples
  | .stepFire _ samples _ => isSamples samples
  | .brakingStart _ samples _ => isSamples samples
  | .brakingEnd _ samples => isSamples samples
  | .pulseSkippingEntry _ samples => isSamples samples
  | .pulseSkippingExit _ samples _ => isSamples samples
  | .tuningRunStart _ turn _ _ => turn.length ≤ 8
  | .gaugeSecond m => m.frames.length ≤ 4000
  | .heartwoodPowerOnReset _ _ | .brownOutWarning _ | .brownOutWarningEnd _ _ _ | .brownOutReset _ | .nrstLow _
  | .nrstRelease | .lockstepMismatch | .journalReplay _ | .dcinValid _ _ | .dcinInvalid _ _ | .batsnsValid _ _
  | .batsnsInvalid _ _ | .trunkLow _ _ | .trunkOverVoltage _ _ | .trunkOverVoltageRecovery _ _ | .trunkDroop _ _
  | .dcinReverseCurrent _ | .dcinPairReturn _ _ _ | .dcinCurrentLimit _ _ _ | .dcinLinearModeDissipation _ _ _ _
  | .supplementEnd _ _ | .batteryPairFault _ _ _ | .vpreOverVoltage _ _ | .holdReady _ | .holdCapacitanceMeasurement _
  | .holdChargeTimeout _ | .shipPointOfNoReturn | .shipEntryComplete | .nwakeLow _ | .crystalStable _
  | .crystalStartTimeout _ | .crystalStop | .pllLockLoss | .wdoscCrossCheck _ | .clockDeviationMeasurement _ _
  | .heartwoodCrystalStop | .heartwoodCrystalStable _ | .heartwoodCrystalTimeout _ | .canRxWake _ | .standbyWdCWake
  | .idleEntry | .cascadeCsyncWake _ | .phaseLoss _ _ | .saplingInsertion _ | .insertionRampComplete _
  | .sheddingEvaluation _ _ _ | .phaseLeavingEnd _ _ _ | .shedSetRotation _ _ | .shedSetRotationShed _ _ | .slotTurnOn _ _ _
  | .offGroup _ | .stepHoldEnd _ _ | .forecastStart _ _ _ _ | .forecastPulse _ _ _ | .forecastEnd _ _ | .forecastStuck _ _
  | .brakeTimeout _ _ | .senseCheck _ _ _ | .senseMismatch _ _ _ | .localSenseCheck _ _ | .phaseCurrentLimit _ _ _
  | .negativeCurrentLimit _ _ | .railOverVoltage _ _ _ | .railUnderVoltage _ _ _ | .railOverCurrent _ _ _ | .toneEnd _ _
  | .identificationComplete _ | .verificationComplete _ _ _ | .ibLdSlewComplete _ _ | .ibLdSoftStartComplete _ _ _ _
  | .ibLdStartTimeout _ _ | .hiccup _ _ | .hiccupRecovery _ _ _ | .hiccupCountReset _ _ _ | .ibVoltageProtection _ _
  | .ldoProtection _ _ | .dischargeSwitchOpen _ _ _ | .xePowerGood _ _ | .xePgTimeout _ _ | .xePowerGoodLost _ _
  | .xePgBeforeEnable _ _ | .commonStart _ | .judgeDeadline _ _ _ | .retryPauseEnd _ | .dischargeTimeout _ _ _
  | .warningWindow _ _ | .faultWindow _ _ | .firstFailRecordCommit _ | .beacon | .statusFrame | .reply | .inquire | .getFail
  | .getInfo | .csyncStartPulse _ | .faultBroadcast _ | .csyncStuck _ | .readbackConflict _ | .linkLost _ | .slaveLost _ _
  | .discardThreshold _ | .joinTimeout _ | .cascadePrepareStart | .prepareDeadline _ _ | .linkLossHoldExpiry _
  | .chargeSessionStart _ _ _ | .prechargeEnd _ _ | .pulseEdge | .cvEntry _ | .termination _ _ | .recharge _ _ _ _
  | .prechargeTimeout _ | .chargeTimeout _ | .inputSharing _ _ | .packLossComparator _ | .presenceProbeEnd _
  | .noPackSinkEnd _ _ | .noPackExit _ | .chargerWatchdogExpiry _ | .chargerFaultStop _ | .modulatorCalibration _ _ _
  | .shuntOverRange _ _ | .emptyRequest _ _ _ _ | .insertionEstimate _ _ | .insertionEstimateUnderLoad _ _ _ _
  | .wakeEstimate _ _ | .impedanceEdge _ _ _ _ | .impedanceMeasurementInstant _ _ _ | .gaugeStoreWrite
  | .gaugeStoreWriteComplete _ | .dieConverterMissing _ | .injectedTrigger _ _ | .timerCompareMatch _ | .turnAround _ _
  | .wdCExpiry _ | .wdHMissing _ | .graceEnd _ | .nhrstPulseEnd _ | .nhrstReadBack _ | .hfrz _ | .reactionTimerExpiry _ _
  | .nfaultPulseEnd _ | .emergencyMessage _ _ | .logRecordCommit _ | .sync _ | .tpdo _ _ _ | .tpdoEventTimer _ _
  | .heartbeatConsumerTimeout _ _ | .heartbeatProducer _ | .busOff _ _ | .busOffRecovery _ _ | .errorPassive _ _
  | .keyLockoutEnd _ | .sampler _ | .prepareEntry _ | .entryEnd | .commitComplete _ _ _ | .marginRead _ | .otpRowProgrammed _
  | .programmingStop _ | .operatingHour _ | .serviceLifeRecordWrite _ | .tapReset | .idcode | .clamp | .highz | .bypass
  | .sramWordError _ | .rxReorderTimeout _ _ | .chgDrvRestart _ | .lockstepRetryWindowEnd _ | .fastPulseReturn => true

end Sys2Proof
end

