-- ==== Sys2Proof/Tests/Slice0.lean ====
section
/-!
SUPPORT. Slice0.lean: small tests. Each theorem `witness_X` shows, clause by clause, a state and operands that meet the hypotheses of
statement X and that the command answers what it says there; each `test_illformed_X` a term that `Instr.wf` refuses. A frame is
tested through the fields it changes. Expected values come from the rules that the statements cite.
-/
set_option maxRecDepth 100000
set_option Elab.async false
set_option synthInstance.maxSize 2000
set_option synthInstance.maxHeartbeats 400000

open Sys2Proof Sys2Proof.Machine

namespace Sys2Proof.Tests

/-- The state after reset with its device changed. -/
def dev (f : Dev → Dev) : State := { State.reset with b := { State.reset.b with d := f State.reset.b.d } }

/-- Whether a command answers a next state, with the queue as it was, whose block satisfies a test. -/
def yieldsBody (c : Instr) (s : State) (p : Body → Prop) [DecidablePred p] : Bool :=
  match exec c s with
  | .next t => decide (t.pending = s.pending) && decide (p t.b)
  | _ => false

/-- The same for the device, with the heartwood domain and the host area as they were. -/
def yields (c : Instr) (s : State) (p : Dev → Prop) [DecidablePred p] : Bool :=
  yieldsBody c s fun b => b.hw = s.b.hw ∧ b.host = s.b.host ∧ p b.d

/-- Two devices alike in every part but the fault sources. -/
abbrev alike (d e : Dev) : Prop :=
  d.power = e.power ∧ d.clk = e.clk ∧ d.straps = e.straps ∧ d.path = e.path ∧ d.grove = e.grove ∧ d.integ = e.integ ∧
  d.seq = e.seq ∧ d.judge = e.judge ∧ d.casc = e.casc ∧ d.chg = e.chg ∧ d.gauge = e.gauge ∧ d.th = e.th ∧
  d.conv = e.conv ∧ d.timer = e.timer ∧ d.wdc = e.wdc ∧ d.wdh = e.wdh ∧ d.portA = e.portA ∧ d.portB = e.portB ∧
  d.dict = e.dict ∧ d.pool = e.pool ∧ d.jour = e.jour ∧ d.nv = e.nv ∧ d.otp = e.otp ∧ d.life = e.life ∧ d.recs = e.recs ∧
  d.test = e.test ∧ d.tap = e.tap ∧ d.out = e.out ∧ d.free = e.free

/-! ## States that the witnesses start from -/

def wired (d : Dev) : Dev := ((((((d.setLive 0x2210 1 0x80).setLive 0x2211 1 0x80).setLive 0x2212 1 0x80).setLive 0x2210 5
  30000).setLive 0x2211 5 30000).setLive 0x2212 5 30000)
def railDev (d : Dev) : Dev := (((((wired d).ph' 0 fun x => { x with role := .available, fstate := .firing }).ph' 1 fun x =>
  { x with role := .available, fstate := .shed }).ph' 2 fun x => { x with role := .sapling }).rail' 0 fun x =>
  { x with mode := .regulating, lp := { x.lp with vref := 4000, target := 4000 }, pl := { x.pl with order := [0, 1] } })
def chanDev (d : Dev) : Dev := ((d.setLive 0x2240 1 1200).setLive 0x2248 1 1200).integ' fun g =>
  { g with
    ib := g.ib.map fun x => { x with on := true, refMv := 1200, targetMv := 1200 }
    ld := g.ld.map fun x => { x with on := true, refMv := 1200, targetMv := 1200 } }
def held (d : Dev) : Dev := d.path' fun p => { p with holdSeen := true, holdMv := 12000, holdReady := true }
def slotDev (b : Branch) (d : Dev) : Dev := ((((railDev d).setLive 0x2301 1 20).setLive 0x2301 2 20).setLive 0x2301 (b.val + 1) 10).seq' fun x =>
  { x with state := .onOrder, todo := 2 ^ b.val, members := 2 ^ b.val }
def ocvWord : Nat := (List.range 32).foldl (fun n i => n + ((if i = 31 then 10000 else 300 * i) + (3000 + 20 * i) * 65536) * 2
  ^ (32 * i)) 0
def gaugeDev (d : Dev) : Dev := ((((((d.setLive 0x2180 1 1000).setLive 0x2180 2 1).setLive 0x2180 3 10000).setLive 0x2182 1
  ocvWord).setLive 0x2140 5 6).setLive 0x2140 2 25000).gauge' fun g =>
  { g with present := true, estValid := true, count := 1000, fcc := 10 ^ 9, rc := 5 * 10 ^ 8 }
def chgDev (x : ChgPhase) (d : Dev) : Dev := (((gaugeDev d).setLive 0x2140 3 2000).chg' fun c => { c with phase := x }).path'
  fun p => { p with dcinValid := true, batValid := true }
def aCopy : StoreCopy := State.reset.b.d.storeRecord 7
def thDev (d : Dev) : Dev := (d.th' fun x => { x with sensor := x.sensor.map fun y => { y with shut := 1 } })
def who : Who := ⟨.a, 4⟩
def goodCross : CrossMeas := ⟨1000, 2000, 2048, 3000, 1016, 1984, 2036, 3000⟩
def badCross : CrossMeas := ⟨1000, 2000, 2060, 3000, 1017, 1984, 2048, 3000⟩
def aRec : LogRec := ⟨1, 2, 3, 4, 5, 6, 7, []⟩
def anEmcy : Emcy := ⟨1, 2, 3, 4, 5⟩
def cl (d : Dev) : Dev := (d.setLive 0x1016 1 0x0A0064)
def staged1 (d : Dev) : Dev := held { d with path.dcinValid := true, otp.staged := [(384, 1)] }
def otpWords : List (Nat × Nat) := [(384, 1), (1016, 9861666258496541385)]
def ones64 : List Byte := List.replicate 64 1
def ready (d : Dev) : Dev := held (cl d)
def cmd1 : JCmd := ⟨⟨.a, 10⟩, 18, 1, 1, 0, [⟨0, 3, 0, 5, 0, 0⟩], .first⟩
def cmd2 (seq : Nat) : JCmd := ⟨⟨.a, 10⟩, 8, seq, 0, 0, [], .first⟩
def entry1 (a : Nat) (l : List Target) : Entry :=
  { client := 0, rpdo := false, portB := false, cascade := false, action := a, seq := 1, tag := 0xFFFF, targets := l
    state := .accepted, detail := 0, reached := 0, missed := 0, unitsLost := 0, going := false, endNo := 0, integrator := true
    found := true }
def accepted (e : Entry) (d : Dev) : Dev := (ready d).jour' fun j => { j with entries := [e] }
def meas : Vector StartMeas 30 := Vector.replicate 30 ⟨0, true, true, 0⟩
def branchesOn (d : Dev) : Dev := d.integ' fun g => { g with xe := g.xe.map fun x => { x with en := true } }
def frame : CanFrame := { port := .b, ext := false, cobId := 0x601, data := [1] }
def oper (d : Dev) : Dev := (d.port' .a fun p => { p with nmt := .operational }).port' .b fun p =>
  { p with nmt := .operational }
def rpdoDev (d : Dev) : Dev := ((((oper d).setLive 0x1400 1 0x201).setLive 0x2007 1 4).setLive 0x1600 0 1).setLive 0x1600 1
  0x23000108
def tpdoDev (d : Dev) : Dev := (((((oper d).setLive 0x1800 1 0x181).setLive 0x2007 17 12).setLive 0x1800 2 255).setLive 0x1800
  3 100).setLive 0x1800 5 50
def sess : Session := ⟨10, 3, 0x2300, 1, 1, 0, 0, false, none⟩
def bufSess : Session := ⟨10, 258, 0x2592, 11, 0, 0, 5, false, some (2, 7)⟩
def w10 : Who := ⟨.a, 10⟩
def bufs : List Buffer := [⟨2, 7, [1, 2, 3], 5, true, true, false⟩, ⟨2, 8, [1, 2, 3], 5, true, false, false⟩]
def linked (role : Nat) (d : Dev) : Dev := (d.clk' fun c => { c with crystal := true }).casc' fun c =>
  { c with role := role, units := 3, link := .joined }
def master (d : Dev) : Dev := (linked 1 d).casc' fun c => { c with slaves := c.slaves.map fun x => { x with present := true } }
def slave (d : Dev) : Dev := { linked 2 d with straps := ⟨3, 1, 0⟩ }
def okRx (type len : Nat) : RxCheck := ⟨true, true, type, len, 4⟩
def badRx (type len : Nat) : RxCheck := ⟨true, true, type, len, 5⟩
def bcn (nslv type : Nat) : Beacon := ⟨false, nslv, false, 200, 500, 0, 0, 3, 0, type, 0, 0xFFFF, []⟩
def tagged (st : EntryState) (going : Bool) : Entry :=
  { entry1 1 [⟨0, 3, 0, 23, 0, 0⟩] with cascade := true, tag := 5, state := st, going := going }
def slaveHas (e : Entry) (d : Dev) : Dev := (slave (held d)).jour' fun j => { j with entries := [e] }
def txn : Txn := { tag := 5, committed := false, units := 6, prepared := 6, voted := 2, confirmed := 0, ended := 0 }
def ct : List CTarget := [⟨3, 23, 0⟩, ⟨2, 24, 0⟩, ⟨3, 25, 0⟩, ⟨3, 26, 0⟩]
def masterMsg (m : Msg) (d : Dev) : Dev := (master d).casc' fun c =>
  { c with messages := [m], sent := some m, txn := some txn }
def shared : Entry := { entry1 1 [⟨0, 3, 0, 23, 0, 0⟩, ⟨1, 3, 0, 4, 0, 0⟩] with tag := 5 }
def pOn : PowerOn := ⟨4651, 0, 0, List.replicate 15 1, List.replicate 15 2, 0, 0, false, 0, List.replicate 8 2048,
  List.replicate 8 2048⟩
/-- A state whose heartwood domain and device are changed. -/
def hwDev (g : Heartwood → Heartwood) (f : Dev → Dev) : State :=
  { dev f with b := { (dev f).b with hw := g State.reset.b.hw } }
def off (d : Dev) : Dev := { d with power.coreOn := false }
/-- A sample on the sense pair, `gap` cycles after the one before. -/
def smp (gap : Nat) (uv : Int) : Sample := ⟨gap, uv, uv, none, []⟩
def railIs (m : RailMode) (d : Dev) : Dev := (railDev d).rail' 0 fun x => { x with mode := m }
def tune (st : TuneStage) : TuneRun := ⟨0, st, [1, 2, 3, 4, 5, 6], 500, 24000, 100000, 5000, []⟩
/-- Source `n` with its reaction timer running and its configuration word. -/
def timing (n : Source) (word : Int) (d : Dev) : Dev :=
  ((railDev d).faults' fun f => { f with src := f.src.set n.val { state := .timing } }).setLive 0x2510 (n.val + 1) word

/-! ## Witnesses of the statements about commands -/

theorem witness_InputEvents :
    (let s := dev id
     let mv := 18000
     let us := 10000
     s.b.d.power.coreOn = true ∧ 18000 ≤ mv ∧ mv ≤ 60500 ∧ 10000 ≤ us ∧ s.b.d.path.dcinValid = false ∧ s.b.hw.powered = true
       ∧ yields (.dcinValid mv us) s (fun d => d.path.dcinValid = true ∧ d.path.dcinMv = mv) = true) ∧
    (let s := dev id
     let mv := 16999
     let us := 20
     s.b.d.power.coreOn = true ∧ ((mv < 17000 ∧ 20 ≤ us) ∨ (62000 < mv ∧ 1 ≤ us)) ∧ yields (.dcinInvalid mv us) s (fun d =>
       d.path.dcinValid = false ∧ d.path.dcinMv = mv ∧ d.path.dPair = .off) = true) ∧
    (let s := dev id
     let mv := 62001
     let us := 1
     s.b.d.power.coreOn = true ∧ ((mv < 17000 ∧ 20 ≤ us) ∨ (62000 < mv ∧ 1 ≤ us)) ∧ yields (.dcinInvalid mv us) s (fun d =>
       d.path.dcinValid = false ∧ d.path.dcinMv = mv ∧ d.path.dPair = .off) = true) ∧
    (let s := dev id
     let mv := 17000
     let us := 10000
     s.b.d.power.coreOn = true ∧ 17000 ≤ mv ∧ mv ≤ 60500 ∧ 10000 ≤ us ∧ s.b.hw.powered = true ∧ yields (.batsnsValid mv us)
       s (fun d => d.path.batValid = true ∧ d.path.batMv = mv) = true) ∧
    (let s := dev id
     let mv := 15999
     let us := 20
     s.b.d.power.coreOn = true ∧ ((mv < 16000 ∧ 20 ≤ us) ∨ (62000 < mv ∧ 1 ≤ us)) ∧ yields (.batsnsInvalid mv us) s (fun d
       => d.path.batValid = false ∧ d.path.batMv = mv) = true) ∧
    (let s := dev fun d => { d with power.state := .standby }
     let us := 1000
     s.b.d.power.coreOn = true ∧ 1000 ≤ us ∧ s.b.d.power.state = .standby ∧ s.b.d.casc.role = 0 ∧ yields (.nwakeLow us) s
       (fun d => d.power.state = .run ∧ d.power.wakeSource = 1 ∧ d.clk.pllLocked = true) = true) := by
  refine ⟨?_, ?_, ?_, ?_, ?_, ?_⟩ <;> decide +kernel

theorem witness_InputsUnpowered :
    (let s := dev off
     let mv := 16999
     let us := 20
     s.b.d.power.coreOn = false ∧ ((mv < 17000 ∧ 20 ≤ us) ∨ (62000 < mv ∧ 1 ≤ us)) ∧ yields (.dcinInvalid mv us) s (fun d =>
       d.path = { s.b.d.path with dcinValid := false, dcinMv := mv }) = true) ∧
    (let s := dev off
     let mv := 62001
     let us := 1
     s.b.d.power.coreOn = false ∧ ((mv < 17000 ∧ 20 ≤ us) ∨ (62000 < mv ∧ 1 ≤ us)) ∧ yields (.dcinInvalid mv us) s (fun d =>
       d.path = { s.b.d.path with dcinValid := false, dcinMv := mv }) = true) ∧
    (let s := dev off
     let mv := 17000
     let us := 10000
     s.b.d.power.coreOn = false ∧ 17000 ≤ mv ∧ mv ≤ 60500 ∧ 10000 ≤ us ∧ s.b.hw.powered = true ∧ yields (.batsnsValid mv us)
       s (fun d => d.path = { s.b.d.path with batValid := true, batMv := mv }) = true) ∧
    (let s := dev off
     let mv := 15999
     let us := 20
     s.b.d.power.coreOn = false ∧ ((mv < 16000 ∧ 20 ≤ us) ∨ (62000 < mv ∧ 1 ≤ us)) ∧ yields (.batsnsInvalid mv us) s (fun d
       => d.path = { s.b.d.path with batValid := false, batMv := mv }) = true) ∧
    (let s := dev off
     let mv := 62001
     let us := 1
     s.b.d.power.coreOn = false ∧ ((mv < 16000 ∧ 20 ≤ us) ∨ (62000 < mv ∧ 1 ≤ us)) ∧ yields (.batsnsInvalid mv us) s (fun d
       => d.path = { s.b.d.path with batValid := false, batMv := mv }) = true) ∧
    (let s := hwDev (fun h => { h with shipHold := true, counter := 7 }) fun d => { off d with power.state := .ship }
     let us := 50000
     s.b.d.power.coreOn = false ∧ 50000 ≤ us ∧ s.b.d.power.state = .ship ∧ s.b.hw.shipHold = true ∧ s.b.hw.powered = true ∧
       s.b.hw.thermalLatch = false ∧ yieldsBody (.nwakeLow us) s (fun b => b.host = s.b.host ∧ b.hw =
       { s.b.hw with shipHold := false, wakeTick := s.b.hw.counter } ∧ b.d.power = { s.b.d.power with wakeSource := 1 }) =
       true) ∧
    (let s := hwDev (fun h => { h with shipHold := true, counter := 7 }) fun d => { off d with power.state := .ship }
     let mv := 18000
     let us := 10000
     s.b.d.power.coreOn = false ∧ 18000 ≤ mv ∧ mv ≤ 60500 ∧ 10000 ≤ us ∧ s.b.d.path.dcinValid = false ∧ s.b.d.power.state =
       .ship ∧ s.b.hw.shipHold = true ∧ s.b.hw.powered = true ∧ s.b.hw.thermalLatch = false ∧ yieldsBody (.dcinValid mv us)
       s (fun b => b.host = s.b.host ∧ b.hw = { s.b.hw with shipHold := false, wakeTick := s.b.hw.counter } ∧ b.d.power =
       { s.b.d.power with wakeSource := 2 } ∧ b.d.path =
       { s.b.d.path with dcinValid := true, dcinMv := mv, dLock := .none }) = true) := by
  refine ⟨?_, ?_, ?_, ?_, ?_, ?_, ?_⟩ <;> decide +kernel

theorem witness_HoldupTurnsEveryBranchOff :
     let s := dev fun d => railDev { d with path.dcinValid := true }
     let mv : Nat := 16999
     let us : Nat := 20
     s.b.d.power.coreOn = true ∧ s.b.d.power.state = .run ∧ s.b.d.path.ship = .none ∧ s.b.d.path.batValid = false ∧
       s.b.d.seq.state = .idle ∧ mv < 17000 ∧ 20 ≤ us ∧ yields (.dcinInvalid mv us) s (fun d => d.power.state = .holdup ∧
       d.power.beforeHoldup = .run ∧ d.power.holdupEntry = s.b.hw.counter ∧ ∀ b, d.branchOn b = false) = true := by
  decide +kernel

theorem witness_TrunkEvents :
    (let s := dev id
     let mv := 16999
     let us := 20
     s.b.d.power.coreOn = true ∧ mv < 17000 ∧ 20 ≤ us ∧ yields (.trunkLow mv us) s (fun d => d.sticky 54 = true ∧ d.path =
       { s.b.d.path with vsysMv := mv }) = true) ∧
    (let s := dev id
     let mv := 62501
     let us := 1
     s.b.d.power.coreOn = true ∧ 62500 < mv ∧ 1 ≤ us ∧ yields (.trunkOverVoltage mv us) s (fun d => d.sticky 55 = true ∧
       d.path = { s.b.d.path with
         vsysMv := mv, trunkOv := true, dPair := .off, bPair := .off, dRamp := false, bRamp := false, supplement := false
           }) = true) ∧
    (let s := dev fun d => { d with path.trunkOv := true }
     let mv := 60499
     let us := 10000
     s.b.d.power.coreOn = true ∧ s.b.d.path.trunkOv = true ∧ mv < 60500 ∧ 10000 ≤ us ∧ yields (.trunkOverVoltageRecovery mv
       us) s (fun d => d.path.trunkOv = false ∧ d.path.vsysMv = mv ∧ d.path.dPair = (if s.b.d.path.dcinValid = true ∧
       s.b.d.path.dLock = .none then .ideal else .off)) = true) ∧
    (let s := dev fun d => { d with path.batValid := true }
     let mv := 17000
     let average := 18001
     s.b.d.power.coreOn = true ∧ mv + 1000 < average ∧ s.b.d.path.supplement = false ∧ s.b.d.path.batValid = true ∧
       s.b.d.path.trunkOv = false ∧ s.b.d.chg.phase ≠ .noPack ∧ yields (.trunkDroop mv average) s (fun d => d.path =
       { s.b.d.path with
         vsysMv := mv, supplement := true, bPair := .ideal, supplements := satInc 32 s.b.d.path.supplements, bRamp := if
           s.b.d.path.bPair = Pair.off then decide (mv < 10000) else s.b.d.path.bRamp }) = true) ∧
    (let s := dev fun d => { d with path.dPair := .ideal }
     let uv : Int := -2001
     s.b.d.power.coreOn = true ∧ uv < -2000 ∧ s.b.d.path.dPair ≠ .off ∧ yields (.dcinReverseCurrent uv) s (fun d =>
       KeepsPower s d ∧ d.sticky 51 = true ∧ d.path.dPair = .off ∧ d.path.dLock = .reverse ∧ d.path.dcinMA = uv * 1000 / max
       1 (s.b.d.int 0x2100 1) ∧ (s.b.d.path.supplement = false → s.b.d.pairReady = true → d.path.supplement = true ∧
       d.path.supplements = satInc 32 s.b.d.path.supplements)) = true) ∧
    (let s := dev fun d => { d with path.dLock := .reverse, path.dcinValid := true }
     let nodeD := 20050
     let trunk := 20000
     let us := 100
     s.b.d.power.coreOn = true ∧ s.b.d.path.dLock = .reverse ∧ trunk + 50 ≤ nodeD ∧ 100 ≤ us ∧ yields (.dcinPairReturn nodeD
       trunk us) s (fun d => d.path = { s.b.d.path with
         vsysMv := trunk, dLock := .none, dRamp := d.path.dRamp, dPair := if s.b.d.path.dcinValid = true ∧
           s.b.d.path.trunkOv = false then .ideal else .off } ∧ (s.b.d.path.dPair = .off → d.path.dRamp = (decide
       (d.path.dPair ≠ Pair.off) && decide (trunk < 10000)))) = true) ∧
    (let s := dev fun d => { d with path.dPair := .ideal }
     let mA := 20000
     let nodeD := 20001
     let bat := 20000
     s.b.d.power.coreOn = true ∧ s.b.d.path.dPair ≠ .off ∧ s.b.d.nat 0x2100 2 ≤ mA ∧ bat < nodeD ∧ yields (.dcinCurrentLimit
       mA nodeD bat) s (fun d => d.path.dPair = .linear ∧ d.path.dcinMA = mA ∧ (s.b.d.path.supplement = false →
       s.b.d.pairReady = true → d.path.supplement = true ∧ d.path.supplements = satInc 32 s.b.d.path.supplements)) = true) ∧
    (let s := dev fun d => { d with path.dPair := .ideal, path.batValid := true }
     let mA := 20000
     let nodeD := 20000
     let bat := 20000
     s.b.d.power.coreOn = true ∧ s.b.d.path.dPair ≠ .off ∧ s.b.d.nat 0x2100 2 ≤ mA ∧ nodeD ≤ bat ∧ (s.b.d.path.supplement =
       true ∨ s.b.d.pairReady = true) ∧ yields (.dcinCurrentLimit mA nodeD bat) s (fun d => KeepsPower s d ∧ d.sticky 51 =
       true ∧ d.path.dPair = .off ∧ d.path.dLock = .reverse ∧ d.path.supplement = true) = true) ∧
    (let s := dev fun d => { d with path.dPair := .ideal, path.supplement := true }
     let mA := 20000
     let nodeD := 20000
     let bat := 20000
     s.b.d.power.coreOn = true ∧ s.b.d.path.dPair ≠ .off ∧ s.b.d.nat 0x2100 2 ≤ mA ∧ nodeD ≤ bat ∧ (s.b.d.path.supplement =
       true ∨ s.b.d.pairReady = true) ∧ yields (.dcinCurrentLimit mA nodeD bat) s (fun d => KeepsPower s d ∧ d.sticky 51 =
       true ∧ d.path.dPair = .off ∧ d.path.dLock = .reverse ∧ d.path.supplement = true) = true) ∧
    (let s := dev fun d => { d with path.dPair := .linear }
     let mA := 100
     let nodeD := 20000
     let bat := 19000
     s.b.d.power.coreOn = true ∧ s.b.d.path.dPair = .linear ∧ mA < s.b.d.nat 0x2100 2 ∧ yields (.dcinCurrentLimit mA nodeD
       bat) s (fun d => d.path = { s.b.d.path with dcinMA := mA, batMv := bat, dPair := .ideal }) = true) ∧
    (let s := dev fun d => { d with path.dPair := .linear, path.supplement := true }
     let nodeD := 60000
     let trunk := 20000
     let mA := 20000
     let us := 100
     s.b.d.power.coreOn = true ∧ s.b.d.path.dPair = .linear ∧ s.b.d.path.supplement = true ∧ s.b.d.nat 0x2100 3 * 1000 <
       (nodeD - trunk) * mA ∧ 100 ≤ us ∧ yields (.dcinLinearModeDissipation nodeD trunk mA us) s (fun d => d.sticky 52 =
       true ∧ d.path = { s.b.d.path with dPair := .off, dRamp := false, dLock := .dissipation }) = true) ∧
    (let s := dev fun d => { d with path.supplement := true, path.dcinValid := true, path.batValid := true }
     let dis : Int := -5
     let us : Nat := 10000
     s.b.d.power.coreOn = true ∧ s.b.d.path.supplement = true ∧ s.b.d.path.dcinValid = true ∧ s.b.d.path.batValid = true ∧
       dis * 100 < 90 * s.b.d.int 0x2100 2 ∧ 10000 ≤ us ∧ yields (.supplementEnd dis us) s (fun d => d.path.supplement =
       false ∧ d.path.bPair = .off ∧ (s.b.d.path.dLock ≠ .none → d.path.dPair = .off) ∧ (s.b.d.path.dLock = .none →
       s.b.d.path.trunkOv = false → d.path.dPair = .ideal)) = true) ∧
    (let s := dev fun d => { d with path.bPair := .ideal }
     let drop := 301
     let pack := 1001
     s.b.d.power.coreOn = true ∧ s.b.d.path.bPair ≠ .off ∧ 300 < drop ∧ 1000 < pack ∧ yields (.batteryPairFault drop pack
       true) s (fun d => d.sticky 53 = true) = true) := by
  refine ⟨?_, ?_, ?_, ?_, ?_, ?_, ?_, ?_, ?_, ?_, ?_, ?_, ?_⟩ <;> decide +kernel

theorem witness_SupplyEvents :
    (let s := dev id
     let mv := 5501
     let us := 10
     s.b.d.power.coreOn = true ∧ 5500 < mv ∧ 10 ≤ us ∧ yields (.vpreOverVoltage mv us) s (fun d => d.sticky 59 = true ∧
       d.path = { s.b.d.path with vpreMv := mv }) = true) ∧
    (let s := dev id
     let mv := 11401
     s.b.d.power.coreOn = true ∧ 11400 < mv ∧ yields (.holdReady mv) s (fun d => d.path =
       { s.b.d.path with holdMv := mv, holdReady := true, holdSeen := true }) = true) ∧
    (let s := dev held
     let mv := 11400
     s.b.d.power.coreOn = true ∧ mv ≤ 11400 ∧ yields (.holdReady mv) s (fun d => d.path =
       { s.b.d.path with holdMv := mv, holdReady := false }) = true) ∧
    (let s := dev id
     let us := 43999
     s.b.d.power.coreOn = true ∧ s.b.d.path.capTimed = false ∧ yields (.holdCapacitanceMeasurement us) s (fun d => d.path =
       { s.b.d.path with capUf := min (us / 200) 0xFFFF, capTimed := true } ∧ (us / 200 < 220 → d.sticky 57 = true)) = true) ∧
    (let s := dev id
     let us := 3000000
     s.b.d.power.coreOn = true ∧ 3000000 ≤ us ∧ s.b.d.path.holdSeen = false ∧ yields (.holdChargeTimeout us) s (fun d =>
       d.sticky 58 = true) = true) ∧
    (let s := dev id
     let mv := 4201
     s.b.d.power.coreOn = true ∧ 4200 < mv ∧ mv < 4550 ∧ yields (.brownOutWarning mv) s (fun d => d.path =
       { s.b.d.path with vpreMv := mv, warning := true }) = true) ∧
    (let s := dev fun d => { d with path.warning := true, path.deferred := [.tuning 2] }
     let mv := 4651
     let dur := 9
     let stable := 2000
     s.b.d.power.coreOn = true ∧ s.b.d.path.warning = true ∧ 4650 < mv ∧ 2000 ≤ stable ∧ yields (.brownOutWarningEnd mv dur
       stable) s (fun d => KeepsPower s d ∧ d.path.warning = false ∧ d.path.vpreMv = mv ∧ d.path.deferred = [] ∧
       d.path.warnings = satInc 16 s.b.d.path.warnings) = true) ∧
    (let s := dev fun d => { d with path.warning := true }
     let mv := 4651
     let dur := 9
     let stable := 2000
     s.b.d.power.coreOn = true ∧ s.b.d.path.warning = true ∧ s.b.d.path.deferred = [] ∧ 4650 < mv ∧ 2000 ≤ stable ∧ yields
       (.brownOutWarningEnd mv dur stable) s (fun d => d.sticky 56 = true ∧ d.path =
       { s.b.d.path with vpreMv := mv, warning := false, warnings := satInc 16 s.b.d.path.warnings }) = true) ∧
    (let s := dev fun d => { d with
         path.ship := .committing, path.holdSeen := true, path.holdMv := 12000, path.holdReady := true }
     s.b.d.power.coreOn = true ∧ s.b.d.path.ship = .committing ∧ s.b.d.commitsDone = true ∧ s.b.d.shipCommitAdmitted entryUs
       = true ∧ yields .shipPointOfNoReturn s (fun d => d.path.ship = .pastReturn) = true) ∧
    (let s := dev fun d => { d with path.ship := .pastReturn }
     s.b.d.power.coreOn = true ∧ s.b.d.path.ship = .pastReturn ∧ s.b.d.path.dcinValid = false ∧ yieldsBody
       .shipEntryComplete s (fun b => b.hw = { s.b.hw with shipHold := true, stateBeforeShip := s.b.d.power.code } ∧ b.host
       = s.b.host ∧ b.d.power.state = .ship ∧ b.d.power.coreOn = false ∧ b.d.path.dPair = .off ∧ b.d.path.bPair = .off ∧ (∀
       x, b.d.branchOn x = false) ∧ b.d.otp.words = s.b.d.otp.words ∧ b.d.nv.log = s.b.d.nv.log ∧ b.d.recs = s.b.d.recs) =
       true) ∧
    (let s := dev fun d => { d with path.ship := .pastReturn, path.dcinValid := true }
     s.b.d.power.coreOn = true ∧ s.b.d.path.ship = .pastReturn ∧ s.b.d.path.dcinValid = true ∧ s.b.hw.thermalLatch = false ∧
       s.b.hw.powered = true ∧ yieldsBody .shipEntryComplete s (fun b => b.hw =
       { s.b.hw with shipHold := false, stateBeforeShip := s.b.d.power.code, wakeTick := s.b.hw.counter } ∧ b.host =
       s.b.host ∧ b.d.power.state = .ship ∧ b.d.power.coreOn = false ∧ b.d.power.wakeSource = 2) = true) := by
  refine ⟨?_, ?_, ?_, ?_, ?_, ?_, ?_, ?_, ?_, ?_, ?_⟩ <;> decide +kernel

theorem witness_PhaseLoss :
    (let s := dev railDev
     let p : Phase := 0
     let c : LossCause := .repeatedLimit 16
     s.b.d.power.coreOn = true ∧ lossReason c ≠ 0 ∧ s.b.d.canLose p c = true ∧ yields (.phaseLoss p c) s (fun d => d.sticky
       p.val = true ∧ d.grove.ph[p].role = .retired ∧ d.grove.ph[p].reason = lossReason c ∧ d.grove.ph[p].roleTime =
       s.b.hw.counter ∧ d.grove.retirements = satInc 32 s.b.d.grove.retirements ∧ (∀ q, q ≠ p → d.grove.ph[q] =
       s.b.d.grove.ph[q])) = true) ∧
    (let s := dev railDev
     let p : Phase := 2
     let c : LossCause := .outOfRange 2
     s.b.d.power.coreOn = true ∧ lossReason c ≠ 0 ∧ s.b.d.canLose p c = true ∧ yields (.phaseLoss p c) s (fun d => d.sticky
       p.val = true ∧ d.grove.ph[p].role = .retired ∧ d.grove.ph[p].reason = lossReason c ∧ d.grove.ph[p].roleTime =
       s.b.hw.counter ∧ d.grove.retirements = satInc 32 s.b.d.grove.retirements ∧ (∀ q, q ≠ p → d.grove.ph[q] =
       s.b.d.grove.ph[q])) = true) ∧
    (let s := dev fun d => (railDev d).ph' 0 fun x => { x with fstate := .leaving, leavingRetires := 4 }
     let p : Phase := 0
     let mA := 0
     let cycles := 4
     s.b.d.power.coreOn = true ∧ s.b.d.firingIs p .leaving = true ∧ s.b.d.grove.ph[p].leavingRetires ≠ 0 ∧ (mA * 100 < 5 *
       s.b.d.rating p ∨ 4 ≤ cycles) ∧ yields (.phaseLeavingEnd p mA cycles) s (fun d => d.sticky p.val = true ∧
       d.grove.ph[p].role = .retired ∧ d.grove.ph[p].reason = s.b.d.grove.ph[p].leavingRetires ∧ (∀ q, q ≠ p → d.grove.ph[q]
       = s.b.d.grove.ph[q])) = true) := by
  refine ⟨?_, ?_, ?_⟩ <;> decide +kernel

theorem witness_Placement :
    (let s := dev fun d => (railDev d).pl' 0 fun x => { x with insertion := some ⟨2, none, none, 0, false⟩ }
     let r : Rail := 0
     let i : Insertion := ⟨2, none, none, 0, false⟩
     s.b.d.power.coreOn = true ∧ ∃ h : i.phase < 20, s.b.d.grove.rail[r].pl.insertion = some i ∧ i.begun = false ∧
       s.b.d.roleIs ⟨i.phase, h⟩ .sapling = true ∧ s.b.d.ofRail r ⟨i.phase, h⟩ = true ∧ s.b.d.insertionDeferred r = false ∧
       yields (.saplingInsertion r) s (fun d => KeepsPower s d ∧ d.grove.ph[i.phase].role = .available ∧
       d.grove.ph[i.phase].fstate = .ramping ∧ d.grove.ph[i.phase].roleTime = s.b.hw.counter ∧ d.grove.insertions = satInc
       32 s.b.d.grove.insertions) = true) ∧
    (let s := dev fun d => ((railDev d).setLive 0x2234 1 1).rail' 0 fun x =>
       { x with pl := { x.pl with owed := [⟨some 0, none, none, 0, false⟩] } }
     let r : Rail := 0
     let o : Owed := ⟨some 0, none, none, 0, false⟩
     let p : Phase := 2
     s.b.d.power.coreOn = true ∧ s.b.d.grove.rail[r].pl.insertion = none ∧ s.b.d.nextInsertion r = some o ∧ s.b.d.saplingFor
       r o = some p ∧ s.b.d.grove.rail[r].mode ≠ .off ∧ s.b.d.insertionDeferred r = false ∧ yields (.saplingInsertion r) s
       (fun d => KeepsPower s d ∧ d.grove.ph[p].role = .available ∧ d.grove.ph[p].fstate = .ramping ∧
       d.grove.rail[r].pl.insertion = some ⟨p.val, o.replaces, o.retiring, o.retireReason, true⟩) = true) ∧
    (let s := dev fun d => (railDev d).pl' 0 fun x => { x with insertion := some ⟨2, none, none, 0, true⟩ }
     let r : Rail := 0
     let i : Insertion := ⟨2, none, none, 0, true⟩
     s.b.d.power.coreOn = true ∧ s.b.d.grove.rail[r].pl.insertion = some i ∧ i.begun = true ∧ yields (.insertionRampComplete
       r) s (fun d => d.grove.rail[r].pl.insertion = none) = true) ∧
    (let s := dev fun d => ((railDev d).ph' 2 fun x => { x with role := .available, fstate := .ramping }).rail' 0 fun x =>
       { x with pl := { x.pl with order := [0, 1, 2], insertion := some ⟨2, none, none, 0, true⟩ } }
     let r : Rail := 0
     let i : Insertion := ⟨2, none, none, 0, true⟩
     s.b.d.power.coreOn = true ∧ ∃ h : i.phase < 20, s.b.d.grove.rail[r].pl.insertion = some i ∧ i.begun = true ∧ i.retiring
       = none ∧ s.b.d.firingIs ⟨i.phase, h⟩ .ramping = true ∧ (∀ q : Phase, s.b.d.grove.ph[q].leavingRetires = 0) ∧ yields
       (.insertionRampComplete r) s (fun d => d.grove.rail[r].pl.insertion = none ∧ d.grove.ph[i.phase].fstate = .firing ∧
       d.grove.ph[i.phase].trim = 0) = true) ∧
    (let s := dev fun d => (railDev d).ph' 0 fun x => { x with fstate := .leaving }
     let p : Phase := 0
     let mA := 0
     let cycles := 4
     s.b.d.power.coreOn = true ∧ s.b.d.firingIs p .leaving = true ∧ s.b.d.grove.ph[p].leavingRetires = 0 ∧ (mA * 100 < 5 *
       s.b.d.rating p ∨ 4 ≤ cycles) ∧ yields (.phaseLeavingEnd p mA cycles) s (fun d => d.grove.ph[p].fstate = .shed ∧
       d.grove.ph[p].role = .available ∧ (∀ q, q ≠ p → d.grove.ph[q] = s.b.d.grove.ph[q])) = true) ∧
    (let s := dev fun d => (railDev d).ph' 0 fun x => { x with fstate := .leaving }
     let p : Phase := 0
     let mA := 1499
     let cycles := 0
     s.b.d.power.coreOn = true ∧ s.b.d.firingIs p .leaving = true ∧ s.b.d.grove.ph[p].leavingRetires = 0 ∧ (mA * 100 < 5 *
       s.b.d.rating p ∨ 4 ≤ cycles) ∧ yields (.phaseLeavingEnd p mA cycles) s (fun d => d.grove.ph[p].fstate = .shed ∧
       d.grove.ph[p].role = .available ∧ (∀ q, q ≠ p → d.grove.ph[q] = s.b.d.grove.ph[q])) = true) ∧
    (let s := dev railDev
     let r : Rail := 0
     let p : Phase := 1
     let railMA := 29000
     let us := 0
     s.b.d.power.coreOn = true ∧ s.b.d.sheddingSuspended r = false ∧ s.b.d.firstShed r = some p ∧ s.b.d.addCondition r
       railMA = true ∧ yields (.sheddingEvaluation r railMA us) s (fun d => d.grove.ph[p].fstate = .firing ∧
       d.grove.ph[p].trim = 0 ∧ d.grove.rail[r].skip = false ∧ d.grove.rail[r].lp.railMA = railMA ∧ KeepsPower s d ∧ (∀ q, q
       ≠ p → d.grove.ph[q] = s.b.d.grove.ph[q])) = true) ∧
    (let s := dev fun d => (railDev d).ph' 1 fun x => { x with fstate := .firing, stamp := 1 }
     let r : Rail := 0
     let q : Phase := 0
     let railMA : Int := 100
     let us := 10000000
     s.b.d.power.coreOn = true ∧ s.b.d.sheddingSuspended r = false ∧ s.b.d.addCondition r railMA = false ∧ s.b.d.nat 0x2233
       (r.val + 1) < (s.b.d.firingOf r).length ∧ s.b.d.nat 0x2230 1 * 1000 ≤ us ∧ s.b.d.longest (s.b.d.firingOf r) = some q
       ∧ railMA * 10000 < (s.b.d.nat 0x2232 (r.val + 1) * s.b.d.ratingSum ((s.b.d.firingOf r).filter (· ≠ q)) : Nat) ∧
       yields (.sheddingEvaluation r railMA us) s (fun d => d.grove.ph[q].fstate = .leaving ∧ d.grove.rail[r].lp.railMA =
       railMA ∧ KeepsPower s d ∧ (∀ x, x ≠ q → d.grove.ph[x] = s.b.d.grove.ph[x])) = true) ∧
    (let s := dev fun d => (railDev d).setLive 0x2230 2 10
     let r : Rail := 0
     let p : Phase := 1
     let ms := 10
     s.b.d.power.coreOn = true ∧ s.b.d.nat 0x2230 2 ≠ 0 ∧ s.b.d.nat 0x2230 2 ≤ ms ∧ s.b.d.rotationWaits r = false ∧
       s.b.d.longest (s.b.d.shedOf r) = some p ∧ yields (.shedSetRotation r ms) s (fun d => d.grove.ph[p].fstate = .firing ∧
       d.grove.ph[p].trim = 0 ∧ d.grove.rail[r].pl.rotating = some p.val ∧ (∀ q, q ≠ p → d.grove.ph[q] = s.b.d.grove.ph[q]))
       = true) ∧
    (let s := dev fun d => ((railDev d).pl' 0 fun x => { x with rotating := some 1 }).ph' 1 fun x =>
       { x with fstate := .firing }
     let r : Rail := 0
     let p : Phase := 0
     let n := 1
     let cycles := 16
     s.b.d.power.coreOn = true ∧ s.b.d.grove.rail[r].pl.rotating = some n ∧ 16 ≤ cycles ∧ s.b.d.sheddingSuspended r = false
       ∧ s.b.d.longest ((s.b.d.firingOf r).filter fun p => p.val ≠ n) = some p ∧ yields (.shedSetRotationShed r cycles) s
       (fun d => d.grove.ph[p].fstate = .leaving ∧ d.grove.rail[r].pl.rotating = none ∧ (∀ q, q ≠ p → d.grove.ph[q] =
       s.b.d.grove.ph[q])) = true) ∧
    (let s := dev railDev
     let r : Rail := 0
     let p : Phase := 0
     let railMA : Int := 900
     let samples : List Sample := []
     let uv : List Nat := [1300000]
     let i : Int := (s.b.d.readingMA ⟨p, uv⟩).getLast?.getD 0
     s.b.d.power.coreOn = true ∧ s.b.d.ofRail r p = true ∧ (s.b.d.readingMA ⟨p, uv⟩).getLast? = some i ∧ yields
       (.balanceUpdate r railMA samples [⟨p, uv⟩]) s (fun d => d.grove.ph[p].currentMA = i) = true) ∧
    (let s := dev railDev
     let r : Rail := 0
     let railMA : Int := 900
     let readings : List PhaseReading := [⟨0, [1300000]⟩]
     s.b.d.power.coreOn = true ∧ s.b.d.balanceEnabled r railMA = false ∧ yields (.balanceUpdate r railMA [] readings) s (fun
       d => ∀ q : Phase, d.grove.ph[q].trim = s.b.d.grove.ph[q].trim) = true) ∧
    (let s := dev fun d => ((railDev d).ph' 1 fun x => { x with fstate := .firing, stamp := 1 }).rail' 0 fun x =>
       { x with lp := { x.lp with u := 20000 } }
     let r : Rail := 0
     let railMA : Int := 20000
     let readings : List PhaseReading := [⟨0, [1300000]⟩, ⟨1, [1200000]⟩]
     s.b.d.power.coreOn = true ∧ s.b.d.balanceEnabled r railMA = true ∧ yields (.balanceUpdate r railMA [] readings) s (fun
       d => ∀ q : Phase, d.grove.ph[q].trim = s.b.d.grove.ph[q].trim ∨ (s.b.d.firingIs q .firing = true ∧ s.b.d.ofRail r q =
       true ∧ d.grove.ph[q].trim.natAbs ≤ s.b.d.trimMax s.b.d.grove.rail[r].lp.u ∧ (s.b.d.minHighTaps : Int) ≤
       s.b.d.grove.rail[r].lp.u + d.grove.ph[q].trim)) = true) ∧
    (let s := dev fun d => (railDev d).ph' 0 fun x => { x with effortSum := 10, effortNo := 2, hits := 3, m2 := 10000 }
     let m : HealthMeas := ⟨0, [], []⟩
     s.b.d.power.coreOn = true ∧ s.b.d.grove.ph[m.phase].markReason = 0 ∧ 1 ≤ s.b.d.nat 0x2234 5 ∧ (∀ k : Fin 4,
       (s.b.d.updateMetrics m).beyond m.phase k false = false ∧ (s.b.d.updateMetrics m).beyond m.phase k true = false) ∧
       yields (.healthEvaluation [m]) s (fun d => d.grove.ph[m.phase].role = s.b.d.grove.ph[m.phase].role ∧
       d.grove.ph[m.phase].m1 = (if s.b.d.grove.ph[m.phase].effortNo = 0 then s.b.d.grove.ph[m.phase].m1 else
       s.b.d.grove.ph[m.phase].effortSum / s.b.d.grove.ph[m.phase].effortNo) ∧ (s.b.d.hitQualifies m.phase = true →
       d.grove.ph[m.phase].m4 = min 0xFFFF s.b.d.grove.ph[m.phase].hits) ∧ (∀ q, q ≠ m.phase → d.grove.ph[q] =
       s.b.d.grove.ph[q])) = true) ∧
    (let s := dev fun d => ((railDev d).setLive 0x2234 5 1).ph' 2 fun x => { x with beyond := [0, 0, 0, 0], m3 := 30000 }
     let m : HealthMeas := ⟨2, [], []⟩
     s.b.d.power.coreOn = true ∧ s.b.d.roleIs m.phase .sapling = true ∧ s.b.d.grove.ph[m.phase].markReason = 0 ∧
       (s.b.d.updateMetrics m).beyond m.phase 2 true = true ∧ s.b.d.nat 0x2234 5 ≤ s.b.d.grove.ph[m.phase].beyond.getD 2 0 +
       1 ∧ 2 < s.b.d.grove.ph[m.phase].beyond.length ∧ yields (.healthEvaluation [m]) s (fun d => d.grove.ph[m.phase].role =
       .retired ∧ d.grove.ph[m.phase].reason = 0x13 ∧ d.sticky m.phase.val = true) = true) := by
  refine ⟨?_, ?_, ?_, ?_, ?_, ?_, ?_, ?_, ?_, ?_, ?_, ?_, ?_, ?_, ?_⟩ <;> decide +kernel

theorem witness_Samples :
    (let s := dev railDev
     let r : Rail := 0
     let l := [smp 1000 990000, smp 1000 1001000]
     s.b.d.power.coreOn = true ∧ yields (.grSlewComplete r l) s (fun d => ∀ q, q ≠ r → d.grove.rail[q].mode =
       s.b.d.grove.rail[q].mode ∧ d.grove.rail[q].lp = s.b.d.grove.rail[q].lp) = true) ∧
    (let s := dev railDev
     let r : Rail := 0
     s.b.d.power.coreOn = true ∧ yields (.grSlewComplete r []) s (fun d => alike d s.b.d) = true) ∧
    (let s := dev (railIs .off)
     let r : Rail := 0
     let x := s.b.d.grove.rail[r]
     let l := [smp 1000 990000]
     s.b.d.power.coreOn = true ∧ x.mode = .off ∧ yields (.grSlewComplete r l) s (fun d => alike d s.b.d) = true) ∧
    (let s := dev railDev
     let r : Rail := 0
     let x := s.b.d.grove.rail[r]
     let y : Sample := smp 1000 990000
     let raw : Int := divRoundInt ((s.b.d.grove.rail[r].lp.vref * 250 : Nat) - y.vdiffUv) (s.b.d.lsbUv r)
     s.b.d.power.coreOn = true ∧ x.mode = .regulating ∧ x.forecast = false ∧ x.lp.vref = x.lp.target ∧ y.check = none ∧
       x.localSense = false ∧ raw = divRoundInt ((x.lp.vref * 250 : Nat) - y.vdiffUv) (s.b.d.lsbUv r) ∧ yields
       (.grSlewComplete r [y]) s (fun d => d.grove.rail[r].lp.vref = x.lp.vref ∧ d.grove.rail[r].lp.ePrev = clampInt (-256)
       255 raw ∧ d.grove.rail[r].lp.eow = (decide (raw < -256) || decide (255 < raw)) ∧ d.grove.rail[r].lp.excursions = (if
       raw < -256 ∨ 255 < raw then satInc 32 x.lp.excursions else x.lp.excursions) ∧ d.grove.rail[r].mode = .regulating) =
       true) ∧
    (let s := dev railDev
     let r : Rail := 0
     let x := s.b.d.grove.rail[r]
     let y : Sample := smp 1000 500000
     let raw : Int := divRoundInt ((s.b.d.grove.rail[r].lp.vref * 250 : Nat) - y.vdiffUv) (s.b.d.lsbUv r)
     s.b.d.power.coreOn = true ∧ x.mode = .regulating ∧ x.forecast = false ∧ x.lp.vref = x.lp.target ∧ y.check = none ∧
       x.localSense = false ∧ raw = divRoundInt ((x.lp.vref * 250 : Nat) - y.vdiffUv) (s.b.d.lsbUv r) ∧ yields
       (.grSlewComplete r [y]) s (fun d => d.grove.rail[r].lp.vref = x.lp.vref ∧ d.grove.rail[r].lp.ePrev = clampInt (-256)
       255 raw ∧ d.grove.rail[r].lp.eow = (decide (raw < -256) || decide (255 < raw)) ∧ d.grove.rail[r].lp.excursions = (if
       raw < -256 ∨ 255 < raw then satInc 32 x.lp.excursions else x.lp.excursions) ∧ d.grove.rail[r].mode = .regulating) =
       true) ∧
    (let s := dev fun d => ((railDev d).setLive 0x2200 4 1).lp' 0 fun x => { x with target := 4100 }
     let r : Rail := 0
     let x := s.b.d.grove.rail[r]
     let y : Sample := smp 1000 1000000
     s.b.d.power.coreOn = true ∧ x.mode = .regulating ∧ x.forecast = false ∧ x.lp.vref ≠ x.lp.target ∧ s.b.d.ratio r ≠ 0 ∧
       yields (.grSlewComplete r [y]) s (fun d => d.grove.rail[r].lp.target = x.lp.target ∧ d.grove.rail[r].lp.vref =
       moveToward x.lp.vref x.lp.target ((x.lp.rampAcc + 25 * y.gap * s.b.d.gr r 7) / (24 * (s.b.d.ratio r * 250)))) = true) ∧
    (let s := dev railDev
     let r : Rail := 0
     let x := s.b.d.grove.rail[r]
     let y : Sample := smp 1000 900000
     s.b.d.power.coreOn = true ∧ x.mode ≠ .off ∧ x.brake = false ∧ yields (.grSlewComplete r [y]) s (fun _ => True) = true) := by
  refine ⟨?_, ?_, ?_, ?_, ?_, ?_, ?_⟩ <;> decide +kernel

theorem witness_RailTrips :
    (let s := dev (railIs .softStart)
     let r : Rail := 0
     let l : List Sample := []
     let us := 100000
     s.b.d.power.coreOn = true ∧ (sampled s r l).grove.rail[r].mode = .softStart ∧ (sampled s r l).grove.rail[r].lp.vref =
       (sampled s r l).grove.rail[r].lp.target ∧ s.b.d.gr r 0x21 ≤ us ∧ yields (.startSettleTimeout r l us) s (fun d =>
       RailTripped d r 7 s.b.hw.counter) = true) ∧
    (let s := dev fun d => (railIs .softStart d).lp' 0 fun x => { x with target := 4004, rampNum := 1, rampDen := 1 }
     let r : Rail := 0
     let l := [smp 1000 1000000]
     let us := 100000
     s.b.d.power.coreOn = true ∧ (sampled s r l).grove.rail[r].mode = .softStart ∧ (sampled s r l).grove.rail[r].lp.vref =
       (sampled s r l).grove.rail[r].lp.target ∧ s.b.d.gr r 0x21 ≤ us ∧ yields (.startSettleTimeout r l us) s (fun d =>
       RailTripped d r 7 s.b.hw.counter) = true) ∧
    (let s := dev fun d => (railIs .softStart d).lp' 0 fun x => { x with track := some 18200 }
     let r : Rail := 0
     let l := [smp 1000 800000]
     let n := 19200
     s.b.d.power.coreOn = true ∧ (sampled s r l).grove.rail[r].mode = .softStart ∧ (sampled s r l).grove.rail[r].lp.track =
       some n ∧ 19200 ≤ n ∧ yields (.shortInSoftStart r l true) s (fun d => RailTripped d r 6 s.b.hw.counter) = true) ∧
    (let s := dev fun d => (railDev d).rail' 0 fun x => { x with localSense := true }
     let r : Rail := 0
     let x := s.b.d.grove.rail[r]
     let move := 101
     s.b.d.power.coreOn = true ∧ x.localSense = true ∧ x.mode ≠ .off ∧ 100 < move ∧ yields (.localSenseCheck r move) s (fun
       d => RailTripped d r 0x0B s.b.hw.counter) = true) ∧
    (let s := dev railDev
     let r : Rail := 0
     let x := s.b.d.grove.rail[r]
     let uv := 1300000
     let ns := 2000
     s.b.d.power.coreOn = true ∧ x.mode ≠ .off ∧ (10000 + s.b.d.gr r 0x27) * x.vHi * 250 < uv * 10000 ∧ s.b.d.gr r 0x28 ≤ ns
       ∧ yields (.railOverVoltage r uv ns) s (fun d => RailTripped d r 2 s.b.hw.counter) = true) ∧
    (let s := dev fun d => (railDev d).rail' 0 fun x => { x with uvArmed := true }
     let r : Rail := 0
     let x := s.b.d.grove.rail[r]
     let uv := 500000
     let us := 2000
     s.b.d.power.coreOn = true ∧ x.mode = .regulating ∧ x.uvArmed = true ∧ uv * 10000 < (10000 - s.b.d.gr r 0x29) *
       x.lp.vref * 250 ∧ s.b.d.gr r 0x2A ≤ us ∧ yields (.railUnderVoltage r uv us) s (fun d => RailTripped d r 3
       s.b.hw.counter) = true) ∧
    (let s := dev railDev
     let r : Rail := 0
     let x := s.b.d.grove.rail[r]
     let mA : Int := 100000
     let us := 10000
     s.b.d.power.coreOn = true ∧ x.mode ≠ .off ∧ ((s.b.d.gr r 0x2B * s.b.d.ratingSum (s.b.d.availableOf r) : Nat) : Int) <
       mA * 10000 ∧ s.b.d.gr r 0x2C ≤ us ∧ yields (.railOverCurrent r mA us) s (fun d => RailTripped d r 4 s.b.hw.counter) =
       true) ∧
    (let s := dev railDev
     let r : Rail := 0
     let ns := 2000
     let reports : List (Phase × Nat) := [(1, 1000)]
     s.b.d.power.coreOn = true ∧ 2000 ≤ ns ∧ reports.any ((reports.foldl Dev.faultFallen s.b.d).explains r) = false ∧ yields
       (.railStageFault r ns reports) s (fun d => RailTripped d r 5 s.b.hw.counter) = true) ∧
    (let s := dev fun d => (railDev d).setLive 0x2200 0x3A 2
     let r : Rail := 0
     let x := s.b.d.grove.rail[r]
     let diff := 50001
     let us := 50
     s.b.d.power.coreOn = true ∧ s.b.d.senseChecked r = true ∧ s.b.d.gr r 0x3A = 2 ∧ x.lp.vref * 250 < diff * 20 ∧ 50 ≤ us ∧
       yields (.senseMismatch r diff us) s (fun d => RailTripped d r 0x0A s.b.hw.counter) = true) := by
  refine ⟨?_, ?_, ?_, ?_, ?_, ?_, ?_, ?_, ?_⟩ <;> decide +kernel

theorem witness_SenseLoss :
    (let s := dev fun d => (railDev d).setLive 0x2200 0x3A 1
     let r : Rail := 0
     let diff := 50001
     let us := 50
     s.b.d.power.coreOn = true ∧ s.b.d.senseChecked r = true ∧ s.b.d.gr r 0x3A ≠ 2 ∧ s.b.d.grove.rail[r].lp.vref * 250 <
       diff * 20 ∧ 50 ≤ us ∧ yields (.senseMismatch r diff us) s (fun d => d.grove.rail[r].localSense = true ∧
       d.grove.rail[r].reason = 9 ∧ d.sticky (20 + r.val) = true) = true) ∧
    (let s := dev fun d => ((railDev d).setLive 0x2200 0x3A 1).rail' 0 fun x => { x with gsP := 1 }
     let r : Rail := 0
     let move := 101
     s.b.d.power.coreOn = true ∧ s.b.d.senseChecked r = true ∧ s.b.d.gr r 0x3A ≠ 2 ∧ 100 < move ∧ 1 ≤
       s.b.d.grove.rail[r].gsP ∧ yields (.senseCheck r .gsP move) s (fun d => d.grove.rail[r].localSense = true ∧
       d.grove.rail[r].reason = 9 ∧ d.sticky (20 + r.val) = true) = true) ∧
    (let s := dev fun d => ((railDev d).setLive 0x2200 0x3A 1).rail' 0 fun x => { x with gsN := 1 }
     let r : Rail := 0
     let move := 101
     s.b.d.power.coreOn = true ∧ s.b.d.senseChecked r = true ∧ s.b.d.gr r 0x3A ≠ 2 ∧ 100 < move ∧ 1 ≤
       s.b.d.grove.rail[r].gsN ∧ yields (.senseCheck r .gsN move) s (fun d => d.grove.rail[r].localSense = true ∧
       d.grove.rail[r].reason = 9 ∧ d.sticky (20 + r.val) = true) = true) ∧
    (let s := dev fun d => (railDev d).setLive 0x2200 0x3A 1
     let r : Rail := 0
     let move := 100
     s.b.d.power.coreOn = true ∧ s.b.d.senseChecked r = true ∧ s.b.d.gr r 0x3A ≠ 2 ∧ move ≤ 100 ∧ s.b.d.grove.rail[r].gsN ≤
       1 ∧ yields (.senseCheck r .gsP move) s (fun d => alike d (s.b.d.rail' r fun x => { x with gsP := 0 })) = true) := by
  refine ⟨?_, ?_, ?_, ?_⟩ <;> decide +kernel

theorem witness_RailMoves :
    (let s := dev fun d => (railIs .softStart d).lp' 0 fun x => { x with inBand := true }
     let r : Rail := 0
     let l : List Sample := []
     s.b.d.power.coreOn = true ∧ (sampled s r l).grove.rail[r].mode = .softStart ∧ (sampled s r l).grove.rail[r].lp.inBand =
       true ∧ (sampled s r l).grove.rail[r].lp.vref = (sampled s r l).grove.rail[r].lp.target ∧ yields (.softStartComplete r
       l) s (fun d => d.grove.rail[r].mode = .regulating ∧ d.grove.rail[r].uvArmed = true ∧ d.grove.rail[r].negZero = false
       ∧ d.grove.rail[r].lp.vref = d.grove.rail[r].lp.target) = true) ∧
    (let s := dev fun d => (railIs .softStop d).lp' 0 fun x => { x with vref := 400 }
     let r : Rail := 0
     let l : List Sample := []
     s.b.d.power.coreOn = true ∧ (sampled s r l).grove.rail[r].mode = .softStop ∧ ((sampled s r l).grove.rail[r].lp.vref *
       10 ≤ (sampled s r l).grove.rail[r].lp.target ∨ 4 ≤ (sampled s r l).grove.rail[r].lp.atMin) ∧ yields (.softStopEnd r
       l) s (fun d => d.grove.rail[r].mode = .off ∧ d.grove.rail[r].lp.vref = 0 ∧ d.grove.rail[r].lp.i = 0) = true) ∧
    (let s := dev fun d => (railIs .softStop d).lp' 0 fun x => { x with atMin := 4 }
     let r : Rail := 0
     let l : List Sample := []
     s.b.d.power.coreOn = true ∧ (sampled s r l).grove.rail[r].mode = .softStop ∧ ((sampled s r l).grove.rail[r].lp.vref *
       10 ≤ (sampled s r l).grove.rail[r].lp.target ∨ 4 ≤ (sampled s r l).grove.rail[r].lp.atMin) ∧ yields (.softStopEnd r
       l) s (fun d => d.grove.rail[r].mode = .off ∧ d.grove.rail[r].lp.vref = 0 ∧ d.grove.rail[r].lp.i = 0) = true) := by
  refine ⟨?_, ?_, ?_⟩ <;> decide +kernel

theorem witness_Transients :
    (let s := dev fun d => ((railDev d).setLive 0x2200 0x2D 0x80).setLive 0x2200 0x2E 10
     let r : Rail := 0
     let l := [smp 1000 980000, smp 1000 980000]
     let passed := false
     s.b.d.power.coreOn = true ∧ (sampled s r l).grove.rail[r].mode = .regulating ∧ (sampled s r l).stepTrigger r = true ∧
       yields (.stepFire r l passed) s (fun d => d.grove.rail[r].hold = true ∧ d.grove.rail[r].skip = false ∧ ((sampled s r
       l).grove.rail[r].hold = false ∨ passed = true → (sampled s r l).grove.rail[r].brake = false → d.grove.rail[r].fired =
       ((sampled s r l).fireOrder r).map fun p => p.val)) = true) ∧
    (let s := dev fun d => (railDev d).rail' 0 fun x => { x with hold := true }
     let r : Rail := 0
     let x := s.b.d.grove.rail[r]
     let us := 100000
     s.b.d.power.coreOn = true ∧ x.hold = true ∧ x.forecast = false ∧ s.b.d.gr r 0x31 ≤ us ∧ yields (.stepHoldEnd r us) s
       (fun d => d.grove.rail[r].hold = false ∧ ((∀ q : Phase, s.b.d.grove.ph[q].leavingRetires = 0) → d = s.b.d.rail' r fun
       x => { x with hold := false })) = true) ∧
    (let s := dev fun d => (railDev d).setLive 0x2200 0x2D 0x01
     let r : Rail := 0
     let x := s.b.d.grove.rail[r]
     let i : Fin 4 := 0
     let n := 3
     let passed := true
     s.b.d.power.coreOn = true ∧ 3 ≤ n ∧ x.mode = .regulating ∧ (s.b.d.lsfMask r).testBit i.val = true ∧ x.fcIgnored.testBit
       i.val = false ∧ x.forecast = false ∧ yields (.forecastStart r i n passed) s (fun d => d.grove.rail[r].forecast = true
       ∧ d.grove.rail[r].hold = true ∧ d.grove.rail[r].fcOff = s.b.d.gr r 0x33 ∧ d.grove.lsf = s.b.d.grove.lsf ||| 2 ^
       i.val) = true) ∧
    (let s := dev fun d => (railDev d).rail' 0 fun x => { x with fcPulse := true }
     let r : Rail := 0
     let x := s.b.d.grove.rail[r]
     let ns := 1000000
     s.b.d.power.coreOn = true ∧ x.fcPulse = true ∧ s.b.d.gr r 0x32 ≤ ns ∧ yields (.forecastPulse r ns false) s (fun d =>
       d.grove.rail[r].fcPulse = false ∧ d.grove.rail[r].hold = true ∧ (x.brake = false → d.grove.rail[r].fired =
       (s.b.d.fireOrder r).map fun p => p.val)) = true) ∧
    (let s := dev fun d => (railDev d).rail' 0 fun x => { x with fcPulse := true }
     let r : Rail := 0
     let x := s.b.d.grove.rail[r]
     let ns := 1000000
     s.b.d.power.coreOn = true ∧ x.fcPulse = true ∧ s.b.d.gr r 0x32 ≤ ns ∧ yields (.forecastPulse r ns true) s (fun d =>
       alike d (s.b.d.rail' r fun x => { x with fcPulse := false })) = true) ∧
    (let s := dev fun d => ((railDev d).setLive 0x2200 0x2D 0x01).rail' 0 fun x => { x with forecast := true }
     let r : Rail := 0
     let levels : Fin 16 := 2
     s.b.d.power.coreOn = true ∧ levels.val &&& s.b.d.lsfMask r = 0 ∧ yields (.forecastEnd r levels) s (fun d =>
       d.grove.rail[r].forecast = false ∧ d.grove.rail[r].fcStuck = false ∧ d.grove.lsf = levels.val) = true) ∧
    (let s := dev fun d => ((railDev d).setLive 0x2200 0x2D 0x01).rail' 0 fun x => { x with forecast := true }
     let r : Rail := 0
     let x := s.b.d.grove.rail[r]
     let us := 10001
     s.b.d.power.coreOn = true ∧ x.forecast = true ∧ 10000 < us ∧ yields (.forecastStuck r us) s (fun d =>
       d.grove.rail[r].forecast = false ∧ d.grove.rail[r].fcStuck = true ∧ d.grove.rail[r].fcIgnored = s.b.d.grove.lsf &&&
       s.b.d.lsfMask r) = true) ∧
    (let s := dev fun d => (railDev d).setLive 0x2200 0x34 20
     let r : Rail := 0
     let l := [smp 1000 1050000]
     let passed := true
     s.b.d.power.coreOn = true ∧ (sampled s r l).grove.rail[r].mode = .regulating ∧ s.b.d.gr r 0x34 ≠ 0 ∧ (sampled s r
       l).grove.rail[r].brake = false ∧ (sampled s r l).grove.rail[r].brakeRest = false ∧ (sampled s r l).brakeTrigger r =
       true ∧ yields (.brakingStart r l passed) s (fun d => d.grove.rail[r].brake = true ∧ d.grove.rail[r].counts = bump32
       (sampled s r l).grove.rail[r].counts 3 ∧ (∀ p : Phase, p ∈ (sampled s r l).firingOf r → d.grove.ph[p].high = 0)) =
       true) ∧
    (let s := dev fun d => (railDev d).rail' 0 fun x => { x with brake := true }
     let r : Rail := 0
     let l := [smp 1000 1000000]
     let k := s.b.d.judged 0 (smp 1000 1000000)
     s.b.d.power.coreOn = true ∧ (sampled s r l).grove.rail[r].brake = true ∧ (sampled s r l).grove.rail[r].lp.newest = some
       k ∧ -(s.b.d.gr r 0x35 : Int) ≤ k.e ∧ yields (.brakingEnd r l) s (fun d => d.grove.rail[r].brake = false ∧
       d.grove.rail[r].brakeRest = true) = true) ∧
    (let s := dev fun d => (railDev d).rail' 0 fun x => { x with brake := true }
     let r : Rail := 0
     let x := s.b.d.grove.rail[r]
     let us := 1000
     s.b.d.power.coreOn = true ∧ x.brake = true ∧ s.b.d.gr r 0x36 ≤ us ∧ yields (.brakeTimeout r us) s (fun d =>
       d.grove.rail[r].brake = false ∧ d.grove.rail[r].counts = bump32 x.counts 4) = true) ∧
    (let s := dev fun d => ((railDev d).setLive 0x2200 0x37 1).lp' 0 fun x => { x with below := 1000 }
     let r : Rail := 0
     let l : List Sample := []
     s.b.d.power.coreOn = true ∧ s.b.d.flag (0x2200 + r.val) 0x37 = true ∧ (sampled s r l).grove.rail[r].mode = .regulating
       ∧ (sampled s r l).grove.rail[r].skip = false ∧ ((sampled s r l).firingOf r).length = s.b.d.nat 0x2233 (r.val + 1) ∧
       (sampled s r l).grove.rail[r].hold = false ∧ (sampled s r l).grove.rail[r].forecast = false ∧ (sampled s r
       l).grove.rail[r].brake = false ∧ s.b.d.gr r 0x38 ≤ (sampled s r l).grove.rail[r].lp.below ∧ yields
       (.pulseSkippingEntry r l) s (fun d => d.grove.rail[r].skip = true ∧ d.grove.rail[r].negZero = true ∧
       d.grove.rail[r].counts = bump32 (sampled s r l).grove.rail[r].counts 5) = true) ∧
    (let s := dev fun d => (railDev d).rail' 0 fun x => { x with skip := true }
     let r : Rail := 0
     let l := [smp 1000 900000]
     let mA : Int := 10
     s.b.d.power.coreOn = true ∧ (sampled s r l).grove.rail[r].skip = true ∧ (sampled s r l).skipOver r mA = true ∧ yields
       (.pulseSkippingExit r l mA) s (fun d => d.grove.rail[r].skip = false ∧ d.grove.rail[r].negZero = false) = true) := by
  refine ⟨?_, ?_, ?_, ?_, ?_, ?_, ?_, ?_, ?_, ?_, ?_, ?_⟩ <;> decide +kernel

theorem witness_CurrentLimits :
    (let s := dev railDev
     let p : Phase := 0
     let mA := 60000
     let n := 16
     s.b.d.power.coreOn = true ∧ s.b.d.driven p = true ∧ 16 ≤ n ∧ s.b.d.gr (s.b.d.phaseRail p) 0x25 * s.b.d.rating p ≤ mA *
       10000 ∧ yields (.phaseCurrentLimit p mA n) s (fun d => alike d ((s.b.d.rail' (s.b.d.phaseRail p) fun x =>
       { x with counts := bump32 x.counts 6 }).ph' p fun x =>
       { x with high := min x.high (32 * n), hits := x.hits + ofBool (s.b.d.hitQualifies p) })) = true) ∧
    (let s := dev railDev
     let p : Phase := 0
     let mA : Int := -60000
     s.b.d.power.coreOn = true ∧ s.b.d.driven p = true ∧ mA * 10000 ≤ (if s.b.d.grove.rail[s.b.d.phaseRail p].negZero then 0
       else -((s.b.d.gr (s.b.d.phaseRail p) 0x26 * s.b.d.rating p : Nat) : Int)) ∧ yields (.negativeCurrentLimit p mA) s
       (fun d => alike d ((s.b.d.rail' (s.b.d.phaseRail p) fun x => { x with counts := bump32 x.counts 7 }).ph' p fun x =>
       { x with lowEnded := true })) = true) := by
  refine ⟨?_, ?_⟩ <;> decide +kernel

theorem witness_Tuning :
    (let s := dev fun d => ((railDev d).setLive 0x2238 1 1).lp' 0 fun x => { x with inBand := true }
     let r : Rail := 0
     let turn : List TuneCand := [⟨0, 100000, 100000, 100000, 100000⟩]
     let c : TuneCand := ⟨0, 100000, 100000, 100000, 100000⟩
     let railMA : Int := 500
     let trunk := 24000
     s.b.d.power.coreOn = true ∧ s.b.d.nat 0x2238 1 ≠ 0 ∧ s.b.d.grove.run = none ∧ s.b.d.tuningChoice turn = some c ∧ c.rail
       = r ∧ s.b.d.path.warning = false ∧ yields (.tuningRunStart r turn railMA trunk) s (fun d => d.path =
       { s.b.d.path with vsysMv := trunk } ∧ d.grove.run = some ⟨r.val, .tones 0, s.b.d.grove.rail[r].lp.active, railMA,
       trunk, toneHz (s.b.d.targetCrossover r) 0, s.b.d.toneLimitUv r, []⟩ ∧ d.grove.lastRun = r.val ∧ d.grove.runNext =
       s.b.d.grove.runNext.filter (· ≠ r.val) ∧ d.grove.rail[r].lp.tuning = true) = true) ∧
    (let s := dev fun d => (((railDev d).setLive 0x2238 1 1).lp' 0 fun x => { x with inBand := true }).path' fun p =>
       { p with warning := true }
     let r : Rail := 0
     let turn : List TuneCand := [⟨0, 100000, 100000, 100000, 100000⟩]
     let c : TuneCand := ⟨0, 100000, 100000, 100000, 100000⟩
     let railMA : Int := 500
     let trunk := 24000
     s.b.d.power.coreOn = true ∧ s.b.d.nat 0x2238 1 ≠ 0 ∧ s.b.d.grove.run = none ∧ s.b.d.tuningChoice turn = some c ∧ c.rail
       = r ∧ s.b.d.path.warning = true ∧ yields (.tuningRunStart r turn railMA trunk) s (fun d => d.path =
       { s.b.d.path with deferred := s.b.d.path.deferred ++ [.tuning r.val] }) = true) ∧
    (let r : Rail := 0
     let run := tune (.tones 6)
     let s := dev fun d => (railDev d).grove' fun g => { g with run := some (tune (.tones 6)) }
     let n := 6
     let p : Phasors := ⟨1, 2, 3, 4⟩
     s.b.d.power.coreOn = true ∧ s.b.d.runOn r = some run ∧ run.stage = .tones n ∧ n < 7 ∧ yields (.toneEnd r p) s (fun d =>
       d.grove.run.map (·.stage) = some (.tones (n + 1))) = true) ∧
    (let r : Rail := 0
     let run := tune (.tones 7)
     let s := dev fun d => (railDev d).grove' fun g => { g with run := some (tune (.tones 7)) }
     let n := 7
     let p : Phasors := ⟨1, 2, 3, 4⟩
     s.b.d.power.coreOn = true ∧ s.b.d.runOn r = some run ∧ run.stage = .tones n ∧ 7 ≤ n ∧ yields (.toneEnd r p) s (fun d =>
       d.grove = ({ s.b.d.grove with
         run := some { run with stage := .fitting, tones := run.tones ++ [p], toneHz := 0, limitUv := 0 } })) = true) ∧
    (let r : Rail := 0
     let run := tune .fitting
     let s := dev fun d => ((railDev d).setLive 0x2238 1 1).grove' fun g => { g with run := some (tune .fitting) }
     s.b.d.power.coreOn = true ∧ s.b.d.runOn r = some run ∧ run.stage = .fitting ∧ s.b.d.nat 0x2238 1 ≠ 2 ∧ yields
       (.identificationComplete r) s (fun d => RunEnded s d r 1 ∧ d.grove.rail[r].lp.active = s.b.d.grove.rail[r].lp.active)
       = true) ∧
    (let r : Rail := 0
     let run := tune .fitting
     let s := dev fun d => ((railDev d).setLive 0x2238 1 2).grove' fun g => { g with run := some (tune .fitting) }
     s.b.d.power.coreOn = true ∧ s.b.d.runOn r = some run ∧ run.stage = .fitting ∧ s.b.d.nat 0x2238 1 = 2 ∧ yields
       (.identificationComplete r) s (fun _ => True) = true) ∧
    (let r : Rail := 0
     let run := tune .verifying
     let s := dev fun d => (railDev d).grove' fun g => { g with run := some (tune .verifying) }
     let pm : Int := 600
     let hz : Nat := s.b.d.targetCrossover r
     s.b.d.power.coreOn = true ∧ s.b.d.runOn r = some run ∧ run.stage = .verifying ∧ (s.b.d.nat 0x2238 5 : Int) ≤ pm ∧ ((hz
       : Int) - s.b.d.targetCrossover r).natAbs * 4 ≤ s.b.d.targetCrossover r ∧ yields (.verificationComplete r pm hz) s
       (fun d => RunEnded s d r 2 ∧ d.grove.rail[r].lp.active = s.b.d.grove.rail[r].lp.active) = true) ∧
    (let r : Rail := 0
     let run := tune .verifying
     let s := dev fun d => (railDev d).grove' fun g => { g with run := some (tune .verifying) }
     let pm : Int := 0
     let hz : Nat := s.b.d.targetCrossover r
     s.b.d.power.coreOn = true ∧ s.b.d.runOn r = some run ∧ run.stage = .verifying ∧ (pm < (s.b.d.nat 0x2238 5 : Int) ∨
       s.b.d.targetCrossover r < ((hz : Int) - s.b.d.targetCrossover r).natAbs * 4) ∧ yields (.verificationComplete r pm hz)
       s (fun d => RunEnded s d r 0x20 ∧ d.grove.rail[r].lp.active = run.before) = true) ∧
    (let r : Rail := 0
     let run := tune .verifying
     let s := dev fun d => (railDev d).grove' fun g => { g with run := some (tune .verifying) }
     let pm : Int := 900
     let hz : Nat := 2 * s.b.d.targetCrossover r
     s.b.d.power.coreOn = true ∧ s.b.d.runOn r = some run ∧ run.stage = .verifying ∧ (pm < (s.b.d.nat 0x2238 5 : Int) ∨
       s.b.d.targetCrossover r < ((hz : Int) - s.b.d.targetCrossover r).natAbs * 4) ∧ yields (.verificationComplete r pm hz)
       s (fun d => RunEnded s d r 0x20 ∧ d.grove.rail[r].lp.active = run.before) = true) := by
  refine ⟨?_, ?_, ?_, ?_, ?_, ?_, ?_, ?_, ?_⟩ <;> decide +kernel

theorem witness_ChannelMoves :
    (let s := dev fun d => (chanDev d).chan' (.ib 0) fun x => { x with targetMv := 1500 }
     let c : Integrated := .ib 0
     let us := 7
     let x := s.b.d.chan c
     s.b.d.power.coreOn = true ∧ x.on = true ∧ x.sstart = false ∧ x.hiccup = false ∧ x.refMv ≠ x.targetMv ∧ yields
       (.ibLdSlewComplete c us) s (fun d => d.chan c = { x with
         refMv := moveToward x.refMv x.targetMv ((x.rampAcc + us) / 5 * 5), rampAcc := (x.rampAcc + us) % 5 }) = true) ∧
    (let s := dev fun d => (chanDev d).chan' (.ld 0) fun x =>
       { x with sstart := true, refMv := 0, rampNum := 1200, rampDen := 1000 }
     let c : Integrated := .ld 0
     let us := 500
     let x := s.b.d.chan c
     s.b.d.power.coreOn = true ∧ x.on = true ∧ x.sstart = true ∧ x.hiccup = false ∧ x.refMv ≠ x.targetMv ∧ yields
       (.ibLdSlewComplete c us) s (fun d => d.chan c = { x with
         refMv := moveToward x.refMv x.targetMv ((x.rampAcc + us * x.rampNum) / x.rampDen), rampAcc := (x.rampAcc + us *
           x.rampNum) % x.rampDen }) = true) ∧
    (let s := dev fun d => (chanDev d).chan' (.ld 0) fun x => { x with sstart := true }
     let c : Integrated := .ld 0
     let elapsed := 5
     let mv := 1200
     let us := 50
     let x := s.b.d.chan c
     s.b.d.power.coreOn = true ∧ x.on = true ∧ x.sstart = true ∧ near2 mv x.targetMv = true ∧ 50 ≤ us ∧ yields
       (.ibLdSoftStartComplete c elapsed mv us) s (fun d => d.chan c = { x with
         refMv := (x.moved elapsed).refMv, rampAcc := 0, sstart := false, recovery := false, uvArmed := true, pgood :=
           true, outMv := mv, dropout := decide (x.inMv ≠ 0) && decide (x.inMv < mv + 200) }) = true) ∧
    (let s := dev chanDev
     let n : Fin 6 := 0
     let cycles := 16
     s.b.d.power.coreOn = true ∧ 16 ≤ cycles ∧ s.b.d.integ.ib[n].on = true ∧ s.b.d.integ.ib[n].hiccup = false ∧
       s.b.d.integ.ib[n].sstart = false ∧ s.b.d.integ.ib[n].consecutive < s.b.d.ch (.ib n) 7 ∧ yields (.hiccup n cycles) s
       (fun d => d.integ.ib[n].hiccup = true ∧ d.integ.ib[n].consecutive = s.b.d.integ.ib[n].consecutive + 1 ∧
       d.integ.ib[n].hiccups = satInc 32 s.b.d.integ.ib[n].hiccups) = true) ∧
    (let s := dev fun d => (chanDev d).ib' 0 fun x => { x with hiccup := true }
     let n : Fin 6 := 0
     let us := 2000
     let mv := 4
     s.b.d.power.coreOn = true ∧ s.b.d.integ.ib[n].hiccup = true ∧ 2000 ≤ us ∧ yields (.hiccupRecovery n us mv) s (fun d =>
       alike d (s.b.d.ib' n fun x => { x with
         hiccup := false, sstart := true, recovery := true, refMv := mv, outMv := mv, targetMv := s.b.d.chanSetMv (.ib n),
         rampNum := s.b.d.chanSetMv (.ib n), rampDen := max 1 (s.b.d.ch (.ib n) 4), rampAcc := 0 })) = true) ∧
    (let s := dev fun d => (chanDev d).ib' 0 fun x => { x with consecutive := 3 }
     let n : Fin 6 := 0
     let mv := 1200
     let us := 1000
     s.b.d.power.coreOn = true ∧ s.b.d.integ.ib[n].on = true ∧ s.b.d.integ.ib[n].hiccup = false ∧ near2 mv
       s.b.d.integ.ib[n].targetMv = true ∧ 1000 ≤ us ∧ yields (.hiccupCountReset n mv us) s (fun d => alike d (s.b.d.ib' n
       fun x => { x with consecutive := 0 })) = true) ∧
    (let s := dev fun d => (chanDev d).ib' 0 fun x => { x with disch := true }
     let c : Integrated := .ib 0
     let mv := 99
     let us := 0
     s.b.d.power.coreOn = true ∧ (s.b.d.chan c).disch = true ∧ (mv < 100 ∨ 10000 ≤ us) ∧ yields (.dischargeSwitchOpen c mv
       us) s (fun d => alike d (s.b.d.chan' c fun x => { x with disch := false, outMv := mv })) = true) ∧
    (let s := dev chanDev
     let ib := 16001
     let ld := 400
     let m : ChanMeas := ⟨.ib 1, -4, 8, 250⟩
     s.b.d.power.coreOn = true ∧ yields (.budgetMeasurement ib ld [m]) s (fun d => d.integ.ibMw = ib ∧ d.integ.ldMw = ld ∧
       (d.chan m.chan).outMA = m.mA ∧ (d.integ.overrun.testBit 0 = decide (16000 < ib)) ∧ (d.integ.overrun.testBit 1 =
       decide (400 < ld)) ∧ KeepsPower s d) = true) ∧
    (let s := dev chanDev
     let ib := 16000
     let ld := 401
     let n : Fin 6 := 1
     let mA : Int := 10
     let zeros := 8
     let peak := 250
     s.b.d.power.coreOn = true ∧ s.b.d.integ.ib[n].on = true ∧ s.b.d.integ.ib[n].hiccup = false ∧ yields (.budgetMeasurement
       ib ld [⟨.ib n, mA, zeros, peak⟩]) s (fun d => (8 ≤ zeros → peak ≤ 250 → s.b.d.ch (.ib n) 5 = 0 → d.integ.ib[n].skip =
       true) ∧ (250 < peak ∨ s.b.d.ch (.ib n) 5 ≠ 0 → d.integ.ib[n].skip = false)) = true) ∧
    (let s := dev chanDev
     let ib := 16000
     let ld := 401
     let n : Fin 6 := 1
     let mA : Int := 10
     let zeros := 8
     let peak := 251
     s.b.d.power.coreOn = true ∧ s.b.d.integ.ib[n].on = true ∧ s.b.d.integ.ib[n].hiccup = false ∧ yields (.budgetMeasurement
       ib ld [⟨.ib n, mA, zeros, peak⟩]) s (fun d => (8 ≤ zeros → peak ≤ 250 → s.b.d.ch (.ib n) 5 = 0 → d.integ.ib[n].skip =
       true) ∧ (250 < peak ∨ s.b.d.ch (.ib n) 5 ≠ 0 → d.integ.ib[n].skip = false)) = true) := by
  refine ⟨?_, ?_, ?_, ?_, ?_, ?_, ?_, ?_, ?_, ?_⟩ <;> decide +kernel

theorem witness_ChannelTrips :
    (let s := dev fun d => (chanDev d).ib' 0 fun x => { x with sstart := true }
     let c : Integrated := .ib 0
     let us := 1000000
     s.b.d.power.coreOn = true ∧ (s.b.d.chan c).on = true ∧ (s.b.d.chan c).sstart = true ∧ (s.b.d.chan c).recovery = false ∧
       s.b.d.ch c 4 + 1000 ≤ us ∧ yields (.ibLdStartTimeout c us) s (fun d => ChanTripped d c 7 s.b.hw.counter) = true) ∧
    (let s := dev fun d => (chanDev d).ib' 0 fun x => { x with sstart := true }
     let n : Fin 6 := 0
     let cycles := 16
     s.b.d.power.coreOn = true ∧ 16 ≤ cycles ∧ s.b.d.integ.ib[n].on = true ∧ s.b.d.integ.ib[n].hiccup = false ∧
       s.b.d.integ.ib[n].sstart = true ∧ s.b.d.integ.ib[n].recovery = false ∧ yields (.hiccup n cycles) s (fun d =>
       ChanTripped d (.ib n) 6 s.b.hw.counter) = true) ∧
    (let s := dev fun d => (chanDev d).ib' 0 fun x => { x with consecutive := 9 }
     let n : Fin 6 := 0
     let cycles := 16
     s.b.d.power.coreOn = true ∧ 16 ≤ cycles ∧ s.b.d.integ.ib[n].on = true ∧ s.b.d.integ.ib[n].hiccup = false ∧
       s.b.d.integ.ib[n].sstart = false ∧ s.b.d.ch (.ib n) 7 ≤ s.b.d.integ.ib[n].consecutive ∧ yields (.hiccup n cycles) s
       (fun d => ChanTripped d (.ib n) 4 s.b.hw.counter) = true) ∧
    (let s := dev chanDev
     let n : Fin 6 := 0
     let mv := 2000
     let us := 2
     s.b.d.power.coreOn = true ∧ s.b.d.integ.ib[n].on = true ∧ (10000 + s.b.d.ch (.ib n) 8) * s.b.d.integ.ib[n].targetMv <
       mv * 10000 ∧ 2 ≤ us ∧ yields (.ibVoltageProtection n (.over mv us)) s (fun d => ChanTripped d (.ib n) 2
       s.b.hw.counter) = true) ∧
    (let s := dev fun d => (chanDev d).ib' 0 fun x => { x with uvArmed := true }
     let n : Fin 6 := 0
     let mv := 200
     let us := 20
     s.b.d.power.coreOn = true ∧ s.b.d.integ.ib[n].on = true ∧ s.b.d.integ.ib[n].uvArmed = true ∧ mv * 10000 < (10000 -
       s.b.d.ch (.ib n) 9) * s.b.d.integ.ib[n].targetMv ∧ 20 ≤ us ∧ yields (.ibVoltageProtection n (.under mv us)) s (fun d
       => ChanTripped d (.ib n) 3 s.b.hw.counter) = true) ∧
    (let s := dev chanDev
     let n : Fin 6 := 0
     let mv := 4199
     s.b.d.power.coreOn = true ∧ s.b.d.integ.ib[n].on = true ∧ mv < 4200 ∧ yields (.ibVoltageProtection n (.pvin mv)) s (fun
       d => ChanTripped d (.ib n) 0x10 s.b.hw.counter) = true) ∧
    (let s := dev fun d => (chanDev d).ld' 0 fun x => { x with sstart := true }
     let n : Fin 8 := 0
     let us := 1000
     s.b.d.power.coreOn = true ∧ s.b.d.integ.ld[n].on = true ∧ 1000 ≤ us ∧ yields (.ldoProtection n (.limit us)) s (fun d =>
       ChanTripped d (.ld n) (if s.b.d.integ.ld[n].sstart then 6 else 4) s.b.hw.counter) = true) ∧
    (let s := dev fun d => (chanDev d).ld' 0 fun x => { x with uvArmed := true }
     let n : Fin 8 := 0
     let mv := 10
     let us := 20
     s.b.d.power.coreOn = true ∧ s.b.d.integ.ld[n].on = true ∧ s.b.d.integ.ld[n].uvArmed = true ∧ mv * 10000 < (10000 -
       s.b.d.ch (.ld n) 6) * s.b.d.integ.ld[n].targetMv ∧ 20 ≤ us ∧ yields (.ldoProtection n (.under mv us)) s (fun d =>
       ChanTripped d (.ld n) 3 s.b.hw.counter) = true) ∧
    (let s := dev chanDev
     let n : Fin 8 := 0
     let mv := 1321
     let us := 2
     s.b.d.power.coreOn = true ∧ s.b.d.integ.ld[n].on = true ∧ 11 * s.b.d.integ.ld[n].targetMv < mv * 10 ∧ 2 ≤ us ∧ yields
       (.ldoProtection n (.over mv us)) s (fun d => ChanTripped d (.ld n) 2 s.b.hw.counter) = true) ∧
    (let s := dev chanDev
     let n : Fin 8 := 0
     let mv := 1399
     s.b.d.power.coreOn = true ∧ s.b.d.integ.ld[n].on = true ∧ mv < 1400 ∧ yields (.ldoProtection n (.vin mv)) s (fun d =>
       ChanTripped d (.ld n) 0x10 s.b.hw.counter) = true) := by
  refine ⟨?_, ?_, ?_, ?_, ?_, ?_, ?_, ?_, ?_, ?_⟩ <;> decide +kernel

theorem witness_Enables :
    (let s := dev fun d => d.xe' 0 fun x => { x with en := true }
     let n : Fin 8 := 0
     let us := 100000
     s.b.d.power.coreOn = true ∧ s.b.d.pgMode n = 0 ∧ s.b.d.pgDeglitch n ≤ us ∧ s.b.d.integ.xe[n].en = true ∧ yields
       (.xePowerGood n us) s (fun d => d.integ.xe[n] = { s.b.d.integ.xe[n] with pgIn := true, pgood := true } ∧
       d.judge[xeBranch n].good = true) = true) ∧
    (let s := dev fun d => d.xe' 0 fun x => { x with en := true }
     let n : Fin 8 := 0
     let ms := 100000
     s.b.d.power.coreOn = true ∧ s.b.d.nat (0x2250 + n.val) 3 ≤ ms ∧ s.b.d.integ.xe[n].en = true ∧ s.b.d.integ.xe[n].pgood =
       false ∧ s.b.d.pgMode n = 0 ∧ yields (.xePgTimeout n ms) s (fun d => XeTripped d n 7 s.b.hw.counter) = true) ∧
    (let s := dev fun d => (d.setLive 0x2250 1 1).xe' 0 fun x => { x with en := true }
     let n : Fin 8 := 0
     let ms := 100000
     s.b.d.power.coreOn = true ∧ s.b.d.nat (0x2250 + n.val) 3 ≤ ms ∧ s.b.d.integ.xe[n].en = true ∧ s.b.d.integ.xe[n].pgood =
       false ∧ s.b.d.pgMode n ≠ 0 ∧ yields (.xePgTimeout n ms) s (fun d => d.integ.xe[n].pgood = true ∧ d.judge[xeBranch
       n].good = true) = true) ∧
    (let s := dev fun d => d.setLive 0x2250 1 1
     let n : Fin 8 := 0
     let ms := 100000
     s.b.d.power.coreOn = true ∧ s.b.d.nat (0x2250 + n.val) 3 ≤ ms ∧ s.b.d.integ.xe[n].en = false ∧ s.b.d.pgMode n = 1 ∧
       yields (.xePgTimeout n ms) s (fun d => d.judge[xeBranch n].discharged = true ∧ d.integ = s.b.d.integ) = true) ∧
    (let s := dev fun d => d.xe' 0 fun x => { x with en := true, pgood := true }
     let n : Fin 8 := 0
     let us := 100000
     s.b.d.power.coreOn = true ∧ s.b.d.pgMode n = 0 ∧ s.b.d.pgDeglitch n ≤ us ∧ s.b.d.integ.xe[n].en = true ∧
       s.b.d.integ.xe[n].pgood = true ∧ yields (.xePowerGoodLost n us) s (fun d => XeTripped d n 0x11 s.b.hw.counter) = true) ∧
    (let s := dev id
     let n : Fin 8 := 0
     let us := 100000
     s.b.d.power.coreOn = true ∧ s.b.d.pgMode n = 0 ∧ s.b.d.pgDeglitch n ≤ us ∧ s.b.d.integ.xe[n].en = false ∧ yields
       (.xePgBeforeEnable n us) s (fun d => d.integ.xe[n] =
       { s.b.d.integ.xe[n] with pgIn := true, early := true, reason := 0x12 } ∧ KeepsPower s d) = true) := by
  refine ⟨?_, ?_, ?_, ?_, ?_, ?_⟩ <;> decide +kernel

theorem witness_Slots :
    (let s := dev fun d => ((((slotDev (railBranch 0) d).setLive 0x2200 1 1000000).setLive 0x2200 2 1000).seq' fun x =>
       { x with todo := 3, members := 3 }).rail' 0 fun x => { x with mode := .off, trip := true }
     let timerUs : Nat := 500
     let m : StartMeas := ⟨20000, true, true, 0⟩
     let r : Rail := 0
     s.b.d.power.coreOn = true ∧ SlotOpen s.b.d (railBranch r) timerUs ∧ s.b.d.branchOn (railBranch r) = false ∧
       s.b.d.cannotStart (railBranch r) = false ∧ r.val ∉ s.b.d.th.hotStages ∧ startSense (s.b.d.gr r 0x3A) m.remoteOk
       m.localOk = .ok false ∧ m.preBiasUv * 10000 ≤ (10000 + s.b.d.gr r 0x27) * s.b.d.railSetCode r * 250 ∧ yields
       (.slotTurnOn (railBranch r) timerUs m) s (fun d => SlotPassed s d (railBranch r) timerUs ∧ d.judge[railBranch
       r].counted = true ∧ d.grove.rail[r].mode = .softStart ∧ d.grove.rail[r].trip = false ∧ d.grove.rail[r].lp.target =
       s.b.d.railSetCode r ∧ d.grove.rail[r].lp.vref = startCode (s.b.d.gr r 0x22) m.preBiasUv (s.b.d.railSetCode r)) = true) ∧
    (let s := dev fun d => ((slotDev (chanCode (.ib 0)) d).setLive 0x2240 1 1200).seq' fun x =>
       { x with todo := x.todo + 1, members := x.todo + 1 }
     let timerUs : Nat := 500
     let m : StartMeas := ⟨0, true, true, 1200⟩
     let c : Integrated := .ib 0
     s.b.d.power.coreOn = true ∧ SlotOpen s.b.d (chanCode c) timerUs ∧ s.b.d.branchOn (chanCode c) = false ∧ s.b.d.chanSetMv
       c ≠ 0 ∧ (s.b.d.chan c).inLost = false ∧ m.outMv * 10000 ≤ s.b.d.overFraction c * s.b.d.chanSetMv c ∧ yields
       (.slotTurnOn (chanCode c) timerUs m) s (fun d => SlotPassed s d (chanCode c) timerUs ∧ d.judge[chanCode c].counted =
       true ∧ d.chan c = { s.b.d.chan c with
         trip := false, outMv := m.outMv, on := true, sstart := true, hiccup := false, recovery := false, consecutive := 0,
         pgood := false, uvArmed := false, disch := false, refMv := m.outMv, targetMv := s.b.d.chanSetMv c,
         rampNum := s.b.d.chanSetMv c, rampDen := max 1 (s.b.d.ch c 4), rampAcc := 0 }) = true) ∧
    (let s := dev fun d => ((slotDev (chanCode (.ld 2)) d).setLive 0x224A 1 1200).seq' fun x =>
       { x with todo := x.todo + 1, members := x.todo + 1 }
     let timerUs : Nat := 500
     let m : StartMeas := ⟨0, true, true, 100⟩
     let c : Integrated := .ld 2
     s.b.d.power.coreOn = true ∧ SlotOpen s.b.d (chanCode c) timerUs ∧ s.b.d.branchOn (chanCode c) = false ∧ s.b.d.chanSetMv
       c ≠ 0 ∧ (s.b.d.chan c).inLost = false ∧ m.outMv * 10000 ≤ s.b.d.overFraction c * s.b.d.chanSetMv c ∧ yields
       (.slotTurnOn (chanCode c) timerUs m) s (fun d => SlotPassed s d (chanCode c) timerUs ∧ d.judge[chanCode c].counted =
       true ∧ d.chan c = { s.b.d.chan c with
         trip := false, outMv := m.outMv, on := true, sstart := true, hiccup := false, recovery := false, consecutive := 0,
         pgood := false, uvArmed := false, disch := false, refMv := m.outMv, targetMv := s.b.d.chanSetMv c,
         rampNum := s.b.d.chanSetMv c, rampDen := max 1 (s.b.d.ch c 4), rampAcc := 0 }) = true) ∧
    (let s := dev fun d => (slotDev (xeBranch 0) d).seq' fun x => { x with todo := x.todo + 1, members := x.todo + 1 }
     let timerUs : Nat := 500
     let m : StartMeas := ⟨0, true, true, 1200⟩
     let n : Fin 8 := 0
     s.b.d.power.coreOn = true ∧ SlotOpen s.b.d (xeBranch n) timerUs ∧ s.b.d.branchOn (xeBranch n) = false ∧ (s.b.d.pgMode n
       ≠ 0 ∨ s.b.d.integ.xe[n].pgIn = false) ∧ yields (.slotTurnOn (xeBranch n) timerUs m) s (fun d => SlotPassed s d
       (xeBranch n) timerUs ∧ d.judge[xeBranch n].counted = true ∧ d.integ.xe[n] =
       { s.b.d.integ.xe[n] with trip := false, en := true, pgood := false }) = true) ∧
    (let s := dev fun d => ((slotDev (xeBranch 0) d).xe' 0 fun x => { x with pgIn := true }).seq' fun x =>
       { x with todo := x.todo + 1, members := x.todo + 1 }
     let timerUs : Nat := 500
     let m : StartMeas := ⟨0, true, true, 1200⟩
     let n : Fin 8 := 0
     s.b.d.power.coreOn = true ∧ SlotOpen s.b.d (xeBranch n) timerUs ∧ s.b.d.branchOn (xeBranch n) = false ∧ s.b.d.pgMode n
       = 0 ∧ s.b.d.integ.xe[n].pgIn = true ∧ yields (.slotTurnOn (xeBranch n) timerUs m) s (fun d => SlotPassed s d
       (xeBranch n) timerUs ∧ d.judge[xeBranch n].good = true ∧ d.integ.xe[n] =
       { s.b.d.integ.xe[n] with trip := false, en := true, pgood := true }) = true) ∧
    (let s := dev fun d => ((slotDev (railBranch 1) d).seq' fun x => { x with todo := x.todo + 1, members := x.todo + 1 })
     let timerUs : Nat := 500
     let m : StartMeas := ⟨0, true, true, 1200⟩
     let b : Branch := railBranch 1
     s.b.d.power.coreOn = true ∧ SlotOpen s.b.d b timerUs ∧ s.b.d.branchOn b = false ∧ s.b.d.cannotStart b = true ∧ yields
       (.slotTurnOn b timerUs m) s (fun d => SlotPassed s d b timerUs ∧ d.judge[b].skip = true ∧ d.grove = s.b.d.grove ∧
       d.integ = s.b.d.integ) = true) ∧
    (let s := dev fun d => ((slotDev (railBranch 0) d).seq' fun x => { x with todo := x.todo + 2, members := x.todo + 2 })
     let timerUs : Nat := 500
     let m : StartMeas := ⟨0, true, true, 1200⟩
     let b : Branch := railBranch 0
     s.b.d.power.coreOn = true ∧ SlotOpen s.b.d b timerUs ∧ s.b.d.branchOn b = true ∧ yields (.slotTurnOn b timerUs m) s
       (fun d => SlotPassed s d b timerUs ∧ d.judge[b].counted = (!s.b.d.judge[b].good) ∧ d.grove = s.b.d.grove ∧ d.integ =
       s.b.d.integ) = true) ∧
    (let s := dev fun d => (slotDev (railBranch 0) d).setLive 0x2301 1 0xFFFF
     let timerUs : Nat := 500
     let m : StartMeas := ⟨0, true, true, 1200⟩
     let b : Branch := railBranch 0
     s.b.d.power.coreOn = true ∧ s.b.d.onDelay b = 0xFFFF ∧ yields (.slotTurnOn b timerUs m) s (fun d => alike d s.b.d) =
       true) := by
  refine ⟨?_, ?_, ?_, ?_, ?_, ?_, ?_, ?_⟩ <;> decide +kernel

theorem witness_Starts :
    (let s := dev fun d => (d.setLive 0x2301 1 10).seq' fun x =>
       { x with tapWait := true, state := .onOrder, members := 8191, todo := 8191 }
     let mv := 17000
     s.b.d.power.coreOn = true ∧ s.b.d.power.nrstLow = false ∧ s.b.d.casc.role = 0 ∧ s.b.d.members ≠ 0 ∧ s.b.d.tapHolds =
       false ∧ s.b.d.seq.tapWait = true ∧ s.b.d.seq.state = .onOrder ∧ s.b.d.seqTodo ≠ 0 ∧ yields (.commonStart mv) s (fun d
       => d.path = { s.b.d.path with vsysMv := mv } ∧ d.seq =
       { s.b.d.seq with tapWait := false, timerUs := 0, timerTick := s.b.hw.counter }) = true) ∧
    (let s := dev fun d => (d.setLive 0x2301 1 10).otp' fun x => { x with boardOk := true }
     let mv := 17000
     s.b.d.power.coreOn = true ∧ s.b.d.power.nrstLow = false ∧ s.b.d.casc.role = 0 ∧ s.b.d.members ≠ 0 ∧ s.b.d.tapHolds =
       false ∧ s.b.d.seq.tapWait = false ∧ s.b.d.seq.startDue = true ∧ s.b.d.otp.boardOk = true ∧ 17000 ≤ mv ∧ s.b.d.inRun =
       true ∧ s.b.d.seq.state = .idle ∧ yields (.commonStart mv) s (fun d => d.path = { s.b.d.path with vsysMv := mv } ∧
       d.seq = { s.b.d.seq with
         startDue := false, attempt := 0, starts := 1, held := none, failed := 0, finalFail := false, noRecord := false,
         state := .onOrder, members := s.b.d.members, todo := s.b.d.members, timerUs := 0, awaitPulse := false,
         tapWait := false, timerTick := s.b.hw.counter }) = true) ∧
    (let s := dev fun d => (d.setLive 0x2301 1 10).seq' fun x => { x with state := .pause }
     let ms := s.b.d.nat 0x2300 2
     s.b.d.power.coreOn = true ∧ s.b.d.power.nrstLow = false ∧ s.b.d.casc.role = 0 ∧ s.b.d.members ≠ 0 ∧ s.b.d.tapHolds =
       false ∧ s.b.d.seq.state = .pause ∧ s.b.d.nat 0x2300 2 ≤ ms ∧ yields (.retryPauseEnd ms) s (fun d => d.grove =
       s.b.d.grove ∧ d.seq = { s.b.d.seq with
         attempt := s.b.d.seq.attempt + 1, starts := s.b.d.seq.starts + 1, state := .onOrder, members := s.b.d.members,
         todo := s.b.d.members, timerUs := 0, awaitPulse := false, tapWait := false, timerTick := s.b.hw.counter }) = true) := by
  refine ⟨?_, ?_, ?_⟩ <;> decide +kernel

theorem witness_OffOrders :
    (let s := dev fun d => (d.setLive 0x2302 1 10).seq' fun x => { x with state := .offOrder, offTodo := 1 }
     let timerUs := 500
     let delay := 10
     s.b.d.power.coreOn = true ∧ s.b.d.seq.state.isOff = true ∧ s.b.d.seq.offWait = 0 ∧ s.b.d.nextOff s.b.d.seq.offTodo =
       some delay ∧ 50 * delay ≤ timerUs ∧ s.b.d.seq.offUs ≤ timerUs ∧ yields (.offGroup timerUs) s (fun d => ∀ b, inMask
       s.b.d.seq.offTodo b = true → s.b.d.offDelay b = delay → d.branchOn b = false) = true) ∧
    (let s := dev fun d => (d.judge' 0 fun x => { x with offRefMv := 1000 }).seq' fun x =>
       { x with state := .offOrder, offWait := 3 }
     let b : Branch := 0
     let ms := s.b.d.nat 0x2304 1
     let mv := 0
     s.b.d.power.coreOn = true ∧ inMask s.b.d.seq.offWait b = true ∧ s.b.d.nat 0x2304 (b.val + 1) ≤ ms ∧ s.b.d.branchOn b =
       false ∧ s.b.d.foundDischarged b ms mv = true ∧ yields (.dischargeTimeout b ms mv) s (fun d => d.judge[b].discharged =
       true) = true) ∧
    (let s := dev fun d => (d.judge' 0 fun x => { x with offRefMv := 1000 }).seq' fun x =>
       { x with state := .offOrder, offWait := 3 }
     let b : Branch := 0
     let ms := s.b.d.nat 0x2304 1
     let mv := 1000
     s.b.d.power.coreOn = true ∧ inMask s.b.d.seq.offWait b = true ∧ s.b.d.nat 0x2304 (b.val + 1) ≤ ms ∧ s.b.d.branchOn b =
       false ∧ s.b.d.foundDischarged b ms mv = false ∧ s.b.d.seq.groupDue = false ∧ s.b.d.seq.shipDue = false ∧ yields
       (.dischargeTimeout b ms mv) s (fun d => d.judge[b].dto = true ∧ d.judge[b].outMv = mv) = true) := by
  refine ⟨?_, ?_, ?_⟩ <;> decide +kernel

theorem witness_Judgement :
    (let s := dev fun d => (railDev d).judge' 0 fun x => { x with inWindow := 2 }
     let b : Branch := 0
     let mv := 1000
     s.b.d.power.coreOn = true ∧ b.val < 22 ∧ s.b.d.power.state ≠ .standby ∧ (s.b.d.conv.a.excluded &&
       s.b.d.conv.b.excluded) = false ∧ s.b.d.branchOn b = true ∧ s.b.d.judge[b].good = false ∧ s.b.d.softDone b = true ∧
       s.b.d.inWindow 0x2342 b mv = true ∧ 2 ≤ s.b.d.judge[b].inWindow ∧ yields (.judgementConversion [(b, mv)]) s (fun d =>
       d.judge[b].good = true ∧ d.judge[b].outMv = mv) = true) ∧
    (let s := dev fun d => (railDev d).judge' 0 fun x => { x with good := true }
     let b : Branch := 0
     let mv := 2000
     s.b.d.power.coreOn = true ∧ b.val < 22 ∧ s.b.d.power.state ≠ .standby ∧ (s.b.d.conv.a.excluded &&
       s.b.d.conv.b.excluded) = false ∧ s.b.d.branchOn b = true ∧ s.b.d.judge[b].good = true ∧ s.b.d.inWindow 0x2341 b mv =
       false ∧ s.b.d.inWindow 0x2342 b mv = false ∧ yields (.judgementConversion [(b, mv)]) s (fun d => d.judge[b].good =
       true ∧ d.judge[b].outMv = mv ∧ (s.b.d.seq.wakeDue = false → d.judge[b].wOut = s.b.d.judge[b].wOut + 1 ∧
       d.judge[b].fOut = s.b.d.judge[b].fOut + 1)) = true) ∧
    (let s := dev fun d => d.judge' 0 fun x => { x with offRefMv := 1000 }
     let b : Branch := 0
     let mv := 1
     s.b.d.power.coreOn = true ∧ b.val < 22 ∧ s.b.d.power.state ≠ .standby ∧ (s.b.d.conv.a.excluded &&
       s.b.d.conv.b.excluded) = false ∧ s.b.d.branchOn b = false ∧ s.b.d.belowThreshold b mv = true ∧ yields
       (.judgementConversion [(b, mv)]) s (fun d => d.judge[b].discharged = true) = true) ∧
    (let s := dev fun d => { railDev d with power.state := .standby }
     let readings : List (Branch × Nat) := [(0, 1000)]
     s.b.d.power.coreOn = true ∧ s.b.d.power.state = .standby ∧ yields (.judgementConversion readings) s (fun d => alike d
       s.b.d) = true) ∧
    (let s := dev fun d => railDev d
     let b : Branch := 0
     let ms := s.b.d.nat 0x2345 1
     s.b.d.power.coreOn = true ∧ s.b.d.branchOn b = true ∧ s.b.d.judge[b].good = false ∧ s.b.d.nat 0x2345 (b.val + 1) ≤ ms ∧
       s.b.d.countsAsStart b = false ∧ yields (.judgeDeadline b ms false) s (fun d => d.branchOn b = false) = true) ∧
    (let s := dev fun d => ((railDev d).judge' 0 fun x => { x with counted := true }).seq' fun x =>
       { x with state := .onOrder }
     let b : Branch := 0
     let ms := s.b.d.nat 0x2345 1
     s.b.d.power.coreOn = true ∧ s.b.d.branchOn b = true ∧ s.b.d.judge[b].good = false ∧ s.b.d.nat 0x2345 (b.val + 1) ≤ ms ∧
       s.b.d.judge[b].counted = true ∧ s.b.d.seq.state = .onOrder ∧ s.b.d.casc.role = 0 ∧ s.b.d.seq.groupRun = false ∧
       s.b.d.power.nrstLow = false ∧ s.b.d.seq.attempt < s.b.d.nat 0x2300 1 ∧ inMask s.b.d.standbySet b = false ∧ yields
       (.judgeDeadline b ms false) s (fun d => d.seq.state = .abort ∧ d.seq.after = .retry ∧ d.seq.failed = s.b.d.seq.failed
       ||| 2 ^ b.val ∧ d.judge[b].failed = true ∧ d.seq.held.isSome = true ∧ d.seq.attempt = s.b.d.seq.attempt) = true) ∧
    (let s := dev railDev
     let b : Branch := 0
     let ms := 1000
     s.b.d.power.coreOn = true ∧ yields (.judgeDeadline b ms true) s (fun d => alike d s.b.d) = true) ∧
    (let s := dev fun d => (railDev d).judge' 0 fun x => { x with good := true, wOut := 100 }
     let b : Branch := 0
     let mv := 2000
     s.b.d.power.coreOn = true ∧ b.val < 22 ∧ s.b.d.power.state ≠ .standby ∧ s.b.d.branchOn b = true ∧ s.b.d.judge[b].good =
       true ∧ s.b.d.judge[b].wwin = false ∧ s.b.d.nat 0x2343 (b.val + 1) ≤ s.b.d.judge[b].wOut ∧ yields (.warningWindow b
       mv) s (fun d => d.judge[b] = { s.b.d.judge[b] with wwin := true, wIn := 0 } ∧ KeepsPower s d ∧ d.faults.src =
       s.b.d.faults.src) = true) ∧
    (let s := dev fun d => (railDev d).judge' 0 fun x => { x with good := true, fOut := 100 }
     let b : Branch := 0
     let mv := 2000
     s.b.d.power.coreOn = true ∧ b.val < 22 ∧ s.b.d.power.state ≠ .standby ∧ s.b.d.branchOn b = true ∧ s.b.d.judge[b].good =
       true ∧ s.b.d.judge[b].fwin = false ∧ s.b.d.nat 0x2344 (b.val + 1) ≤ s.b.d.judge[b].fOut ∧ yields (.faultWindow b mv)
       s (fun d => d.judge[b].fwin = true ∧ d.sticky (branchSource b) = true) = true) := by
  refine ⟨?_, ?_, ?_, ?_, ?_, ?_, ?_, ?_, ?_⟩ <;> decide +kernel

theorem witness_FirstFailCommit :
    (let s := dev fun d => (held d).seq' fun x => { x with staged := some ⟨0, 1, 2, 3, 4, 5, 6, 7, 8, 9, 10, 11⟩ }
     let f : Failure := ⟨0, 1, 2, 3, 4, 5, 6, 7, 8, 9, 10, 11⟩
     s.b.d.power.coreOn = true ∧ s.b.d.seq.staged = some f ∧ s.b.d.commitAdmitted recordUs = true ∧ s.b.d.readsFailure f =
       false ∧ s.b.d.power.test = false ∧ yields (.firstFailRecordCommit .first) s (fun d => d.seq =
       { s.b.d.seq with staged := none, record := some f } ∧ d.recs =
       { s.b.d.recs with fail := s.b.d.recs.fail.put (some f, s.b.d.seq.events) true } ∧ d.life =
       { s.b.d.life with pageWrites := satAdd 64 s.b.d.life.pageWrites 1 }) = true) ∧
    (let s := dev fun d => (held d).seq' fun x => { x with staged := some ⟨0, 1, 2, 3, 4, 5, 6, 7, 8, 9, 10, 11⟩ }
     let f : Failure := ⟨0, 1, 2, 3, 4, 5, 6, 7, 8, 9, 10, 11⟩
     s.b.d.power.coreOn = true ∧ s.b.d.seq.staged = some f ∧ s.b.d.commitAdmitted recordUs = true ∧ s.b.d.readsFailure f =
       false ∧ s.b.d.power.test = false ∧ yields (.firstFailRecordCommit .failed) s (fun d => d.recs =
       { s.b.d.recs with fail := s.b.d.recs.fail.put (s.b.d.seq.record, s.b.d.seq.events) false } ∧ d.seq.staged = none ∧
       d.seq.record = s.b.d.seq.record ∧ d.sticky 103 = true) = true) := by
  refine ⟨?_, ?_⟩ <;> decide +kernel

theorem witness_ChargerPhases :
    (let s := dev (chgDev .wait)
     let main := 26000
     let vsys := 30000
     let nodeB := 26000
     s.b.d.power.coreOn = true ∧ s.b.d.coresRun = true ∧ s.b.d.chg.phase = .wait ∧ s.b.d.chgMayStart = true ∧
       s.b.d.rechargeThreshold ≤ main ∧ yields (.chargeSessionStart main vsys nodeB) s (fun d => d.chg.phase = .done ∧
       d.chg.mainMv = main ∧ d.gauge.due = true) = true) ∧
    (let s := dev (chgDev .wait)
     let main := 16000
     let vsys := 30000
     let nodeB := 26000
     s.b.d.power.coreOn = true ∧ s.b.d.coresRun = true ∧ s.b.d.chg.phase = .wait ∧ s.b.d.chgMayStart = true ∧ main <
       s.b.d.rechargeThreshold ∧ yields (.chargeSessionStart main vsys nodeB) s (fun d => d.gauge =
       { s.b.d.gauge with empty := false } ∧ d.chg.phase = (if main < s.b.d.preThreshold then .precharge else fastPhase
       s.b.d) ∧ d.chg.sessionS = 0 ∧ d.chg.pulses = (if d.chg.phase = .fastPulse then 1 else 0) ∧ d.chg.mainMv = main ∧
       d.chg.region = chgRegion vsys nodeB ∧ d.chg.sessionStart = s.b.d.gauge.count ∧ d.chg.phaseTime = s.b.hw.counter) =
       true) ∧
    (let s := dev (chgDev .done)
     let main := 16000
     let ms := 10000
     let vsys := 30000
     let nodeB := 26000
     s.b.d.power.coreOn = true ∧ s.b.d.coresRun = true ∧ s.b.d.chg.phase = .done ∧ s.b.d.chgMayStart = true ∧ main <
       s.b.d.rechargeThreshold ∧ 10000 ≤ ms ∧ yields (.recharge main ms vsys nodeB) s (fun d => d.gauge =
       { s.b.d.gauge with empty := false } ∧ d.chg.phase = (if main < s.b.d.preThreshold then .precharge else fastPhase
       s.b.d) ∧ d.chg.sessionS = 0 ∧ d.chg.region = chgRegion vsys nodeB ∧ d.chg.sessionStart = s.b.d.gauge.count) = true) ∧
    (let s := dev (chgDev .precharge)
     let main := 22000
     let ms := 1000
     s.b.d.power.coreOn = true ∧ s.b.d.coresRun = true ∧ s.b.d.chg.phase = .precharge ∧ s.b.d.chgHeld = false ∧
       s.b.d.preThreshold + 200 ≤ main ∧ 1000 ≤ ms ∧ yields (.prechargeEnd main ms) s (fun d => d.gauge =
       { s.b.d.gauge with empty := false } ∧ d.chg.phase = fastPhase s.b.d ∧ d.chg.mainMv = main) = true) ∧
    (let s := dev fun d => (chgDev .fastCc d).setLive 0x2140 8 10
     s.b.d.power.coreOn = true ∧ s.b.d.coresRun = true ∧ s.b.d.chg.phase = .fastCc ∧ s.b.d.chgHeld = false ∧ s.b.d.chg.probe
       = .none ∧ s.b.d.cg 8 ≠ 0 ∧ s.b.d.gaugeAccepts = true ∧ yields .fastPulseReturn s (fun d => d.chg.phase = .fastPulse ∧
       d.chg.inRest = false ∧ d.chg.pulses = satInc 32 s.b.d.chg.pulses ∧ d.gauge = { s.b.d.gauge with empty := false }) =
       true) ∧
    (let s := dev (chgDev .fastCc)
     let main := 25000
     s.b.d.power.coreOn = true ∧ s.b.d.coresRun = true ∧ (s.b.d.chg.phase = .fastPulse ∨ s.b.d.chg.phase = .fastCc) ∧
       s.b.d.chgSwitching = true ∧ s.b.d.cg 2 ≤ main ∧ yields (.cvEntry main) s (fun d => d.chg =
       { s.b.d.chg with mainMv := main, phase := .cv, phaseTime := s.b.hw.counter, inRest := false }) = true) ∧
    (let s := dev (chgDev .fastPulse)
     let main := 25000
     s.b.d.power.coreOn = true ∧ s.b.d.coresRun = true ∧ (s.b.d.chg.phase = .fastPulse ∨ s.b.d.chg.phase = .fastCc) ∧
       s.b.d.chgSwitching = true ∧ s.b.d.cg 2 ≤ main ∧ yields (.cvEntry main) s (fun d => d.chg =
       { s.b.d.chg with mainMv := main, phase := .cv, phaseTime := s.b.hw.counter, inRest := false }) = true) ∧
    (let s := dev fun d => (chgDev .cv d).setLive 0x2140 0x0A 20
     let mA := 90
     let ms := 30000
     s.b.d.power.coreOn = true ∧ s.b.d.coresRun = true ∧ s.b.d.chg.phase = .cv ∧ s.b.d.chgHeld = false ∧ mA * s.b.d.cg 0x0A
       < s.b.d.cg 3 ∧ 30000 ≤ ms ∧ yields (.termination mA ms) s (fun d => d.chg.phase = .done ∧ d.chg.stopReason = 1 ∧
       d.chg.currentMA = mA ∧ d.chg.completed = satInc 32 s.b.d.chg.completed ∧ d.gauge.due = true) = true) ∧
    (let s := dev (chgDev .fastPulse)
     s.b.d.power.coreOn = true ∧ s.b.d.chg.phase = .fastPulse ∧ s.b.d.chgHeld = false ∧ s.b.d.chg.probe = .none ∧ yields
       .pulseEdge s (fun d => d.chg = { s.b.d.chg with
         inRest := !s.b.d.chg.inRest, pulses := if s.b.d.chg.inRest then satInc 32 s.b.d.chg.pulses else s.b.d.chg.pulses }
       ∧ d.timer = (upd s.b.d.timer 7 fun x => { x with regs := { x.regs with cnt := 0, up := true, cmp := 469 } })) = true) ∧
    (let s := dev (chgDev .cv)
     let dcin := 9000
     let demand := 1000
     s.b.d.power.coreOn = true ∧ yields (.inputSharing dcin demand) s (fun d => d.path = { s.b.d.path with dcinMA := dcin })
       = true) := by
  refine ⟨?_, ?_, ?_, ?_, ?_, ?_, ?_, ?_, ?_, ?_⟩ <;> decide +kernel

theorem witness_ChargerStops :
    (let s := dev (chgDev .precharge)
     let sec := 60 * s.b.d.cg 0x0C + 1
     s.b.d.power.coreOn = true ∧ s.b.d.coresRun = true ∧ s.b.d.chg.phase = .precharge ∧ s.b.d.chgHeld = false ∧ 60 *
       s.b.d.cg 0x0C < sec ∧ yields (.prechargeTimeout sec) s (fun d => ChgStopped s.b.d d 64 3) = true) ∧
    (let s := dev (chgDev .cv)
     let sec := 60 * s.b.d.cg 0x0D + 1
     s.b.d.power.coreOn = true ∧ s.b.d.coresRun = true ∧ s.b.d.chg.phase.active = true ∧ s.b.d.chgHeld = false ∧ 60 *
       s.b.d.cg 0x0D < sec ∧ yields (.chargeTimeout sec) s (fun d => ChgStopped s.b.d d 65 4) = true) ∧
    (let s := dev (chgDev .cv)
     let k : PackLoss := .overVoltage 26251
     s.b.d.power.coreOn = true ∧ s.b.d.chgSwitching = true ∧ s.b.d.packLost k = true ∧ yields (.packLossComparator k) s (fun
       d => d.chg = { s.b.d.chg with
         probe := match k with | .overVoltage _ => .overVoltage | .collapse .. => .collapse, sink := true }) = true) ∧
    (let s := dev (chgDev .cv)
     let k : PackLoss := .collapse 199 1000 2 true false
     s.b.d.power.coreOn = true ∧ s.b.d.chgSwitching = true ∧ s.b.d.packLost k = true ∧ yields (.packLossComparator k) s (fun
       d => d.chg = { s.b.d.chg with
         probe := match k with | .overVoltage _ => .overVoltage | .collapse .. => .collapse, sink := true }) = true) ∧
    (let s := dev fun d => (chgDev .cv d).chg' fun c => { c with probe := .collapse }
     let fall := 501
     s.b.d.power.coreOn = true ∧ s.b.d.chg.probe ≠ .none ∧ 500 < fall ∧ yields (.presenceProbeEnd fall) s (fun d => d.sticky
       61 = true ∧ d.path.bPair = .off ∧ d.path.supplement = false ∧ d.gauge.present = false ∧ (s.b.d.seq.state.isOff =
       false → d.chg.phase = .noPack ∧ d.chg.stopReason = 5)) = true) ∧
    (let s := dev fun d => (chgDev .cv d).chg' fun c => { c with probe := .overVoltage }
     let fall := 500
     s.b.d.power.coreOn = true ∧ s.b.d.chg.probe = .overVoltage ∧ fall ≤ 500 ∧ yields (.presenceProbeEnd fall) s (fun d =>
       ChgStopped s.b.d d 62 6) = true) ∧
    (let s := dev fun d => (chgDev .cv d).chg' fun c => { c with probe := .collapse }
     let fall := 500
     s.b.d.power.coreOn = true ∧ s.b.d.chg.probe = .collapse ∧ fall ≤ 500 ∧ yields (.presenceProbeEnd fall) s (fun d =>
       ChgStopped s.b.d d 63 8) = true) ∧
    (let s := dev fun d => (chgDev .noPack d).chg' fun c => { c with sink := true }
     let mv := 15999
     let ms := 0
     s.b.d.power.coreOn = true ∧ s.b.d.chg.phase = .noPack ∧ s.b.d.chg.sink = true ∧ (mv < 16000 ∨ 2000 ≤ ms) ∧ yields
       (.noPackSinkEnd mv ms) s (fun d => d.chg = { s.b.d.chg with sink := false } ∧ d.path =
       { s.b.d.path with batMv := mv } ∧ (s.b.d.path.batValid = true → d.gauge.present = true) ∧ (s.b.d.path.batValid =
       false → d.gauge = s.b.d.gauge)) = true) ∧
    (let s := dev fun d => (chgDev .noPack d)
     let ms := 2000
     s.b.d.power.coreOn = true ∧ s.b.d.chg.phase = .noPack ∧ 2000 ≤ ms ∧ s.b.d.path.batValid = true ∧ s.b.d.estimateValid =
       true ∧ s.b.d.chg.sink = false ∧ s.b.d.coresRun = true ∧ yields (.noPackExit ms) s (fun d => d.chg.phase = .wait ∧
       d.chg.phaseTime = s.b.hw.counter ∧ (s.b.d.path.dcinValid = false → s.b.d.path.trunkOv = false → s.b.d.path.supplement
       = false → d.path.bPair = .ideal ∧ d.path.supplement = true ∧ d.path.supplements = s.b.d.path.supplements)) = true) ∧
    (let s := dev (chgDev .cv)
     let cycles := 16
     s.b.d.power.coreOn = true ∧ s.b.d.chg.phase.active = true ∧ 16 ≤ cycles ∧ yields (.chargerFaultStop (.phaseOverCurrent
       cycles)) s (fun d => ChgStopped s.b.d d 60 7) = true) ∧
    (let s := dev (chgDev .cv)
     let mv := 7999
     let us := 10
     s.b.d.power.coreOn = true ∧ s.b.d.chg.phase.active = true ∧ mv < 8000 ∧ 10 ≤ us ∧ s.b.d.chg.drvRestart = false ∧ yields
       (.chargerFaultStop (.gateDrive mv us)) s (fun d => d.chg = { s.b.d.chg with drvRestart := true } ∧
       d.faults.src[67].retrying = true) = true) ∧
    (let s := dev (chgDev .cv)
     let diff := 251
     let cmd := 1000
     let ms := 10
     s.b.d.power.coreOn = true ∧ s.b.d.chg.phase.active = true ∧ 25 * cmd < 100 * diff ∧ 10 ≤ ms ∧ yields (.chargerFaultStop
       (.imbalance diff cmd ms)) s (fun d => ChgStopped s.b.d d 68 0x0D) = true) ∧
    (let s := dev (chgDev .cv)
     let own : Nat := 20161
     let adc : Nat := 20000
     let ms : Nat := 1000
     s.b.d.power.coreOn = true ∧ s.b.d.chg.phase.active = true ∧ s.b.d.mainAvailable = true ∧ 8 * adc < 1000 * ((own : Int)
       - adc).natAbs ∧ 1000 ≤ ms ∧ yields (.chargerFaultStop (.crossCheck own adc ms)) s (fun d => ChgStopped s.b.d d 69
       0x0A) = true) ∧
    (let s := dev fun d => (chgDev .cv d).chg' fun c => { c with drvRestart := true }
     let mv := 7999
     s.b.d.power.coreOn = true ∧ s.b.d.chg.drvRestart = true ∧ mv < 8000 ∧ yields (.chgDrvRestart mv) s (fun d => ChgStopped
       (s.b.d.chg' fun c => { c with drvRestart := false }) d 67 9) = true) ∧
    (let s := dev fun d => (chgDev .cv d).chg' fun c => { c with drvRestart := true }
     let mv := 8000
     s.b.d.power.coreOn = true ∧ s.b.d.chg.drvRestart = true ∧ 8000 ≤ mv ∧ yields (.chgDrvRestart mv) s (fun d => d.chg =
       { s.b.d.chg with drvRestart := false } ∧ (s.b.d.sticky 67 = false → d.faults.transient = satInc 32
       s.b.d.faults.transient) ∧ KeepsPower s d) = true) ∧
    (let s := dev fun d => ((d.setLive 0x2142 5 1).setLive 0x2142 6 100)
     let sec := 100
     s.b.d.power.coreOn = true ∧ s.b.d.nat 0x2142 5 ≠ 0 ∧ s.b.d.nat 0x2142 6 ≤ sec ∧ s.b.d.coresRun = true ∧ yields
       (.chargerWatchdogExpiry sec) s (fun d => KeepsPower s d ∧ d.chg.wdExpired = true ∧ d.sticky 66 = true ∧ d.int 0x2140
       1 = s.b.d.int 0x2143 1 ∧ d.int 0x2140 2 = s.b.d.int 0x2143 2 ∧ d.int 0x2140 3 = s.b.d.int 0x2143 3) = true) := by
  refine ⟨?_, ?_, ?_, ?_, ?_, ?_, ?_, ?_, ?_, ?_, ?_, ?_, ?_, ?_, ?_, ?_⟩ <;> decide +kernel

theorem witness_GaugeCounting :
    (let s := dev id
     let m : Modulator := .modA
     let off : Int := -50000
     let again : Int := 0
     s.b.d.power.coreOn = true ∧ modExcluded m s.b.d.gauge = false ∧ off.natAbs ≤ 50000 ∧ yields (.modulatorCalibration m
       off again) s (fun d => d.gauge = (withOffset m s.b.d.gauge off)) = true) ∧
    (let s := dev id
     let m : Modulator := .modB
     let off : Int := 50001
     let again : Int := -50000
     s.b.d.power.coreOn = true ∧ modExcluded m s.b.d.gauge = false ∧ 50000 < off.natAbs ∧ again.natAbs ≤ 50000 ∧ yields
       (.modulatorCalibration m off again) s (fun d => d.gauge = withOffset m s.b.d.gauge again ∧ (s.b.d.sticky 71 = false →
       d.faults.transient = satInc 32 s.b.d.faults.transient)) = true) ∧
    (let s := dev id
     let m : Modulator := .modB
     let off : Int := -50001
     let again : Int := 50001
     s.b.d.power.coreOn = true ∧ modExcluded m s.b.d.gauge = false ∧ 50000 < off.natAbs ∧ 50000 < again.natAbs ∧ yields
       (.modulatorCalibration m off again) s (fun d => d.sticky 71 = true ∧ modExcluded m d.gauge = true) = true) ∧
    (let s := dev (chgDev .fastPulse)
     let uv : Int := -100001
     let us := 1000
     s.b.d.power.coreOn = true ∧ 100000 < uv.natAbs ∧ yields (.shuntOverRange uv us) s (fun d => d.gauge.ovr = true ∧
       d.gauge.anchor = none ∧ (1000 ≤ us → d.sticky 72 = true) ∧ (s.b.d.chg.phase = .fastPulse → s.b.d.chgHeld = false →
       s.b.d.coresRun = true → d.chg.phase = .fastCc) ∧ d.gauge = { s.b.d.gauge with ovr := true, anchor := none }) = true) ∧
    (let s := dev gaugeDev
     let a : Int := 5000
     let b : Int := 4500000
     let main := 24000
     s.b.d.power.coreOn = true ∧ s.b.d.gauge.exclB = false ∧ yields (.gaugeSecond ⟨[(a, b)], main⟩) s (fun d =>
       d.gauge.count = clampInt (-(2 ^ 63)) (2 ^ 63 - 1) (s.b.d.gauge.count + (s.b.d.gauge.part + clampInt (-8000000000)
       8000000000 (80 * (b - s.b.d.gauge.offBOld))) / 320000)) = true) ∧
    (let s := dev fun d => { d with power.state := .standby }
     let m : GaugeMeas := ⟨[(4500000, 4500000), (4500000, 4500000)], 24000⟩
     let x := s.b.d.secondOf m.frames
     s.b.d.power.coreOn = true ∧ s.b.d.estimatesRun = false ∧ x.disagree = false ∧ s.b.d.gauge.disagreed = false ∧ yields
       (.gaugeSecond m) s (fun d => d.gauge = { s.b.d.gauge with
         count := clampInt (-(2 ^ 63)) (2 ^ 63 - 1) (s.b.d.gauge.count + x.delta), unadded := s.b.d.gauge.unadded +
           x.delta, part := x.part, tail := x.tail, offBOld := s.b.d.gauge.offB, restS := if x.quiet then s.b.d.gauge.restS
           + 1 else 0, meanMA := x.meanMA, frameMA := x.frameMA, ovr := x.overRange, anchor := if x.overRange then none
           else s.b.d.gauge.anchor } ∧ d.chg = { s.b.d.chg with sessionS := d.chg.sessionS } ∧ (s.b.d.chg.phase.active =
       true → s.b.d.chgHeld = false → d.chg.sessionS = satInc 32 s.b.d.chg.sessionS) ∧ (s.b.d.chg.phase.active = false ∨
       s.b.d.chgHeld = true → d.chg.sessionS = s.b.d.chg.sessionS)) = true) ∧
    (let s := dev fun d => (gaugeDev d).gauge' fun g => { g with disagreed := true }
     let m : GaugeMeas := ⟨List.replicate 41 (4500000, -45000000), 24000⟩
     let x := s.b.d.secondOf m.frames
     s.b.d.power.coreOn = true ∧ x.disagree = true ∧ s.b.d.gauge.disagreed = true ∧ yields (.gaugeSecond m) s (fun d =>
       d.sticky 70 = true ∧ d.gauge.disagreed = false) = true) ∧
    (let s := dev gaugeDev
     let m : GaugeMeas := ⟨[(4500000, 4500000), (9000000, 9000000)], 24000⟩
     let x := s.b.d.secondOf m.frames
     s.b.d.power.coreOn = true ∧ s.b.d.estimatesRun = true ∧ x.disagree = false ∧ s.b.d.gauge.disagreed = false ∧
       s.b.d.gaugeReady = true ∧ s.b.d.gauge.frozen = false ∧ (if x.quiet then s.b.d.gauge.restS + 1 else 0) < s.b.d.nat
       0x2180 8 ∧ x.steady = false ∧ yields (.gaugeSecond m) s (fun d => d.gauge.rc = clampInt 0 s.b.d.gauge.fcc
       (s.b.d.gauge.rc + (s.b.d.gauge.unadded + x.delta)) ∧ d.gauge.cycles = (s.b.d.gauge.addCharge (s.b.d.gauge.unadded +
       x.delta)).cycles ∧ d.gauge.fcc = s.b.d.gauge.fcc ∧ d.gauge.unadded = 0 ∧ d.gauge.rested = false ∧ d.gauge.vbound =
       false ∧ d.gauge.bound = 0xFFFF) = true) ∧
    (let s := dev gaugeDev
     let m : GaugeMeas := ⟨[(4500000, 4500000), (4500000, 4500000)], 24000⟩
     let g : Gauge := s.b.d.gauge.addCharge (s.b.d.gauge.unadded + (s.b.d.secondOf m.frames).delta)
     let x := s.b.d.secondOf m.frames
     s.b.d.power.coreOn = true ∧ g = s.b.d.gauge.addCharge (s.b.d.gauge.unadded + x.delta) ∧ s.b.d.estimatesRun = true ∧
       x.disagree = false ∧ s.b.d.gauge.disagreed = false ∧ s.b.d.estimateValid = true ∧ g.frozen = false ∧ g.fcc ≠ 0 ∧
       g.vunav = false ∧ g.emptied = false ∧ g.fresh = false ∧ (if x.quiet then s.b.d.gauge.restS + 1 else 0) < s.b.d.nat
       0x2180 8 ∧ x.steady = true ∧ yields (.gaugeSecond m) s (fun d => d.gauge.bound = fraction (s.b.d.ocv
       (s.b.d.loadedCellMv m.mainMv x.meanMA - 2 * s.b.d.gs 6)) ∧ (s.b.d.ocv (s.b.d.loadedCellMv m.mainMv x.meanMA - 2 *
       s.b.d.gs 6) ≤ (g.rc : Rat) / g.fcc → d.gauge.rc = g.rc ∧ d.gauge.vbound = false) ∧ ((g.rc : Rat) / g.fcc < s.b.d.ocv
       (s.b.d.loadedCellMv m.mainMv x.meanMA - 2 * s.b.d.gs 6) → d.gauge.vbound = true ∧ d.gauge.rc = Rat.floor (s.b.d.ocv
       (s.b.d.loadedCellMv m.mainMv x.meanMA - 2 * s.b.d.gs 6) * g.fcc))) = true) ∧
    (let s := dev (gaugeDev)
     let main := 0
     let own := 0
     let ms := 1000
     let pack : Int := -1
     s.b.d.power.coreOn = true ∧ s.b.d.gauge.present = true ∧ s.b.d.gauge.empty = false ∧ pack < 0 ∧ 1000 ≤ ms ∧
       s.b.d.estimatesRun = true ∧ (if s.b.d.gauge.vunav then own else main) ≤ s.b.d.endOfDischarge ∧ yields (.emptyRequest
       main own ms pack) s (fun d => d.gauge.empty = true ∧ d.gauge.emptied = true ∧ d.gauge.rc = s.b.d.beadsAt
       s.b.d.reserve ∧ d.sticky 75 = true) = true) := by
  refine ⟨?_, ?_, ?_, ?_, ?_, ?_, ?_, ?_, ?_, ?_⟩ <;> decide +kernel

theorem witness_GaugeEstimates :
    (let s := dev fun d => (gaugeDev d).gauge' fun g => { g with waiting := true }
     let main := 20000
     let ms := 2000
     s.b.d.power.coreOn = true ∧ s.b.d.estimatesRun = true ∧ s.b.d.gauge.present = true ∧ s.b.d.gaugeReady = true ∧
       s.b.d.gauge.waiting = true ∧ 2000 ≤ ms ∧ yields (.insertionEstimate main ms) s (fun d => d.gauge = { s.b.d.gauge with
         rc := s.b.d.beadsAt (s.b.d.ocv (s.b.d.cellMv main)), uncertainty := fraction (s.b.d.ocv (s.b.d.cellMv main) -
           s.b.d.ocv (s.b.d.cellMv main - s.b.d.gs 6)), estValid := true, frozen := false, quality := 1,
         estTime := s.b.hw.counter, waiting := false, wakeDue := false, empty := false }) = true) ∧
    (let s := dev fun d => (gaugeDev d).gauge' fun g => { g with waiting := true }
     let main := 20000
     let pack : Int := -500
     let waited := 10000
     let steady := 1000
     s.b.d.power.coreOn = true ∧ s.b.d.estimatesRun = true ∧ s.b.d.gauge.present = true ∧ s.b.d.gaugeReady = true ∧
       s.b.d.gauge.waiting = true ∧ 10000 ≤ waited ∧ 1000 ≤ steady ∧ yields (.insertionEstimateUnderLoad main pack waited
       steady) s (fun d => d.gauge.rc = s.b.d.beadsAt (s.b.d.ocv (s.b.d.loadedCellMv main pack)) ∧ d.gauge.estValid = true ∧
       d.gauge.quality = 2 ∧ d.gauge.estTime = s.b.hw.counter ∧ d.gauge.frozen = false) = true) ∧
    (let s := dev fun d => (gaugeDev d).gauge' fun g => { g with wakeDue := true, uncertainty := 500 }
     let main := 20000
     let ms := 2000
     s.b.d.power.coreOn = true ∧ s.b.d.estimatesRun = true ∧ s.b.d.gauge.present = true ∧ s.b.d.gaugeReady = true ∧
       s.b.d.gauge.wakeDue = true ∧ 2000 ≤ ms ∧ yields (.wakeEstimate main ms) s (fun d => d.gauge = { s.b.d.gauge with
         rc := clampInt 0 s.b.d.gauge.fcc (s.b.d.gauge.rc + clampInt (-s.b.d.beadsAt ((s.b.d.gauge.uncertainty : Rat) /
           10000)) (s.b.d.beadsAt ((s.b.d.gauge.uncertainty : Rat) / 10000)) (s.b.d.beadsAt (s.b.d.ocv (s.b.d.cellMv main))
           - s.b.d.gauge.rc)), uncertainty := 0, quality := 3, wakeDue := false }) = true) ∧
    (let s := dev gaugeDev
     let charger := true
     let before : List Int := [1, 2, 3, 4, 5]
     let now : Int := 5
     let mainUv : List Int := [20000000, 20000004]
     s.b.d.power.coreOn = true ∧ s.b.d.coresRun = true ∧ s.b.d.gaugeAccepts = true ∧ (charger = true ∨ (s.b.d.gauge.meas =
       none ∧ naturalStep before now = true)) ∧ yields (.impedanceEdge charger before now mainUv) s (fun d => d.gauge =
       ({ s.b.d.gauge with
         meas := some
           { v0 := meanInt mainUv, i0 := meanInt (before.drop (before.length - 4)), charger := charger, edgeTime := s.b.hw.counter }
           })) = true) ∧
    (let s := dev gaugeDev
     let charger := false
     let before : List Int := List.replicate 40 100
     let now : Int := 2100
     let mainUv : List Int := [20000000, 20000004]
     s.b.d.power.coreOn = true ∧ s.b.d.coresRun = true ∧ s.b.d.gaugeAccepts = true ∧ (charger = true ∨ (s.b.d.gauge.meas =
       none ∧ naturalStep before now = true)) ∧ yields (.impedanceEdge charger before now mainUv) s (fun d => d.gauge =
       ({ s.b.d.gauge with
         meas := some
           { v0 := meanInt mainUv, i0 := meanInt (before.drop (before.length - 4)), charger := charger, edgeTime := s.b.hw.counter }
           })) = true) ∧
    (let s := dev fun d => (gaugeDev d).gauge' fun g => { g with meas := some { v0 := 20000000, i0 := 5, charger := true } }
     let m : ImpMeas := { v0 := 20000000, i0 := 5, charger := true }
     let before : List Int := List.replicate 40 100
     let now : Int := 2100
     let mainUv : List Int := [20000000]
     s.b.d.power.coreOn = true ∧ s.b.d.gauge.meas = some m ∧ m.charger = true ∧ s.b.hw.counter ≤ m.edgeTime + 8 ∧ yields
       (.impedanceEdge false before now mainUv) s (fun d => alike d s.b.d) = true) ∧
    (let s := dev fun d => (gaugeDev d).gauge' fun g => { g with meas := some { v0 := 20000000, i0 := 5 } }
     let m : ImpMeas := { v0 := 20000000, i0 := 5 }
     let uv : Int := 19900000
     let frames : List Int := [0, -1995]
     s.b.d.power.coreOn = true ∧ s.b.d.gauge.meas = some m ∧ m.next = 0 ∧ 2000 ≤ (frames.getLastD 0 - m.i0).natAbs ∧ yields
       (.impedanceMeasurementInstant 0 uv frames) s (fun d => d.gauge =
       ({ s.b.d.gauge with meas := some { m with i1 := frames.getLastD 0, v1 := uv, next := 1 } })) = true) ∧
    (let s := dev fun d => (gaugeDev d).gauge' fun g =>
       { g with meas := some { v0 := 20000000, i0 := 5, v1 := 19900000, i1 := -1995, next := 1 } }
     let m : ImpMeas := { v0 := 20000000, i0 := 5, v1 := 19900000, i1 := -1995, next := 1 }
     let uv : Int := 19800000
     let frames : List Int := [-1990, -2000]
     s.b.d.power.coreOn = true ∧ s.b.d.gauge.meas = some m ∧ m.next = 1 ∧ m.inBand frames = true ∧ s.b.d.gauge.rS.taken < 4
       ∧ s.b.d.gauge.rF.taken < 4 ∧ yields (.impedanceMeasurementInstant 1 uv frames) s (fun d => d.gauge.rS = ⟨termOf (m.v1
       - m.v0) (m.i1 - m.i0), s.b.d.gauge.rS.taken + 1⟩ ∧ d.gauge.rF = ⟨termOf (uv - m.v1) (m.i1 - m.i0),
       s.b.d.gauge.rF.taken + 1⟩ ∧ d.gauge.meas = some { m with v10 := uv, next := 2 }) = true) ∧
    (let s := dev fun d => (gaugeDev d).gauge' fun g => { g with
         meas := some { v0 := 20000000, i0 := 5, v1 := 19900000, v10 := 19800000, i1 := -1995, next := 2 } }
     let m : ImpMeas := { v0 := 20000000, i0 := 5, v1 := 19900000, v10 := 19800000, i1 := -1995, next := 2 }
     let uv : Int := 19700000
     let frames : List Int := [-1990, -2000]
     s.b.d.power.coreOn = true ∧ s.b.d.gauge.meas = some m ∧ m.next = 2 ∧ m.inBand frames = true ∧ s.b.d.gauge.rL.taken < 4
       ∧ yields (.impedanceMeasurementInstant 2 uv frames) s (fun d => d.gauge.rL = ⟨termOf (uv - m.v10) (m.i1 - m.i0),
       s.b.d.gauge.rL.taken + 1⟩ ∧ d.gauge.meas = none) = true) ∧
    (let s := dev fun d => (gaugeDev d).gauge' fun g =>
       { g with meas := some { v0 := 20000000, i0 := 5, v1 := 19900000, i1 := -1995, next := 1 } }
     let m : ImpMeas := { v0 := 20000000, i0 := 5, v1 := 19900000, i1 := -1995, next := 1 }
     let k : Fin 3 := 1
     let uv : Int := 19800000
     let frames : List Int := [-1990, -200]
     s.b.d.power.coreOn = true ∧ s.b.d.gauge.meas = some m ∧ m.next = k.val ∧ k ≠ 0 ∧ m.inBand frames = false ∧ yields
       (.impedanceMeasurementInstant k uv frames) s (fun d => d.gauge = { s.b.d.gauge with meas := none }) = true) ∧
    (let s := dev fun d => (held (gaugeDev d)).gauge' fun g => { g with due := true }
     s.b.d.power.coreOn = true ∧ s.b.d.gauge.due = true ∧ s.b.d.gauge.writing = none ∧ s.b.d.shipCommitAdmitted gaugeUs =
       true ∧ yields .gaugeStoreWrite s (fun d => d.gauge = { s.b.d.gauge with
         writing := some (s.b.d.storeRecord s.b.hw.counter), due := false, counted := false, shipW := false }) = true) ∧
    (let s := dev fun d => ((gaugeDev d).gauge' fun g => { g with due := true }).path' fun p => { p with warning := true }
     s.b.d.power.coreOn = true ∧ s.b.d.gauge.due = true ∧ s.b.d.gauge.writing = none ∧ s.b.d.shipCommitAdmitted gaugeUs =
       false ∧ s.b.d.path.warning = true ∧ s.b.d.gauge.counted = false ∧ yields .gaugeStoreWrite s (fun d => d.gauge =
       { s.b.d.gauge with deferred := satInc 32 s.b.d.gauge.deferred, counted := true }) = true) ∧
    (let s := dev fun d => (gaugeDev d).gauge' fun g => { g with writing := some aCopy, copy0 := some aCopy }
     let r : StoreCopy := aCopy
     let c : StoreCopy := aCopy
     s.b.d.power.coreOn = true ∧ s.b.d.gauge.writing = some r ∧ s.b.d.power.test = false ∧ s.b.d.gauge.newest = some (0, c)
       ∧ yields (.gaugeStoreWriteComplete .first) s (fun d => d.gauge =
       { s.b.d.gauge with writing := none, copy1 := some r, rcWritten := r.rc } ∧ d.life =
       { s.b.d.life with pageWrites := satAdd 64 s.b.d.life.pageWrites 2 }) = true) ∧
    (let s := dev fun d => (gaugeDev d).gauge' fun g => { g with writing := some aCopy }
     let r : StoreCopy := aCopy
     s.b.d.power.coreOn = true ∧ s.b.d.gauge.writing = some r ∧ s.b.d.power.test = false ∧ s.b.d.gauge.newest = none ∧
       yields (.gaugeStoreWriteComplete .failed) s (fun d => d.sticky 74 = true ∧ d.gauge.copy0 = none ∧ d.gauge.copy1 =
       s.b.d.gauge.copy1 ∧ d.gauge.writing = none) = true) := by
  refine ⟨?_, ?_, ?_, ?_, ?_, ?_, ?_, ?_, ?_, ?_, ?_, ?_, ?_, ?_⟩ <;> decide +kernel

theorem witness_Thermal :
    (let s := dev id
     let temps : List Int := List.replicate 6 400 ++ List.replicate 6 112
     s.b.d.power.coreOn = true ∧ s.b.d.sampled true = true ∧ s.b.d.coresRun = true ∧ DiesGood s.b.d ∧ DiesAgree temps ∧ (∀ v
       ∈ temps, v < s.b.d.thr 0 3) ∧ yields (.dieSample temps) s (fun d => KeepsPower s d ∧ (∀ n : Fin 28, n.val < 12 →
       d.th.sensor[n].reading = temps.getD n.val 0 ∧ d.th.sensor[n].suspect = false ∧ d.th.sensor[n].broken = false)) = true) ∧
    (let s := dev fun d => (thDev d).setLive 0x2400 7 0xFFF
     let temps : List Int := List.replicate 12 2400
     let n : Fin 28 := 3
     s.b.d.power.coreOn = true ∧ s.b.d.sampled true = true ∧ s.b.d.coresRun = true ∧ DiesGood s.b.d ∧ DiesAgree temps ∧
       n.val < 12 ∧ s.b.d.isMember n = true ∧ 1 ≤ s.b.d.th.sensor[n].shut ∧ s.b.d.thr 0 3 ≤ temps.getD n.val 0 ∧ yieldsBody
       (.dieSample temps) s (fun b => b.hw = { s.b.hw with thermalLatch := true } ∧ b.host = s.b.host ∧ b.d.power.state =
       .off ∧ Unpowered b.d ∧ b.d.path.dcinValid = s.b.d.path.dcinValid ∧ b.d.path.batValid = s.b.d.path.batValid ∧
       b.d.life.latches = satInc 16 s.b.d.life.latches) = true) ∧
    (let s := dev fun d => d.setLive 0x2401 7 1
     let ratios : List Nat := List.replicate 8 2048
     s.b.d.power.coreOn = true ∧ s.b.d.sampled false = true ∧ s.b.d.power.test = false ∧ s.b.d.noConverter = false ∧
       ratios.length = 8 ∧ (∀ x ∈ ratios, 3 * 4096 ≤ x * 100 ∧ x * 100 ≤ 97 * 4096) ∧ (∀ n : Fin 28, 12 ≤ n.val → n.val < 20
       → s.b.d.th.sensor[n].broken = false ∧ s.b.d.th.sensor[n].shut = 0)) ∧
    (let s := dev fun d => (d.setLive 0x2401 7 0x80).th' fun x =>
       { x with sensor := x.sensor.map fun y => { y with bad := 1 } }
     let ratios : List Nat := List.replicate 8 122
     let n : Fin 28 := 19
     s.b.d.power.coreOn = true ∧ s.b.d.sampled false = true ∧ s.b.d.power.test = false ∧ ratios.length = 8 ∧ 12 ≤ n.val ∧
       n.val < 20 ∧ (s.b.d.isMember n = true ∨ n ∈ s.b.d.windowInputs) ∧ (ratios.getD (n.val - 12) 0 * 100 < 3 * 4096 ∨ 97 *
       4096 < ratios.getD (n.val - 12) 0 * 100) ∧ 1 ≤ s.b.d.th.sensor[n].bad ∧ s.b.d.th.sensor[n].broken = false ∧ (∀ k :
       Fin 28, 12 ≤ k.val → k.val < 20 → s.b.d.th.sensor[k].shut = 0) ∧ yields (.remoteSample ratios) s (fun d =>
       d.th.sensor[n].broken = true ∧ d.th.sensor[n].reading = s.b.d.th.sensor[n].reading ∧ d.sticky 82 = true) = true) ∧
    (let s := dev fun d => (d.setLive 0x2401 7 1).th' fun x =>
       { x with sensor := x.sensor.map fun y => { y with bad := 1 } }
     let ratios : List Nat := List.replicate 8 3974
     let n : Fin 28 := 12
     s.b.d.power.coreOn = true ∧ s.b.d.sampled false = true ∧ s.b.d.power.test = false ∧ ratios.length = 8 ∧ 12 ≤ n.val ∧
       n.val < 20 ∧ (s.b.d.isMember n = true ∨ n ∈ s.b.d.windowInputs) ∧ (ratios.getD (n.val - 12) 0 * 100 < 3 * 4096 ∨ 97 *
       4096 < ratios.getD (n.val - 12) 0 * 100) ∧ 1 ≤ s.b.d.th.sensor[n].bad ∧ s.b.d.th.sensor[n].broken = false ∧ (∀ k :
       Fin 28, 12 ≤ k.val → k.val < 20 → s.b.d.th.sensor[k].shut = 0) ∧ yields (.remoteSample ratios) s (fun d =>
       d.th.sensor[n].broken = true ∧ d.th.sensor[n].reading = s.b.d.th.sensor[n].reading ∧ d.sticky 82 = true) = true) ∧
    (let s := dev fun d => (railDev d).setLive 0x2402 7 1
     let mvs : List Nat := List.replicate 8 2750
     s.b.d.power.coreOn = true ∧ s.b.d.sampled false = true ∧ s.b.d.power.test = false ∧ s.b.d.noConverter = false ∧
       mvs.length = 8 ∧ (∀ x ∈ mvs, 250 ≤ x ∧ x ≤ 2750) ∧ (∀ n : Fin 28, 20 ≤ n.val → s.b.d.th.sensor[n].broken = false) ∧
       yields (.stageSample mvs) s (fun d => ∀ n : Fin 28, 20 ≤ n.val → d.th.sensor[n].reading = if s.b.d.isMember n = true
       then s.b.d.stageTemp (n.val - 20) (mvs.getD (n.val - 20) 0) else s.b.d.th.sensor[n].reading) = true) ∧
    (let s := dev fun d => ((railDev d).setLive 0x2402 7 1).sensor' 20 fun x => { x with shut := 1 }
     let mvs : List Nat := List.replicate 8 2750
     let n : Fin 28 := 20
     let r : Rail := 0
     s.b.d.power.coreOn = true ∧ s.b.d.sampled false = true ∧ s.b.d.power.test = false ∧ s.b.d.noConverter = false ∧
       mvs.length = 8 ∧ n.val = 20 + r.val ∧ s.b.d.isMember n = true ∧ 250 ≤ mvs.getD r.val 0 ∧ mvs.getD r.val 0 ≤ 2750 ∧
       s.b.d.th.sensor[n].broken = false ∧ s.b.d.thr 2 3 ≤ s.b.d.stageTemp r.val (mvs.getD r.val 0) ∧ 1 ≤
       s.b.d.th.sensor[n].shut ∧ r.val ∉ s.b.d.th.hotStages ∧ s.b.d.grove.rail[r].mode ≠ .off ∧ (∀ k : Fin 28, 20 ≤ k.val →
       k ≠ n → s.b.d.th.sensor[k].shut = 0) ∧ yields (.stageSample mvs) s (fun d => RailTripped d r 0x0C s.b.hw.counter ∧
       d.sticky 88 = true) = true) ∧
    (let s := dev id
     let n := 2
     s.b.d.power.coreOn = true ∧ 2 ≤ n ∧ yields (.dieConverterMissing n) s (fun d => d.th.missing = true ∧ d.th.throttle =
       true ∧ d.sticky 91 = true ∧ d.grove = s.b.d.grove ∧ d.integ = s.b.d.integ) = true) := by
  refine ⟨?_, ?_, ?_, ?_, ?_, ?_, ?_, ?_⟩ <;> decide +kernel

theorem witness_Converters :
    (let s := dev id
     let q : Requester := .gauge
     s.b.d.power.coreOn = true ∧ s.b.d.power.state ≠ .standby ∧ s.b.d.power.test = false ∧ (s.b.d.conv.a.excluded = false ∨
       s.b.d.conv.taken = true) ∧ s.b.d.conv.a.pending.length < 4 ∧ yields (.injectedTrigger .cA q) s (fun d => d.conv =
       ({ s.b.d.conv with a := { s.b.d.conv.a with pending := s.b.d.conv.a.pending ++ [q] } })) = true) ∧
    (let s := dev fun d => d.conv' fun c => { c with a := { c.a with pending := [.gauge, .gauge, .gauge, .gauge] } }
     s.b.d.power.coreOn = true ∧ s.b.d.power.state ≠ .standby ∧ s.b.d.power.test = false ∧ s.b.d.conv.a.excluded = false ∧ 4
       ≤ s.b.d.conv.a.pending.length ∧ yields (.injectedTrigger .cA .gauge) s (fun d => d.conv =
       { s.b.d.conv with refused := satInc 32 s.b.d.conv.refused } ∧ d.gauge = { s.b.d.gauge with meas := none }) = true) ∧
    (let s := dev id
     let q : Requester := .crossCheck
     s.b.d.power.coreOn = true ∧ s.b.d.power.state ≠ .standby ∧ s.b.d.power.test = false ∧ s.b.d.conv.b.excluded = false ∧
       s.b.d.conv.taken = false ∧ s.b.d.conv.b.inject = false ∧ yields (.injectedTrigger .cB q) s (fun d => d.conv =
       ({ s.b.d.conv with b := { s.b.d.conv.b with inject := true } })) = true) ∧
    (let s := dev fun d => d.conv' fun c => { c with a := { c.a with entry := 14 } }
     let code := 4095
     s.b.d.power.coreOn = true ∧ s.b.d.power.state ≠ .standby ∧ s.b.d.power.test = false ∧ s.b.d.conv.a.excluded = false ∧
       s.b.d.conv.a.failsCheck = false ∧ s.b.d.conv.b.failsCheck = false ∧ (s.b.d.conv.a.entry < 8 ∨ s.b.d.conv.a.entry = 13
       ∨ s.b.d.conv.a.entry = 14) ∧ yields (.regularConversionEnd .cA code) s (fun d => d.conv =
       { s.b.d.conv with a := s.b.d.conv.a.stepA code }) = true) ∧
    (let s := dev fun d => d.conv' fun c => { c with a := { c.a with entry := 8 } }
     let code : Int := 2000
     s.b.d.power.coreOn = true ∧ s.b.d.power.state ≠ .standby ∧ s.b.d.power.test = false ∧ s.b.d.conv.a.excluded = false ∧
       s.b.d.conv.a.failsCheck = false ∧ s.b.d.conv.b.failsCheck = false ∧ s.b.d.conv.a.entry = 8 ∧ s.b.d.conv.excludedNode
       ≠ some 0x17 ∧ yields (.regularConversionEnd .cA code) s (fun d => d.path =
       { s.b.d.path with vsysMv := codeMv 80000 code } ∧ d.conv.a = s.b.d.conv.a.stepA code) = true) ∧
    (let s := dev fun d => d.conv' fun c => { c with a := { c.a with entry := 9 } }
     let code : Int := 2000
     s.b.d.power.coreOn = true ∧ s.b.d.power.state ≠ .standby ∧ s.b.d.power.test = false ∧ s.b.d.conv.a.excluded = false ∧
       s.b.d.conv.a.failsCheck = false ∧ s.b.d.conv.b.failsCheck = false ∧ s.b.d.conv.a.entry = 9 ∧ s.b.d.conv.excludedNode
       ≠ some 0x14 ∧ yields (.regularConversionEnd .cA code) s (fun d => d.path =
       { s.b.d.path with dcinMv := codeMv 80000 code } ∧ d.conv = { s.b.d.conv with a := s.b.d.conv.a.stepA code }) = true) ∧
    (let s := dev fun d => d.conv' fun c => { c with a := { c.a with entry := 10 } }
     let code : Int := 2000
     s.b.d.power.coreOn = true ∧ s.b.d.power.state ≠ .standby ∧ s.b.d.power.test = false ∧ s.b.d.conv.a.excluded = false ∧
       s.b.d.conv.a.failsCheck = false ∧ s.b.d.conv.b.failsCheck = false ∧ s.b.d.conv.a.entry = 10 ∧ s.b.d.conv.excludedNode
       ≠ some 0x15 ∧ yields (.regularConversionEnd .cA code) s (fun d => d.path =
       { s.b.d.path with batMv := codeMv 80000 code } ∧ d.chg = { s.b.d.chg with region := d.chg.region } ∧ d.conv =
       { s.b.d.conv with a := s.b.d.conv.a.stepA code }) = true) ∧
    (let s := dev fun d => d.conv' fun c => { c with a := { c.a with entry := 11 } }
     let code : Int := 2000
     s.b.d.power.coreOn = true ∧ s.b.d.power.state ≠ .standby ∧ s.b.d.power.test = false ∧ s.b.d.conv.a.excluded = false ∧
       s.b.d.conv.a.failsCheck = false ∧ s.b.d.conv.b.failsCheck = false ∧ s.b.d.conv.a.entry = 11 ∧ s.b.d.conv.excludedNode
       ≠ some 0x18 ∧ yields (.regularConversionEnd .cA code) s (fun d => d.path =
       { s.b.d.path with vpreMv := codeMv 10000 code } ∧ d.conv = { s.b.d.conv with a := s.b.d.conv.a.stepA code }) = true) ∧
    (let s := dev fun d => d.conv' fun c => { c with a := { c.a with entry := 15, checkFails := 1 } }
     let code : Nat := 2035
     s.b.d.power.coreOn = true ∧ s.b.d.power.state ≠ .standby ∧ s.b.d.power.test = false ∧ s.b.d.conv.a.excluded = false ∧
       s.b.d.conv.a.entry = 15 ∧ (code < 2036 ∨ 2060 < code) ∧ 1 ≤ s.b.d.conv.a.checkFails ∧ s.b.d.conv.b.failsCheck = false
       ∧ yields (.regularConversionEnd .cA code) s (fun d => d.conv.a.excluded = true ∧ d.conv.a.check = code ∧ d.sticky 93
       = true ∧ d.gauge.vunav = true ∧ (s.b.d.conv.b.excluded = false → d.conv.taken = true)) = true) ∧
    (let s := dev fun d => d.conv' fun c => { c with a := { c.a with entry := 15, checkFails := 1 } }
     let code : Nat := 2061
     s.b.d.power.coreOn = true ∧ s.b.d.power.state ≠ .standby ∧ s.b.d.power.test = false ∧ s.b.d.conv.a.excluded = false ∧
       s.b.d.conv.a.entry = 15 ∧ (code < 2036 ∨ 2060 < code) ∧ 1 ≤ s.b.d.conv.a.checkFails ∧ s.b.d.conv.b.failsCheck = false
       ∧ yields (.regularConversionEnd .cA code) s (fun d => d.conv.a.excluded = true ∧ d.conv.a.check = code ∧ d.sticky 93
       = true ∧ d.gauge.vunav = true ∧ (s.b.d.conv.b.excluded = false → d.conv.taken = true)) = true) ∧
    (let s := dev fun d => (d.conv' fun c => { c with running := true, full := true }).setLive 0x2441 5 24
     let code : Int := 4095
     s.b.d.power.coreOn = true ∧ s.b.d.power.state ≠ .standby ∧ s.b.d.power.test = false ∧ s.b.d.conv.b.excluded = false ∧
       s.b.d.conv.taken = false ∧ s.b.d.conv.running = true ∧ 24 ≤ s.b.d.nat 0x2441 5 ∧ yields (.regularConversionEnd .cB
       code) s (fun d => d.conv.full = true ∧ d.conv.lost = false ∧ d.conv.word = streamWord s.b.d.conv.b.entry
       s.b.d.conv.b.passes (s.b.d.conv.lost || s.b.d.conv.full) (alignCode (s.b.d.nat 0x2441 4 = 1) (entryDiff (s.b.d.nat
       0x2442 (s.b.d.conv.b.entry + 1)) || decide (entryCh (s.b.d.nat 0x2442 (s.b.d.conv.b.entry + 1)) = 0x13)) code)) =
       true) ∧
    (let s := dev id
     let m : CrossMeas := goodCross
     s.b.d.power.coreOn = true ∧ s.b.d.power.state ≠ .standby ∧ s.b.d.power.test = false ∧ s.b.d.conv.b.excluded = false ∧
       s.b.d.conv.taken = false ∧ s.b.d.coresRun = true ∧ s.b.d.conv.a.excluded = false ∧ 2036 ≤ m.checkA ∧ m.checkA ≤ 2060
       ∧ 2036 ≤ m.checkB ∧ m.checkB ≤ 2060 ∧ ((m.mainB : Int) - m.mainA).natAbs ≤ 16 ∧ ((m.vsysB : Int) - m.vsysA).natAbs ≤
       16 ∧ ((m.checkB : Int) - m.checkA).natAbs ≤ 16 ∧ ((m.nodeB : Int) - m.nodeA).natAbs ≤ 16 ∧ yields (.crossCheckRun m)
       s (fun d => d.conv.a.check = m.checkA ∧ d.conv.b.check = m.checkB ∧ d.conv.disagreements = s.b.d.conv.disagreements ∧
       (s.b.d.conv.excludedNode = none → d = { s.b.d with conv := d.conv } ∧ d.conv.rotate = (s.b.d.conv.rotate + 1) % 52) ∧
       (s.b.d.conv.excludedNode = some 0x14 → d =
       { s.b.d with conv := d.conv, path := { s.b.d.path with dcinMv := codeMv 80000 m.nodeB } })) = true) ∧
    (let s := dev fun d => d.conv' fun c => { c with counts := [(0x16, 2)] }
     let m : CrossMeas := badCross
     s.b.d.power.coreOn = true ∧ s.b.d.power.state ≠ .standby ∧ s.b.d.power.test = false ∧ s.b.d.conv.b.excluded = false ∧
       s.b.d.conv.taken = false ∧ s.b.d.coresRun = true ∧ s.b.d.conv.a.excluded = false ∧ s.b.d.conv.excludedNode = none ∧
       s.b.d.conv.counts.get 0x16 = some 2 ∧ 2036 ≤ m.checkA ∧ m.checkA ≤ 2060 ∧ 2036 ≤ m.checkB ∧ m.checkB ≤ 2060 ∧ 16 <
       ((m.mainB : Int) - m.mainA).natAbs ∧ ((m.vsysB : Int) - m.vsysA).natAbs ≤ 16 ∧ ((m.checkB : Int) - m.checkA).natAbs ≤
       16 ∧ ((m.nodeB : Int) - m.nodeA).natAbs ≤ 16 ∧ yields (.crossCheckRun m) s (fun d => d.conv.disagreements = satInc 32
       s.b.d.conv.disagreements ∧ d.conv.excludedNode = some 0x16 ∧ d.sticky 92 = true ∧ d.sticky 95 = true ∧ d.gauge.vunav
       = true) = true) := by
  refine ⟨?_, ?_, ?_, ?_, ?_, ?_, ?_, ?_, ?_, ?_, ?_, ?_, ?_⟩ <;> decide +kernel

theorem witness_Timers :
    (let s := dev fun d => (d.timer' 2 fun x => { x with run := true, regs := { x.regs with cmp := 5, top := 5 } }).setLive
       0x2483 1 0x4200
     let n : TimerNo := 2
     s.b.d.power.coreOn = true ∧ s.b.d.tmCounts n = true ∧ s.b.d.timer[n].regs.cmp ≤ s.b.d.timer[n].regs.top ∧ yields
       (.timerCompareMatch n) s (fun d => d.timer[n] = { s.b.d.timer[n] with
         regs :=
           { s.b.d.timer[n].regs with cmf := true, cnt := s.b.d.timer[n].regs.cmp, cmp := if n = 7 ∧ s.b.d.tmReserved n = true then nextCompare s.b.d.timer[n].regs.cmp else s.b.d.timer[n].regs.cmp }
           } ∧ ((s.b.d.tmCtl n).testBit 9 = false ∨ s.b.d.tmReserved n = true → d = { s.b.d with timer := d.timer }) ∧
       ((s.b.d.tmCtl n).testBit 9 = true → s.b.d.tmReserved n = false → TimerTrigger s.b.d d n.val) ∧ ((s.b.d.tmCtl
       n).testBit 9 = true → s.b.d.tmReserved n = false → s.b.d.tmWake n = true → s.b.d.power.state = .standby →
       d.power.state = .run ∧ d.power.wakeSource = 5)) = true) ∧
    (let s := dev fun d => ({ d with power.state := .standby }.timer' 2 fun x =>
       { x with run := true, regs := { x.regs with cmp := 5, top := 9 } }).setLive 0x2483 1 0x4200
     let n : TimerNo := 2
     s.b.d.power.coreOn = true ∧ s.b.d.tmCounts n = true ∧ s.b.d.timer[n].regs.cmp ≤ s.b.d.timer[n].regs.top ∧ yields
       (.timerCompareMatch n) s (fun d => d.timer[n] = { s.b.d.timer[n] with
         regs :=
           { s.b.d.timer[n].regs with cmf := true, cnt := s.b.d.timer[n].regs.cmp, cmp := if n = 7 ∧ s.b.d.tmReserved n = true then nextCompare s.b.d.timer[n].regs.cmp else s.b.d.timer[n].regs.cmp }
           } ∧ ((s.b.d.tmCtl n).testBit 9 = false ∨ s.b.d.tmReserved n = true → d = { s.b.d with timer := d.timer }) ∧
       ((s.b.d.tmCtl n).testBit 9 = true → s.b.d.tmReserved n = false → TimerTrigger s.b.d d n.val) ∧ ((s.b.d.tmCtl
       n).testBit 9 = true → s.b.d.tmReserved n = false → s.b.d.tmWake n = true → s.b.d.power.state = .standby →
       d.power.state = .run ∧ d.power.wakeSource = 5)) = true) ∧
    (let s := dev fun d => (fun x : Dev => (x.setLive 0x2441 1 2).setLive 0x2441 3 2) <| (d.timer' 2 fun x =>
       { x with run := true, regs := { x.regs with cmp := 5, top := 9 } }).setLive 0x2483 1 0x4100
     let n : TimerNo := 2
     s.b.d.power.coreOn = true ∧ s.b.d.tmCounts n = true ∧ s.b.d.timer[n].regs.up = true ∧ yields (.turnAround n true) s
       (fun d => d.timer[n] = { s.b.d.timer[n] with
         regs :=
           { s.b.d.timer[n].regs with cnt := s.b.d.timer[n].regs.top, up := false, hpc := (s.b.d.timer[n].regs.hpc + 1) % 256, ttf := true }
           } ∧ ((s.b.d.tmCtl n).testBit 8 = false ∨ s.b.d.tmReserved n = true → d = { s.b.d with timer := d.timer }) ∧
       ((s.b.d.tmCtl n).testBit 8 = true → s.b.d.tmReserved n = false → TimerTrigger s.b.d d (0x10 + n.val))) = true) ∧
    (let s := dev fun d => (d.timer' 2 fun x =>
       { x with run := true, regs := { x.regs with cmp := 5, top := 9, up := false } }).setLive 0x2483 1 0x4080
     let n : TimerNo := 2
     s.b.d.power.coreOn = true ∧ s.b.d.tmCounts n = true ∧ s.b.d.timer[n].regs.up = false ∧ yields (.turnAround n false) s
       (fun d => d.timer[n] = { s.b.d.timer[n] with
         regs :=
           { s.b.d.timer[n].regs with cnt := 0, up := true, hpc := (s.b.d.timer[n].regs.hpc + 1) % 256, tbf := true, psc := if s.b.d.tmReserved n then s.b.d.timer[n].regs.psc else s.b.d.tm n 2, top := if s.b.d.tmReserved n then s.b.d.timer[n].regs.top else s.b.d.tm n 3, cmp := if s.b.d.tmReserved n then s.b.d.timer[n].regs.cmp else s.b.d.tm n 4 }
           } ∧ ((s.b.d.tmCtl n).testBit 7 = false ∨ s.b.d.tmReserved n = true → d = { s.b.d with timer := d.timer }) ∧
       ((s.b.d.tmCtl n).testBit 7 = true → s.b.d.tmReserved n = false → TimerTrigger s.b.d d (0x10 + n.val))) = true) ∧
    (let s := dev fun d => ((d.timer' 2 fun x =>
       { x with run := true, regs := { x.regs with cmp := 5, top := 9, cpf := true } }).setLive 0x2483 1 0x2800).setLive
       0x2483 9 0
     let n : TimerNo := 2
     let k : Fin 4 := 2
     let rising := true
     let samples := 255
     let counter := 65537
     s.b.d.power.coreOn = true ∧ s.b.d.tmCounts n = true ∧ n.val = k.val ∧ s.b.d.tmCtl n / 4096 % 4 = 2 ∧ s.b.d.tm n 8 ≤
       samples ∧ edgeSelected (s.b.d.tmCtl n / 1024 % 4) rising = true ∧ (s.b.d.timer[n].regs.edges + 1) % 2 ^ s.b.d.tm n 9
       = 0 ∧ yields (.capture k rising samples counter) s (fun d => d.timer[n] = { s.b.d.timer[n] with
         regs :=
           { s.b.d.timer[n].regs with edges := s.b.d.timer[n].regs.edges + 1, cnt := counter % 65536, cpf := true, ovc := s.b.d.timer[n].regs.ovc || s.b.d.timer[n].regs.cpf, word := s.b.d.timer[n].regs.hpc * 2 ^ 24 + ofBool s.b.d.timer[n].regs.up * 2 ^ 16 + counter % 65536 }
           }) = true) := by
  refine ⟨?_, ?_, ?_, ?_, ?_⟩ <;> decide +kernel

theorem witness_CoreWatchdog :
    (let s := dev fun d => { d with wdc := { first := false } }
     let stamp := s.b.d.wdcOpens
     s.b.d.power.coreOn = true ∧ s.b.d.wdcRuns = true ∧ s.b.d.wdcOpens ≤ stamp ∧ stamp < s.b.d.wdcPeriod ∧ yields
       (.wdCService 0x5EED stamp) s (fun d => d.wdc = { s.b.d.wdc with first := false }) = true) ∧
    (let s := dev id
     let key := 0x5EEC
     let stamp := 0
     s.b.d.power.coreOn = true ∧ s.b.d.wdcRuns = true ∧ key ≠ 0x5EED ∧ yieldsBody (.wdCService key stamp) s (fun b =>
       WdcFailed s.b b 2) = true) ∧
    (let s := dev id
     let tick := s.b.d.wdcPeriod
     s.b.d.power.coreOn = true ∧ s.b.d.wdcRuns = true ∧ s.b.d.wdcPeriod ≤ tick ∧ yieldsBody (.wdCExpiry tick) s (fun b =>
       WdcFailed s.b b 1) = true) ∧
    (let s := dev id
     let tick := s.b.d.wdcPeriod - 1
     s.b.d.power.coreOn = true ∧ s.b.d.wdcRuns = true ∧ tick < s.b.d.wdcPeriod ∧ yields (.wdCExpiry tick) s (fun d => alike
       d s.b.d) = true) := by
  refine ⟨?_, ?_, ?_, ?_⟩ <;> decide +kernel

theorem witness_HostWatchdog :
    (let s := dev fun d => d.wdh' fun w => { w with armed := true, grace := true, late := 100 }
     let tick := 100
     s.b.d.power.coreOn = true ∧ s.b.d.wdhJudges = true ∧ s.b.d.wdh.late ≤ tick ∧ yieldsBody (if s.b.d.wdh.grace then
       .graceEnd tick else .wdHMissing tick) s (fun b => b.hw = { s.b.hw with wdhFails := satInc 16 s.b.hw.wdhFails } ∧
       b.host = s.b.host ∧ b.d.sticky 118 = true ∧ b.d.wdh.reason = 2 ∧ b.d.wdh.task = 0xFF ∧ b.d.wdh.missing =
       s.b.d.wdh.mask &&& (65535 - s.b.d.wdh.tally) ∧ b.d.wdh.failTime = s.b.hw.counter ∧ (s.b.d.nat 0x24C4 6 = 0 ∨
       s.b.d.power.state = .safe → b.d.wdh.hrstLow = true ∧ b.d.wdh.armed = false ∧ b.d.wdh.action = some 0) ∧ (s.b.d.nat
       0x24C4 6 = 1 → s.b.d.power.state = .run → s.b.d.seq.state = .idle → b.d.wdh.action = some 1) ∧ (s.b.d.nat 0x24C4 6 =
       2 → s.b.d.power.state = .run → s.b.d.seq.state = .idle → s.b.d.slaveJoined = false → s.b.d.path.ship ≠ .pastReturn →
       b.d.seq.order = .safeOff ∨ b.d.power.state = .safe)) = true) ∧
    (let s := dev fun d => (d.wdh' fun w => { w with armed := true, late := 100, mask := 3, tally := 1 }).setLive 0x24C4 6 1
     let tick := 100
     s.b.d.power.coreOn = true ∧ s.b.d.wdhJudges = true ∧ s.b.d.wdh.late ≤ tick ∧ yieldsBody (if s.b.d.wdh.grace then
       .graceEnd tick else .wdHMissing tick) s (fun b => b.hw = { s.b.hw with wdhFails := satInc 16 s.b.hw.wdhFails } ∧
       b.host = s.b.host ∧ b.d.sticky 118 = true ∧ b.d.wdh.reason = 2 ∧ b.d.wdh.task = 0xFF ∧ b.d.wdh.missing =
       s.b.d.wdh.mask &&& (65535 - s.b.d.wdh.tally) ∧ b.d.wdh.failTime = s.b.hw.counter ∧ (s.b.d.nat 0x24C4 6 = 0 ∨
       s.b.d.power.state = .safe → b.d.wdh.hrstLow = true ∧ b.d.wdh.armed = false ∧ b.d.wdh.action = some 0) ∧ (s.b.d.nat
       0x24C4 6 = 1 → s.b.d.power.state = .run → s.b.d.seq.state = .idle → b.d.wdh.action = some 1) ∧ (s.b.d.nat 0x24C4 6 =
       2 → s.b.d.power.state = .run → s.b.d.seq.state = .idle → s.b.d.slaveJoined = false → s.b.d.path.ship ≠ .pastReturn →
       b.d.seq.order = .safeOff ∨ b.d.power.state = .safe)) = true) ∧
    (let s := dev fun d => (d.wdh' fun w => { w with armed := true, late := 100, mask := 3, tally := 1 }).setLive 0x24C4 6 2
     let tick := 100
     s.b.d.power.coreOn = true ∧ s.b.d.wdhJudges = true ∧ s.b.d.wdh.late ≤ tick ∧ yieldsBody (if s.b.d.wdh.grace then
       .graceEnd tick else .wdHMissing tick) s (fun b => b.hw = { s.b.hw with wdhFails := satInc 16 s.b.hw.wdhFails } ∧
       b.host = s.b.host ∧ b.d.sticky 118 = true ∧ b.d.wdh.reason = 2 ∧ b.d.wdh.task = 0xFF ∧ b.d.wdh.missing =
       s.b.d.wdh.mask &&& (65535 - s.b.d.wdh.tally) ∧ b.d.wdh.failTime = s.b.hw.counter ∧ (s.b.d.nat 0x24C4 6 = 0 ∨
       s.b.d.power.state = .safe → b.d.wdh.hrstLow = true ∧ b.d.wdh.armed = false ∧ b.d.wdh.action = some 0) ∧ (s.b.d.nat
       0x24C4 6 = 1 → s.b.d.power.state = .run → s.b.d.seq.state = .idle → b.d.wdh.action = some 1) ∧ (s.b.d.nat 0x24C4 6 =
       2 → s.b.d.power.state = .run → s.b.d.seq.state = .idle → s.b.d.slaveJoined = false → s.b.d.path.ship ≠ .pastReturn →
       b.d.seq.order = .safeOff ∨ b.d.power.state = .safe)) = true) ∧
    (let s := dev fun d => (d.wdh' fun w => { w with hrstLow := true, action := some 0 })
     let ms := s.b.d.nat 0x24C4 8
     s.b.d.power.coreOn = true ∧ s.b.d.wdh.hrstLow = true ∧ s.b.d.wdh.width ≤ ms ∧ yields (.nhrstPulseEnd ms) s (fun d =>
       d.wdh.hrstLow = false ∧ d.wdh.action = none) = true) ∧
    (let s := dev fun d => (d.wdh' fun w => { w with hrstLow := true, action := some 0 })
     s.b.d.power.coreOn = true ∧ s.b.d.wdh.hrstLow = true ∧ s.b.d.wdh.readBack = false ∧ yields (.nhrstReadBack true) s (fun
       d => d.wdh.readBack = true ∧ d.sticky 119 = true) = true) ∧
    (let s := dev id
     let high := true
     s.b.d.power.coreOn = true ∧ yields (.hfrz high) s (fun d => d.wdh = { s.b.d.wdh with hfrz := high } ∧ d.wdhFrozen =
       (high && s.b.d.debugOpen) ∧ (high = true → s.b.d.debugOpen = true → d.wdhJudges = false)) = true) := by
  refine ⟨?_, ?_, ?_, ?_, ?_, ?_⟩ <;> decide +kernel

theorem witness_Escalations :
    (let s := dev (timing 20 0x100)
     let src : Source := 20
     let us : Nat := 1000000
     s.b.d.power.coreOn = true ∧ s.b.d.srcState src.val = .timing ∧ s.b.d.nat 0x2511 (src.val + 1) ≤ us ∧ yields
       (.reactionTimerExpiry src us) s (fun d => d.srcState src.val = .escalated ∧ (s.b.d.power.state = .holdup →
       d.faults.owed = s.b.d.faults.owed ++ [src.val]) ∧ (s.b.d.power.state ≠ .holdup → (∀ b, s.b.d.escalation src.val = 1 →
       sourceBranch src.val = some b → d.branchOn b = false) ∧ (s.b.d.escalation src.val = 2 → d.int 0x2140 1 = 0 ∧
       d.chg.phase = .disabled) ∧ (s.b.d.escalation src.val = 3 ∨ s.b.d.escalation src.val = 4 → s.b.d.slaveJoined = false →
       s.b.d.power.state = .run → s.b.d.seq.state = .idle → s.b.d.path.ship ≠ .pastReturn → d.seq.order = .safeOff ∨
       d.power.state = .safe) ∧ (∀ b, s.b.d.escalation src.val = 4 → inMask s.b.d.safeSet b = false → d.branchOn b = false)
       ∧ (s.b.d.escalation src.val = 5 → s.b.d.path.dcinValid = false → s.b.d.power.state = .run → s.b.d.path.ship = .none →
       s.b.d.seq.state = .idle → d.path.ship = .offOrder ∨ d.path.ship = .committing))) = true) ∧
    (let s := dev (timing 0 0x1001)
     let src : Source := 0
     let us : Nat := 1000000
     s.b.d.power.coreOn = true ∧ s.b.d.srcState src.val = .timing ∧ s.b.d.nat 0x2511 (src.val + 1) ≤ us ∧ yields
       (.reactionTimerExpiry src us) s (fun d => d.srcState src.val = .escalated ∧ (s.b.d.power.state = .holdup →
       d.faults.owed = s.b.d.faults.owed ++ [src.val]) ∧ (s.b.d.power.state ≠ .holdup → (∀ b, s.b.d.escalation src.val = 1 →
       sourceBranch src.val = some b → d.branchOn b = false) ∧ (s.b.d.escalation src.val = 2 → d.int 0x2140 1 = 0 ∧
       d.chg.phase = .disabled) ∧ (s.b.d.escalation src.val = 3 ∨ s.b.d.escalation src.val = 4 → s.b.d.slaveJoined = false →
       s.b.d.power.state = .run → s.b.d.seq.state = .idle → s.b.d.path.ship ≠ .pastReturn → d.seq.order = .safeOff ∨
       d.power.state = .safe) ∧ (∀ b, s.b.d.escalation src.val = 4 → inMask s.b.d.safeSet b = false → d.branchOn b = false)
       ∧ (s.b.d.escalation src.val = 5 → s.b.d.path.dcinValid = false → s.b.d.power.state = .run → s.b.d.path.ship = .none →
       s.b.d.seq.state = .idle → d.path.ship = .offOrder ∨ d.path.ship = .committing))) = true) ∧
    (let s := dev (timing 20 0x2001)
     let src : Source := 20
     let us : Nat := 1000000
     s.b.d.power.coreOn = true ∧ s.b.d.srcState src.val = .timing ∧ s.b.d.nat 0x2511 (src.val + 1) ≤ us ∧ yields
       (.reactionTimerExpiry src us) s (fun d => d.srcState src.val = .escalated ∧ (s.b.d.power.state = .holdup →
       d.faults.owed = s.b.d.faults.owed ++ [src.val]) ∧ (s.b.d.power.state ≠ .holdup → (∀ b, s.b.d.escalation src.val = 1 →
       sourceBranch src.val = some b → d.branchOn b = false) ∧ (s.b.d.escalation src.val = 2 → d.int 0x2140 1 = 0 ∧
       d.chg.phase = .disabled) ∧ (s.b.d.escalation src.val = 3 ∨ s.b.d.escalation src.val = 4 → s.b.d.slaveJoined = false →
       s.b.d.power.state = .run → s.b.d.seq.state = .idle → s.b.d.path.ship ≠ .pastReturn → d.seq.order = .safeOff ∨
       d.power.state = .safe) ∧ (∀ b, s.b.d.escalation src.val = 4 → inMask s.b.d.safeSet b = false → d.branchOn b = false)
       ∧ (s.b.d.escalation src.val = 5 → s.b.d.path.dcinValid = false → s.b.d.power.state = .run → s.b.d.path.ship = .none →
       s.b.d.seq.state = .idle → d.path.ship = .offOrder ∨ d.path.ship = .committing))) = true) ∧
    (let s := dev (timing 20 0x3001)
     let src : Source := 20
     let us : Nat := 1000000
     s.b.d.power.coreOn = true ∧ s.b.d.srcState src.val = .timing ∧ s.b.d.nat 0x2511 (src.val + 1) ≤ us ∧ yields
       (.reactionTimerExpiry src us) s (fun d => d.srcState src.val = .escalated ∧ (s.b.d.power.state = .holdup →
       d.faults.owed = s.b.d.faults.owed ++ [src.val]) ∧ (s.b.d.power.state ≠ .holdup → (∀ b, s.b.d.escalation src.val = 1 →
       sourceBranch src.val = some b → d.branchOn b = false) ∧ (s.b.d.escalation src.val = 2 → d.int 0x2140 1 = 0 ∧
       d.chg.phase = .disabled) ∧ (s.b.d.escalation src.val = 3 ∨ s.b.d.escalation src.val = 4 → s.b.d.slaveJoined = false →
       s.b.d.power.state = .run → s.b.d.seq.state = .idle → s.b.d.path.ship ≠ .pastReturn → d.seq.order = .safeOff ∨
       d.power.state = .safe) ∧ (∀ b, s.b.d.escalation src.val = 4 → inMask s.b.d.safeSet b = false → d.branchOn b = false)
       ∧ (s.b.d.escalation src.val = 5 → s.b.d.path.dcinValid = false → s.b.d.power.state = .run → s.b.d.path.ship = .none →
       s.b.d.seq.state = .idle → d.path.ship = .offOrder ∨ d.path.ship = .committing))) = true) ∧
    (let s := dev (timing 20 0x4001)
     let src : Source := 20
     let us : Nat := 1000000
     s.b.d.power.coreOn = true ∧ s.b.d.srcState src.val = .timing ∧ s.b.d.nat 0x2511 (src.val + 1) ≤ us ∧ yields
       (.reactionTimerExpiry src us) s (fun d => d.srcState src.val = .escalated ∧ (s.b.d.power.state = .holdup →
       d.faults.owed = s.b.d.faults.owed ++ [src.val]) ∧ (s.b.d.power.state ≠ .holdup → (∀ b, s.b.d.escalation src.val = 1 →
       sourceBranch src.val = some b → d.branchOn b = false) ∧ (s.b.d.escalation src.val = 2 → d.int 0x2140 1 = 0 ∧
       d.chg.phase = .disabled) ∧ (s.b.d.escalation src.val = 3 ∨ s.b.d.escalation src.val = 4 → s.b.d.slaveJoined = false →
       s.b.d.power.state = .run → s.b.d.seq.state = .idle → s.b.d.path.ship ≠ .pastReturn → d.seq.order = .safeOff ∨
       d.power.state = .safe) ∧ (∀ b, s.b.d.escalation src.val = 4 → inMask s.b.d.safeSet b = false → d.branchOn b = false)
       ∧ (s.b.d.escalation src.val = 5 → s.b.d.path.dcinValid = false → s.b.d.power.state = .run → s.b.d.path.ship = .none →
       s.b.d.seq.state = .idle → d.path.ship = .offOrder ∨ d.path.ship = .committing))) = true) ∧
    (let s := dev (timing 20 0x5001)
     let src : Source := 20
     let us : Nat := 1000000
     s.b.d.power.coreOn = true ∧ s.b.d.srcState src.val = .timing ∧ s.b.d.nat 0x2511 (src.val + 1) ≤ us ∧ yields
       (.reactionTimerExpiry src us) s (fun d => d.srcState src.val = .escalated ∧ (s.b.d.power.state = .holdup →
       d.faults.owed = s.b.d.faults.owed ++ [src.val]) ∧ (s.b.d.power.state ≠ .holdup → (∀ b, s.b.d.escalation src.val = 1 →
       sourceBranch src.val = some b → d.branchOn b = false) ∧ (s.b.d.escalation src.val = 2 → d.int 0x2140 1 = 0 ∧
       d.chg.phase = .disabled) ∧ (s.b.d.escalation src.val = 3 ∨ s.b.d.escalation src.val = 4 → s.b.d.slaveJoined = false →
       s.b.d.power.state = .run → s.b.d.seq.state = .idle → s.b.d.path.ship ≠ .pastReturn → d.seq.order = .safeOff ∨
       d.power.state = .safe) ∧ (∀ b, s.b.d.escalation src.val = 4 → inMask s.b.d.safeSet b = false → d.branchOn b = false)
       ∧ (s.b.d.escalation src.val = 5 → s.b.d.path.dcinValid = false → s.b.d.power.state = .run → s.b.d.path.ship = .none →
       s.b.d.seq.state = .idle → d.path.ship = .offOrder ∨ d.path.ship = .committing))) = true) ∧
    (let s := dev (timing 20 5)
     let src : Source := 20
     let us : Nat := 1000000
     s.b.d.power.coreOn = true ∧ s.b.d.srcState src.val = .timing ∧ s.b.d.nat 0x2511 (src.val + 1) ≤ us ∧ yields
       (.reactionTimerExpiry src us) s (fun d => d.srcState src.val = .escalated ∧ (s.b.d.power.state = .holdup →
       d.faults.owed = s.b.d.faults.owed ++ [src.val]) ∧ (s.b.d.power.state ≠ .holdup → (∀ b, s.b.d.escalation src.val = 1 →
       sourceBranch src.val = some b → d.branchOn b = false) ∧ (s.b.d.escalation src.val = 2 → d.int 0x2140 1 = 0 ∧
       d.chg.phase = .disabled) ∧ (s.b.d.escalation src.val = 3 ∨ s.b.d.escalation src.val = 4 → s.b.d.slaveJoined = false →
       s.b.d.power.state = .run → s.b.d.seq.state = .idle → s.b.d.path.ship ≠ .pastReturn → d.seq.order = .safeOff ∨
       d.power.state = .safe) ∧ (∀ b, s.b.d.escalation src.val = 4 → inMask s.b.d.safeSet b = false → d.branchOn b = false)
       ∧ (s.b.d.escalation src.val = 5 → s.b.d.path.dcinValid = false → s.b.d.power.state = .run → s.b.d.path.ship = .none →
       s.b.d.seq.state = .idle → d.path.ship = .offOrder ∨ d.path.ship = .committing))) = true) ∧
    (let s := dev (timing 20 4)
     let src : Source := 20
     let us : Nat := 1000000
     s.b.d.power.coreOn = true ∧ s.b.d.srcState src.val = .timing ∧ s.b.d.nat 0x2511 (src.val + 1) ≤ us ∧ yields
       (.reactionTimerExpiry src us) s (fun d => d.srcState src.val = .escalated ∧ (s.b.d.power.state = .holdup →
       d.faults.owed = s.b.d.faults.owed ++ [src.val]) ∧ (s.b.d.power.state ≠ .holdup → (∀ b, s.b.d.escalation src.val = 1 →
       sourceBranch src.val = some b → d.branchOn b = false) ∧ (s.b.d.escalation src.val = 2 → d.int 0x2140 1 = 0 ∧
       d.chg.phase = .disabled) ∧ (s.b.d.escalation src.val = 3 ∨ s.b.d.escalation src.val = 4 → s.b.d.slaveJoined = false →
       s.b.d.power.state = .run → s.b.d.seq.state = .idle → s.b.d.path.ship ≠ .pastReturn → d.seq.order = .safeOff ∨
       d.power.state = .safe) ∧ (∀ b, s.b.d.escalation src.val = 4 → inMask s.b.d.safeSet b = false → d.branchOn b = false)
       ∧ (s.b.d.escalation src.val = 5 → s.b.d.path.dcinValid = false → s.b.d.power.state = .run → s.b.d.path.ship = .none →
       s.b.d.seq.state = .idle → d.path.ship = .offOrder ∨ d.path.ship = .committing))) = true) ∧
    (let s := dev (timing 20 3)
     let src : Source := 20
     let us : Nat := 1000000
     s.b.d.power.coreOn = true ∧ s.b.d.srcState src.val = .timing ∧ s.b.d.nat 0x2511 (src.val + 1) ≤ us ∧ yields
       (.reactionTimerExpiry src us) s (fun d => d.srcState src.val = .escalated ∧ (s.b.d.power.state = .holdup →
       d.faults.owed = s.b.d.faults.owed ++ [src.val]) ∧ (s.b.d.power.state ≠ .holdup → (∀ b, s.b.d.escalation src.val = 1 →
       sourceBranch src.val = some b → d.branchOn b = false) ∧ (s.b.d.escalation src.val = 2 → d.int 0x2140 1 = 0 ∧
       d.chg.phase = .disabled) ∧ (s.b.d.escalation src.val = 3 ∨ s.b.d.escalation src.val = 4 → s.b.d.slaveJoined = false →
       s.b.d.power.state = .run → s.b.d.seq.state = .idle → s.b.d.path.ship ≠ .pastReturn → d.seq.order = .safeOff ∨
       d.power.state = .safe) ∧ (∀ b, s.b.d.escalation src.val = 4 → inMask s.b.d.safeSet b = false → d.branchOn b = false)
       ∧ (s.b.d.escalation src.val = 5 → s.b.d.path.dcinValid = false → s.b.d.power.state = .run → s.b.d.path.ship = .none →
       s.b.d.seq.state = .idle → d.path.ship = .offOrder ∨ d.path.ship = .committing))) = true) ∧
    (let s := dev (timing 20 2)
     let src : Source := 20
     let us : Nat := 1000000
     s.b.d.power.coreOn = true ∧ s.b.d.srcState src.val = .timing ∧ s.b.d.nat 0x2511 (src.val + 1) ≤ us ∧ yields
       (.reactionTimerExpiry src us) s (fun d => d.srcState src.val = .escalated ∧ (s.b.d.power.state = .holdup →
       d.faults.owed = s.b.d.faults.owed ++ [src.val]) ∧ (s.b.d.power.state ≠ .holdup → (∀ b, s.b.d.escalation src.val = 1 →
       sourceBranch src.val = some b → d.branchOn b = false) ∧ (s.b.d.escalation src.val = 2 → d.int 0x2140 1 = 0 ∧
       d.chg.phase = .disabled) ∧ (s.b.d.escalation src.val = 3 ∨ s.b.d.escalation src.val = 4 → s.b.d.slaveJoined = false →
       s.b.d.power.state = .run → s.b.d.seq.state = .idle → s.b.d.path.ship ≠ .pastReturn → d.seq.order = .safeOff ∨
       d.power.state = .safe) ∧ (∀ b, s.b.d.escalation src.val = 4 → inMask s.b.d.safeSet b = false → d.branchOn b = false)
       ∧ (s.b.d.escalation src.val = 5 → s.b.d.path.dcinValid = false → s.b.d.power.state = .run → s.b.d.path.ship = .none →
       s.b.d.seq.state = .idle → d.path.ship = .offOrder ∨ d.path.ship = .committing))) = true) := by
  refine ⟨?_, ?_, ?_, ?_, ?_, ?_, ?_, ?_, ?_, ?_⟩ <;> decide +kernel

theorem witness_Signals :
    (let s := dev fun d => d.faults' fun f => { f with pulse := true }
     let us := 100
     s.b.d.power.coreOn = true ∧ 100 ≤ us ∧ yields (.nfaultPulseEnd us) s (fun d => d.faults =
       { s.b.d.faults with pulse := false }) = true) ∧
    (let s := dev fun d => d.faults' fun f => { f with emcyA := [anEmcy] }
     let e : Emcy := anEmcy
     let r : List Emcy := []
     let since := s.b.d.nat 0x1015 0
     s.b.d.power.coreOn = true ∧ s.b.d.faults.emcyA = e :: r ∧ s.b.d.coresRun = true ∧ s.b.d.power.state ≠ .standby ∧
       s.b.d.portA.sendsEmcy = true ∧ s.b.d.nat 0x1015 0 ≤ since ∧ (s.b.d.nat 0x1014 0).testBit 31 = false ∧
       s.b.d.portA.live = true ∧ s.b.d.power.test = false ∧ yields (.emergencyMessage .a since) s (fun d => d.faults =
       { s.b.d.faults with emcyA := r } ∧ d.portA = { s.b.d.portA with sent := satInc 32 s.b.d.portA.sent } ∧ d.out = (.emcy
       .a e :: s.b.d.out)) = true) ∧
    (let s := dev fun d => d.faults' fun f => { f with emcyB := [anEmcy] }
     let e : Emcy := anEmcy
     let r : List Emcy := []
     let since := s.b.d.nat 0x1015 0
     s.b.d.power.coreOn = true ∧ s.b.d.faults.emcyB = e :: r ∧ s.b.d.coresRun = true ∧ s.b.d.power.state ≠ .standby ∧
       s.b.d.portB.sendsEmcy = true ∧ s.b.d.nat 0x1015 0 ≤ since ∧ (s.b.d.nat 0x1014 0).testBit 31 = false ∧
       s.b.d.portB.live = true ∧ s.b.d.power.test = false ∧ yields (.emergencyMessage .b since) s (fun d => d.faults =
       { s.b.d.faults with emcyB := r } ∧ d.portB = { s.b.d.portB with sent := satInc 32 s.b.d.portB.sent } ∧ d.out = (.emcy
       .b e :: s.b.d.out)) = true) := by
  refine ⟨?_, ?_, ?_⟩ <;> decide +kernel

theorem witness_PowerOnResets :
    (let s := dev id
     let dcin := 7999
     let bat := 0
     max dcin bat < 8000 ∧ s.b.hw.powered = true ∧ yieldsBody (.heartwoodPowerOnReset dcin bat) s (fun b => b.host =
       s.b.host ∧ b.hw = { powered := false, lastCause := if s.b.hw.thermalLatch then 9 else 1, powerOnCount := 0 } ∧
       b.d.power.state = .off ∧ b.d.path.dcinValid = false ∧ b.d.path.batValid = false ∧ Unpowered b.d) = true) ∧
    (let s := hwDev (fun h => { h with powered := false }) off
     let dcin := 0
     let bat := 10001
     10000 < max dcin bat ∧ s.b.hw.powered = false ∧ yieldsBody (.heartwoodPowerOnReset dcin bat) s (fun b => b.hw =
       { s.b.hw with powered := true }) = true) ∧
    (let s := dev id
     let dcin := 8000
     let bat := 0
     ((s.b.hw.powered = true ∧ 8000 ≤ max dcin bat) ∨ (s.b.hw.powered = false ∧ max dcin bat ≤ 10000)) ∧ yieldsBody
       (.heartwoodPowerOnReset dcin bat) s (fun b => b = s.b) = true) ∧
    (let s := hwDev (fun h => { h with powered := false }) off
     let dcin := 0
     let bat := 10000
     ((s.b.hw.powered = true ∧ 8000 ≤ max dcin bat) ∨ (s.b.hw.powered = false ∧ max dcin bat ≤ 10000)) ∧ yieldsBody
       (.heartwoodPowerOnReset dcin bat) s (fun b => b = s.b) = true) ∧
    (let s := dev fun d => { d with power.coreOn := false }
     let p : PowerOn := ⟨4651, 0, 0, List.replicate 15 1, List.replicate 15 2, 0, 0, false, 0, List.replicate 8 2048,
       List.replicate 8 2048⟩
     s.b.d.power.coreOn = false ∧ s.b.hw.powered = true ∧ s.b.hw.thermalLatch = false ∧ s.b.hw.shipHold = false ∧ 4650 <
       p.vpreMv ∧ yieldsBody (.devicePowerOnReset p) s (fun b => b.hw = { s.b.hw with
         powerOnCount := satInc 16 s.b.hw.powerOnCount, lastResetTime := s.b.hw.counter, lastCause := if
           s.b.hw.powerOnCount = 0 then s.b.hw.lastCause else if s.b.d.power.brownOut then 3 else 2 } ∧ b.host = s.b.host ∧
       b.d.power.coreOn = true ∧ b.d.straps = sampleStraps p.node p.addr ∧ b.d.nv.banks = s.b.d.nv.banks ∧ b.d.otp.words =
       s.b.d.otp.words ∧ b.d.path.dcinValid = s.b.d.path.dcinValid ∧ ((s.b.d.recs.life.startUp lifeDefault).1 = none →
       b.d.life.powerOns = satInc 32 s.b.d.life.powerOns) ∧ (∀ x, b.d.branchOn x = false)) = true) ∧
    (let s := dev railDev
     let mv := 4199
     s.b.d.power.coreOn = true ∧ mv < 4200 ∧ s.b.d.path.ship ≠ .pastReturn ∧ yields (.brownOutReset mv) s (fun d =>
       Unpowered d ∧ d.power.state = s.b.d.power.state ∧ d.power.brownOut = true ∧ d.path.dcinValid = s.b.d.path.dcinValid ∧
       d.path.batValid = s.b.d.path.batValid ∧ d.path.holdupUs = (if s.b.d.power.state = .holdup then (s.b.hw.counter -
       s.b.d.power.holdupEntry) * 1000000 / 32768 else s.b.d.path.holdupUs) ∧ d.life.brownOuts = satInc 32
       s.b.d.life.brownOuts) = true) ∧
    (let s := dev fun d => { d with path.ship := .pastReturn }
     let mv := 4000
     s.b.d.power.coreOn = true ∧ s.b.d.path.ship = .pastReturn ∧ yields (.brownOutReset mv) s (fun d => alike d s.b.d) =
       true) := by
  refine ⟨?_, ?_, ?_, ?_, ?_, ?_, ?_⟩ <;> decide +kernel

theorem witness_CoreResets :
    (let s := dev id
     let cycles := 1200
     s.b.d.power.coreOn = true ∧ (if s.b.d.power.state = .standby then 250 else 1200) ≤ cycles ∧ s.b.d.power.nrstLow = false
       ∧ yieldsBody (.nrstLow cycles) s (fun b => b.d.power = { s.b.d.power with nrstLow := true } ∧ b.hw = Caused s.b.hw 6
       ∧ b.host = s.b.host ∧ b.d.power = { s.b.d.power with nrstLow := true, test := false } ∧ b.d.grove = s.b.d.grove ∧
       b.d.integ = s.b.d.integ ∧ b.d.dict = s.b.d.dict ∧ b.d.timer = s.b.d.timer ∧ b.d.chg = s.b.d.chg ∧ b.d.faults =
       s.b.d.faults ∧ (s.b.d.seq.state.holds = true → b.d.seq.state = .held ∧ b.d.seq.before = s.b.d.seq.state) ∧
       (s.b.d.seq.state.holds = false → b.d.seq = s.b.d.seq)) = true) ∧
    (let s := dev fun d => d.seq' fun x => { x with state := .pause }
     let cycles := 1200
     s.b.d.power.coreOn = true ∧ (if s.b.d.power.state = .standby then 250 else 1200) ≤ cycles ∧ s.b.d.power.nrstLow = false
       ∧ yieldsBody (.nrstLow cycles) s (fun b => b.d.power = { s.b.d.power with nrstLow := true } ∧ b.hw = Caused s.b.hw 6
       ∧ b.host = s.b.host ∧ b.d.power = { s.b.d.power with nrstLow := true, test := false } ∧ b.d.grove = s.b.d.grove ∧
       b.d.integ = s.b.d.integ ∧ b.d.dict = s.b.d.dict ∧ b.d.timer = s.b.d.timer ∧ b.d.chg = s.b.d.chg ∧ b.d.faults =
       s.b.d.faults ∧ (s.b.d.seq.state.holds = true → b.d.seq.state = .held ∧ b.d.seq.before = s.b.d.seq.state) ∧
       (s.b.d.seq.state.holds = false → b.d.seq = s.b.d.seq)) = true) ∧
    (let s := dev fun d => { d with power.nrstLow := true, seq.state := .held, seq.before := .pause }
     s.b.d.power.coreOn = true ∧ s.b.d.power.nrstLow = true ∧ yields .nrstRelease s (fun d => d.power.nrstLow = false ∧
       (d.portA.enabled = true → d.portA.nmt = .preOp) ∧ (d.portB.enabled = true → d.portB.nmt = .preOp) ∧ d.dict.unlocked =
       false ∧ d.tap = { s.b.d.tap with keyed := false } ∧ d.pool.buffers = [] ∧ d.wdc = { s.b.d.wdc with first := true } ∧
       d.jour.replayDue = true ∧ d.portA.sessions = [] ∧ d.portB.sessions = [] ∧ d.nv.banks = s.b.d.nv.banks ∧ d.nv.remap =
       s.b.d.nv.remap ∧ d.otp.words = s.b.d.otp.words ∧ d.life =
       { s.b.d.life.wholeHours with recordDue := d.life.recordDue } ∧ (s.b.d.seq.heldFail = [] → s.b.d.seq.state = .held →
       s.b.d.seq.before = .pause → s.b.d.power.state ≠ .standby → d.seq.state = .pause ∧ ∀ x, d.branchOn x = s.b.d.branchOn
       x)) = true) ∧
    (let s := dev id
     s.b.d.power.coreOn = true ∧ s.b.d.power.nrstLow = false ∧ s.b.d.power.lockstepWindow = false ∧ s.b.d.sticky 107 = false
       ∧ yieldsBody .lockstepMismatch s (fun b => b.hw = Caused s.b.hw 5 ∧ b.host = s.b.host ∧ b.d.power.lockstepWindow =
       true ∧ b.d.faults.src[107].retrying = true ∧ b.d.sticky 107 = false ∧ b.d.dict.unlocked = false ∧ b.d.jour.replayDue
       = true ∧ b.d.wdc.first = true ∧ ∀ x, b.d.branchOn x = s.b.d.branchOn x) = true) ∧
    (let s := dev fun d => { d with power.lockstepWindow := true }
     s.b.d.power.coreOn = true ∧ s.b.d.power.nrstLow = false ∧ s.b.d.power.lockstepWindow = true ∧ yieldsBody
       .lockstepMismatch s (fun b => b.hw = Caused s.b.hw 5 ∧ b.host = s.b.host ∧ b.d.sticky 107 = true ∧
       b.d.power.lockstepWindow = true) = true) ∧
    (let s := dev fun d => { d with power.lockstepWindow := true }.faults' fun f =>
       { f with src := f.src.set 107 { retrying := true } }
     let ms := 1000
     s.b.d.power.coreOn = true ∧ s.b.d.power.lockstepWindow = true ∧ 1000 ≤ ms ∧ s.b.d.retrying 107 = true ∧ s.b.d.sticky
       107 = false ∧ yields (.lockstepRetryWindowEnd ms) s (fun d => d.power.lockstepWindow = false ∧ d.retrying 107 = false
       ∧ d.faults.transient = satInc 32 s.b.d.faults.transient ∧ (d.power = { s.b.d.power with lockstepWindow := false } ∨
       d.power = { s.b.d.power with lockstepWindow := false }.leaveIdle s.b.hw.counter)) = true) ∧
    (let s := dev fun d => { d with power.lockstepWindow := true }
     let ms := 1000
     s.b.d.power.coreOn = true ∧ s.b.d.power.lockstepWindow = true ∧ 1000 ≤ ms ∧ s.b.d.retrying 107 = false ∧ yields
       (.lockstepRetryWindowEnd ms) s (fun d => d.power = { s.b.d.power with lockstepWindow := false }) = true) ∧
    (let s := dev id
     let mapped := true
     s.b.d.power.coreOn = true ∧ s.b.d.sticky 101 = false ∧ yields (.sramWordError (.uncorrectable mapped)) s (fun d =>
       (mapped = true → d.sticky 101 = true) ∧ (mapped = false → d.faults.transient = satInc 32 s.b.d.faults.transient)) =
       true) ∧
    (let s := dev id
     s.b.d.power.coreOn = true ∧ yields (.sramWordError .correctable) s (fun d => d.sticky 100 = true ∧ KeepsPower s d) =
       true) := by
  refine ⟨?_, ?_, ?_, ?_, ?_, ?_, ?_, ?_, ?_⟩ <;> decide +kernel

theorem witness_Clocks :
    (let s := dev fun d => d.clk' fun c => { c with crystalWanted := true }
     let us := 10000
     s.b.d.power.coreOn = true ∧ s.b.d.clk.crystalWanted = true ∧ us ≤ 10000 ∧ yields (.crystalStable us) s (fun d => d.clk
       = { s.b.d.clk with crystal := true, crystalWanted := false }) = true) ∧
    (let s := dev fun d => d.clk' fun c => { c with crystalWanted := true }
     let us := 10000
     s.b.d.power.coreOn = true ∧ s.b.d.clk.crystalWanted = true ∧ 10000 ≤ us ∧ yields (.crystalStartTimeout us) s (fun d =>
       d.sticky 96 = true ∧ d.clk.crystalWanted = false ∧ d.clk.crystal = s.b.d.clk.crystal ∧ (s.b.d.casc.role ≠ 0 →
       d.sticky 112 = true ∧ d.casc.linkReason = 4)) = true) ∧
    (let s := dev fun d => d.clk' fun c => { c with crystal := true }
     s.b.d.power.coreOn = true ∧ s.b.d.clk.crystal = true ∧ yields .crystalStop s (fun d => d.sticky 96 = true ∧
       d.clk.crystal = false ∧ (s.b.d.casc.role ≠ 0 → d.sticky 112 = true ∧ d.casc.linkReason = 4)) = true) ∧
    (let s := dev fun d => (d.clk' fun c => { c with crystal := true }).casc' fun c => { c with role := 1 }
     s.b.d.power.coreOn = true ∧ s.b.d.clk.crystal = true ∧ yields .crystalStop s (fun d => d.sticky 96 = true ∧
       d.clk.crystal = false ∧ (s.b.d.casc.role ≠ 0 → d.sticky 112 = true ∧ d.casc.linkReason = 4)) = true) ∧
    (let s := dev railDev
     s.b.d.power.coreOn = true ∧ yields .pllLockLoss s (fun d => d.sticky 97 = true ∧ ∀ r : Rail, d.branchOn (railBranch r)
       = false) = true) ∧
    (let s := dev id
     let count := 95
     s.b.d.power.coreOn = true ∧ s.b.d.power.state ≠ .standby ∧ (count < 96 ∨ 160 < count) ∧ s.b.d.retrying 98 = false ∧
       s.b.d.sticky 98 = false ∧ yields (.wdoscCrossCheck count) s (fun d => d.clk = { s.b.d.clk with wdoscCount := count }
       ∧ d.retrying 98 = true) = true) ∧
    (let s := dev fun d => d.faults' fun f => { f with src := f.src.set 98 { retrying := true } }
     let count := 161
     s.b.d.power.coreOn = true ∧ s.b.d.power.state ≠ .standby ∧ (count < 96 ∨ 160 < count) ∧ s.b.d.retrying 98 = true ∧
       yields (.wdoscCrossCheck count) s (fun d => d.clk = { s.b.d.clk with wdoscCount := count, measuring := true }) = true) ∧
    (let s := dev id
     let count := 96
     s.b.d.power.coreOn = true ∧ s.b.d.power.state ≠ .standby ∧ 96 ≤ count ∧ count ≤ 160 ∧ s.b.d.retrying 98 = false ∧
       yields (.wdoscCrossCheck count) s (fun d => d.clk = { s.b.d.clk with wdoscCount := count }) = true) ∧
    (let s := dev fun d => d.faults' fun f => { f with src := f.src.set 98 { retrying := true } }
     let count := 160
     s.b.d.power.coreOn = true ∧ s.b.d.power.state ≠ .standby ∧ 96 ≤ count ∧ count ≤ 160 ∧ s.b.d.retrying 98 = true ∧
       s.b.d.clk.measuring = false ∧ s.b.d.sticky 98 = false ∧ yields (.wdoscCrossCheck count) s (fun d => d.retrying 98 =
       false ∧ d.faults.transient = satInc 32 s.b.d.faults.transient ∧ KeepsPower s d ∧ d.clk =
       { s.b.d.clk with wdoscCount := count }) = true) ∧
    (let s := dev fun d => d.clk' fun c => { c with measuring := true }
     let wdosc := 100
     let bclk := 60000
     s.b.d.power.coreOn = true ∧ s.b.d.clk.measuring = true ∧ yields (.clockDeviationMeasurement wdosc bclk) s (fun d =>
       d.clk.measuring = false ∧ d.sticky 98 = true ∧ (s.b.d.sticky 98 = false → d.faults.src[98].reason = deviating wdosc
       bclk) ∧ d.clk = { s.b.d.clk with measuring := false }) = true) := by
  refine ⟨?_, ?_, ?_, ?_, ?_, ?_, ?_, ?_, ?_, ?_⟩ <;> decide +kernel

theorem witness_HeartwoodClock :
    (let s := { dev id with b.hw.crystalRunning := true }
     s.b.hw.powered = true ∧ s.b.hw.crystalRunning = true ∧ yieldsBody .heartwoodCrystalStop s (fun b => b.hw =
       { s.b.hw with crystalRunning := false, fallback := true } ∧ b.host = s.b.host ∧ (s.b.d.power.coreOn = true →
       b.d.sticky 99 = true) ∧ (s.b.d.power.coreOn = false → b.d = s.b.d)) = true) ∧
    (let s := dev id
     let us := 2000000
     s.b.hw.powered = true ∧ s.b.hw.fallback = false ∧ us ≤ 2000000 ∧ yieldsBody (.heartwoodCrystalStable us) s (fun b =>
       b.hw = { s.b.hw with crystalRunning := true }) = true) ∧
    (let s := dev id
     let us := 2000000
     s.b.hw.powered = true ∧ s.b.hw.crystalRunning = false ∧ 2000000 ≤ us ∧ yieldsBody (.heartwoodCrystalTimeout us) s (fun
       b => b.hw = { s.b.hw with fallback := true } ∧ b.host = s.b.host ∧ (s.b.d.power.coreOn = true → b.d.sticky 99 = true)
       ∧ (s.b.d.power.coreOn = false → b.d = s.b.d)) = true) := by
  refine ⟨?_, ?_, ?_⟩ <;> decide +kernel

theorem witness_Wakes :
    (let s := dev fun d => { d with power.state := .standby }
     let p : Port := .b
     s.b.d.power.coreOn = true ∧ s.b.d.power.state = .standby ∧ yields (.canRxWake p) s (fun d => d.power.state = .run ∧
       d.power.previous = s.b.d.power.code ∧ d.power.wakeSource = 3 + portNo p ∧ d.clk.pllLocked = true) = true) ∧
    (let s := dev fun d => { d with power.state := .standby }.casc' fun c => { c with role := 2 }
     let ns := 2000
     s.b.d.power.coreOn = true ∧ s.b.d.power.state = .standby ∧ s.b.d.casc.role ≠ 0 ∧ 2000 ≤ ns ∧ yields (.cascadeCsyncWake
       ns) s (fun d => d.power.state = .run ∧ d.power.wakeSource = 7 ∧ d.clk.pllLocked = true) = true) ∧
    (let s := dev fun d => { d with power.state := .standby }.tap' fun x => { x with haltDue := true }
     s.b.d.power.coreOn = true ∧ s.b.d.power.state = .standby ∧ s.b.d.coresRun = true ∧ s.b.d.tap.haltDue = true ∧ yields
       .standbyWdCWake s (fun d => d.tap = { s.b.d.tap with halted := true, haltDue := false } ∧ d.power =
       { s.b.d.power with coresStopped := true } ∧ d.wdc = { s.b.d.wdc with halted := true }) = true) ∧
    (let s := dev fun d => { d with power.state := .standby }
     s.b.d.power.coreOn = true ∧ s.b.d.power.state = .standby ∧ s.b.d.coresRun = true ∧ s.b.d.tap.haltDue = false ∧ yields
       .standbyWdCWake s (fun d => d.wdc = { s.b.d.wdc with first := false }) = true) ∧
    (let s := dev id
     s.b.d.power.coreOn = true ∧ s.b.d.power.state = .run ∧ s.b.d.coresRun = true ∧ s.b.d.portA.sessions = [] ∧
       s.b.d.portB.sessions = [] ∧ s.b.d.jour.replayDue = false ∧ (∀ e ∈ s.b.d.jour.entries, e.state.ended = true) ∧
       s.b.d.otp.prog = none ∧ yields .idleEntry s (fun d => d.power =
       { s.b.d.power with state := .idle, previous := s.b.d.power.code, lastTime := s.b.hw.counter }) = true) ∧
    (let s := dev fun d => { d with power.state := .idle }.setLive 0x1012 0 0x80000100
     let p : Port := .a
     let value := 2 ^ 48 + 5
     s.b.d.power.coreOn = true ∧ s.b.d.served = true ∧ (s.b.d.port p).consumes = true ∧ (s.b.d.nat 0x1012 0).testBit 31 =
       true ∧ yields (.timeObject p value) s (fun d => d.clk =
       { s.b.d.clk with lastTimeValue := value % 2 ^ 48, counterAtTime := s.b.hw.counter } ∧ d.power.state ≠ .idle) = true) := by
  refine ⟨?_, ?_, ?_, ?_, ?_, ?_⟩ <;> decide +kernel

theorem witness_Commits :
    (let s := dev fun d => held { d with nv := { d.nv with logQueue := [aRec] } }
     let r : LogRec := aRec
     let rest : List LogRec := []
     s.b.d.power.coreOn = true ∧ s.b.d.power.test = false ∧ s.b.d.nv.logQueue = r :: rest ∧ s.b.d.commitAdmitted logUs =
       true ∧ yields (.logRecordCommit .first) s (fun d => d.nv = (Nv.append { s.b.d.nv with logQueue := rest } r) ∧ d.life
       = { s.b.d.life with pageWrites := satAdd 64 s.b.d.life.pageWrites 1 }) = true) ∧
    (let s := dev fun d => held { d with nv := { d.nv with logQueue := [aRec, aRec] } }
     let r : LogRec := aRec
     let rest : List LogRec := [aRec]
     s.b.d.power.coreOn = true ∧ s.b.d.power.test = false ∧ s.b.d.nv.logQueue = r :: rest ∧ s.b.d.commitAdmitted logUs =
       true ∧ yields (.logRecordCommit .failed) s (fun d => d.nv.log = s.b.d.nv.log ∧ d.nv.newest = s.b.d.nv.newest ∧
       d.sticky 103 = true) = true) ∧
    (let s := dev id
     let sec := 3600
     s.b.d.power.coreOn = true ∧ s.b.d.power.test = false ∧ (s.b.d.inRun = true ∨ s.b.d.power.state = .safe) ∧ yields
       (.operatingHour sec) s (fun d => d.life.hours = satAdd 32 s.b.d.life.hours ((s.b.d.life.seconds + sec) / 3600) ∧
       d.life.seconds = (s.b.d.life.seconds + sec) % 3600) = true) ∧
    (let s := dev fun d => { d with power.state := .safe }
     let sec := 3599
     s.b.d.power.coreOn = true ∧ s.b.d.power.test = false ∧ (s.b.d.inRun = true ∨ s.b.d.power.state = .safe) ∧ yields
       (.operatingHour sec) s (fun d => d.life.hours = satAdd 32 s.b.d.life.hours ((s.b.d.life.seconds + sec) / 3600) ∧
       d.life.seconds = (s.b.d.life.seconds + sec) % 3600) = true) ∧
    (let s := dev fun d => held (d.life' fun l => { l with recordDue := true })
     s.b.d.power.coreOn = true ∧ s.b.d.power.test = false ∧ s.b.d.life.recordDue = true ∧ s.b.d.shipCommitAdmitted recordUs
       = true ∧ yields (.serviceLifeRecordWrite .first) s (fun d => d.life = { s.b.d.life with
         recordDue := false, lastWrite := s.b.hw.counter, pageWrites := satAdd 64 s.b.d.life.pageWrites 4 } ∧ d.recs =
       ({ s.b.d.recs with
         life := s.b.d.recs.life.put { d.life with seconds := 0, firingS := List.replicate 20 0 } true })) = true) ∧
    (let s := dev fun d => held (d.ph' 3 fun x => { x with recorded := some .sapling })
     let page : Fin 1024 := 104
     s.b.d.power.coreOn = true ∧ s.b.d.power.test = false ∧ 104 ≤ page.val ∧ page.val < 112 ∧ s.b.d.commitAdmitted recordUs
       = true ∧ s.b.d.recs.roles.newest.getD roleDefault ≠ s.b.d.roleContent ∧ yields (.commitComplete .record page .first)
       s (fun d => d.recs = { s.b.d.recs with roles := s.b.d.recs.roles.put s.b.d.roleContent true } ∧ d.life =
       { s.b.d.life with pageWrites := satAdd 64 s.b.d.life.pageWrites 4 }) = true) ∧
    (let s := dev fun d => held (d.sensor' 3 fun x => { x with broken := true })
     let page : Fin 1024 := 115
     s.b.d.power.coreOn = true ∧ s.b.d.power.test = false ∧ 114 ≤ page.val ∧ page.val < 116 ∧ s.b.d.commitAdmitted recordUs
       = true ∧ s.b.d.recs.misc.newest.getD miscDefault ≠ s.b.d.miscContent ∧ yields (.commitComplete .record page .first) s
       (fun d => d.recs = { s.b.d.recs with misc := s.b.d.recs.misc.put s.b.d.miscContent true } ∧ d.life =
       { s.b.d.life with pageWrites := satAdd 64 s.b.d.life.pageWrites 1 }) = true) ∧
    (let s := dev fun d => held { d with nv := { d.nv with waiting := [.host who 64 [1, 0]] } }
     let w := who
     let a := 64
     let data : List Byte := [1, 0]
     let rest : List Waiting := []
     let page : Fin 1024 := 0
     s.b.d.power.coreOn = true ∧ s.b.d.power.test = false ∧ s.b.d.nv.waiting = .host w a data :: rest ∧ s.b.d.commitAdmitted
       hostUs = true ∧ (s.b.d.port w.port).live = true ∧ yieldsBody (.commitComplete .hostArea page .first) s (fun b => b.hw
       = s.b.hw ∧ b.host = hostWrite s.b.host a data ∧ b.d.nv.waiting = rest ∧ b.d.out = .ok w :: s.b.d.out ∧ b.d.nv =
       { s.b.d.nv with waiting := rest } ∧ b.d.life = { s.b.d.life with pageWrites := satAdd 64 s.b.d.life.pageWrites 1 }) =
       true) ∧
    (let s := dev fun d => held { d with nv := { d.nv with waiting := [.store who 2] } }
     let w := who
     let sub := 2
     let rest : List Waiting := []
     let page : Fin 1024 := 0
     s.b.d.power.coreOn = true ∧ s.b.d.power.test = false ∧ s.b.d.nv.waiting = .store w sub :: rest ∧ s.b.d.commitAdmitted
       imageUs = true ∧ imageBytes (s.b.d.storeEntries sub s.b.d.bankEntries) ≤ 3056 ∧ yields (.commitComplete .image page
       .first) s (fun d => KeepsPower s d ∧ d.nv.banks[otherBank s.b.d].entries = s.b.d.storeEntries sub s.b.d.bankEntries ∧
       d.nv.banks[otherBank s.b.d].ok = true ∧ d.nv.imageStatus = (otherBank s.b.d).val + 1 ∧ d.nv.banks[1 - otherBank
       s.b.d] = s.b.d.nv.banks[1 - otherBank s.b.d] ∧ d.nv.waiting = rest) = true) ∧
    (let s := dev fun d => held (d.jour' fun j => { j with writeFailed := true })
     let page : Fin 1024 := 0
     s.b.d.power.coreOn = true ∧ s.b.d.power.test = false ∧ s.b.d.commitAdmitted entryUs = true ∧ yields (.commitComplete
       .journal page .first) s (fun d => d.jour = { s.b.d.jour with writeFailed := false, unmapped := false } ∧ d.life =
       { s.b.d.life with pageWrites := satAdd 64 s.b.d.life.pageWrites 2 }) = true) ∧
    (let s := dev held
     let page : Fin 1024 := 0
     s.b.d.power.coreOn = true ∧ s.b.d.power.test = false ∧ s.b.d.commitAdmitted entryUs = true ∧ yields (.commitComplete
       .journal page .failed) s (fun d => d.jour.writeFailed = true ∧ d.sticky 111 = true ∧ d.sticky 103 = true) = true) := by
  refine ⟨?_, ?_, ?_, ?_, ?_, ?_, ?_, ?_, ?_, ?_, ?_⟩ <;> decide +kernel

theorem witness_MarginAndOtp :
    (let s := dev fun d => held { d with nv := { d.nv with sweep := 1023 } }
     s.b.d.power.coreOn = true ∧ ∃ _ : s.b.d.commitAdmitted logUs = true, s.b.d.power.state = .run ∧ yields (.marginRead
       .good) s (fun d => d.nv = { s.b.d.nv with sweep := (s.b.d.nv.sweep + 1) % 1024 }) = true) ∧
    (let s := dev fun d => held { d with nv := { d.nv with sweep := 1023 } }
     s.b.d.power.coreOn = true ∧ ∃ _ : s.b.d.commitAdmitted logUs = true, s.b.d.power.state = .run ∧ yields (.marginRead
       .uncorrectable) s (fun d => alike d
       (({ s.b.d with nv := { s.b.d.nv with sweep := (s.b.d.nv.sweep + 1) % 1024 } }).losePage s.b.d.nv.sweep)) = true) ∧
    (let s := dev fun d => held { d with nv := { d.nv with sweep := 1023 } }
     s.b.d.power.coreOn = true ∧ ∃ _ : s.b.d.commitAdmitted logUs = true, s.b.d.power.state = .run ∧
       s.b.d.nv.marginOnce.contains s.b.d.nv.sweep = false ∧ yields (.marginRead .margin) s (fun d => KeepsPower s d ∧
       d.sticky 102 = true ∧ d.nv.marginOnce = s.b.d.nv.marginOnce ++ [s.b.d.nv.sweep] ∧ d.nv.refreshes = satInc 32
       s.b.d.nv.refreshes ∧ d.nv.remap = s.b.d.nv.remap) = true) ∧
    (let s := dev fun d => held { d with nv := { d.nv with sweep := 1023, marginOnce := [1023] } }
     s.b.d.power.coreOn = true ∧ ∃ _ : s.b.d.commitAdmitted logUs = true, s.b.d.power.state = .run ∧
       s.b.d.nv.marginOnce.contains s.b.d.nv.sweep = true ∧ s.b.d.nv.freeSpares ≠ 0 ∧ yields (.marginRead .margin) s (fun d
       => d.sticky 102 = true ∧ d.nv.remap = s.b.d.nv.remap ++ [s.b.d.nv.sweep] ∧ d.recs =
       { s.b.d.recs with remap := s.b.d.recs.remap.put d.nv.remap true } ∧ (s.b.d.nv.freeSpares = 1 → d.sticky 104 = true) ∧
       d.nv.sweep = (s.b.d.nv.sweep + 1) % 1024) = true) ∧
    (let s := dev fun d => held { d with otp := { d.otp with prog := some ⟨who, [60, 127], [(480, 5)], 0⟩ } }
     let p : Prog := ⟨who, [60, 127], [(480, 5)], 0⟩
     let r := 60
     let r2 := 127
     let rest : List Nat := []
     s.b.d.power.coreOn = true ∧ s.b.d.otp.prog = some p ∧ p.rows = r :: r2 :: rest ∧ s.b.d.commitAdmitted otpRowUs = true ∧
       yields (.otpRowProgrammed true) s (fun d => d.otp = ({ s.b.d.otp with
         words := (s.b.d.rowWords p r).foldl (fun m y => Words.set m y.1 y.2) s.b.d.otp.words, prog := some
           { p with rows := r2 :: rest } })) = true) ∧
    (let s := dev fun d => held { d with otp := { d.otp with prog := some ⟨who, [60], [(480, 5)], 0⟩ } }
     let p : Prog := ⟨who, [60], [(480, 5)], 0⟩
     let r := 60
     s.b.d.power.coreOn = true ∧ s.b.d.otp.prog = some p ∧ p.rows = [r] ∧ s.b.d.commitAdmitted otpRowUs = true ∧ (s.b.d.port
       p.who.port).live = true ∧ s.b.d.power.test = false ∧ yields (.otpRowProgrammed true) s (fun d => d.otp.prog = none ∧
       d.otp.lastResult = 1 ∧ d.otp.words = (s.b.d.rowWords p r).foldl (fun m y => Words.set m y.1 y.2) s.b.d.otp.words ∧
       d.out = .ok p.who :: s.b.d.out) = true) ∧
    (let s := dev fun d => held { d with otp := { d.otp with prog := some ⟨who, [60], [(480, 5)], 0⟩ } }
     let p : Prog := ⟨who, [60], [(480, 5)], 0⟩
     let us := 100001
     s.b.d.power.coreOn = true ∧ s.b.d.otp.prog = some p ∧ (100000 < us ∨ s.b.d.progConditions s.b.d.dieForOtp = false) ∧
       yields (.programmingStop us) s (fun d => d.otp = { s.b.d.otp with prog := none, lastResult := 0x0A }) = true) := by
  refine ⟨?_, ?_, ?_, ?_, ?_, ?_, ?_⟩ <;> decide +kernel

theorem witness_TestPort :
    (let s := dev id
     s.b.d.power.coreOn = true ∧ yields .tapReset s (fun d => d.tap =
       { s.b.d.tap with instr := 1, refused := false, keyed := false } ∧ (s.b.d.dict.key.isSome = true → d.debugOpen = false
       ∧ d.wdhFrozen = false)) = true) ∧
    (let s := dev id
     s.b.d.power.coreOn = true ∧ yields .bypass s (fun d => d.tap = { s.b.d.tap with instr := 0x1F, refused := false } ∧
       d.out.length = s.b.d.out.length + 1) = true) ∧
    (let s := dev id
     s.b.d.power.coreOn = true ∧ yields .idcode s (fun d => d.tap.instr = 1 ∧ d.tap.refused = false ∧ d.out.head? = some
       (.tap 0x292203AB)) = true) ∧
    (let s := dev id
     let cells := 2 ^ 153 - 5
     s.b.d.power.coreOn = true ∧ yields (.samplePreload cells) s (fun d => d.tap =
       { s.b.d.tap with instr := 2, refused := false, cells := cells % 2 ^ 153 } ∧ d.out.length = s.b.d.out.length + 2) =
       true) ∧
    (let s := dev id
     let cells := 2 ^ 153 - 5
     s.b.d.power.coreOn = true ∧ s.b.d.scanAllowed = true ∧ yields (.extest cells) s (fun d => d.tap =
       { s.b.d.tap with instr := 0, refused := false, cells := cells % 2 ^ 153 } ∧ d.out.length = s.b.d.out.length + 2) =
       true) ∧
    (let s := dev id
     s.b.d.power.coreOn = true ∧ s.b.d.scanAllowed = true ∧ yields .clamp s (fun d => d.tap =
       { s.b.d.tap with instr := 4, refused := false } ∧ d.out.length = s.b.d.out.length + 1) = true) ∧
    (let s := dev id
     s.b.d.power.coreOn = true ∧ s.b.d.scanAllowed = true ∧ yields .highz s (fun d => d.tap =
       { s.b.d.tap with instr := 5, refused := false } ∧ d.out.length = s.b.d.out.length + 1) = true) ∧
    (let s := dev railDev
     let cells := 2 ^ 153 - 5
     s.b.d.power.coreOn = true ∧ s.b.d.scanAllowed = false ∧ yields (.extest cells) s (fun d => d.tap =
       { s.b.d.tap with instr := 0x1F, refused := true } ∧ d.out.length = s.b.d.out.length + 1) = true) ∧
    (let s := dev railDev
     s.b.d.power.coreOn = true ∧ s.b.d.scanAllowed = false ∧ yields .clamp s (fun d => d.tap =
       { s.b.d.tap with instr := 0x1F, refused := true } ∧ d.out.length = s.b.d.out.length + 1) = true) ∧
    (let s := dev railDev
     s.b.d.power.coreOn = true ∧ s.b.d.scanAllowed = false ∧ yields .highz s (fun d => d.tap =
       { s.b.d.tap with instr := 0x1F, refused := true } ∧ d.out.length = s.b.d.out.length + 1) = true) := by
  refine ⟨?_, ?_, ?_, ?_, ?_, ?_, ?_, ?_, ?_, ?_⟩ <;> decide +kernel

theorem witness_DebugAccess :
    (let s := dev fun d => d.dict' fun x => { x with key := some 1234, consecutive := 2 }
     let k : Nat := 1234
     let v := 1234
     s.b.d.power.coreOn = true ∧ s.b.d.dict.key = some k ∧ s.b.d.dict.lockout = false ∧ v % 2 ^ 32 = k ∧ yields (.dbgkey v)
       s (fun d => d.tap.keyed = true ∧ d.dict = { s.b.d.dict with consecutive := 0 } ∧ d.tap.instr = 0x10 ∧ d.debugOpen =
       !s.b.d.tap.lockBlown) = true) ∧
    (let s := dev fun d => d.dict' fun x => { x with key := some 1234, consecutive := 2 }
     let k : Nat := 1234
     let v := 1235
     s.b.d.power.coreOn = true ∧ s.b.d.dict.key = some k ∧ s.b.d.dict.lockout = false ∧ v % 2 ^ 32 ≠ k ∧ yields (.dbgkey v)
       s (fun d => d.tap.keyed = s.b.d.tap.keyed ∧ d.tap.instr = 0x10 ∧ d.dict = { s.b.d.dict with
         mismatches := satInc 16 s.b.d.dict.mismatches, lockout := decide (2 ≤ s.b.d.dict.consecutive), consecutive := if 2
           ≤ s.b.d.dict.consecutive then 0 else s.b.d.dict.consecutive + 1 }) = true) ∧
    (let s := dev id
     let v := 0
     s.b.d.power.coreOn = true ∧ (s.b.d.dict.key = none ∨ s.b.d.dict.lockout = true) ∧ yields (.dbgkey v) s (fun d => d.tap
       = { s.b.d.tap with instr := 0x10, refused := false } ∧ d.out.length = s.b.d.out.length + 1) = true) ∧
    (let s := dev fun d => d.dict' fun x => { x with key := some 1234, lockout := true }
     let ms := 10000
     s.b.d.power.coreOn = true ∧ s.b.d.dict.lockout = true ∧ 10000 ≤ ms ∧ yields (.keyLockoutEnd ms) s (fun d => d.dict =
       { s.b.d.dict with lockout := false, consecutive := 0 }) = true) ∧
    (let s := dev fun d => d.dict' fun x => { x with key := some 1234 }
     let q : DebugReq := .halt
     s.b.d.power.coreOn = true ∧ s.b.d.debugOpen = false ∧ yields (.dbgacc q) s (fun d => d.tap =
       { s.b.d.tap with instr := 0x11, refused := false } ∧ d.out.head? = some (.tap 0) ∧ d.power = s.b.d.power) = true) ∧
    (let s := dev id
     s.b.d.power.coreOn = true ∧ s.b.d.debugOpen = true ∧ s.b.d.power.state ≠ .standby ∧ yields (.dbgacc .halt) s (fun d =>
       d.tap.halted = true ∧ d.power = { s.b.d.power with coresStopped := true } ∧ d.wdc =
       { s.b.d.wdc with halted := true }) = true) ∧
    (let s := dev fun d => { d with power.state := .standby }
     s.b.d.power.coreOn = true ∧ s.b.d.debugOpen = true ∧ s.b.d.power.state = .standby ∧ yields (.dbgacc .halt) s (fun d =>
       d.tap.haltDue = true ∧ d.power = s.b.d.power) = true) ∧
    (let s := dev fun d => { d with power.coresStopped := true }.tap' fun x => { x with halted := true }
     s.b.d.power.coreOn = true ∧ s.b.d.debugOpen = true ∧ s.b.d.tap.halted = true ∧ yields (.dbgacc .resume) s (fun d =>
       d.tap.halted = false ∧ d.power = { s.b.d.power with coresStopped := false } ∧ d.wdc =
       { s.b.d.wdc with halted := false }) = true) ∧
    (let s := dev id
     let reg := 3
     s.b.d.power.coreOn = true ∧ s.b.d.debugOpen = true ∧ yields (.dbgacc (.vendorRead reg)) s (fun d => d.out.length =
       s.b.d.out.length + 2) = true) := by
  refine ⟨?_, ?_, ?_, ?_, ?_, ?_, ?_, ?_, ?_⟩ <;> decide +kernel

theorem witness_SettingReadsBack :
    (let d : Dev := State.reset.b.d
     let i : Nat × Nat := (0x2200, 1)
     let j : Nat × Nat := (0x2200, 1)
     let v : Int := 5
     i.2 < 256 ∧ j.2 < 256 ∧ (d.setLive i.1 i.2 v).int j.1 j.2 = if i = j then v else d.int j.1 j.2) ∧
    (let d : Dev := railDev State.reset.b.d
     let i : Nat × Nat := (0x2200, 1)
     let j : Nat × Nat := (0x2210, 1)
     let v : Int := 5
     i.2 < 256 ∧ j.2 < 256 ∧ (d.setLive i.1 i.2 v).int j.1 j.2 = if i = j then v else d.int j.1 j.2) := by
  refine ⟨?_, ?_⟩ <;> decide +kernel

theorem witness_SettingWrites :
    (let s := dev id
     let w := who
     let v : Int := 5000
     let v' : Int := 5000
     Passes s w 0x2100 2 (objectSize 0x2100 2) v v' ∧ yields (.inputCurrentLimitWrite w v) s (fun d => alike d ((((awake
       s).setLive 0x2100 2 v')).ok w)) = true) ∧
    (let s := dev gaugeDev
     let w := who
     let v : Int := 21000
     let v' : Int := 21000
     Passes s w 0x2140 2 (objectSize 0x2140 2) v v' ∧ yields (.chargeSettingWrite w false v) s (fun d => alike d ((((awake
       s).setLive 0x2140 2 v')).ok w)) = true) ∧
    (let s := dev fun d => d.setLive 0x2100 5 0
     let w := who
     let v : Int := 0
     let v' : Int := 0
     Passes s w 0x2140 3 (objectSize 0x2140 3) v v' ∧ yields (.chargeSettingWrite w true v) s (fun d => alike d ((((awake
       s).setLive 0x2140 3 v')).ok w)) = true) ∧
    (let s := dev id
     let w := who
     let v : Int := ocvWord
     let v' : Int := ocvWord
     let len := 128
     Passes s w 0x2182 1 len v v' ∧ yields (.ocvTableWrite w len v) s (fun d => alike d ((((awake s).setLive 0x2182 1
       v')).ok w)) = true) ∧
    (let s := dev id
     let w := who
     let v : Int := 1
     let v' : Int := 1
     Passes s w 0x2500 7 (objectSize 0x2500 7) v v' ∧ yields (.nfaultDrive w v) s (fun d => alike d ((((awake s).setLive
       0x2500 7 v')).ok w)) = true) ∧
    (let s := dev fun d => d.setLive 0x2510 1 0x100
     let w := who
     let v : Int := 0x103
     let v' : Int := ((sourceWord 1 0x103 : Nat) : Int)
     let src : Source := 1
     Passes s w 0x2510 (src.val + 1) (objectSize 0x2510 (src.val + 1)) v v' ∧ yields (.sourceConfigurationWrite w src v) s
       (fun d => alike d ((((awake s).setLive 0x2510 (src.val + 1) v')).ok w)) = true) ∧
    (let s := dev fun d => (d.setLive 0x1400 1 0x80000201).setLive 0x1600 1 0x21400108
     let w := who
     let v : Int := 1
     let v' : Int := 1
     let p : Fin 16 := 0
     Passes s w (0x1600 + p.val) 0 (objectSize (0x1600 + p.val) 0) v v' ∧ yields (.pdoMappingCount w false p v) s (fun d =>
       alike d ((((awake s).setLive (0x1600 + p.val) 0 v')).ok w)) = true) ∧
    (let s := dev fun d => (d.setLive 0x1800 1 0x80000181).setLive 0x1A00 1 0x21400108
     let w := who
     let v : Int := 1
     let v' : Int := 1
     let p : Fin 16 := 0
     Passes s w (0x1A00 + p.val) 0 (objectSize (0x1A00 + p.val) 0) v v' ∧ yields (.pdoMappingCount w true p v) s (fun d =>
       alike d ((((awake s).setLive (0x1A00 + p.val) 0 v')).ok w)) = true) ∧
    (let s := dev fun d => (d.setLive 0x1400 1 0x80000201)
     let w := who
     let v : Int := 0x333
     let v' : Int := 0x333
     let p : Fin 16 := 0
     Passes s w (0x1400 + p.val) 1 (objectSize (0x1400 + p.val) 1) v v' ∧ yields (.cobIdWrite w false p v) s (fun d => alike
       d ((((awake s).setLive (0x1400 + p.val) 1 v')).ok w)) = true) ∧
    (let s := dev fun d => (d.setLive 0x1800 1 0x80000181)
     let w := who
     let v : Int := 0x333
     let v' : Int := 0x333
     let p : Fin 16 := 0
     Passes s w (0x1800 + p.val) 1 (objectSize (0x1800 + p.val) 1) v v' ∧ yields (.cobIdWrite w true p v) s (fun d => alike
       d ((((awake s).setLive (0x1800 + p.val) 1 v')).ok w)) = true) := by
  refine ⟨?_, ?_, ?_, ?_, ?_, ?_, ?_, ?_, ?_, ?_⟩ <;> decide +kernel

theorem witness_PowerWrites :
    (let s := dev fun d => (((((gaugeDev d).setLive 0x2140 4 1).setLive 0x2140 3 2000).setLive 0x2140 9 50).setLive 0x2142 4
       1)
     let w := who
     Passes s w 0x2140 1 (objectSize 0x2140 1) 1 1 ∧ s.b.d.inRun = true ∧ s.b.d.chg.phase = .disabled ∧ yields
       (.chargerEnable w) s (fun d => d.int 0x2140 1 = 1 ∧ d.chg.phase = .wait ∧ d.chg.phaseTime = s.b.hw.counter) = true) ∧
    (let s := dev fun d => (d.setLive 0x2140 1 1).chg' fun c => { c with phase := .wait }
     let w := who
     Passes s w 0x2140 1 (objectSize 0x2140 1) 0 0 ∧ s.b.d.chg.phase ≠ .disabled ∧ yields (.chargerDisable w) s (fun d =>
       d.int 0x2140 1 = 0 ∧ d.chg.phase = .disabled ∧ d.chg.stopReason = 2 ∧ d.chg.region = 0) = true) ∧
    (let s := dev gaugeDev
     let w := who
     let v : Int := 1
     let v' : Int := 1
     Passes s w 0x2180 0x0D (objectSize 0x2180 0x0D) v v' ∧ yields (.newPack w v) s (fun d => alike d (((if v' = 1 then
       (awake s).newPackValues else awake s)).ok w)) = true) ∧
    (let s := dev gaugeDev
     let w := who
     let v : Int := 500
     let v' : Int := 500
     Passes s w 0x2180 1 (objectSize 0x2180 1) v v' ∧ yields (.shuntResistanceWrite w v) s (fun d => alike d (((((awake
       s).setLive 0x2180 1 v').rescaleShunt ((awake s).int 0x2180 1) v')).ok w)) = true) ∧
    (let s := dev fun d => d.seq' fun x => { x with events := 4 }
     let w := who
     let v : Int := 1
     let v' : Int := 1
     Passes s w 0x2310 4 (objectSize 0x2310 4) v v' ∧ v' = 1 ∧ yields (.clearRecord w v) s (fun d => alike d
       (({ awake s with seq := { s.b.d.seq with record := none, staged := none, events := 0 } }).ok w)) = true) := by
  refine ⟨?_, ?_, ?_, ?_, ?_⟩ <;> decide +kernel

theorem witness_BranchWrites :
    (let s := dev railDev
     let w := who
     let v : Int := 1000000
     let v' : Int := 1000000
     let r : Rail := 0
     Passes s w (0x2200 + r.val) 1 (objectSize (0x2200 + r.val) 1) v v' ∧ yields (.grSetPointWrite w r v) s (fun d => d.int
       (0x2200 + r.val) 1 = v' ∧ d.grove.rail[r].lp.target = (if s.b.d.grove.rail[r].mode = .regulating ∨
       s.b.d.grove.rail[r].mode = .softStart then setPointCode v'.toNat (s.b.d.ratio r) else s.b.d.grove.rail[r].lp.target)
       ∧ d.grove.rail[r].lp.vref = s.b.d.grove.rail[r].lp.vref ∧ d.grove.rail[r].mode = s.b.d.grove.rail[r].mode ∧ (∀ run,
       s.b.d.grove.run = some run → run.rail = r.val → d.grove.run = none ∧ d.grove.result[r].outcome = 0x13) ∧ d.grove.ph =
       s.b.d.grove.ph ∧ d.integ = s.b.d.integ ∧ (∀ q, q ≠ r → d.grove.rail[q] = s.b.d.grove.rail[q])) = true) ∧
    (let s := dev fun d => (d.setLive 0x2240 1 1200).ib' 0 fun x => { x with on := true, refMv := 1200, targetMv := 1200 }
     let w := who
     let v : Int := 1300
     let v' : Int := 1300
     let c : Integrated := .ib 0
     Passes s w (chanIndex c) 1 (objectSize (chanIndex c) 1) v v' ∧ yields (.ibLdSetPointWrite w c v) s (fun d => d.int
       (chanIndex c) 1 = v' ∧ d.chan c = (if (s.b.d.chan c).on = true ∧ (s.b.d.chan c).hiccup = false then
       { s.b.d.chan c with targetMv := v'.toNat } else s.b.d.chan c)) = true) ∧
    (let s := dev railDev
     let w := who
     let v : Int := 1
     let v' : Int := 1
     let r : Rail := 0
     Passes s w (0x2200 + r.val) 0x0E (objectSize (0x2200 + r.val) 0x0E) v v' ∧ v' = 1 ∧ yields (.coefficientCommit w r v) s
       (fun d => alike d ((((awake s).lp' r fun l => if s.b.d.grove.rail[r].mode = .off then
       { l with committed := some (s.b.d.shadowSet r) } else
       { l with active := s.b.d.shadowSet r, configured := s.b.d.shadowSet r })).ok w)) = true) ∧
    (let s := dev railDev
     let w := who
     let v : Int := 2
     let v' : Int := 2
     Passes s w 0x2238 3 (objectSize 0x2238 3) v v' ∧ yields (.runNow w v) s (fun d => alike d (({ awake s with
         grove := { s.b.d.grove with runNext := v'.toNat :: s.b.d.grove.runNext.filter (· ≠ v'.toNat) } }).ok w)) = true) ∧
    (let s := dev railDev
     let w := who
     let v : Int := 2
     let p : Phase := 2
     Passes s w 0x2234 3 (objectSize 0x2234 3) v (p.val : Int) ∧ s.b.d.roleIs p .sapling = true ∧
       s.b.d.grove.rail[s.b.d.phaseRail p].pl.insertion = none ∧ yields (.manualInsert w v) s (fun d => d.path =
       { s.b.d.path with deferred := d.path.deferred } ∧ (s.b.d.grove.rail[s.b.d.phaseRail p].mode = .off →
       d.grove.ph[p].role = .available ∧ d.grove.ph[p].roleTime = s.b.hw.counter ∧ d.grove.ph[p].fstate = .shed) ∧
       (s.b.d.grove.rail[s.b.d.phaseRail p].mode ≠ .off → d.grove.rail[s.b.d.phaseRail p].pl.insertion = some ⟨p.val, none,
       none, 0, !s.b.d.insertionDeferred (s.b.d.phaseRail p)⟩ ∧ d.firingIs p .ramping = !s.b.d.insertionDeferred
       (s.b.d.phaseRail p)) ∧ (∀ q, q ≠ p → d.grove.ph[q] = s.b.d.grove.ph[q])) = true) ∧
    (let s := dev fun d => (railDev d).rail' 0 fun x => { x with mode := .off }
     let w := who
     let v : Int := 2
     let p : Phase := 2
     Passes s w 0x2234 3 (objectSize 0x2234 3) v (p.val : Int) ∧ s.b.d.roleIs p .sapling = true ∧
       s.b.d.grove.rail[s.b.d.phaseRail p].pl.insertion = none ∧ yields (.manualInsert w v) s (fun d => d.path =
       { s.b.d.path with deferred := d.path.deferred } ∧ (s.b.d.grove.rail[s.b.d.phaseRail p].mode = .off →
       d.grove.ph[p].role = .available ∧ d.grove.ph[p].roleTime = s.b.hw.counter ∧ d.grove.ph[p].fstate = .shed) ∧
       (s.b.d.grove.rail[s.b.d.phaseRail p].mode ≠ .off → d.grove.rail[s.b.d.phaseRail p].pl.insertion = some ⟨p.val, none,
       none, 0, !s.b.d.insertionDeferred (s.b.d.phaseRail p)⟩ ∧ d.firingIs p .ramping = !s.b.d.insertionDeferred
       (s.b.d.phaseRail p)) ∧ (∀ q, q ≠ p → d.grove.ph[q] = s.b.d.grove.ph[q])) = true) ∧
    (let s := dev fun d => (railDev d).ph' 2 fun x => { x with role := .retired }
     let w := who
     let v : Int := 2
     let p : Phase := 2
     Passes s w 0x2234 4 (objectSize 0x2234 4) v (p.val : Int) ∧ s.b.d.roleIs p .retired = true ∧ yields (.reinstate w v) s
       (fun d => d.grove.ph[p].role = (if s.b.d.sapDecl p then .sapling else .available) ∧ d.grove.ph[p].reason = 0 ∧
       d.grove.ph[p].roleTime = s.b.hw.counter ∧ d.grove.ph[p].fstate = .shed) = true) ∧
    (let s := dev fun d => (railDev d)
     let w := who
     let v : Int := 2
     let p : Phase := 2
     Passes s w 0x2234 6 (objectSize 0x2234 6) v (p.val : Int) ∧ s.b.d.roleIs p .sapling = true ∧ yields (.retire w v) s
       (fun d => d.grove.ph[p].role = .retired ∧ d.grove.ph[p].reason = 0x20) = true) := by
  refine ⟨?_, ?_, ?_, ?_, ?_, ?_, ?_, ?_⟩ <;> decide +kernel

theorem witness_ServiceWrites :
    (let s := dev fun d => d.th' fun x => { x with sensor := x.sensor.map fun y => { y with broken := true } }
     let w := who
     let v : Int := 11
     let n : Fin 28 := 11
     n.val < 12 ∧ Passes s w 0x240C 6 (objectSize 0x240C 6) v (n.val : Int) ∧ s.b.d.th.sensor[n].broken = true ∧ yields
       (.reinstateSensor w v) s (fun d => alike d ((((awake s).sensor' n fun x =>
       { x with broken := false, inTest := false, suspect := false, bad := 0, history := [] })).ok w)) = true) ∧
    (let s := dev fun d => d.setLive 0x2441 2 1
     let w := who
     let v : Int := 2
     let v' : Int := 2
     Passes s w 0x2441 1 (objectSize 0x2441 1) v v' ∧ yields (.hkadcBModeWrite w v) s (fun d => alike d ((((awake s).hkMode
       v'.toNat)).ok w)) = true) ∧
    (let s := dev fun d => d.conv' fun c => { c with full := true }
     let w := who
     Heard s w ∧ yields (.resultRead w) s (fun d => alike d (({ awake s with
         conv := { s.b.d.conv with full := if s.b.d.nat 0x2441 5 < 24 then s.b.d.conv.full else false } }).send (.value w
       s.b.d.conv.word))) = true) ∧
    (let s := dev id
     let w := who
     let v : Int := 0x24
     let v' : Int := 0x24
     Passes s w 0x2480 1 (objectSize 0x2480 1) v v' ∧ yields (.globalStart w v) s (fun d => (∀ n : TimerNo, v'.toNat.testBit
       n.val = true → d.timer[n].run = true)) = true) ∧
    (let s := dev fun d => { d with timer := d.timer.map fun x => { x with run := true } }
     let w := who
     let v : Int := 0x24
     let v' : Int := 0x24
     Passes s w 0x2480 2 (objectSize 0x2480 2) v v' ∧ yields (.globalStop w v) s (fun d => (s.b.d.chg.timerHold = false →
       d.chg = s.b.d.chg) ∧ (∀ n : TimerNo, v'.toNat.testBit n.val = true → d.timer[n].run = false)) = true) ∧
    (let s := dev id
     let w := who
     let v : Int := 0x8200
     let v' : Int := 0x8200
     let n : TimerNo := 2
     Passes s w (0x2481 + n.val) 1 (objectSize (0x2481 + n.val) 1) v v' ∧ yields (.timerControlWrite w n v) s (fun d =>
       (s.b.d.chg.timerHold = false → d.chg = s.b.d.chg) ∧ d.tmCtl n = v'.toNat % 32768 ∧ d.timer[n].run = v'.toNat.testBit
       15) = true) ∧
    (let s := dev id
     let w := who
     let v : Int := 0x83
     let v' : Int := 0x80
     let n : TimerNo := 2
     Passes s w (0x2481 + n.val) 6 (objectSize (0x2481 + n.val) 6) v v' ∧ yields (.flagClear w n v) s (fun d => alike d
       ((((awake s).tmRegs n fun r => r.clearFlags v'.toNat)).ok w)) = true) ∧
    (let s := dev fun d => d.faults' fun f => { f with src := f.src.set 20 { state := .timing } }
     let w := who
     let v : Int := 20
     let n : Source := 20
     Passes s w 0x2500 6 (objectSize 0x2500 6) v (n.val : Int) ∧ yields (.acknowledge w v) s (fun d => d.srcState n.val =
       .acked) = true) ∧
    (let s := dev fun d => d.raise 0 32 1
     let w := who
     let v : Int := 1
     let v' : Int := 1
     let k : Fin 4 := 1
     Passes s w 0x2500 (2 + k.val) (objectSize 0x2500 (2 + k.val)) v v' ∧ yields (.stickyClear w k v) s (fun d => (∀ n :
       Source, d.sticky n.val = (s.b.d.sticky n.val && !(decide (n.val / 32 = k.val) && v'.toNat.testBit (n.val % 32))))) =
       true) ∧
    (let w := who
     let s := dev fun d => d.wdh' fun w => { w with armed := true, late := 100, mask := 3 }
     let v : Int := 0x7A110000
     let v' : Int := 0x7A110000
     let stamp := 99
     Heard s w ∧ (awake s).checkWrite 0x24C5 1 4 v = .ok v' ∧ checkInTask v' = some 0 ∧ s.b.d.wdhJudges = true ∧
       s.b.d.wdh.mask.testBit 0 = true ∧ s.b.d.wdh.tally = 0 ∧ s.b.d.wdh.mask ≠ 1 ∧ s.b.d.wdh.early ≤ stamp ∧ stamp <
       s.b.d.wdh.late ∧ yields (.checkIn w v stamp) s (fun d => alike d
       (({ awake s with wdh := { s.b.d.wdh with tally := 1, last := v'.toNat } }).ok w)) = true) := by
  refine ⟨?_, ?_, ?_, ?_, ?_, ?_, ?_, ?_, ?_, ?_⟩ <;> decide +kernel

theorem witness_AccessWrites :
    (let s := dev fun d => d.port' .b fun x => { x with busOff := true, heldOff := true }
     let w := who
     let v : Int := 1
     let v' : Int := 1
     let p : Port := .b
     Passes s w (portIndex p) 5 (objectSize (portIndex p) 5) v v' ∧ v' = 1 ∧ yields (.portRestart w p v) s (fun d => (d.port
       p).busOff = false ∧ (d.port p).heldOff = false ∧ (d.port p).sessions = [] ∧ (d.port p).txErr = 0 ∧ ((s.b.d.port
       p).enabled = true → (d.port p).nmt = .preOp)) = true) ∧
    (let s := dev id
     let w := who
     let v : Int := 0x0A0064
     let v' : Int := 0x0A0064
     let k : Fin 4 := 1
     Passes s w 0x1016 (k.val + 1) (objectSize 0x1016 (k.val + 1)) v v' ∧ yields (.clientRegistration w k v) s (fun d =>
       d.int 0x1016 (k.val + 1) = v' ∧ d.dict.clients[k] = {} ∧ (d.clientNode (k.val + 1) ≠ s.b.d.clientNode (k.val + 1) →
       d.jour.next[k] = 1) ∧ (d.clientNode (k.val + 1) = s.b.d.clientNode (k.val + 1) → d.jour = s.b.d.jour)) = true) ∧
    (let s := dev fun d => d.dict' fun x => { x with key := some 1234 }
     let w := who
     let v : Int := 1234
     let v' : Int := 1234
     let k : Nat := 1234
     Passes s w 0x2002 1 (objectSize 0x2002 1) v v' ∧ s.b.d.dict.key = some k ∧ v'.toNat = k ∧ yields (.integratorKey w v) s
       (fun d => alike d (({ awake s with dict := { s.b.d.dict with consecutive := 0, unlocked := true } }).ok w)) = true) ∧
    (let s := dev fun d => d.dict' fun x => { x with key := some 1234, consecutive := 2 }
     let w := who
     let v : Int := 1235
     let v' : Int := 1235
     let k : Nat := 1234
     Passes s w 0x2002 1 (objectSize 0x2002 1) v v' ∧ s.b.d.dict.key = some k ∧ v'.toNat ≠ k ∧ yields (.integratorKey w v) s
       (fun d => d.dict = { s.b.d.dict with
         mismatches := satInc 16 s.b.d.dict.mismatches, lockout := decide (2 ≤ s.b.d.dict.consecutive), consecutive := if 2
           ≤ s.b.d.dict.consecutive then 0 else s.b.d.dict.consecutive + 1 }) = true) ∧
    (let s := dev fun d => d.dict' fun x => { x with key := some 1234, unlocked := true }
     let w := who
     let v : Int := 1
     let v' : Int := 1
     Passes s w 0x2002 3 (objectSize 0x2002 3) v v' ∧ v' = 1 ∧ yields (.relock w v) s (fun d => alike d
       (({ awake s with dict := { s.b.d.dict with unlocked := false } }).ok w)) = true) := by
  refine ⟨?_, ?_, ?_, ?_, ?_⟩ <;> decide +kernel

theorem witness_StorageWrites :
    (let s := dev fun d => d.setLive 0x2590 1 1
     let w := who
     let c : ChanNo := 0
     Passes s w (0x2590 + c.val) 1 (objectSize (0x2590 + c.val) 1) 0 0 ∧ yields (.channelDisable w c) s (fun d => alike d
       (({ (awake s).setLive (0x2590 + c.val) 1 0 with
         pool := { s.b.d.pool with buffers := s.b.d.pool.buffers.filter fun b => b.chan ≠ c.val } }).ok w)) = true) ∧
    (let s := dev id
     let w := who
     let v : Int := 1
     let v' : Int := 1
     Passes s w 0x2601 5 (objectSize 0x2601 5) v v' ∧ v' = 1 ∧ yields (.hide w v) s (fun d => alike d
       (({ awake s with nv := { s.b.d.nv with hidden := s.b.d.nv.newest } }).ok w)) = true) ∧
    (let s := dev id
     let w := who
     let v : Int := 3
     let v' : Int := 3
     Passes s w 0x2610 4 (objectSize 0x2610 4) v v' ∧ yields (.blockProtection w v) s (fun d => alike d
       (({ awake s with nv := { s.b.d.nv with protection := v'.toNat } }).ok w)) = true) ∧
    (let s := dev id
     let w := who
     let v' : Int := 1
     let words : List Nat := [1] ++ List.replicate 631 0
     Passes s w 0x2681 1 (8 * words.length) (imageValue words : Nat) v' ∧ yields (.stagedImage w words) s (fun d => alike d
       (({ awake s with otp := { s.b.d.otp with staged := stagedWords (domainWords v'.toNat) } }).ok w)) = true) ∧
    (let s := dev staged1
     let w := who
     let v : Int := 1
     let temp : Int := 0
     let new : List (Nat × Nat) := [(384, 1)]
     Heard s w ∧ (awake s).checkWrite 0x2681 2 1 v = .ok 1 ∧ 0 ≤ temp ∧ temp ≤ 1360 ∧ s.b.d.otp.prog = none ∧ (awake
       s).programResult true = .ok new ∧ s.b.d.commitAdmitted otpRowUs = true ∧ yields (.program w v temp) s (fun d => alike
       d ((awake s).startProgram w new)) = true) ∧
    (let s := dev fun d => held { d with otp.words := otpWords }
     let w := who
     let v : Int := 0x6B636F6C
     let v' : Int := v
     Heard s w ∧ (awake s).checkWrite 0x2682 1 4 v = .ok v' ∧ s.b.d.otp.prog = none ∧ s.b.d.otp.locked = false ∧ crcMatches
       s.b.d.otp.words = true ∧ yields (.lock w v true) s (fun d => alike d
       (({ awake s with otp := { s.b.d.otp with locked := true } }).ok w)) = true) ∧
    (let s := dev id
     let w := who
     Passes s w 0x2740 1 (objectSize 0x2740 1) 1 1 ∧ s.b.d.power.test = false ∧ yields (.testEnable w) s (fun d =>
       d.power.test = true ∧ d.test.began = s.b.hw.counter) = true) ∧
    (let s := dev fun d => { d with power.test := true }
     let w := who
     Passes s w 0x2740 1 (objectSize 0x2740 1) 0 0 ∧ yields (.testDisable w) s (fun d => d.power.test = false ∧
       (s.b.d.power.test = true → ∀ k : SlotNo, d.test.slots[k].armed = false)) = true) ∧
    (let s := dev fun d => { d with power.test := true }
     let w := who
     let v : Int := 0
     let v' : Int := v
     let k : SlotNo := 0
     Passes s w (0x2741 + k.val) 6 (objectSize (0x2741 + k.val) 6) v v' ∧ yields (.arm w k v) s (fun d => alike d ((((awake
       s).armSlot k (v' = 1))).ok w)) = true) ∧
    (let s := dev fun d => { d with power.coresStopped := false }
     let w := who
     let v : Int := 0x67756264
     let v' : Int := v
     Passes s w 0x2750 1 (objectSize 0x2750 1) v v' ∧ yields (.debugLock w v) s (fun d => d.tap.lockBlown = true ∧
       d.tap.halted = false ∧ d.wdhFrozen = false ∧ (s.b.d.tap.halted = true → d.power.coresStopped = false ∧ d.wdc.halted =
       false)) = true) ∧
    (let s := dev fun d => (held d).setLive 0x2610 3 2
     let w := who
     let data : List Byte := ones64
     let v' : Int := (ofBytesLE (data.map BitVec.toNat) : Nat)
     data.length = 64 ∧ s.b.d.nat 0x2610 3 ≤ 64 ∧ Passes s w 0x2610 2 64 (ofBytesLE (data.map BitVec.toNat) : Nat) v' ∧
       s.b.d.power.test = false ∧ yieldsBody (.hostAreaWrite w data .first) s (fun b => b.hw = s.b.hw ∧ b.host = hostWrite
       s.b.host (s.b.d.nat 0x2610 1) (data.take (s.b.d.nat 0x2610 3)) ∧ b.d.nv.waiting = s.b.d.nv.waiting ∧ b.d.out = .ok w
       :: s.b.d.out) = true) ∧
    (let s := { dev id with b.host := [(0, 7)] }
     let w := who
     let corrected := true
     Heard s w ∧ s.b.d.nat 0x2610 1 + s.b.d.nat 0x2610 3 ≤ 0x4000 ∧ s.b.d.power.test = false ∧ yields (.hostAreaRead w
       corrected false) s (fun d => d.out.head? = some (.value w (ofBytesLE (s.b.hostRead (s.b.d.nat 0x2610 1) (s.b.d.nat
       0x2610 3)) : Nat)) ∧ (corrected = true → d.sticky 102 = true) ∧ (corrected = false → d.nv = s.b.d.nv)) = true) ∧
    (let s := { dev id with b.host := [(0, 7)] }
     let w := who
     let corrected := false
     Heard s w ∧ s.b.d.nat 0x2610 1 + s.b.d.nat 0x2610 3 ≤ 0x4000 ∧ yields (.hostAreaRead w corrected true) s (fun d =>
       alike d ((awake s).abort w 0x08000024)) = true) ∧
    (let s := dev held
     let w := who
     let v : Int := 0x65766173
     let v' : Int := v
     let sub : Fin 3 := 1
     Passes s w 0x1010 (sub.val + 1) 4 v v' ∧ s.b.d.power.test = false ∧ imageBytes (s.b.d.storeEntries (sub.val + 1)
       s.b.d.bankEntries) ≤ 3056 ∧ yields (.storeParameters w sub v .first) s (fun d => d.out.head? = some (.ok w) ∧
       d.nv.banks[otherBank s.b.d].entries = s.b.d.storeEntries (sub.val + 1) s.b.d.bankEntries ∧ d.nv.imageStatus =
       (otherBank s.b.d).val + 1) = true) ∧
    (let s := dev held
     let w := who
     let v : Int := 0x64616F6C
     let v' : Int := v
     let sub : Fin 3 := 0
     Passes s w 0x1011 (sub.val + 1) 4 v v' ∧ s.b.d.power.test = false ∧ imageBytes (List.filter (fun e => !inClass (sub.val
       + 1) e.1) s.b.d.bankEntries) ≤ 3056 ∧ yields (.restoreParameters w sub v .first) s (fun d => d.out.head? = some (.ok
       w) ∧ d.nv.banks[otherBank s.b.d].entries = List.filter (fun e => !inClass (sub.val + 1) e.1) s.b.d.bankEntries) =
       true) := by
  refine ⟨?_, ?_, ?_, ?_, ?_, ?_, ?_, ?_, ?_, ?_, ?_, ?_, ?_, ?_, ?_⟩ <;> decide +kernel

theorem witness_ObjectWrites :
    (let s := dev id
     let w := who
     let idx : Nat := 0x1017
     let sub : Nat := 0
     let len : Nat := 2
     let v : Int := 1000
     let v' : Int := 1000
     Heard s w ∧ ¬(idx = 0x2640 ∧ sub = 1) ∧ (awake s).checkWrite idx sub len v = .ok v' ∧ idx < 0x2100 ∧ idx ≠ 0x1010 ∧ idx
       ≠ 0x1011 ∧ idx ≠ 0x1016 ∧ idx ≠ 0x2002 ∧ sub ≠ 5 ∧ yields (.objectWrite w idx sub len v) s (fun d => alike d
       ((((awake s).setLive idx sub v')).ok w)) = true) ∧
    (let s := dev id
     let w := who
     let idx : Nat := 0x2300
     let sub : Nat := 1
     let len : Nat := 1
     let v : Int := 1
     let v' : Int := 1
     Heard s w ∧ ¬(idx = 0x2640 ∧ sub = 1) ∧ (awake s).checkWrite idx sub len v = .ok v' ∧ 0x2300 ≤ idx ∧ idx < 0x2310 ∧
       yields (.objectWrite w idx sub len v) s (fun d => alike d ((((awake s).setLive idx sub v')).ok w)) = true) ∧
    (let s := dev id
     let w := who
     let idx : Nat := 0x2300
     let sub : Nat := 1
     let len : Nat := 1
     let v : Int := 9
     let c := 0x06090030
     let d1 : Dev := awake s
     Heard s w ∧ ¬(idx = 0x2640 ∧ sub = 1) ∧ (awake s).checkWrite idx sub len v = .error (c, d1) ∧ c ≠ 0 ∧ yields
       (.objectWrite w idx sub len v) s (fun d => alike d (d1.abort w c) ∧ d1 = { awake s with integ := d1.integ }) = true) := by
  refine ⟨?_, ?_, ?_⟩ <;> decide +kernel

theorem witness_CommandsAccepted :
    (let s := dev ready
     let action : Nat := 1
     let c : JCmd := cmd1
     let k : Fin 4 := 0
     1 ≤ action ∧ action ≤ 4 ∧ Judged s action c k ∧ seqDistance s c k = 0 ∧ s.b.d.journalBusy c.targets = false ∧ c.verify
       = .first ∧ slotsOf s.b.d.jour.entries + slotsFor c.targets.length ≤ 128 ∧ yields (actionCommand action c) s (fun d =>
       d.jour = { s.b.d.jour with
         writeFailed := false, unmapped := false, entries := s.b.d.jour.entries ++ [s.b.d.newEntry k false (c.who.port =
           .b) action c], next := s.b.d.jour.next.set k (nextSeq s.b.d.jour.next[k]), accepted := satInc 32
           s.b.d.jour.accepted, nextTag := if c.targets.any (fun t => t.unit ≠ 0) ∧ s.b.d.jour.nextTag ≠ 0xFFFF then
           (s.b.d.jour.nextTag + 1) % 0xFFFF else s.b.d.jour.nextTag } ∧ d.out = .ok c.who :: s.b.d.out ∧ d.seq = s.b.d.seq
       ∧ d.grove = s.b.d.grove ∧ d.integ = s.b.d.integ) = true) ∧
    (let s := dev ready
     let action : Nat := 4
     let c : JCmd := cmd2 1
     let k : Fin 4 := 0
     1 ≤ action ∧ action ≤ 4 ∧ Judged s action c k ∧ seqDistance s c k = 0 ∧ s.b.d.journalBusy c.targets = false ∧ c.verify
       = .first ∧ slotsOf s.b.d.jour.entries + slotsFor c.targets.length ≤ 128 ∧ yields (actionCommand action c) s (fun d =>
       d.jour = { s.b.d.jour with
         writeFailed := false, unmapped := false, entries := s.b.d.jour.entries ++ [s.b.d.newEntry k false (c.who.port =
           .b) action c], next := s.b.d.jour.next.set k (nextSeq s.b.d.jour.next[k]), accepted := satInc 32
           s.b.d.jour.accepted, nextTag := if c.targets.any (fun t => t.unit ≠ 0) ∧ s.b.d.jour.nextTag ≠ 0xFFFF then
           (s.b.d.jour.nextTag + 1) % 0xFFFF else s.b.d.jour.nextTag } ∧ d.out = .ok c.who :: s.b.d.out ∧ d.seq = s.b.d.seq
       ∧ d.grove = s.b.d.grove ∧ d.integ = s.b.d.integ) = true) ∧
    (let s := dev ready
     let action : Nat := 2
     let c : JCmd := cmd2 1
     let k : Fin 4 := 0
     1 ≤ action ∧ action ≤ 4 ∧ Judged s action c k ∧ seqDistance s c k = 0 ∧ s.b.d.journalBusy c.targets = false ∧ c.verify
       = .first ∧ slotsOf s.b.d.jour.entries + slotsFor c.targets.length ≤ 128 ∧ yields (actionCommand action c) s (fun d =>
       d.jour = { s.b.d.jour with
         writeFailed := false, unmapped := false, entries := s.b.d.jour.entries ++ [s.b.d.newEntry k false (c.who.port =
           .b) action c], next := s.b.d.jour.next.set k (nextSeq s.b.d.jour.next[k]), accepted := satInc 32
           s.b.d.jour.accepted, nextTag := if c.targets.any (fun t => t.unit ≠ 0) ∧ s.b.d.jour.nextTag ≠ 0xFFFF then
           (s.b.d.jour.nextTag + 1) % 0xFFFF else s.b.d.jour.nextTag } ∧ d.out = .ok c.who :: s.b.d.out ∧ d.seq = s.b.d.seq
       ∧ d.grove = s.b.d.grove ∧ d.integ = s.b.d.integ) = true) ∧
    (let s := dev ready
     let action : Nat := 3
     let c : JCmd := cmd2 1
     let k : Fin 4 := 0
     1 ≤ action ∧ action ≤ 4 ∧ Judged s action c k ∧ seqDistance s c k = 0 ∧ s.b.d.journalBusy c.targets = false ∧ c.verify
       = .first ∧ slotsOf s.b.d.jour.entries + slotsFor c.targets.length ≤ 128 ∧ yields (actionCommand action c) s (fun d =>
       d.jour = { s.b.d.jour with
         writeFailed := false, unmapped := false, entries := s.b.d.jour.entries ++ [s.b.d.newEntry k false (c.who.port =
           .b) action c], next := s.b.d.jour.next.set k (nextSeq s.b.d.jour.next[k]), accepted := satInc 32
           s.b.d.jour.accepted, nextTag := if c.targets.any (fun t => t.unit ≠ 0) ∧ s.b.d.jour.nextTag ≠ 0xFFFF then
           (s.b.d.jour.nextTag + 1) % 0xFFFF else s.b.d.jour.nextTag } ∧ d.out = .ok c.who :: s.b.d.out ∧ d.seq = s.b.d.seq
       ∧ d.grove = s.b.d.grove ∧ d.integ = s.b.d.integ) = true) := by
  refine ⟨?_, ?_, ?_, ?_⟩ <;> decide +kernel

theorem witness_CommandsRefused :
    (let s := dev ready
     let action : Nat := 1
     let c : JCmd := { cmd1 with seq := 2 ^ 31 }
     let k : Fin 4 := 0
     1 ≤ action ∧ action ≤ 4 ∧ Judged s action c k ∧ seqDistance s c k ≠ 0 ∧ seqDistance s c k < 2 ^ 31 ∧ yields
       (actionCommand action c) s (fun d => d.out = .abort c.who 0x0F000011 :: s.b.d.out ∧ d.jour.entries =
       s.b.d.jour.entries ∧ d.jour.next = s.b.d.jour.next ∧ d.jour.rejections = satInc 32 s.b.d.jour.rejections) = true) ∧
    (let s := dev fun d => (ready d).jour' fun j =>
       { j with entries := [entry1 1 cmd1.targets], next := Vector.replicate 4 2 }
     let action : Nat := 1
     let c : JCmd := cmd1
     let k : Fin 4 := 0
     let e : Entry := entry1 1 cmd1.targets
     1 ≤ action ∧ action ≤ 4 ∧ Judged s action c k ∧ 2 ^ 31 < seqDistance s c k ∧ s.b.d.heldEntry k c.seq = some e ∧
       e.action = action ∧ e.targets = c.targets.map Target.plain ∧ yields (actionCommand action c) s (fun d => d.out = .ok
       c.who :: s.b.d.out ∧ d.jour = { s.b.d.jour with duplicates := satInc 32 s.b.d.jour.duplicates }) = true) ∧
    (let s := dev fun d => (ready d).jour' fun j => { j with next := Vector.replicate 4 2 }
     let action : Nat := 1
     let c : JCmd := cmd1
     let k : Fin 4 := 0
     1 ≤ action ∧ action ≤ 4 ∧ Judged s action c k ∧ 2 ^ 31 < seqDistance s c k ∧ s.b.d.heldEntry k c.seq = none ∧ yields
       (actionCommand action c) s (fun d => d.out = .ok c.who :: s.b.d.out ∧ d.jour = s.b.d.jour) = true) ∧
    (let s := dev cl
     let action : Nat := 1
     let c : JCmd := cmd1
     let k : Fin 4 := 0
     1 ≤ action ∧ action ≤ 4 ∧ Judged s action c k ∧ seqDistance s c k = 0 ∧ s.b.d.journalBusy c.targets = true ∧ yields
       (actionCommand action c) s (fun d => d.out = .abort c.who 0x0F000012 :: s.b.d.out ∧ d.jour.entries =
       s.b.d.jour.entries ∧ d.jour.next = s.b.d.jour.next ∧ d.jour.busy = satInc 32 s.b.d.jour.busy) = true) ∧
    (let s := dev ready
     let action : Nat := 1
     let c : JCmd := { cmd1 with verify := .failed }
     let k : Fin 4 := 0
     1 ≤ action ∧ action ≤ 4 ∧ Judged s action c k ∧ seqDistance s c k = 0 ∧ s.b.d.journalBusy c.targets = false ∧ c.verify
       = .failed ∧ slotsOf s.b.d.jour.entries + slotsFor c.targets.length ≤ 128 ∧ yields (actionCommand action c) s (fun d
       => d.out.head? = some (.abort c.who 0x0F000012) ∧ d.sticky 111 = true ∧ d.jour.writeFailed = true ∧ d.jour.entries =
       s.b.d.jour.entries ∧ d.jour.next = s.b.d.jour.next ∧ d.jour.busy = satInc 32 s.b.d.jour.busy) = true) := by
  refine ⟨?_, ?_, ?_, ?_, ?_⟩ <;> decide +kernel

theorem witness_Prepare :
    (let s := dev (accepted (entry1 1 [⟨0, 1, 0x2204, 1, 0, 1⟩]))
     let i : Nat := 0
     let e : Entry := entry1 1 [⟨0, 1, 0x2204, 1, 0, 1⟩]
     let starts : Vector StartMeas 30 := meas
     let detail : Nat := 7
     let d1 : Dev := ((s.b.prepareTargets (s.b.d.entryWho e) e.targets false).map (·.2)).getD s.b.d
     Preparing s i e ∧ e.action = 1 ∧ s.b.prepareTargets (s.b.d.entryWho e) e.targets false = some (detail, d1) ∧ yields
       (.prepareEntry starts) s (fun d => d.jour.entries = updList s.b.d.jour.entries i (fun x =>
       { x with state := .failed, detail := detail, endNo := s.b.d.jour.ends + 1 }) ∧ d.integ = d1.integ ∧ (detail = 2 →
       d.integ.refusal ≠ 0)) = true) ∧
    (let s := dev fun d => branchesOn (accepted (entry1 1 [⟨0, 3, 0, 23, 0, 0⟩]) d)
     let i : Nat := 0
     let e : Entry := entry1 1 [⟨0, 3, 0, 23, 0, 0⟩]
     let starts : Vector StartMeas 30 := meas
     let b : Branch := 23
     Preparing s i e ∧ e.action = 1 ∧ s.b.prepareTargets (s.b.d.entryWho e) e.targets false = none ∧ e.targets = [⟨0, 3, 0,
       b.val, 0, 0⟩] ∧ yieldsBody (.prepareEntry starts) s (fun x => x.hw = s.b.hw ∧ x.d.branchOn b = false) = true) ∧
    (let s := dev (accepted (entry1 1 [⟨0, 2, 0, 22 + 7, 0, 0⟩]))
     let i : Nat := 0
     let e : Entry := entry1 1 [⟨0, 2, 0, 22 + 7, 0, 0⟩]
     let starts : Vector StartMeas 30 := meas
     let n : Fin 8 := 7
     Preparing s i e ∧ e.action = 1 ∧ s.b.prepareTargets (s.b.d.entryWho e) e.targets false = none ∧ e.targets = [⟨0, 2, 0,
       22 + n.val, 0, 0⟩] ∧ s.b.d.tapHolds = false ∧ yieldsBody (.prepareEntry starts) s (fun x => x.d.integ.ib =
       s.b.d.integ.ib ∧ x.d.integ.ld = s.b.d.integ.ld ∧ x.hw = s.b.hw ∧ x.d.integ.xe[n].en = true) = true) ∧
    (let s := dev fun d => accepted (entry1 1 [⟨0, 1, 0x2204, 1, 0, 1000000⟩]) d
     let i : Nat := 0
     let e : Entry := entry1 1 [⟨0, 1, 0x2204, 1, 0, 1000000⟩]
     let starts : Vector StartMeas 30 := meas
     let r : Rail := 4
     let v : Nat := 1000000
     Preparing s i e ∧ e.action = 1 ∧ s.b.prepareTargets (s.b.d.entryWho e) e.targets false = none ∧ e.targets = [⟨0, 1,
       0x2200 + r.val, 1, 0, v⟩] ∧ yieldsBody (.prepareEntry starts) s (fun x => x.hw = s.b.hw ∧ x.d.int (0x2200 + r.val) 1
       = v % 2 ^ 32) = true) ∧
    (let s := dev fun d => accepted (entry1 4 []) d
     let i : Nat := 0
     let e : Entry := entry1 4 []
     let starts : Vector StartMeas 30 := meas
     let detail : Nat := 3
     Preparing s i e ∧ e.action ≠ 1 ∧ s.b.d.actionRefused e.action = some detail ∧ yields (.prepareEntry starts) s (fun d =>
       d.jour.entries = updList s.b.d.jour.entries i (fun x =>
       { x with state := .failed, detail := detail, endNo := s.b.d.jour.ends + 1 })) = true) ∧
    (let s := dev fun d => accepted (entry1 2 []) d
     let i : Nat := 0
     let e : Entry := entry1 2 []
     let starts : Vector StartMeas 30 := meas
     Preparing s i e ∧ e.action = 2 ∧ s.b.d.actionRefused 2 = none ∧ s.b.d.seq.wakeDue = false ∧ yields (.prepareEntry
       starts) s (fun d => ((d.seq.state = .offOrder ∧ d.seq.after = .standby) ∨ d.power.state = .standby)) = true) ∧
    (let s := dev fun d => accepted (entry1 3 []) d
     let i : Nat := 0
     let e : Entry := entry1 3 []
     let starts : Vector StartMeas 30 := meas
     Preparing s i e ∧ e.action = 3 ∧ s.b.d.actionRefused 3 = none ∧ s.b.d.seq.state ≠ .held ∧ yields (.prepareEntry starts)
       s (fun d => (d.path.ship = .offOrder ∨ d.path.ship = .committing)) = true) ∧
    (let s := dev fun d => accepted (entry1 4 []) { d with power.state := .safe }
     let i : Nat := 0
     let e : Entry := entry1 4 []
     let starts : Vector StartMeas 30 := meas
     Preparing s i e ∧ e.action = 4 ∧ s.b.d.actionRefused 4 = none ∧ s.b.d.seq.state = .idle ∧ yields (.prepareEntry starts)
       s (fun d => d.power.state = .run) = true) := by
  refine ⟨?_, ?_, ?_, ?_, ?_, ?_, ?_, ?_⟩ <;> decide +kernel

theorem witness_EntryEnds :
    (let s := dev fun d => (held d).jour' fun j => { j with
         entries := [{ entry1 1 cmd1.targets with state := .prepared, going := true, missed := 1 }] }
     let i : Nat := 0
     let e : Entry := { entry1 1 cmd1.targets with state := .prepared, going := true, missed := 1 }
     s.b.d.coresRun = true ∧ s.b.d.jour.entries[i]? = some e ∧ e.state = .prepared ∧ e.action = 1 ∧ e.going = true ∧
       e.resolved = true ∧ e.pend = none ∧ s.b.d.commitAdmitted entryUs = true ∧ yields .entryEnd s (fun d => ∃ x : Entry,
       d.jour.entries[i]? = some x ∧ x.state = e.outcome.1 ∧ x.detail = e.outcome.2 ∧ x.targets = e.targets) = true) ∧
    (let s := dev fun d => d.jour' fun j => { j with
         entries := [{ entry1 1 cmd1.targets with state := .prepared, going := true, missed := 1 }] }
     let i : Nat := 0
     let e : Entry := { entry1 1 cmd1.targets with state := .prepared, going := true, missed := 1 }
     s.b.d.coresRun = true ∧ s.b.d.jour.entries[i]? = some e ∧ e.state = .prepared ∧ e.action = 1 ∧ e.going = true ∧
       e.resolved = true ∧ e.pend = none ∧ s.b.d.commitAdmitted entryUs = false ∧ yields .entryEnd s (fun d =>
       d.jour.entries[i]? = some { e with pend := some e.outcome }) = true) ∧
    (let s := dev fun d => d.jour' fun j => { j with replayDue := true, entries := [entry1 1 cmd1.targets] }
     let starts : Vector StartMeas 30 := meas
     s.b.d.coresRun = true ∧ s.b.d.jour.replayDue = true ∧ s.b.d.replayHeld = false ∧ s.b.d.casc.txn = none ∧ (∀ e ∈
       s.b.d.jour.entries, e.state ≠ .prepared ∨ e.cascade = true) ∧ yields (.journalReplay starts) s (fun d => d.jour =
       { s.b.d.jour with
         replayDue := false, replayWaits := false, replays := satInc 32 s.b.d.jour.replays }) = true) ∧
    (let s := dev id
     let starts : Vector StartMeas 30 := meas
     s.b.d.coresRun = true ∧ s.b.d.jour.replayDue = false ∧ yields (.journalReplay starts) s (fun d => alike d s.b.d) = true) := by
  refine ⟨?_, ?_, ?_, ?_⟩ <;> decide +kernel

theorem witness_CanFrames :
    (let s := dev id
     let f : CanFrame := frame
     s.b.d.power.coreOn = true ∧ f.ext = false ∧ s.b.d.onBus f.port = true ∧ s.b.d.power.state ≠ .standby ∧ s.b.d.power.test
       = false ∧ s.b.d.coresRun = true ∧ yields (.canFrameReceived f) s (fun d => alike d (((s.b.d.port' f.port fun x =>
       { x with received := satInc 32 x.received }).test' fun x =>
       { x with held := x.held.filter fun g => g.port ≠ f.port }).leaveIdle s.b.hw.counter)) = true) ∧
    (let s := dev fun d => { d with power.coresStopped := true }
     let f : CanFrame := frame
     s.b.d.power.coreOn = true ∧ f.ext = false ∧ s.b.d.onBus f.port = true ∧ s.b.d.power.state ≠ .standby ∧ s.b.d.power.test
       = false ∧ s.b.d.coresRun = false ∧ s.b.d.power.nrstLow = false ∧ s.b.d.heldOf f.port = [] ∧ yields (.canFrameReceived
       f) s (fun d => ((f.port ≠ .a → d.portA = s.b.d.portA) ∧ (f.port ≠ .b → d.portB = s.b.d.portB)) ∧ (s.b.d.portA.queued
       + s.b.d.portB.queued < 64 → (d.port f.port).queued = (s.b.d.port f.port).queued + 1) ∧ (64 ≤ s.b.d.portA.queued +
       s.b.d.portB.queued → (d.port f.port).queued = (s.b.d.port f.port).queued ∧ (d.port f.port).discarded = satInc 32
       (s.b.d.port f.port).discarded) ∧ (d.port f.port).received = satInc 32 (s.b.d.port f.port).received ∧ d.power =
       s.b.d.power ∧ d.dict = s.b.d.dict) = true) ∧
    (let s := dev id
     let f : CanFrame := { frame with ext := true }
     s.b.d.power.coreOn = true ∧ (f.ext = true ∨ s.b.d.onBus f.port = false ∨ s.b.d.power.state = .standby) ∧ yields
       (.canFrameReceived f) s (fun d => alike d s.b.d) = true) ∧
    (let s := dev fun d => { d with power.state := .standby }
     let f : CanFrame := frame
     s.b.d.power.coreOn = true ∧ (f.ext = true ∨ s.b.d.onBus f.port = false ∨ s.b.d.power.state = .standby) ∧ yields
       (.canFrameReceived f) s (fun d => alike d s.b.d) = true) ∧
    (let s := dev fun d => d.test' fun x => { x with held := [frame] }
     let p : Port := .b
     let us : Nat := 10000
     s.b.d.power.coreOn = true ∧ 10000 ≤ us ∧ s.b.d.coresRun = true ∧ yields (.rxReorderTimeout p us) s (fun d => d.portA =
       s.b.d.portA ∧ d.portB = s.b.d.portB ∧ d.test =
       { s.b.d.test with held := s.b.d.test.held.filter fun g => g.port ≠ p }) = true) ∧
    (let s := dev fun d => (List.range 16).foldl (fun d n => d.setLive (0x1800 + n) 2 241) d
     let p : Port := .b
     s.b.d.power.coreOn = true ∧ s.b.d.hears p = true ∧ (s.b.d.port p).syncRpdo = [] ∧ (∀ n : Fin 16, 240 < s.b.d.tpdoType
       n) ∧ yields (.sync p) s (fun d => alike d ((awake s).port' p fun x => { x with syncs := x.syncs + 1 })) = true) := by
  refine ⟨?_, ?_, ?_, ?_, ?_, ?_⟩ <;> decide +kernel

theorem witness_Usdo :
    (let s := dev id
     let u : Usdo := ⟨who, 0, .remote⟩
     u.op = .remote ∧ s.b.d.power.coreOn = true ∧ yields (.usdoRequest u) s (fun d => alike d s.b.d) = true) ∧
    (let s := dev id
     let u : Usdo := ⟨who, 0, .badSpecifier⟩
     u.op = .badSpecifier ∧ Heard s u.who ∧ yields (.usdoRequest u) s (fun d => alike d ((awake s).abort u.who 0x05040001))
       = true) ∧
    (let s := dev id
     let u : Usdo := ⟨who, 0, .read 0x2300 1⟩
     let idx : Nat := 0x2300
     let sub : Nat := 1
     let v : Int := 2
     let x : Body := s.b
     u.op = .read idx sub ∧ Heard s u.who ∧ Body.read { s.b with d := awake s } idx sub = .ok (v, x) ∧ yieldsBody
       (.usdoRequest u) s (fun b => b = { x with d := x.d.send (.value u.who v) }) = true) ∧
    (let s := dev id
     let u : Usdo := ⟨who, 0, .read 0x3000 1⟩
     let idx : Nat := 0x3000
     let sub : Nat := 1
     let c : Nat := 0x06020000
     u.op = .read idx sub ∧ Heard s u.who ∧ Body.read { s.b with d := awake s } idx sub = .error c ∧ c ≠ 0 ∧ yields
       (.usdoRequest u) s (fun d => alike d ((awake s).abort u.who c)) = true) ∧
    (let s := dev id
     let u : Usdo := ⟨w10, 3, .openWrite 0x2300 1 1⟩
     let idx : Nat := 0x2300
     let sub : Nat := 1
     let total : Nat := 1
     u.op = .openWrite idx sub total ∧ s.b.d.power.coreOn = true ∧ s.b.d.hears u.who.port = true ∧ ((s.b.d.port
       u.who.port).sessions.filter fun x => !(x.node = u.who.node && x.id = u.session)).length < 4 ∧ yields (.usdoRequest u)
       s (fun d => (d.port u.who.port).sessions = ((s.b.d.port u.who.port).sessions.filter fun x => !(x.node = u.who.node &&
       x.id = u.session)) ++ [⟨u.who.node, u.session, idx, sub, total, 0, 0, false, none⟩]) = true) ∧
    (let s := dev fun d => d.port' .a fun p => { p with sessions := [sess] }
     let u : Usdo := ⟨w10, 3, .segment true 1 0 true⟩
     let toggle : Bool := true
     let len : Nat := 1
     let value : Nat := 0
     let last : Bool := true
     let x : Session := sess
     u.op = .segment toggle len value last ∧ s.b.d.power.coreOn = true ∧ s.b.d.hears u.who.port = true ∧ s.b.d.power.test =
       false ∧ (s.b.d.port u.who.port).session u.who.node u.session = some x ∧ x.buffer = none ∧ x.toggle ≠ toggle ∧ yields
       (.usdoRequest u) s (fun d => (d.port u.who.port).session u.who.node u.session = none ∧ d.out = .abort u.who
       0x05030000 :: s.b.d.out) = true) ∧
    (let s := dev fun d => d.port' .a fun p => { p with sessions := [sess] }
     let u : Usdo := ⟨w10, 3, .segment false 1 257 false⟩
     let toggle : Bool := false
     let len : Nat := 1
     let value : Nat := 257
     let x : Session := sess
     u.op = .segment toggle len value false ∧ s.b.d.power.coreOn = true ∧ s.b.d.hears u.who.port = true ∧ (s.b.d.port
       u.who.port).session u.who.node u.session = some x ∧ x.buffer = none ∧ x.toggle = toggle ∧ x.got + len ≤ x.total ∧
       yields (.usdoRequest u) s (fun d => (d.port u.who.port).session u.who.node u.session = some { x with
         got := x.got + len, value := x.value + value % 256 ^ len * 256 ^ x.got, toggle := !toggle }) = true) ∧
    (let s := dev fun d => d.port' .a fun p => { p with sessions := [sess] }
     let u : Usdo := ⟨w10, 3, .segment false 1 3 true⟩
     let toggle : Bool := false
     let len : Nat := 1
     let value : Nat := 3
     let x : Session := sess
     let v' : Int := 3
     u.op = .segment toggle len value true ∧ s.b.d.power.coreOn = true ∧ s.b.d.hears u.who.port = true ∧ (s.b.d.port
       u.who.port).session u.who.node u.session = some x ∧ x.buffer = none ∧ x.toggle = toggle ∧ x.got + len = x.total ∧
       0x2300 ≤ x.index ∧ x.index < 0x2310 ∧ (∀ r, row x.index x.sub = some r → r.ty ≠ .s) ∧ ((awake s).dropSession u.who
       u.session).checkWrite x.index x.sub x.total ((x.value + value % 256 ^ len * 256 ^ x.got : Nat) : Int) = .ok v' ∧
       yields (.usdoRequest u) s (fun d => alike d ((((awake s).dropSession u.who u.session).setLive x.index x.sub v').ok
       u.who)) = true) ∧
    (let s := dev fun d => d.port' .a fun p => { p with sessions := [sess] }
     let w := w10
     let id : Nat := 3
     let ms : Nat := 500
     let x : Session := sess
     s.b.d.coresRun = true ∧ 500 ≤ ms ∧ (s.b.d.port w.port).live = true ∧ s.b.d.power.test = false ∧ (s.b.d.port
       w.port).session w.node id = some x ∧ yields (.usdoSessionTimeout w id ms) s (fun d => (d.port w.port).session w.node
       id = none ∧ d.out = .closed w.port w.node id 0x05040000 :: s.b.d.out) = true) := by
  refine ⟨?_, ?_, ?_, ?_, ?_, ?_, ?_, ?_, ?_⟩ <;> decide +kernel

theorem witness_Buffers :
    (let s := dev fun d => { d with pool := { d.pool with buffers := [⟨2, 8, [1, 2, 3], 5, false, false, false⟩] } }
     let w := w10
     let c : ChanNo := 2
     let d1 : Dev := awake s
     let x : Buffer := ⟨2, 8, [1, 2, 3], 5, false, false, false⟩
     s.b.d.power.coreOn = true ∧ s.b.d.hears w.port = true ∧ (((awake s).dropSession w (bufferSession c.val)).port
       w.port).sessions.length < 4 ∧ ((awake s).dropSession w (bufferSession c.val)).pickBuffer c.val = .ok (d1, x) ∧ yields
       (.readBuffer w c false) s (fun d => ((w.port ≠ .a → d.portA = s.b.d.portA) ∧ (w.port ≠ .b → d.portB = s.b.d.portB)) ∧
       (d.port w.port).sessions.getLast? = some
       { node := w.node, id := bufferSession c.val, index := 0x2590 + c.val, sub := 0x0B, total := d1.pool.chans[c].lostBuffers, got := 0, value := ofBytesLE (x.read (d1.lossOf c.val)), toggle := false, buffer := some (c.val, x.seq) })
       = true) ∧
    (let s := dev id
     let w := w10
     let c : ChanNo := 2
     let e : Nat := 0x08000024
     s.b.d.power.coreOn = true ∧ s.b.d.hears w.port = true ∧ (((awake s).dropSession w (bufferSession c.val)).port
       w.port).sessions.length < 4 ∧ ((awake s).dropSession w (bufferSession c.val)).pickBuffer c.val = .error e ∧ yields
       (.readBuffer w c false) s (fun d => alike d (((awake s).dropSession w (bufferSession c.val)).abort w e)) = true) ∧
    (let s := dev fun d => { d with pool := { d.pool with buffers := bufs } }.port' .a fun p =>
       { p with sessions := [bufSess] }
     let w := w10
     let c : ChanNo := 2
     let x : Session := bufSess
     let seq : Nat := 7
     s.b.d.power.coreOn = true ∧ s.b.d.hears w.port = true ∧ s.b.d.power.test = false ∧ (s.b.d.port w.port).session w.node
       (bufferSession c.val) = some x ∧ x.buffer = some (c.val, seq) ∧ yields (.readBuffer w c true) s (fun d => d.out =
       .value w x.value :: s.b.d.out ∧ (d.port w.port).session w.node (bufferSession c.val) = none ∧ (∀ y ∈ d.pool.buffers,
       y.chan = c.val → y.seq = seq → y.isOpen = true) ∧ d.pool.chans[c].loss = decide (s.b.d.pool.chans[c].lostBuffers ≠
       x.total)) = true) ∧
    (let s := dev fun d => { ((d.setLive 0x2592 1 1).setLive 0x2592 5 1000).setLive 0x2592 6 0x23000108 with
         pool := { d.pool with buffers := bufs } }
     let c : ChanNo := 2
     let l : List Nat := [2]
     s.b.d.power.coreOn = true ∧ s.b.d.served = true ∧ s.b.d.flag (0x2590 + c.val) 1 = true ∧ s.b.d.chanSource c.val = 2 ∧
       s.b.sample ((mapWords (s.b.d.nat (0x2590 + c.val) 6)).filter (· ≠ 0)) = (l, s.b) ∧ s.b.d.pool.fits c.val l.length =
       true ∧ yields (.sampler c) s (fun d => d.pool = ({ s.b.d.pool with
         buffers := s.b.d.pool.buffers.map fun y => if y.chan = c.val ∧ y.isOpen then { y with bytes := y.bytes ++ l } else
           y })) = true) := by
  refine ⟨?_, ?_, ?_, ?_⟩ <;> decide +kernel

theorem witness_Pdos :
    (let s := dev rpdoDev
     let p : Port := .a
     let n : Fin 16 := 0
     let data : List Nat := []
     s.b.d.power.coreOn = true ∧ s.b.d.pdoOn (0x1400 + n.val) (n.val + 1) p = true ∧ data.length < mappedLength
       (s.b.d.mapping (0x1600 + n.val) (s.b.d.nat (0x1600 + n.val) 0)) ∧ yields (.rpdo p n data) s (fun d => alike d ((awake
       s).port' p fun x => { x with shortPdos := satInc 32 x.shortPdos })) = true) ∧
    (let s := dev fun d => (rpdoDev d).setLive 0x1400 2 240
     let p : Port := .a
     let n : Fin 16 := 0
     let data : List Nat := [1]
     s.b.d.power.coreOn = true ∧ s.b.d.pdoOn (0x1400 + n.val) (n.val + 1) p = true ∧ mappedLength (s.b.d.mapping (0x1600 +
       n.val) (s.b.d.nat (0x1600 + n.val) 0)) ≤ data.length ∧ s.b.d.nat (0x1400 + n.val) 2 ≤ 240 ∧ yields (.rpdo p n data) s
       (fun d => alike d ((awake s).port' p fun x =>
       { x with syncRpdo := (x.syncRpdo.filter fun y => y.1 ≠ n.val) ++ [(n.val, data)] })) = true) ∧
    (let s := dev fun d => (rpdoDev d).setLive 0x1400 2 241
     let p : Port := .a
     let n : Fin 16 := 0
     let data : List Nat := [1, 2]
     let e : Nat := 0x23000108
     let v' : Int := 1
     s.b.d.power.coreOn = true ∧ s.b.d.pdoOn (0x1400 + n.val) (n.val + 1) p = true ∧ s.b.d.mapping (0x1600 + n.val)
       (s.b.d.nat (0x1600 + n.val) 0) = [e] ∧ e % 256 / 8 ≤ data.length ∧ 240 < s.b.d.nat (0x1400 + n.val) 2 ∧ (s.b.d.nat
       0x2007 (n.val + 1)).testBit 7 = false ∧ 0x2300 ≤ entryIndex e ∧ entryIndex e < 0x2310 ∧ (awake s).checkWrite
       (entryIndex e) (entrySubindex e) (e % 256 / 8) (slotValue e (ofBytesLE (data.take (e % 256 / 8)))) = .ok v' ∧ yields
       (.rpdo p n data) s (fun d => alike d ((awake s).setLive (entryIndex e) (entrySubindex e) v')) = true) ∧
    (let s := dev fun d => (rpdoDev d).setLive 0x1400 2 241
     let p : Port := .a
     let n : Fin 16 := 0
     let data : List Nat := [9]
     let e : Nat := 0x23000108
     let c : Nat := 0x06090030
     let d1 : Dev := awake s
     s.b.d.power.coreOn = true ∧ s.b.d.pdoOn (0x1400 + n.val) (n.val + 1) p = true ∧ s.b.d.mapping (0x1600 + n.val)
       (s.b.d.nat (0x1600 + n.val) 0) = [e] ∧ e % 256 / 8 ≤ data.length ∧ 240 < s.b.d.nat (0x1400 + n.val) 2 ∧ (s.b.d.nat
       0x2007 (n.val + 1)).testBit 7 = false ∧ (awake s).checkWrite (entryIndex e) (entrySubindex e) (e % 256 / 8)
       (slotValue e (ofBytesLE (data.take (e % 256 / 8)))) = .error (c, d1) ∧ c ≠ 0 ∧ yields (.rpdo p n data) s (fun d =>
       alike d (d1.port' p fun x => { x with refused := satInc 32 x.refused })) = true) ∧
    (let s := dev tpdoDev
     let p : Port := .b
     let n : Fin 16 := 0
     let since : Nat := 100
     let l : List Nat := []
     s.b.d.power.coreOn = true ∧ s.b.d.pdoOn (0x1800 + n.val) (17 + n.val) p = true ∧ 254 ≤ s.b.d.tpdoType n ∧ s.b.d.nat
       (0x1800 + n.val) 3 ≤ since ∧ s.b.d.power.test = false ∧ s.b.sample (s.b.d.mapping (0x1A00 + n.val) (s.b.d.nat (0x1A00
       + n.val) 0)) = (l, s.b) ∧ s.b.d.tpdoSent n.val p ≠ some l ∧ yields (.tpdo p n since) s (fun d => d.out = .pdo p n.val
       (padTo l) :: s.b.d.out ∧ d.tpdoSent n.val p = some l ∧ d.still = s.b.d.still.dict' fun x =>
       { x with tpdoLast := d.dict.tpdoLast }) = true) ∧
    (let s := dev tpdoDev
     let p : Port := .b
     let n : Fin 16 := 0
     let since : Nat := 99
     s.b.d.power.coreOn = true ∧ (s.b.d.tpdoType n < 254 ∨ since < s.b.d.nat (0x1800 + n.val) 3) ∧ yields (.tpdo p n since)
       s (fun d => alike d s.b.d) = true) ∧
    (let s := dev tpdoDev
     let n : Fin 16 := 0
     let since : Nat := 50
     s.b.d.power.coreOn = true ∧ s.b.d.pdoOn (0x1800 + n.val) (17 + n.val) .a = true ∧ s.b.d.pdoOn (0x1800 + n.val) (17 +
       n.val) .b = true ∧ 254 ≤ s.b.d.tpdoType n ∧ s.b.d.nat (0x1800 + n.val) 5 ≠ 0 ∧ s.b.d.nat (0x1800 + n.val) 5 ≤ since ∧
       s.b.d.power.test = false ∧ s.b.d.nat (0x1A00 + n.val) 0 = 0 ∧ yields (.tpdoEventTimer n since) s (fun d => d.out =
       .pdo .b n.val [] :: .pdo .a n.val [] :: s.b.d.out) = true) ∧
    (let s := dev tpdoDev
     let n : Fin 16 := 0
     let since : Nat := 49
     s.b.d.power.coreOn = true ∧ (s.b.d.tpdoType n < 254 ∨ s.b.d.nat (0x1800 + n.val) 5 = 0 ∨ since < s.b.d.nat (0x1800 +
       n.val) 5) ∧ yields (.tpdoEventTimer n since) s (fun d => alike d s.b.d) = true) := by
  refine ⟨?_, ?_, ?_, ?_, ?_, ?_, ?_, ?_⟩ <;> decide +kernel

theorem witness_BusEvents :
    (let s := dev cl
     let p : Port := .b
     let node : Nat := 10
     let nmt : Nat := 5
     let k : Fin 4 := 0
     s.b.d.power.coreOn = true ∧ s.b.d.served = true ∧ s.b.d.onBus p = true ∧ s.b.d.clientOf node = some k ∧ yields
       (.heartbeatReceived p node nmt) s (fun d => d.dict.clients[k].active = true ∧ d.dict.clients[k].timeout = false ∧
       d.dict.clients[k].nmt = nmt % 256 ∧ (∀ j : Fin 4, j ≠ k → d.dict.clients[j] = s.b.d.dict.clients[j]) ∧ d.dict =
       { s.b.d.dict with clients := d.dict.clients }) = true) ∧
    (let s := dev cl
     let p : Port := .b
     let node : Nat := 11
     let nmt : Nat := 5
     s.b.d.power.coreOn = true ∧ s.b.d.clientOf node = none ∧ yields (.heartbeatReceived p node nmt) s (fun d => alike d
       s.b.d) = true) ∧
    (let s := dev fun d => (cl d).dict' fun x => { x with clients := x.clients.map fun c => { c with active := true } }
     let k : Fin 4 := 0
     let ms : Nat := 100
     s.b.d.power.coreOn = true ∧ s.b.d.coresRun = true ∧ s.b.d.dict.clients[k].active = true ∧ s.b.d.dict.clients[k].timeout
       = false ∧ s.b.d.clientNode (k.val + 1) ≠ 0 ∧ s.b.d.nat 0x1016 (k.val + 1) % 65536 ≤ ms ∧ yields
       (.heartbeatConsumerTimeout k ms) s (fun d => d.sticky 110 = true ∧ (s.b.d.sticky 110 = false →
       d.faults.src[110].reason = k.val + 1) ∧ d.dict =
       ({ s.b.d.dict with clients := upd s.b.d.dict.clients k fun c => { c with timeout := true } })) = true) ∧
    (let s := dev fun d => d.setLive 0x1017 0 1000
     let ms : Nat := 1000
     s.b.d.power.coreOn = true ∧ s.b.d.served = true ∧ s.b.d.nat 0x1017 0 ≠ 0 ∧ s.b.d.nat 0x1017 0 ≤ ms ∧ s.b.d.power.test =
       false ∧ s.b.d.onBus .a = true ∧ s.b.d.onBus .b = true ∧ yields (.heartbeatProducer ms) s (fun d => d.out = .heartbeat
       .b s.b.d.portB.nmt.code :: .heartbeat .a s.b.d.portA.nmt.code :: s.b.d.out) = true) ∧
    (let s := dev fun d => d.setLive 0x1017 0 1000
     let ms : Nat := 999
     s.b.d.power.coreOn = true ∧ ms < s.b.d.nat 0x1017 0 ∧ yields (.heartbeatProducer ms) s (fun d => alike d s.b.d) = true) ∧
    (let s := dev id
     let p : Port := .b
     let ms : Nat := 1000
     s.b.d.power.coreOn = true ∧ (s.b.d.port p).live = true ∧ 1000 ≤ ms ∧ s.b.d.sticky (portSource p) = false ∧ yields
       (.busOff p ms) s (fun d => d.retrying (portSource p) = true ∧ d.sticky (portSource p) = false) = true) ∧
    (let s := dev id
     let p : Port := .b
     let ms : Nat := 999
     s.b.d.power.coreOn = true ∧ (s.b.d.port p).live = true ∧ ms < 1000 ∧ yields (.busOff p ms) s (fun d => d.sticky
       (portSource p) = true) = true) ∧
    (let s := dev fun d => d.port' .b fun x => { x with busOff := true }
     let p : Port := .b
     let n : Nat := 128
     s.b.d.power.coreOn = true ∧ (s.b.d.port p).busOff = true ∧ (s.b.d.port p).heldOff = false ∧ 128 ≤ n ∧ yields
       (.busOffRecovery p n) s (fun d => d.retrying (portSource p) = false) = true) ∧
    (let s := dev id
     let p : Port := .a
     let ms : Nat := 1000
     s.b.d.power.coreOn = true ∧ (s.b.d.port p).live = true ∧ 1000 ≤ ms ∧ yields (.errorPassive p ms) s (fun d => d.sticky
       (portSource p) = true ∧ (d.port p).passive = true ∧ (d.port p).warning = true) = true) := by
  refine ⟨?_, ?_, ?_, ?_, ?_, ?_, ?_, ?_, ?_⟩ <;> decide +kernel

theorem witness_Nmt :
    (let s := dev id
     let p : Port := .a
     let node : Nat := 0
     s.b.d.power.coreOn = true ∧ s.b.d.nmtFor p node = true ∧ yields (.nmtStart p node) s (fun d => alike d ((awake s).port'
       p fun x => { x with nmt := .operational })) = true) ∧
    (let s := dev oper
     let p : Port := .a
     let node : Nat := s.b.d.dict.nodeId
     s.b.d.power.coreOn = true ∧ s.b.d.nmtFor p node = true ∧ yields (.nmtEnterPreOperational p node) s (fun d => alike d
       ((awake s).port' p fun x => { x with nmt := .preOp })) = true) ∧
    (let s := dev oper
     let p : Port := .b
     let node : Nat := 0
     s.b.d.power.coreOn = true ∧ s.b.d.nmtFor p node = true ∧ yields (.nmtStop p node) s (fun d => (d.port p).nmt = .stopped
       ∧ (d.port p).sessions = [] ∧ d =
       { (awake s).port' p (fun x => { x with nmt := .stopped, sessions := [] }) with pool := d.pool }) = true) ∧
    (let s := dev oper
     let p : Port := .b
     let node : Nat := 0
     s.b.d.power.coreOn = true ∧ s.b.d.nmtFor p node = true ∧ yieldsBody (.nmtResetNode p node) s (fun b => b.hw = Caused
       s.b.hw 7 ∧ b.host = s.b.host ∧ (∀ n : TimerNo, n.val < 6 → b.d.timer[n].saved = none ∧ b.d.timer[n].regs.cnt = 0 ∧
       b.d.timer[n].regs.word = (s.b.d.timer[n].saved.getD s.b.d.timer[n].regs).word ∧ b.d.timer[n].run = (b.d.tm n
       1).testBit 15) ∧ b.d.nv.banks = s.b.d.nv.banks ∧ b.d.otp.words = s.b.d.otp.words ∧ b.d.dict.unlocked = false ∧
       b.d.tap.keyed = false ∧ b.d.pool.buffers = [] ∧ b.d.jour.replayDue = true ∧ (∀ x, b.d.branchOn x = s.b.d.branchOn x)
       ∧ (b.d.portA.enabled = true → b.d.portA.nmt = .preOp) ∧ (b.d.portB.enabled = true → b.d.portB.nmt = .preOp)) = true) ∧
    (let s := dev oper
     let p : Port := .b
     let node : Nat := 0
     s.b.d.power.coreOn = true ∧ s.b.d.nmtFor p node = true ∧ yieldsBody (.nmtResetCommunication p node) s (fun b => b.d.nv
       = { s.b.d.nv with logQueue := b.d.nv.logQueue } ∧ b.d.faults =
       { s.b.d.faults with logDropped := b.d.faults.logDropped } ∧ b.hw = Caused s.b.hw 8 ∧ b.host = s.b.host ∧
       b.d.dict.unlocked = false ∧ ((b.d.port p).enabled = true → (b.d.port p).nmt = .preOp)) = true) ∧
    (let s := dev id
     let p : Port := .a
     let node : Nat := 5
     s.b.d.power.coreOn = true ∧ s.b.d.nmtFor p node = false ∧ [Instr.nmtStart p node, .nmtEnterPreOperational p node,
       .nmtStop p node, .nmtResetNode p node, .nmtResetCommunication p node].all fun c => yieldsBody c s (fun b => b = s.b)
       = true) := by
  refine ⟨?_, ?_, ?_, ?_, ?_, ?_⟩ <;> decide +kernel

theorem witness_Link :
    (let s := dev fun d => (master d).casc' fun c => { c with messages := [⟨1, 8, 0xFFFF, []⟩, ⟨2, 1, 5, [1]⟩] }
     s.b.d.power.coreOn = true ∧ s.b.d.isMaster = true ∧ s.b.d.power.test = false ∧ yields .beacon s (fun d => d.casc.slaves
       = s.b.d.casc.slaves.map SlaveView.newCycle ∧ (let m : Beacon := d.beaconOf s.b.hw.counter; d.out = (if m.cstart then
       [Out.startPulse] else []) ++ .copak (copakFrame 1 0 m.bytes) :: s.b.d.out ∧ m.cycle = (s.b.d.casc.cycle + 1) % 256 ∧
       m.time = s.b.hw.counter ∧ m.masterState = s.b.d.stateCode ∧ m.order = s.b.d.casc.order ∧ m.orderTag =
       s.b.d.casc.orderTag ∧ m.nslv = s.b.d.casc.units - 1 ∧ m.summary = decide (5 ≤ s.b.d.casc.units) ∧ m.cstart =
       (s.b.d.seq.awaitPulse && decide (s.b.d.casc.order = 1)) ∧ d.casc.announced = m.cstart ∧ (s.b.d.casc.messages = [] →
       m.msgType = 0 ∧ m.tag = 0xFFFF ∧ d.casc.messages = []) ∧
       (match s.b.d.casc.messages with | [] => true | x :: r => decide (m.msgAddr = x.addr ∧ m.msgType = x.type ∧ m.tag = x.tag ∧ m.data = x.data ∧ d.casc.messages = r ++ [x] ∧ d.casc.sent = some x))
       = true)) = true) ∧
    (let s := dev slave
     let c : RxCheck := badRx 1 32
     let m : Beacon := bcn 2 0
     s.b.d.power.coreOn = true ∧ s.b.d.casc.role = 2 ∧ s.b.d.casc.link ≠ .conflict ∧ RxOk c 1 32 = false ∧ yields
       (.beaconReceived c m) s (fun d => d.casc = { s.b.d.casc with
         discarded := satInc 32 s.b.d.casc.discarded, announced := false, statusDue := false, replyDue := false,
         validBeacons := if s.b.d.casc.link = .joined then s.b.d.casc.validBeacons else 0 }) = true) ∧
    (let c : RxCheck := okRx 1 32
     let s := dev fun d => (slave d).casc' fun c => { c with link := .search, validBeacons := 2 }
     let m : Beacon := bcn 1 0
     s.b.d.power.coreOn = true ∧ s.b.d.casc.role = 2 ∧ (s.b.d.casc.link = .search ∨ s.b.d.casc.link = .lost) ∧ 2 ≤
       s.b.d.casc.validBeacons ∧ RxOk c 1 32 = true ∧ s.b.d.straps.addr ≤ m.nslv ∧ m.msgType = 0 ∧ s.b.d.test.lateMsg = none
       ∧ yields (.beaconReceived c m) s (fun d => d.casc = { s.b.d.casc with
         offset := (m.time : Int) - s.b.hw.counter, announced := m.cstart, summary := m.summary, cycle := m.cycle % 256,
         statusDue := true, replyDue := false, link := .joined, validBeacons := 3, rejoin := s.b.d.casc.rejoin || decide
           (s.b.d.casc.link = .lost) }) = true) ∧
    (let c : RxCheck := okRx 1 32
     let s := dev fun d => (slave d).casc' fun c => { c with link := .search }
     let m : Beacon := bcn 0 0
     s.b.d.power.coreOn = true ∧ s.b.d.casc.role = 2 ∧ s.b.d.casc.link ≠ .conflict ∧ s.b.d.casc.link ≠ .noSlot ∧ RxOk c 1 32
       = true ∧ m.nslv < s.b.d.straps.addr ∧ m.msgType = 0 ∧ Quiet s.b.d ∧ yields (.beaconReceived c m) s (fun d =>
       KeepsPower s d ∧ d.casc.link = .noSlot ∧ d.sticky 112 = true ∧ d.casc.linkReason = 3) = true) ∧
    (let s := dev fun d => (slave d).casc' fun c => { c with statusDue := true }
     s.b.d.power.coreOn = true ∧ s.b.d.isSlave = true ∧ s.b.d.casc.statusDue = true ∧ s.b.d.power.test = false ∧ yields
       .statusFrame s (fun d => d.casc = { s.b.d.casc with statusDue := false } ∧ d.out = (.copak (copakFrame (if
       s.b.d.casc.summary then 3 else 2) s.b.d.straps.addr s.b.d.statusOf.payload) :: s.b.d.out)) = true) ∧
    (let s := dev master
     s.b.d.power.coreOn = true ∧ (s.b.d.isSlave = false ∨ s.b.d.casc.statusDue = false) ∧ yields .statusFrame s (fun d =>
       alike d s.b.d) = true) ∧
    (let s := dev master
     let u : Unit8 := 2
     let c : RxCheck := badRx 2 16
     let st : Status := .full 3 0x80 255 0 1 2 0
     s.b.d.power.coreOn = true ∧ s.b.d.isMaster = true ∧ u.val ≠ 0 ∧ u.val < s.b.d.casc.units ∧ RxOk c (if 5 ≤
       s.b.d.casc.units then 3 else 2) (if 5 ≤ s.b.d.casc.units then 4 else 16) = false ∧ yields (.statusFrameReceived u c
       st) s (fun d => d.casc = ({ s.b.d.casc with
         discarded := satInc 32 s.b.d.casc.discarded, slaves := upd s.b.d.casc.slaves u fun x => { x with valid := 0 } })) =
       true) ∧
    (let s := dev master
     let u : Unit8 := 2
     let c : RxCheck := okRx 2 16
     let a : Nat := 3
     let f : Nat := 0x80
     let b : Nat := 255
     let r : Nat := 0
     let on : Nat := 7
     let good : Nat := 7
     let fw : Nat := 2
     s.b.d.power.coreOn = true ∧ s.b.d.isMaster = true ∧ u.val ≠ 0 ∧ u.val < s.b.d.casc.units ∧ s.b.d.casc.units < 5 ∧ RxOk
       c 2 16 = true ∧ Quiet s.b.d ∧ s.b.d.casc.slaves[u].present = true ∧ (f.testBit 6 = true →
       s.b.d.casc.slaves[u].safeReq = true) ∧ (f.testBit 5 = true → s.b.d.casc.slaves[u].fstart = true) ∧ yields
       (.statusFrameReceived u c (.full a f b r on good fw)) s (fun d => d.casc = { s.b.d.casc with
         slaves := upd s.b.d.casc.slaves u fun x =>
           { x with status := (Status.full a f b r on good fw).bytes, on := on, good := good - (good &&& fw), ready := f.testBit 7, idle := !f.testBit 4, safeReq := f.testBit 6, fstart := f.testBit 5, valid := min 3 (x.valid + 1), missed := 0 }
           }) = true) ∧
    (let u : Unit8 := 2
     let c : RxCheck := okRx 2 16
     let s := dev fun d => (master d).casc' fun c => { c with slaves := c.slaves.map fun x => { x with valid := 3 } }
     let a : Nat := 3
     let f : Nat := 0xF0
     let b : Nat := 255
     let r : Nat := 0
     let on : Nat := 7
     let good : Nat := 7
     let fw : Nat := 2
     s.b.d.power.coreOn = true ∧ s.b.d.isMaster = true ∧ u.val ≠ 0 ∧ u.val < s.b.d.casc.units ∧ s.b.d.casc.units < 5 ∧ RxOk
       c 2 16 = true ∧ Quiet s.b.d ∧ s.b.d.power.state = .run ∧ s.b.d.path.ship ≠ .pastReturn ∧ s.b.d.casc.slaves[u].present
       = true ∧ s.b.d.casc.slaves[u].safeReq = false ∧ f.testBit 6 = true ∧ yields (.statusFrameReceived u c (.full a f b r
       on good fw)) s (fun d => d.casc.order = 3 ∧ d.casc.orderTag = (s.b.d.casc.orderTag + 1) % 256) = true) ∧
    (let s := dev fun d => (slave d).casc' fun c => { c with replyDue := true }
     s.b.d.power.coreOn = true ∧ s.b.d.isSlave = true ∧ s.b.d.coresRun = true ∧ s.b.d.casc.replyDue = true ∧
       s.b.d.power.test = false ∧ yields .reply s (fun d => d.casc = { s.b.d.casc with replyDue := false } ∧ d.out = (.copak
       (copakFrame 4 s.b.d.straps.addr s.b.d.casc.reply.bytes) :: s.b.d.out)) = true) := by
  refine ⟨?_, ?_, ?_, ?_, ?_, ?_, ?_, ?_, ?_, ?_⟩ <;> decide +kernel

theorem witness_Messages :
    (let s := dev slave
     let tag : Nat := 5
     let l : List CTarget := ct.take 3
     let count : Nat := 2
     s.b.d.power.coreOn = true ∧ s.b.d.isSlave = true ∧ s.b.d.coresRun = true ∧ s.b.d.test.lateDue = false ∧
       s.b.d.test.lateMsg = none ∧ s.b.d.tagEntry tag = none ∧ s.b.d.casc.voteTag ≠ tag ∧ 1 < count ∧ yields
       (.prepareSegment tag 0 count l) s (fun d => alike d (Answering { s.b.d with
         casc :=
           { s.b.d.casc with segments := l.take 3, segGot := 1, segCount := count, voteTag := tag, vote := 0, voteDetail := 0 }
           } ⟨0x01, 0, tag, 0⟩)) = true) ∧
    (let s := dev slave
     let tag : Nat := 5
     let l : List CTarget := ct.take 3
     let index : Nat := 1
     let count : Nat := 2
     s.b.d.power.coreOn = true ∧ s.b.d.isSlave = true ∧ s.b.d.coresRun = true ∧ s.b.d.test.lateDue = false ∧
       s.b.d.test.lateMsg = none ∧ s.b.d.tagEntry tag = none ∧ s.b.d.casc.voteTag ≠ tag ∧ index ≠ 0 ∧ yields
       (.prepareSegment tag index count l) s (fun d => alike d (Answering s.b.d ⟨0x0C, 0, tag, 0⟩)) = true) ∧
    (let s := dev fun d => slave (held d)
     let tag : Nat := 5
     let l : List CTarget := [⟨3, 23, 0⟩, ⟨1, 7, 1⟩, ⟨0, 0, 0⟩]
     let d1 : Dev := { s.b.d with
         casc :=
           { s.b.d.casc with segments := l.take 3, segGot := 1, segCount := 1, voteTag := tag, vote := 0, voteDetail := 0 }
           }
     let detail : Nat := ((Body.voteOn { s.b with d := d1 } ((l.take 3).filterMap ofCTarget)).map (·.1)).getD 0
     let d2 : Dev := ((Body.voteOn { s.b with d := d1 } ((l.take 3).filterMap ofCTarget)).map (·.2)).getD d1
     s.b.d.power.coreOn = true ∧ s.b.d.isSlave = true ∧ s.b.d.coresRun = true ∧ s.b.d.test.lateDue = false ∧
       s.b.d.test.lateMsg = none ∧ s.b.d.tagEntry tag = none ∧ s.b.d.casc.voteTag ≠ tag ∧ d1 = { s.b.d with
         casc :=
           { s.b.d.casc with segments := l.take 3, segGot := 1, segCount := 1, voteTag := tag, vote := 0, voteDetail := 0 }
           } ∧ Body.voteOn { s.b with d := d1 } ((l.take 3).filterMap ofCTarget) = some (detail, d2) ∧ yields
       (.prepareSegment tag 0 1 l) s (fun d => alike d (Answering
       { d1 with integ := d2.integ, casc := { d1.casc with vote := 3, voteDetail := detail } } ⟨0x01, 0, tag, 0⟩)) = true) ∧
    (let s := dev fun d => slave (held d)
     let tag : Nat := 5
     let l : List CTarget := ct.take 3
     let d1 : Dev := { s.b.d with
         casc :=
           { s.b.d.casc with segments := l.take 3, segGot := 1, segCount := 1, voteTag := tag, vote := 0, voteDetail := 0 }
           }
     s.b.d.power.coreOn = true ∧ s.b.d.isSlave = true ∧ s.b.d.coresRun = true ∧ s.b.d.test.lateDue = false ∧
       s.b.d.test.lateMsg = none ∧ s.b.d.tagEntry tag = none ∧ s.b.d.casc.voteTag ≠ tag ∧ d1 = { s.b.d with
         casc :=
           { s.b.d.casc with segments := l.take 3, segGot := 1, segCount := 1, voteTag := tag, vote := 0, voteDetail := 0 }
           } ∧ Body.voteOn { s.b with d := d1 } ((l.take 3).filterMap ofCTarget) = none ∧ yields (.prepareSegment tag 0 1 l)
       s (fun d => d.casc.vote = 2 ∧ d.casc.reply = ⟨0x01, 0, tag, 0⟩ ∧ (∃ e : Entry, d.jour.entries.getLast? = some e ∧
       e.cascade = true ∧ e.tag = tag ∧ e.state = .prepared ∧ e.going = false ∧ e.targets = (l.take 3).filterMap ofCTarget)
       ∧ d.jour = { s.b.d.jour with entries := d.jour.entries }) = true) ∧
    (let s := dev (slaveHas (tagged .prepared false))
     let tag : Nat := 5
     let x : Nat × Entry := (0, tagged .prepared false)
     s.b.d.power.coreOn = true ∧ s.b.d.isSlave = true ∧ s.b.d.coresRun = true ∧ s.b.d.test.lateDue = false ∧
       s.b.d.test.lateMsg = none ∧ s.b.d.tagEntry tag = some x ∧ yields (.pollVote tag) s (fun d => alike d (Answering s.b.d
       ⟨0x02, 0, tag, 0⟩)) = true) ∧
    (let s := dev (slaveHas (tagged .prepared true))
     let tag : Nat := 5
     let x : Nat × Entry := (0, tagged .prepared true)
     let starts : Vector StartMeas 30 := meas
     s.b.d.power.coreOn = true ∧ s.b.d.isSlave = true ∧ s.b.d.coresRun = true ∧ s.b.d.test.lateDue = false ∧
       s.b.d.test.lateMsg = none ∧ s.b.d.tagEntry tag = some x ∧ (x.2.state ≠ .prepared ∨ x.2.going = true) ∧ yields
       (.commit tag starts) s (fun d => alike d (Answering s.b.d ⟨0x04, 0, tag, 0⟩)) = true) ∧
    (let s := dev fun d => branchesOn (slaveHas (tagged .prepared false) d)
     let tag : Nat := 5
     let x : Nat × Entry := (0, tagged .prepared false)
     let starts : Vector StartMeas 30 := meas
     let b : Branch := 23
     s.b.d.power.coreOn = true ∧ s.b.d.isSlave = true ∧ s.b.d.coresRun = true ∧ s.b.d.test.lateDue = false ∧
       s.b.d.test.lateMsg = none ∧ s.b.d.tagEntry tag = some x ∧ x.2.state = .prepared ∧ x.2.going = false ∧ s.b.d.inRun =
       true ∧ x.2.targets = [⟨0, 3, 0, b.val, 0, 0⟩] ∧ yields (.commit tag starts) s (fun d => d.casc.reply = ⟨0x04, 0, tag,
       0⟩ ∧ d.casc.replyDue = true ∧ d.branchOn b = false) = true) ∧
    (let s := dev (slaveHas (tagged .applied true))
     let tag : Nat := 5
     let x : Nat × Entry := (0, tagged .applied true)
     s.b.d.power.coreOn = true ∧ s.b.d.isSlave = true ∧ s.b.d.coresRun = true ∧ s.b.d.test.lateDue = false ∧
       s.b.d.test.lateMsg = none ∧ s.b.d.tagEntry tag = some x ∧ yields (.pollOutcome tag) s (fun d => alike d (Answering
       s.b.d
       (match x.2.state with | .applied => ⟨0x05, 0, tag, x.2.missedBranches⟩ | .partially => ⟨0x06, 0, tag, x.2.missedBranches⟩ | .failed => ⟨0x07, 0, tag, x.2.missedBranches⟩ | _ => ⟨0x00, 0, tag, 0⟩)))
       = true) ∧
    (let s := dev (slaveHas (tagged .prepared false))
     let tag : Nat := 5
     let x : Nat × Entry := (0, tagged .prepared false)
     s.b.d.power.coreOn = true ∧ s.b.d.isSlave = true ∧ s.b.d.coresRun = true ∧ s.b.d.test.lateDue = false ∧
       s.b.d.test.lateMsg = none ∧ s.b.d.tagEntry tag = some x ∧ yields (.abort tag) s (fun d => d.casc = (Answering s.b.d
       ⟨0x08, 0, tag, 0⟩).casc ∧ (x.2.state.ended = true → d.jour = s.b.d.jour) ∧ (x.2.state.ended = false → d.jour.entries
       = updList s.b.d.jour.entries x.1 fun e => if s.b.d.commitAdmitted entryUs then
       { e with state := .failed, detail := 0x0A, endNo := s.b.d.jour.ends + 1, pend := none } else
       { e with pend := some (e.pend.getD (.failed, 0x0A)) })) = true) ∧
    (let s := dev (slaveHas (tagged .prepared false))
     let tag : Nat := 5
     let x : Nat × Entry := (0, tagged .prepared false)
     let type : Nat := 9
     s.b.d.power.coreOn = true ∧ s.b.d.isSlave = true ∧ s.b.d.coresRun = true ∧ s.b.d.test.lateDue = false ∧
       s.b.d.test.lateMsg = none ∧ s.b.d.tagEntry tag = some x ∧ yields (.unknownTag tag type) s (fun d => alike d s.b.d) =
       true) ∧
    (let s := dev slave
     let tag : Nat := 5
     s.b.d.power.coreOn = true ∧ s.b.d.isSlave = true ∧ s.b.d.coresRun = true ∧ s.b.d.test.lateDue = false ∧
       s.b.d.test.lateMsg = none ∧ s.b.d.tagEntry tag = none ∧ yields (.pollVote tag) s (fun d => alike d (Answering s.b.d
       (if s.b.d.casc.voteTag ≠ tag then ⟨0x0F, 0, tag, 0⟩ else if s.b.d.casc.vote = 3 then ⟨0x03, s.b.d.casc.voteDetail,
       tag, 0⟩ else ⟨0x00, 0, tag, 0⟩))) = true) ∧
    (let s := dev slave
     let tag : Nat := 5
     let starts : Vector StartMeas 30 := meas
     s.b.d.power.coreOn = true ∧ s.b.d.isSlave = true ∧ s.b.d.coresRun = true ∧ s.b.d.test.lateDue = false ∧
       s.b.d.test.lateMsg = none ∧ s.b.d.tagEntry tag = none ∧ yields (.commit tag starts) s (fun d => alike d (Answering
       s.b.d ⟨0x0F, 0, tag, 0⟩)) = true) ∧
    (let s := dev slave
     let tag : Nat := 5
     s.b.d.power.coreOn = true ∧ s.b.d.isSlave = true ∧ s.b.d.coresRun = true ∧ s.b.d.test.lateDue = false ∧
       s.b.d.test.lateMsg = none ∧ s.b.d.tagEntry tag = none ∧ yields (.pollOutcome tag) s (fun d => alike d (Answering
       s.b.d ⟨0x0F, 0, tag, 0⟩)) = true) ∧
    (let s := dev slave
     let tag : Nat := 5
     s.b.d.power.coreOn = true ∧ s.b.d.isSlave = true ∧ s.b.d.coresRun = true ∧ s.b.d.test.lateDue = false ∧
       s.b.d.test.lateMsg = none ∧ s.b.d.tagEntry tag = none ∧ yields (.abort tag) s (fun d => d = if s.b.d.casc.voteTag =
       tag then Answering { s.b.d with
         casc := { s.b.d.casc with voteTag := 0xFFFF, vote := 0, segments := [], segGot := 0 } } ⟨0x08, 0, tag, 0⟩ else
       Answering s.b.d ⟨0x0F, 0, tag, 0⟩) = true) ∧
    (let s := dev fun d => (slave d).casc' fun c => { c with voteTag := 5, vote := 2, segGot := 1 }
     let tag : Nat := 5
     s.b.d.power.coreOn = true ∧ s.b.d.isSlave = true ∧ s.b.d.coresRun = true ∧ s.b.d.test.lateDue = false ∧
       s.b.d.test.lateMsg = none ∧ s.b.d.tagEntry tag = none ∧ yields (.abort tag) s (fun d => d = if s.b.d.casc.voteTag =
       tag then Answering { s.b.d with
         casc := { s.b.d.casc with voteTag := 0xFFFF, vote := 0, segments := [], segGot := 0 } } ⟨0x08, 0, tag, 0⟩ else
       Answering s.b.d ⟨0x0F, 0, tag, 0⟩) = true) ∧
    (let s := dev slave
     let tag : Nat := 5
     let type : Nat := 9
     s.b.d.power.coreOn = true ∧ s.b.d.isSlave = true ∧ s.b.d.coresRun = true ∧ s.b.d.test.lateDue = false ∧
       s.b.d.test.lateMsg = none ∧ s.b.d.tagEntry tag = none ∧ s.b.d.casc.voteTag ≠ tag ∧ yields (.unknownTag tag type) s
       (fun d => alike d (Answering s.b.d ⟨0x0F, 0, tag, 0⟩)) = true) ∧
    (let s := dev (slaveHas (tagged .prepared false))
     let e : Entry := tagged .prepared false
     s.b.d.power.coreOn = true ∧ s.b.d.isSlave = true ∧ s.b.d.coresRun = true ∧ s.b.d.test.lateDue = false ∧
       s.b.d.test.lateMsg = none ∧ s.b.d.jour.entries.find? (fun e => e.cascade && e.state = .prepared) = some e ∧ yields
       .inquire s (fun d => alike d (Answering { s.b.d with casc := { s.b.d.casc with rejoin := false } } ⟨0x09, 0, e.tag,
       0⟩)) = true) ∧
    (let s := dev (slaveHas (tagged .applied false))
     s.b.d.power.coreOn = true ∧ s.b.d.isSlave = true ∧ s.b.d.coresRun = true ∧ s.b.d.test.lateDue = false ∧
       s.b.d.test.lateMsg = none ∧ s.b.d.jour.entries.find? (fun e => e.cascade && e.state = .prepared) = none ∧ yields
       .inquire s (fun d => alike d (Answering { s.b.d with casc := { s.b.d.casc with rejoin := false } } ⟨0x09, 0, 0xFFFF,
       0⟩)) = true) ∧
    (let s := dev slave
     s.b.d.power.coreOn = true ∧ s.b.d.isSlave = true ∧ s.b.d.coresRun = true ∧ s.b.d.test.lateDue = false ∧
       s.b.d.test.lateMsg = none ∧ s.b.d.casc.safeReq = false ∧ yields .getFail s (fun d => alike d (Answering s.b.d ⟨0x0A,
       0, 0xFFFF, s.b.d.casc.lastFail.1 % 256 + s.b.d.casc.lastFail.2 % 256 * 2 ^ 8 + s.b.d.stateCode * 2 ^ 16 +
       s.b.d.seq.attempt % 256 * 2 ^ 24⟩)) = true) ∧
    (let s := dev slave
     s.b.d.power.coreOn = true ∧ s.b.d.isSlave = true ∧ s.b.d.coresRun = true ∧ s.b.d.test.lateDue = false ∧
       s.b.d.test.lateMsg = none ∧ yields .getInfo s (fun d => alike d (Answering s.b.d ⟨0x0B, 0, 0xFFFF, s.b.d.members⟩)) =
       true) := by
  refine ⟨?_, ?_, ?_, ?_, ?_, ?_, ?_, ?_, ?_, ?_, ?_, ?_, ?_, ?_, ?_, ?_, ?_, ?_, ?_, ?_⟩ <;> decide +kernel

theorem witness_Transactions :
    (let s := dev fun d => (master (held d)).jour' fun j =>
       { j with entries := [{ shared with targets := [⟨0, 1, 0x2204, 1, 0, 1⟩, ⟨1, 3, 0, 4, 0, 0⟩] }] }
     let i : Nat := 0
     let e : Entry := { shared with targets := [⟨0, 1, 0x2204, 1, 0, 1⟩, ⟨1, 3, 0, 4, 0, 0⟩] }
     let detail : Nat := 7
     let d1 : Dev := ((s.b.prepareTargets (s.b.d.entryWho e) (e.targets.filter fun t => t.unit = 0) false).map (·.2)).getD
       s.b.d
     s.b.d.power.coreOn = true ∧ s.b.d.casc.role = 1 ∧ s.b.d.casc.txn = none ∧ s.b.d.journalRuns = true ∧ s.b.d.nextEntry =
       some (i, e) ∧ e.tag ≠ 0xFFFF ∧ s.b.prepareTargets (s.b.d.entryWho e) (e.targets.filter fun t => t.unit = 0) false =
       some (detail, d1) ∧ yields .cascadePrepareStart s (fun d => d.integ = d1.integ ∧ d.jour.entries = updList
       s.b.d.jour.entries i fun x =>
       { x with state := .failed, detail := detail, endNo := s.b.d.jour.ends + 1, pend := none }) = true) ∧
    (let s := dev fun d => (master (held d)).jour' fun j => { j with entries := [shared] }
     let i : Nat := 0
     let e : Entry := shared
     s.b.d.power.coreOn = true ∧ s.b.d.casc.role = 1 ∧ s.b.d.casc.txn = none ∧ s.b.d.journalRuns = true ∧ s.b.d.nextEntry =
       some (i, e) ∧ e.tag ≠ 0xFFFF ∧ s.b.prepareTargets (s.b.d.entryWho e) (e.targets.filter fun t => t.unit = 0) false =
       none ∧ yields .cascadePrepareStart s (fun d => d.casc = ({ s.b.d.casc with
         txn := some
           { tag := e.tag, committed := false, units := e.units, prepared := 0, voted := 0, confirmed := 0, ended := 0 },
         messages := s.b.d.casc.messages ++ ((List.range 8).filter fun u => e.units.testBit u).flatMap e.segments })) = true) ∧
    (let s := dev fun d => (master d).casc' fun c => { c with txn := some txn }
     let u : Unit8 := 2
     let us : Nat := s.b.d.nat 0x2380 5
     let x : Txn := txn
     s.b.d.power.coreOn = true ∧ s.b.d.casc.txn = some x ∧ s.b.d.coresRun = true ∧ x.committed = false ∧ x.prepared.testBit
       u.val = true ∧ x.voted.testBit u.val = false ∧ s.b.d.nat 0x2380 5 ≤ us ∧ yields (.prepareDeadline u us) s (fun d =>
       (d.casc.txn = none ∧ ∀ v : Unit8, x.prepared.testBit v.val = true → ⟨v.val, 5, x.tag, []⟩ ∈ d.casc.messages)) = true) ∧
    (let s := dev master
     let u : Unit8 := 2
     let us : Nat := 0
     s.b.d.power.coreOn = true ∧ s.b.d.casc.txn = none ∧ yields (.prepareDeadline u us) s (fun d => alike d s.b.d) = true) ∧
    (let s := dev master
     let u : Unit8 := 2
     let c : RxCheck := badRx 4 8
     let r : ReplyMsg := ⟨1, 0, 5, 0⟩
     let starts : Vector StartMeas 30 := meas
     s.b.d.power.coreOn = true ∧ s.b.d.isMaster = true ∧ RxOk c 4 8 = false ∧ yields (.replyReceived u c r starts) s (fun d
       => d.casc = { s.b.d.casc with discarded := satInc 32 s.b.d.casc.discarded }) = true) ∧
    (let s := dev (masterMsg ⟨2, 1, 5, [1]⟩)
     let u : Unit8 := 2
     let c : RxCheck := okRx 4 8
     let r : ReplyMsg := ⟨1, 0, 5, 0⟩
     let starts : Vector StartMeas 30 := meas
     let m : Msg := ⟨2, 1, 5, [1]⟩
     s.b.d.power.coreOn = true ∧ s.b.d.isMaster = true ∧ s.b.d.coresRun = true ∧ RxOk c 4 8 = true ∧ s.b.d.casc.sent = some
       m ∧ m.addr = u.val ∧ r.tag = m.tag ∧ m.type = 1 ∧ r.code = 1 ∧ s.b.d.casc.messages = [m] ∧ yields (.replyReceived u c
       r starts) s (fun d => d.casc = { s.b.d.casc with messages := [⟨u.val, 2, m.tag, []⟩] }) = true) ∧
    (let u : Unit8 := 2
     let c : RxCheck := okRx 4 8
     let s := dev fun d => (masterMsg ⟨2, 2, 5, []⟩ d).casc' fun c => { c with txn := some { txn with voted := 0 } }
     let r : ReplyMsg := ⟨2, 0, 5, 0⟩
     let starts : Vector StartMeas 30 := meas
     let m : Msg := ⟨2, 2, 5, []⟩
     let x : Txn := { txn with voted := 0 }
     s.b.d.power.coreOn = true ∧ s.b.d.isMaster = true ∧ s.b.d.coresRun = true ∧ RxOk c 4 8 = true ∧ s.b.d.casc.sent = some
       m ∧ m.addr = u.val ∧ r.tag = m.tag ∧ m.type = 2 ∧ r.code = 2 ∧ s.b.d.casc.txn = some x ∧ x.tag = m.tag ∧ x.voted |||
       2 ^ u.val ≠ x.units ∧ yields (.replyReceived u c r starts) s (fun d => d.casc = ({ s.b.d.casc with
         messages := s.b.d.casc.messages.erase m, txn := some { x with voted := x.voted ||| 2 ^ u.val } })) = true) ∧
    (let s := dev (masterMsg ⟨2, 2, 5, []⟩)
     let u : Unit8 := 2
     let c : RxCheck := okRx 4 8
     let r : ReplyMsg := ⟨3, 0, 5, 0⟩
     let starts : Vector StartMeas 30 := meas
     let m : Msg := ⟨2, 2, 5, []⟩
     let x : Txn := txn
     s.b.d.power.coreOn = true ∧ s.b.d.isMaster = true ∧ s.b.d.coresRun = true ∧ RxOk c 4 8 = true ∧ s.b.d.casc.sent = some
       m ∧ m.addr = u.val ∧ r.tag = m.tag ∧ m.type = 2 ∧ r.code = 3 ∧ s.b.d.casc.txn = some x ∧ x.committed = false ∧ yields
       (.replyReceived u c r starts) s (fun d => (d.casc.txn = none ∧ ∀ v : Unit8, x.prepared.testBit v.val = true → ⟨v.val,
       5, x.tag, []⟩ ∈ d.casc.messages)) = true) ∧
    (let s := dev (masterMsg ⟨2, 3, 5, []⟩)
     let u : Unit8 := 2
     let c : RxCheck := okRx 4 8
     let r : ReplyMsg := ⟨4, 0, 5, 0⟩
     let starts : Vector StartMeas 30 := meas
     let m : Msg := ⟨2, 3, 5, []⟩
     let x : Txn := txn
     s.b.d.power.coreOn = true ∧ s.b.d.isMaster = true ∧ s.b.d.coresRun = true ∧ RxOk c 4 8 = true ∧ s.b.d.casc.sent = some
       m ∧ m.addr = u.val ∧ r.tag = m.tag ∧ m.type = 3 ∧ r.code = 4 ∧ s.b.d.casc.txn = some x ∧ x.tag = m.tag ∧ yields
       (.replyReceived u c r starts) s (fun d => d.casc.txn = some { x with confirmed := x.confirmed ||| 2 ^ u.val } ∧
       ⟨u.val, 4, m.tag, []⟩ ∈ d.casc.messages) = true) ∧
    (let s := dev (masterMsg ⟨2, 5, 5, []⟩)
     let u : Unit8 := 2
     let c : RxCheck := okRx 4 8
     let r : ReplyMsg := ⟨8, 0, 5, 0⟩
     let starts : Vector StartMeas 30 := meas
     let m : Msg := ⟨2, 5, 5, []⟩
     s.b.d.power.coreOn = true ∧ s.b.d.isMaster = true ∧ s.b.d.coresRun = true ∧ RxOk c 4 8 = true ∧ s.b.d.casc.sent = some
       m ∧ m.addr = u.val ∧ r.tag = m.tag ∧ m.type = 5 ∧ (r.code = 8 ∨ r.code = 0x0F) ∧ yields (.replyReceived u c r starts)
       s (fun d => d.casc = { s.b.d.casc with messages := s.b.d.casc.messages.erase m }) = true) ∧
    (let s := dev (masterMsg ⟨2, 6, 0xFFFF, []⟩)
     let u : Unit8 := 2
     let c : RxCheck := okRx 4 8
     let r : ReplyMsg := ⟨9, 0, 0xFFFF, 0⟩
     let starts : Vector StartMeas 30 := meas
     let m : Msg := ⟨2, 6, 0xFFFF, []⟩
     s.b.d.power.coreOn = true ∧ s.b.d.isMaster = true ∧ s.b.d.coresRun = true ∧ RxOk c 4 8 = true ∧ s.b.d.casc.sent = some
       m ∧ m.addr = u.val ∧ r.tag = m.tag ∧ m.type = 6 ∧ r.code = 9 ∧ m.tag = 0xFFFF ∧ yields (.replyReceived u c r starts)
       s (fun d => d.casc = { s.b.d.casc with messages := s.b.d.casc.messages.erase m }) = true) ∧
    (let s := dev fun d => (masterMsg ⟨2, 7, 0xFFFF, []⟩ d).seq' fun x =>
       { x with held := some ⟨0, 0xFF, 2, 3, 4, 5, 6, 7, 8, 9, 10, 11⟩ }
     let u : Unit8 := 2
     let c : RxCheck := okRx 4 8
     let r : ReplyMsg := ⟨10, 0, 0xFFFF, 0x304⟩
     let starts : Vector StartMeas 30 := meas
     let m : Msg := ⟨2, 7, 0xFFFF, []⟩
     s.b.d.power.coreOn = true ∧ s.b.d.isMaster = true ∧ s.b.d.coresRun = true ∧ RxOk c 4 8 = true ∧ s.b.d.casc.sent = some
       m ∧ m.addr = u.val ∧ r.tag = m.tag ∧ m.type = 7 ∧ r.code = 0x0A ∧ yields (.replyReceived u c r starts) s (fun d =>
       d.casc.messages = s.b.d.casc.messages.erase m ∧ d.seq.held = s.b.d.seq.held.map (fillFail u.val (r.data % 256)
       (r.data / 256 % 256))) = true) ∧
    (let s := dev (masterMsg ⟨2, 8, 0xFFFF, []⟩)
     let u : Unit8 := 2
     let c : RxCheck := okRx 4 8
     let r : ReplyMsg := ⟨11, 0, 0xFFFF, 0x304⟩
     let starts : Vector StartMeas 30 := meas
     let m : Msg := ⟨2, 8, 0xFFFF, []⟩
     s.b.d.power.coreOn = true ∧ s.b.d.isMaster = true ∧ s.b.d.coresRun = true ∧ RxOk c 4 8 = true ∧ s.b.d.casc.sent = some
       m ∧ m.addr = u.val ∧ r.tag = m.tag ∧ m.type = 8 ∧ r.code = 0x0B ∧ yields (.replyReceived u c r starts) s (fun d =>
       d.casc = ({ s.b.d.casc with
         messages := s.b.d.casc.messages.erase m, slaves := upd s.b.d.casc.slaves u fun x => { x with members := r.data }
           })) = true) := by
  refine ⟨?_, ?_, ?_, ?_, ?_, ?_, ?_, ?_, ?_, ?_, ?_, ?_, ?_⟩ <;> decide +kernel

theorem witness_Orders :
    (let s := dev id
     let tag : Nat := 5
     s.b.d.power.coreOn = true ∧ s.b.d.takesOrder tag = false ∧ [Instr.startOrder tag, .abortOrder tag, .safeOrder tag,
       .standbyOrder tag, .shipOrder tag].all fun c => yields c s (fun d => alike d s.b.d) = true) ∧
    (let s := dev slave
     let tag : Nat := 7
     s.b.d.power.coreOn = true ∧ s.b.d.takesOrder tag = true ∧ yields (.startOrder tag) s (fun d => d.casc =
       { s.b.d.casc with
         lastTag := tag % 256, failPending := none, startArmed := true, lastFail := (0xFF, 0) }) = true) ∧
    (let s := dev fun d => (slave d).seq' fun x => { x with state := .onOrder }
     let tag : Nat := 7
     s.b.d.power.coreOn = true ∧ s.b.d.takesOrder tag = true ∧ s.b.d.seq.state = .onOrder ∧ yields (.abortOrder tag) s (fun
       d => d.casc.lastTag = tag % 256 ∧ (d.seq.order = .abort ∨ d.seq.order = .pause) ∧ d.casc =
       { s.b.d.casc with lastTag := tag % 256 }) = true) ∧
    (let s := dev fun d => (slave d).seq' fun x => { x with state := .pause }
     let tag : Nat := 7
     s.b.d.power.coreOn = true ∧ s.b.d.takesOrder tag = true ∧ s.b.d.seq.state = .pause ∧ yields (.abortOrder tag) s (fun d
       => d.casc = { s.b.d.casc with lastTag := tag % 256, failPending := none }) = true) ∧
    (let s := dev slave
     let tag : Nat := 7
     s.b.d.power.coreOn = true ∧ s.b.d.takesOrder tag = true ∧ s.b.d.power.state = .run ∧ s.b.d.seq.state = .idle ∧ yields
       (.safeOrder tag) s (fun d => d.casc.lastTag = tag % 256 ∧ (d.seq.order = .safeOff ∨ d.power.state = .safe) ∧ d.casc =
       { s.b.d.casc with lastTag := tag % 256 }) = true) ∧
    (let s := dev fun d => branchesOn (slave d)
     let tag : Nat := 7
     s.b.d.power.coreOn = true ∧ s.b.d.takesOrder tag = true ∧ s.b.d.power.state = .run ∧ s.b.d.seq.state = .idle ∧ yields
       (.safeOrder tag) s (fun d => d.casc.lastTag = tag % 256 ∧ (d.seq.order = .safeOff ∨ d.power.state = .safe) ∧ d.casc =
       { s.b.d.casc with lastTag := tag % 256 }) = true) ∧
    (let s := dev slave
     let tag : Nat := 7
     s.b.d.power.coreOn = true ∧ s.b.d.takesOrder tag = true ∧ s.b.d.actionRefused 2 = none ∧ s.b.d.seq.wakeDue = false ∧
       yields (.standbyOrder tag) s (fun d => d.casc.lastTag = tag % 256 ∧ ((d.seq.order = .offOrder ∧ d.seq.after =
       .standby) ∨ d.power.state = .standby)) = true) ∧
    (let s := dev slave
     let tag : Nat := 7
     s.b.d.power.coreOn = true ∧ s.b.d.takesOrder tag = true ∧ s.b.d.actionRefused 3 = none ∧ s.b.d.seq.order ≠ .safeOff ∧
       yields (.shipOrder tag) s (fun d => d.casc.lastTag = tag % 256 ∧ (d.path.ship = .offOrder ∨ d.path.ship =
       .committing)) = true) := by
  refine ⟨?_, ?_, ?_, ?_, ?_, ?_, ?_, ?_⟩ <;> decide +kernel

theorem witness_Supervision :
    (let s := dev fun d => (slave d).casc' fun c => { c with announced := true }
     let ns : Nat := 1999
     s.b.d.power.coreOn = true ∧ (ns < 2000 ∨ 8000 < ns ∨ s.b.d.casc.announced = false) ∧ yields (.csyncStartPulse ns) s
       (fun d => alike d s.b.d) = true) ∧
    (let s := dev fun d => (((master d).setLive 0x2301 1 10).seq' (fun x =>
       { x with awaitPulse := true, state := .onOrder, starts := 3 })).casc' fun c => { c with announced := true }
     let ns : Nat := 2000
     s.b.d.power.coreOn = true ∧ 2000 ≤ ns ∧ ns ≤ 8000 ∧ s.b.d.casc.announced = true ∧ s.b.d.members ≠ 0 ∧ s.b.d.casc.role =
       1 ∧ s.b.d.seq.awaitPulse = true ∧ s.b.d.missingSlaves = [] ∧ s.b.d.power.nrstLow = false ∧ s.b.d.tapHolds = false ∧
       yields (.csyncStartPulse ns) s (fun d => d.casc.announced = false ∧ d.casc.starts = satInc 32 s.b.d.casc.starts ∧
       d.grove = s.b.d.grove ∧ d.integ = s.b.d.integ ∧ d.seq = { s.b.d.seq.sync s.b.hw.counter with
         state := .onOrder, members := s.b.d.members, todo := s.b.d.members, timerUs := 0, awaitPulse := false,
         tapWait := false, starts := s.b.d.seq.starts + 1, cascade := true }) = true) ∧
    (let s := dev fun d => ((slave d).setLive 0x2301 1 10).casc' fun c => { c with announced := true, startArmed := true }
     let ns : Nat := 8000
     s.b.d.power.coreOn = true ∧ 2000 ≤ ns ∧ ns ≤ 8000 ∧ s.b.d.casc.announced = true ∧ s.b.d.members ≠ 0 ∧ s.b.d.casc.role =
       2 ∧ s.b.d.casc.startArmed = true ∧ s.b.d.power.state = .run ∧ s.b.d.seq.state = .idle ∧ s.b.d.power.nrstLow = false ∧
       s.b.d.tapHolds = false ∧ yields (.csyncStartPulse ns) s (fun d => d.casc.announced = false ∧ d.casc.startArmed =
       false ∧ d.casc.starts = satInc 32 s.b.d.casc.starts ∧ d.grove = s.b.d.grove ∧ d.integ = s.b.d.integ ∧ d.seq =
       { s.b.d.seq.sync s.b.hw.counter with
         state := .onOrder, members := s.b.d.members, todo := s.b.d.members, timerUs := 0, awaitPulse := false,
         tapWait := false, starts := 1, startDue := false, attempt := 0, failed := 0, held := none, cascade := true }) =
       true) ∧
    (let s := dev fun d => (slave d).casc' fun c => { c with csyncLow := true }
     let ns : Nat := 20000
     s.b.d.power.coreOn = true ∧ s.b.d.casc.role ≠ 0 ∧ 20000 ≤ ns ∧ s.b.d.casc.announced = false ∧ s.b.d.casc.csyncLow =
       true ∧ yields (.faultBroadcast ns) s (fun d => d.casc = { s.b.d.casc with csyncLow := false }) = true) ∧
    (let s := dev slave
     let ns : Nat := 20000
     s.b.d.power.coreOn = true ∧ s.b.d.casc.role ≠ 0 ∧ 20000 ≤ ns ∧ s.b.d.casc.announced = false ∧ s.b.d.casc.csyncLow =
       false ∧ yields (.faultBroadcast ns) s (fun d => d.sticky 114 = true ∧ d.casc =
       { s.b.d.casc with broadcasts := satInc 16 s.b.d.casc.broadcasts }) = true) ∧
    (let s := dev slave
     let us : Nat := 10000
     s.b.d.power.coreOn = true ∧ s.b.d.casc.role ≠ 0 ∧ 10000 ≤ us ∧ yields (.csyncStuck us) s (fun d => d.sticky 112 = true
       ∧ d.casc = { s.b.d.casc with linkReason := 5 }) = true) ∧
    (let s := dev master
     let n : Nat := 3
     s.b.d.power.coreOn = true ∧ s.b.d.linkRuns = true ∧ 3 ≤ n ∧ Quiet s.b.d ∧ yields (.readbackConflict n) s (fun d =>
       d.casc.link = .conflict ∧ d.sticky 112 = true) = true) ∧
    (let s := dev slave
     let n : Nat := 3
     s.b.d.power.coreOn = true ∧ s.b.d.casc.role = 2 ∧ s.b.d.casc.link = .joined ∧ 3 ≤ n ∧ Quiet s.b.d ∧ s.b.d.casc.safeReq
       = false ∧ yields (.linkLost n) s (fun d => d.casc.link = .lost ∧ d.sticky 113 = true) = true) ∧
    (let s := dev master
     let u : Unit8 := 2
     let n : Nat := 3
     s.b.d.power.coreOn = true ∧ s.b.d.isMaster = true ∧ s.b.d.casc.slaves[u].present = true ∧ 3 ≤ n ∧ yields (.slaveLost u
       n) s (fun d => (d.casc.slaves[u].present = false ∧ d.casc.slaves[u].lost = true ∧ d.sticky 113 = true ∧ ∀ v : Unit8,
       v ≠ u → d.casc.slaves[v] = s.b.d.casc.slaves[v])) = true) ∧
    (let s := dev master
     let n : Nat := 17
     s.b.d.power.coreOn = true ∧ s.b.d.casc.role ≠ 0 ∧ 16 < n ∧ yields (.discardThreshold n) s (fun d => d.sticky 112 = true
       ∧ d.casc = { s.b.d.casc with linkReason := 1 }) = true) ∧
    (let s := dev fun d => { linked 1 d with path.vsysMv := 17000 }
     let ms : Nat := s.b.d.nat 0x2380 2
     s.b.d.power.coreOn = true ∧ s.b.d.casc.role = 1 ∧ s.b.d.seq.startDue = true ∧ s.b.d.nat 0x2380 2 ≤ ms ∧
       s.b.d.otp.boardOk = true ∧ 17000 ≤ s.b.d.path.vsysMv ∧ s.b.d.inRun = true ∧ s.b.d.seq.state = .idle ∧
       s.b.d.seq.tapWait = false ∧ s.b.d.tapHolds = false ∧ s.b.d.power.nrstLow = false ∧ yields (.joinTimeout ms) s (fun d
       => d.casc.joinDone = true ∧ d.casc.order = 1 ∧ d.casc.orderTag = (s.b.d.casc.orderTag + 1) % 256 ∧ d.seq.awaitPulse =
       true ∧ d.seq.startDue = false ∧ d.seq.state = .onOrder) = true) ∧
    (let s := dev fun d => ((slave d).setLive 0x2380 3 1).casc' fun c => { c with link := .lost }
     let ms : Nat := s.b.d.nat 0x2380 4
     s.b.d.power.coreOn = true ∧ s.b.d.casc.role = 2 ∧ s.b.d.casc.link = .lost ∧ s.b.d.nat 0x2380 4 ≤ ms ∧ s.b.d.nat 0x2380
       3 ≠ 0 ∧ s.b.d.power.state = .run ∧ s.b.d.seq.state = .idle ∧ s.b.d.path.ship ≠ .pastReturn ∧ yields
       (.linkLossHoldExpiry ms) s (fun d => (d.seq.order = .safeOff ∨ d.power.state = .safe)) = true) := by
  refine ⟨?_, ?_, ?_, ?_, ?_, ?_, ?_, ?_, ?_, ?_, ?_, ?_⟩ <;> decide +kernel

theorem witness_NewBoardDrivesNoLoad :
     let s := dev fun d => { d with power.coreOn := false }
     let p : PowerOn := pOn
     s.b.d.power.coreOn = false ∧ s.b.hw.powered = true ∧ s.b.hw.thermalLatch = false ∧ s.b.hw.shipHold = false ∧ 4650 <
       p.vpreMv ∧ s.b.d.otp.words = [] ∧ s.b.d.nv.banks[0].blank = true ∧ s.b.d.nv.banks[1].blank = true ∧ yieldsBody
       (.devicePowerOnReset p) s (fun b => b.d.otp.boardEmpty = true ∧ (∀ x : Branch, b.d.onDelay x = 0xFFFF) ∧ b.d.members
       = 0 ∧ (∀ x : Phase, b.d.grove.ph[x].role = .unwired) ∧ b.d.integrator = true ∧ ∀ x : Branch, b.d.branchOn x = false)
       = true := by
  decide +kernel

theorem test_ship_abandoned_in_the_off_order :
    (let s := dev fun d => { d with path.ship := .offOrder }.seq' fun q => { q with state := .offOrder, after := .ship }
     yields (.dcinValid 48000 10000) s (fun d => d.path.ship = .abandoned ∧ d.seq.after = .full) = true) := by
  decide +kernel

/-! ## Ill-formed commands -/

def c0 : Who := ⟨.a, 0⟩
def okCheck : RxCheck := ⟨true, true, 1, 8, 0⟩
def okBeacon : Beacon := ⟨false, 2, false, 0, 0, 0, 0, 0, 0, 0, 0, 0, []⟩
def okPowerOn : PowerOn :=
  ⟨5000, 0, 0, List.replicate 15 0, List.replicate 15 0, 0, 0, false, 0, List.replicate 8 0, List.replicate 8 0⟩
def okTarget : CTarget := ⟨1, 3, 0⟩
def manyEdges : Sample := ⟨0, 0, 0, none, List.replicate 21 0⟩

/-- Well-formed neighbours of the terms below. -/
theorem test_wellformed : Instr.wf (.chargerEnable who) = true ∧ Instr.wf (.devicePowerOnReset okPowerOn) = true ∧
    Instr.wf (.beaconReceived okCheck okBeacon) = true ∧ Instr.wf (.shipAction cmd1) = true ∧
    Instr.wf (.prepareSegment 5 0 1 (List.replicate 3 okTarget)) = true ∧
    Instr.wf (.statusFrameReceived 1 okCheck (.summary 3 5)) = true ∧ Instr.wf (.crossCheckRun goodCross) = true ∧
    Instr.wf (.objectWrite who 0x2118 1 4 3000) = true := by decide +kernel

/-- Node-IDs run from 1 to 127, and an NMT command's node from 0. -/
theorem test_illformed_node : Instr.wf (.chargerEnable c0) = false ∧ Instr.wf (.chargerDisable ⟨.b, 128⟩) = false ∧
    Instr.wf (.heartbeatReceived .a 0 5) = false ∧ Instr.wf (.heartbeatReceived .a 4 256) = false ∧
    Instr.wf (.nmtStart .a 128) = false ∧ Instr.wf (.nmtResetNode .b 128) = false ∧
    Instr.wf (.usdoSessionTimeout c0 1 0) = false := by decide +kernel

/-- Values within their 32, 48 or 64 bits. -/
theorem test_illformed_word : Instr.wf (.wdCService (2 ^ 32) 0) = false ∧ Instr.wf (.wdCService 0 (2 ^ 32)) = false ∧
    Instr.wf (.capture 0 true 1 (2 ^ 32)) = false ∧ Instr.wf (.dbgkey (2 ^ 32)) = false ∧
    Instr.wf (.checkIn who 0 (2 ^ 32)) = false ∧ Instr.wf (.timeObject .a (2 ^ 64)) = false ∧
    Instr.wf (.dbgacc (.vendorRead (2 ^ 32))) = false ∧ Instr.wf (.dbgacc (.vendorWrite 0 (2 ^ 32))) = false ∧
    Instr.wf (.beaconReceived okCheck { okBeacon with time := 2 ^ 48 }) = false ∧
    Instr.wf (.stagedImage who [2 ^ 64]) = false := by decide +kernel

/-- Tags, and the fields of cascade frames. -/
theorem test_illformed_cascade : Instr.wf (.pollVote 65536) = false ∧ Instr.wf (.abort 65536) = false ∧
    Instr.wf (.unknownTag 0 256) = false ∧ Instr.wf (.startOrder 256) = false ∧ Instr.wf (.shipOrder 256) = false ∧
    Instr.wf (.beaconReceived { okCheck with len := 256 } okBeacon) = false ∧
    Instr.wf (.beaconReceived okCheck { okBeacon with nslv := 8 }) = false ∧
    Instr.wf (.beaconReceived okCheck { okBeacon with msgLen := 17 }) = false ∧
    Instr.wf (.beaconReceived okCheck { okBeacon with data := [256] }) = false ∧
    Instr.wf (.statusFrameReceived 0 okCheck (.summary 3 5)) = false ∧
    Instr.wf (.statusFrameReceived 1 okCheck (.summary 4 5)) = false ∧
    Instr.wf (.statusFrameReceived 1 okCheck (.summary 3 (2 ^ 30))) = false ∧
    Instr.wf (.statusFrameReceived 1 okCheck (.full 256 0 0 0 0 0 0)) = false ∧
    Instr.wf (.replyReceived 1 okCheck ⟨256, 0, 0, 0⟩ (Vector.replicate 30 ⟨0, true, true, 0⟩)) = false ∧
    Instr.wf (.replyReceived 1 okCheck ⟨0, 0, 0, 2 ^ 32⟩ (Vector.replicate 30 ⟨0, true, true, 0⟩)) = false ∧
    Instr.wf (.prepareSegment 5 0 1 [okTarget]) = false ∧ Instr.wf (.prepareSegment 5 16 1 (List.replicate 3 okTarget)) = false ∧
    Instr.wf (.prepareSegment 5 0 0 (List.replicate 3 okTarget)) = false ∧
    Instr.wf (.prepareSegment 5 0 1 (List.replicate 3 ⟨8, 3, 0⟩)) = false := by decide +kernel

/-- The fields of a command of Table 19-1 and of its targets. -/
theorem test_illformed_command : Instr.wf (.shipAction { cmd1 with who := c0 }) = false ∧
    Instr.wf (.standbyAction { cmd1 with seq := 2 ^ 32 }) = false ∧ Instr.wf (.resumeAction { cmd1 with count := 256 }) = false ∧
    Instr.wf (.targetsAction { cmd1 with rsv := 65536 }) = false ∧
    Instr.wf (.targetsAction { cmd1 with targets := [⟨256, 3, 0, 5, 0, 0⟩] }) = false ∧
    Instr.wf (.targetsAction { cmd1 with targets := [⟨0, 3, 65536, 5, 0, 0⟩] }) = false ∧
    Instr.wf (.targetsAction { cmd1 with targets := [⟨0, 3, 0, 5, 0, 2 ^ 32⟩] }) = false := by decide +kernel

/-- Object addresses, and values within the bytes of their write. -/
theorem test_illformed_write : Instr.wf (.objectWrite who 65536 0 4 0) = false ∧ Instr.wf (.objectWrite who 0 256 4 0) = false ∧
    Instr.wf (.objectWrite who 0x2118 1 0 0) = false ∧ Instr.wf (.objectWrite who 0x2118 1 1 256) = false ∧
    Instr.wf (.objectWrite who 0x2118 1 1 (-129)) = false ∧ Instr.wf (.inputCurrentLimitWrite who (2 ^ 64)) = false ∧
    Instr.wf (.ocvTableWrite who 2 65536) = false ∧ Instr.wf (.chargeSettingWrite c0 true 5) = false ∧
    Instr.wf (.program who (2 ^ 64) 25) = false := by decide +kernel

/-- CAN frames and USDO requests. -/
theorem test_illformed_frame : Instr.wf (.canFrameReceived ⟨.a, false, 2 ^ 11, []⟩) = false ∧
    Instr.wf (.canFrameReceived ⟨.a, true, 2 ^ 29, []⟩) = false ∧
    Instr.wf (.canFrameReceived ⟨.a, true, 5, List.replicate 65 0⟩) = false ∧
    Instr.wf (.canFrameReceived ⟨.a, true, 5, [256]⟩) = false ∧ Instr.wf (.rpdo .a 0 [256]) = false ∧
    Instr.wf (.usdoRequest ⟨who, 256, .remote⟩) = false ∧ Instr.wf (.usdoRequest ⟨who, 1, .read 65536 0⟩) = false ∧
    Instr.wf (.usdoRequest ⟨who, 1, .write 0x2118 1 1 256⟩) = false ∧
    Instr.wf (.usdoRequest ⟨who, 1, .openWrite 0 256 4⟩) = false ∧
    Instr.wf (.usdoRequest ⟨who, 1, .segment false 65 0 true⟩) = false ∧ Instr.wf (.usdoSessionTimeout who 256 0) = false := by
  decide +kernel

/-- Measurements: as many as the block has channels, phases, branches or samples, each within its width. -/
theorem test_illformed_measurement : Instr.wf (.devicePowerOnReset { okPowerOn with node := [0] }) = false ∧
    Instr.wf (.devicePowerOnReset { okPowerOn with addr := List.replicate 15 8 }) = false ∧
    Instr.wf (.devicePowerOnReset { okPowerOn with checkA := List.replicate 8 4096 }) = false ∧
    Instr.wf (.devicePowerOnReset { okPowerOn with checkB := [] }) = false ∧
    Instr.wf (.railStageFault 0 100 [(0, 65536)]) = false ∧
    Instr.wf (.balanceUpdate 0 1 [] (List.replicate 21 ⟨0, []⟩)) = false ∧ Instr.wf (.balanceUpdate 0 1 [manyEdges] []) = false ∧
    Instr.wf (.softStartComplete 0 [manyEdges]) = false ∧ Instr.wf (.brakingEnd 0 [manyEdges]) = false ∧
    Instr.wf (.budgetMeasurement 0 0 (List.replicate 15 ⟨.ib 0, 0, 0, 0⟩)) = false ∧
    Instr.wf (.judgementConversion (List.replicate 31 (0, 0))) = false ∧ Instr.wf (.dieSample [25]) = false ∧
    Instr.wf (.remoteSample [2048]) = false ∧ Instr.wf (.remoteSample (List.replicate 8 4096)) = false ∧
    Instr.wf (.stageSample [900]) = false ∧ Instr.wf (.regularConversionEnd .cA 32768) = false ∧
    Instr.wf (.regularConversionEnd .cA (-32769)) = false ∧ Instr.wf (.crossCheckRun { goodCross with nodeA := 4096 }) = false ∧
    Instr.wf (.hostAreaWrite who [] .first) = false ∧ Instr.wf (.hostAreaWrite who (List.replicate 65 1) .first) = false ∧
    Instr.wf (.extest (2 ^ 153)) = false ∧ Instr.wf (.samplePreload (2 ^ 153)) = false := by decide +kernel

/-! ## Words, the queue and the whole machine -/

/-- No row of the table has bits, so no word spells a command, and the queue stays as it was. -/
theorem test_no_word : decodeTableWord 32 0x12345678 = none ∧ decodeTableWord 8 0 = none ∧
    (State.reset.withFetchWord 32 0x12345678) = State.reset := by decide +kernel

/-- `CommandsKeepTheQueue`, with a command waiting. -/
theorem witness_CommandsKeepTheQueue :
    (match exec (.chargerEnable who) { State.reset with pending := [.chargerEnable who] } with
      | .next t => decide (t.pending = [.chargerEnable who])
      | _ => false) = true := by decide +kernel

/-- `IdleStepTicks`, with the heartwood domain powered and unpowered. -/
theorem witness_IdleStepTicks :
    (State.reset.pending = [] ∧ State.reset.b.hw.powered = true ∧
      (match step State.reset with | .next t => decide (t.b.hw.counter = 1) | _ => false) = true) ∧
    (let s := hwDev (fun h => { h with powered := false, counter := 7 }) id
     s.pending = [] ∧ s.b.hw.powered = false ∧
      (match step s with | .next t => decide (t.b.hw.counter = 7) | _ => false) = true) := by decide +kernel

/-- `StepTakesFront`, with a command that moves the device. -/
theorem witness_StepTakesFront :
    (match step { State.reset with pending := [.dcinValid 24000 10000, .nhrstReadBack false] } with
      | .next t => decide (t.b.d.path.dcinMv = 24000) && decide (t.pending.length = 1)
      | _ => false) = true := by decide +kernel

/-- `OnlyVendorWritesStop`: both ends. -/
theorem witness_OnlyVendorWritesStop :
    (let s := dev id
     s.b.d.power.coreOn = true ∧ s.b.d.debugOpen = true ∧
      (match exec (.dbgacc (.vendorWrite 1 2)) s with | .refused r => decide (r = .vendorDebugPort) | _ => false) = true) ∧
    yields (.dbgacc (.vendorWrite 1 2)) (dev fun d => { d with tap.lockBlown := true }) (fun _ => true) = true := by
  refine ⟨?_, ?_⟩ <;> decide +kernel

/-- `UnpoweredCoreIsInert`. -/
theorem witness_UnpoweredCoreIsInert :
    (let s := dev fun d => { d with power.coreOn := false }
     s.b.d.power.coreOn = false ∧ reachesUnpowered (.chargerEnable who) = false ∧
      yields (.chargerEnable who) s (fun d => d.still = s.b.d.still) = true) := by decide +kernel

/-- `TimeCounterHolds`, at the largest value: the tick holds it, and a heartwood power-on reset moves it. -/
theorem witness_TimeCounterHolds :
    (let s : State := { State.reset with b.hw.counter := maxTime }
     s.b.hw.counter ≤ maxTime ∧
      (match step s with | .next t => decide (t.b.hw.counter = maxTime) | _ => false) = true ∧
      (match step { s with pending := [.heartwoodPowerOnReset 7000 7999] } with
        | .next t => decide (t.b.hw.counter = 0)
        | _ => false) = true) := by decide +kernel

/-- `LatchHolds`: the latch and the fallback survive an input event, bar a power-on reset, and fall with the heartwood's own. -/
theorem witness_LatchHolds :
    (let s : State := { State.reset with b.hw.thermalLatch := true, b.hw.fallback := true }
     yieldsBody (.dcinValid 24000 10000) s (fun b => b.hw.thermalLatch = true ∧ b.hw.fallback = true) = true ∧
      yieldsBody (.heartwoodPowerOnReset 7000 7999) s (fun b => b.hw.thermalLatch = false) = true) ∧
    (let s : State := { State.reset with b.hw.thermalLatch := true, b.d.power.coreOn := false, b.d.power.state := .ship }
     s.b.hw.thermalLatch = true ∧ s.b.d.power.coreOn = false ∧ s.b.d.power.state = .ship ∧
      yieldsBody (.devicePowerOnReset okPowerOn) s (fun b => b.d.power.coreOn = false) = true ∧
      yieldsBody (.nwakeLow 20000) s (fun b => b.d.power.state = .ship) = true) := by
  refine ⟨?_, ?_⟩ <;> decide +kernel

/-- `HostAreaFrame`: a write of page 2 stores there, and leaves the bytes beside the page. -/
theorem witness_HostAreaFrame :
    (let s : State := { dev (fun d => (((held (cl d)).setLive 0x2610 1 128).setLive 0x2610 3 2)) with
                          b.host := memSet (memSet [] 127 7) 192 8 }
     s.b.d.nat 0x2610 1 / 64 = 2 ∧
      yieldsBody (.hostAreaWrite who ones64 .first) s (fun b => memGet b.host 127 = 7 ∧ memGet b.host 192 = 8 ∧
        memGet b.host 128 = 1 ∧ memGet b.host 129 = 1 ∧ memGet b.host 130 = 0) = true ∧
      yieldsBody (.chargerEnable who) s (fun b => b.host = s.b.host) = true) := by decide +kernel

/-- `HostBytesReadBack`, with a wrap at the end of the page. -/
theorem witness_HostBytesReadBack :
    Memory.wf [] = true ∧ memGet (hostWrite [] 127 [5, 6]) 127 = 5 ∧ memGet (hostWrite [] 127 [5, 6]) 64 = 6 ∧
      memGet (hostWrite [] 127 [5, 6]) 128 = 0 := by decide +kernel

/-- `LayersDecide`: one device for each layer. -/
theorem witness_LayersDecide :
    (let d := State.reset.b.d.setLive 0x2118 1 900
     ObjMap.get d.dict.live (key 0x2118 1) = some 900 ∧ d.int 0x2118 1 = 900) ∧
    (let d : Dev := { State.reset.b.d with dict.image := [(key 0x2118 1, 800)], dict.otp := [(key 0x2118 1, 700)] }
     ObjMap.get d.dict.live (key 0x2118 1) = none ∧ d.int 0x2118 1 = 800) ∧
    (let d : Dev := { State.reset.b.d with dict.otp := [(key 0x2118 1, 700)] }
     ObjMap.get d.dict.image (key 0x2118 1) = none ∧ d.int 0x2118 1 = 700) ∧
    (let d := State.reset.b.d
     ObjMap.get d.dict.otp (key 0x2118 1) = none ∧ d.int 0x2118 1 = romDefault d 0x2118 1) := by
  refine ⟨?_, ?_, ?_, ?_⟩ <;> decide +kernel

/-- `EveryStepKeepsTheInvariant`: a state that meets the invariant, and a step from it. -/
theorem witness_EveryStepKeepsTheInvariant : Memory.wf State.reset.b.host = true ∧ State.reset.b.hw.counter ≤ maxTime ∧
    (match step { State.reset with pending := [.heartwoodPowerOnReset 7000 7999] } with
      | .next t => !t.b.hw.powered
      | _ => false) = true := by decide +kernel

end Sys2Proof.Tests
end

section
/-!
PROOFS. How an operation on the whole body may change the heartwood domain and the host area, and the resets, clocks, inputs and
watchdogs that record something in the heartwood domain.
-/
namespace Sys2Proof.Machine

/-! ## How the heartwood domain evolves between two of its power-on resets -/

/-- What every command but a heartwood power-on reset makes of the heartwood domain: the time counter stands, a set thermal latch
and a fallback stay, and the registers stay as their tables give them (R10, R35, R45). -/
structure Heartwood.Evolves (h h' : Heartwood) : Prop where
  counter : h'.counter = h.counter
  thermalLatch : h.thermalLatch = true → h'.thermalLatch = true
  fallback : h.fallback = true → h'.fallback = true
  inv : h.Inv → h'.Inv

theorem Heartwood.Evolves.refl (h : Heartwood) : h.Evolves h := ⟨rfl, id, id, id⟩

theorem Heartwood.Evolves.trans {h h' h'' : Heartwood} (x : h.Evolves h') (y : h'.Evolves h'') : h.Evolves h'' :=
  ⟨y.counter.trans x.counter, y.thermalLatch ∘ x.thermalLatch, y.fallback ∘ x.fallback, y.inv ∘ x.inv⟩

theorem satInc_16_le (n : Nat) : satInc 16 n ≤ 0xFFFF := Nat.min_le_right _ _

/-- A reset is recorded with a cause of Table 2-3. -/
theorem Heartwood.caused_evolves (h : Heartwood) (cause : Nat) (hc : h.Inv → 1 ≤ cause ∧ cause ≤ 9) :
    h.Evolves (h.caused cause) := by
  refine ⟨rfl, id, id, fun hi => ?_⟩
  obtain ⟨hmax, -, hwdc, hon, hres, hfail, -, -, hfall⟩ := id hi
  exact ⟨hmax, Nat.le_refl _, hwdc, hon, hres, hfail, (hc hi).1, (hc hi).2, hfall⟩

theorem Heartwood.powerOnCounted_evolves (h : Heartwood) : h.Evolves { h with powerOnCount := satInc 16 h.powerOnCount } := by
  refine ⟨rfl, id, id, fun hi => ?_⟩
  obtain ⟨hmax, hreset, hwdc, -, hrest⟩ := hi
  exact ⟨hmax, hreset, hwdc, satInc_16_le _, hrest⟩

theorem Heartwood.wdcCounted_evolves (h : Heartwood) :
    h.Evolves { h with wdcResets := satInc 16 h.wdcResets, wdcTime := h.counter } := by
  refine ⟨rfl, id, id, fun hi => ?_⟩
  obtain ⟨hmax, hreset, -, hon, -, hrest⟩ := hi
  exact ⟨hmax, hreset, Nat.le_refl _, hon, satInc_16_le _, hrest⟩

theorem Heartwood.wdhCounted_evolves (h : Heartwood) : h.Evolves { h with wdhFails := satInc 16 h.wdhFails } := by
  refine ⟨rfl, id, id, fun hi => ?_⟩
  obtain ⟨hmax, hreset, hwdc, hon, hres, -, hrest⟩ := hi
  exact ⟨hmax, hreset, hwdc, hon, hres, satInc_16_le _, hrest⟩

/-- The heartwood power-on reset leaves registers as their tables give them, whatever they were. -/
theorem Heartwood.resets_inv (h : Heartwood) (powered : Bool) : (h.resets powered).Inv := by
  unfold Heartwood.resets
  cases h.thermalLatch <;> simp [Heartwood.Inv]

/-! ## The body -/

/-- A command's effect that leaves the host area as it was. -/
structure Body.Evolves (b b' : Body) : Prop where
  hw : b.hw.Evolves b'.hw
  host : b'.host = b.host

/-- A command's effect that may write the host area, and keeps its canonical form. -/
structure Body.Keeps (b b' : Body) : Prop where
  hw : b.hw.Evolves b'.hw
  host : Memory.wf b.host = true → Memory.wf b'.host = true

namespace Body
variable {b b' b'' : Body}

theorem Evolves.of_eq (hw : b'.hw = b.hw) (host : b'.host = b.host) : b.Evolves b' := ⟨hw ▸ .refl _, host⟩
theorem Evolves.refl (b : Body) : b.Evolves b := .of_eq rfl rfl
theorem Evolves.trans (x : b.Evolves b') (y : b'.Evolves b'') : b.Evolves b'' := ⟨x.hw.trans y.hw, y.host.trans x.host⟩

/-- An effect on the device alone. -/
theorem Evolves.dev (b : Body) (d : Dev) : b.Evolves { b with d := d } := .of_eq rfl rfl
theorem onDev_evolves (b : Body) (f : Nat → Dev → Dev) : b.Evolves (b.onDev f) := .dev b _
theorem Evolves.thenDev (x : b.Evolves b') (d : Dev) : b.Evolves { b' with d := d } := x.trans (.dev b' d)
theorem Evolves.afterDev {d : Dev} (x : Evolves { b with d := d } b') : b.Evolves b' := (Evolves.dev b d).trans x

theorem evolves_foldl {α : Type} (f : Body → α → Body) (h : ∀ (b : Body) a, b.Evolves (f b a)) (l : List α) (b : Body) :
    b.Evolves (l.foldl f b) := by
  induction l generalizing b with
  | nil => exact .refl b
  | cons a l ih => exact (h b a).trans (ih _)

/-- A fold that carries a result beside the body. -/
theorem evolves_foldl_snd {α β : Type} (f : β × Body → α → β × Body) (h : ∀ (x : β × Body) a, x.2.Evolves (f x a).2) (l : List α)
    (x : β × Body) : x.2.Evolves (l.foldl f x).2 := by
  induction l generalizing x with
  | nil => exact .refl x.2
  | cons a l ih => exact (h x a).trans (ih _)

theorem Evolves.keeps (x : b.Evolves b') : b.Keeps b' := ⟨x.hw, fun h => x.host ▸ h⟩
theorem Keeps.refl (b : Body) : b.Keeps b := (Evolves.refl b).keeps
theorem Keeps.trans (x : b.Keeps b') (y : b'.Keeps b'') : b.Keeps b'' := ⟨x.hw.trans y.hw, y.host ∘ x.host⟩
theorem Keeps.thenDev (x : b.Keeps b') (d : Dev) : b.Keeps { b' with d := d } := x.trans (Evolves.dev b' d).keeps
theorem Keeps.afterDev {d : Dev} (x : Keeps { b with d := d } b') : b.Keeps b' := (Evolves.dev b d).keeps.trans x
theorem Keeps.inv (x : b.Keeps b') (h : b.Inv) : b'.Inv := ⟨x.host h.1, x.hw.inv h.2⟩

end Body

/-! ## Power path, thermal latch, resets and clocks -/

/-- What no field of `Heartwood.Inv` reads: the hold-off in SHIP and what a wake and a ship entry note. -/
theorem Heartwood.shipNoted_evolves (h : Heartwood) (hold : Bool) (before wake : Nat) :
    h.Evolves { h with shipHold := hold, stateBeforeShip := before, wakeTick := wake } := ⟨rfl, id, id, id⟩

theorem Body.endShip_evolves (b : Body) (source : Nat) : b.Evolves (b.endShip source) := by
  unfold Body.endShip
  split_ifs
  · exact .refl b
  · exact ⟨b.hw.shipNoted_evolves false _ _, rfl⟩
  · exact .dev b _
  · exact .refl b

theorem dcinValid_evolves (mv us : Nat) (b : Body) : b.Evolves (dcinValid mv us b) := by
  unfold dcinValid
  split_ifs
  · exact .refl b
  · exact b.onDev_evolves _
  · exact .afterDev (Body.endShip_evolves _ _)

theorem dcinInvalid_evolves (mv us : Nat) (b : Body) : b.Evolves (dcinInvalid mv us b) := by
  unfold dcinInvalid
  split_ifs <;> exact .of_eq rfl rfl

theorem batsnsValid_evolves (mv us : Nat) (b : Body) : b.Evolves (batsnsValid mv us b) := by
  unfold batsnsValid
  split_ifs <;> exact .of_eq rfl rfl

theorem batsnsInvalid_evolves (mv us : Nat) (b : Body) : b.Evolves (batsnsInvalid mv us b) := by
  unfold batsnsInvalid
  split_ifs <;> exact .of_eq rfl rfl

theorem shipEntryComplete_evolves (b : Body) : b.Evolves (shipEntryComplete b) := by
  have hold : ∀ d, b.Evolves { b with hw := { b.hw with shipHold := true, stateBeforeShip := b.d.power.code }, d := d } :=
    fun _ => ⟨b.hw.shipNoted_evolves true _ _, rfl⟩
  unfold shipEntryComplete
  split
  · exact .refl b
  · dsimp only
    split
    · exact (hold _).trans (Body.endShip_evolves _ _)
    · exact hold _

theorem nwakeLow_evolves (us : Nat) (b : Body) : b.Evolves (nwakeLow us b) := by
  unfold nwakeLow
  split_ifs
  · exact b.onDev_evolves _
  · exact .refl b
  · exact b.endShip_evolves 1
  · exact .refl b

theorem latchIf_evolves (g : Fin 3) (b : Body) : b.Evolves (latchIf g b) := by
  unfold latchIf
  split
  · exact .refl b
  · exact ⟨⟨rfl, fun _ => rfl, id, id⟩, rfl⟩

theorem devicePowerOn_evolves (p : PowerOn) (b : Body) : b.Evolves (devicePowerOn p b) := by
  unfold devicePowerOn
  split
  · exact .refl b
  · refine ⟨(b.hw.caused_evolves _ fun hi => ?_).trans (Heartwood.powerOnCounted_evolves _), rfl⟩
    obtain ⟨-, -, -, -, -, -, hlo, hhi, -⟩ := hi
    split_ifs <;> omega

theorem Body.restart_evolves (b : Body) (cause : Nat) (hc : 1 ≤ cause ∧ cause ≤ 9) : b.Evolves (b.restart cause) :=
  ⟨b.hw.caused_evolves cause fun _ => hc, rfl⟩

theorem nrstLow_evolves (cycles : Nat) (b : Body) : b.Evolves (nrstLow cycles b) := by
  unfold nrstLow
  split
  · exact .refl b
  · exact ⟨b.hw.caused_evolves 6 fun _ => by decide, rfl⟩

theorem resetNode_evolves (b : Body) : b.Evolves (resetNode b) := ⟨b.hw.caused_evolves 7 fun _ => by decide, rfl⟩

theorem lockstepMismatch_evolves (b : Body) : b.Evolves (lockstepMismatch b) := by
  unfold lockstepMismatch
  split
  · exact .refl b
  · exact (b.restart_evolves 5 (by decide)).thenDev _

/-- The crystal that stops or never starts leaves a fallback and no crystal (R45). -/
theorem Heartwood.fallback_evolves (h : Heartwood) : h.Evolves { h with crystalRunning := false, fallback := true } := by
  refine ⟨rfl, id, fun _ => rfl, fun hi => ?_⟩
  obtain ⟨hmax, hreset, hwdc, hon, hres, hfail, hlo, hhi, -⟩ := hi
  exact ⟨hmax, hreset, hwdc, hon, hres, hfail, hlo, hhi, by simp⟩

theorem heartwoodCrystalStop_evolves (b : Body) : b.Evolves (heartwoodCrystalStop b) := by
  have fall : b.Evolves { b with hw := { b.hw with crystalRunning := false, fallback := true } } :=
    ⟨b.hw.fallback_evolves, rfl⟩
  unfold heartwoodCrystalStop
  split
  · exact .refl b
  · dsimp only
    split
    · exact fall.trans (Body.onDev_evolves _ _)
    · exact fall

theorem heartwoodCrystalStable_evolves (us : Nat) (b : Body) : b.Evolves (heartwoodCrystalStable us b) := by
  unfold heartwoodCrystalStable
  split
  · exact .refl b
  · rename_i hrun
    have hfall : b.hw.fallback = false := by
      cases h : b.hw.fallback <;> simp [h] at hrun ⊢
    refine ⟨⟨rfl, id, id, fun hi => ?_⟩, rfl⟩
    obtain ⟨hmax, hreset, hwdc, hon, hres, hfail, hlo, hhi, -⟩ := hi
    exact ⟨hmax, hreset, hwdc, hon, hres, hfail, hlo, hhi, by simp [hfall]⟩

theorem heartwoodCrystalTimeout_evolves (us : Nat) (b : Body) : b.Evolves (heartwoodCrystalTimeout us b) := by
  unfold heartwoodCrystalTimeout
  split
  · exact .refl b
  · rename_i hrun
    have hstop : b.hw.crystalRunning = false := by
      cases h : b.hw.crystalRunning <;> simp [h] at hrun ⊢
    have fall : b.Evolves { b with hw := { b.hw with fallback := true } } := by
      have h := b.hw.fallback_evolves
      rw [← hstop] at h
      exact ⟨h, rfl⟩
    dsimp only
    split
    · exact fall.trans (Body.onDev_evolves _ _)
    · exact fall

theorem nmtResetNode_evolves (p : Port) (node : Nat) (b : Body) : b.Evolves (nmtResetNode p node b) := by
  unfold nmtResetNode
  split
  · exact .afterDev (resetNode_evolves _)
  · exact .refl b

theorem nmtResetCommunication_evolves (p : Port) (node : Nat) (b : Body) : b.Evolves (nmtResetCommunication p node b) := by
  unfold nmtResetCommunication
  split
  · exact ⟨b.hw.caused_evolves 8 fun _ => by decide, rfl⟩
  · exact .refl b

/-! ## Watchdogs -/

theorem Body.wdcFails_evolves (b : Body) (reason : Nat) : b.Evolves (b.wdcFails reason) :=
  (b.restart_evolves 4 (by decide)).trans ⟨Heartwood.wdcCounted_evolves _, rfl⟩

theorem wdcService_evolves (key stamp : Nat) (b : Body) : b.Evolves (wdcService key stamp b) := by
  unfold wdcService
  split_ifs
  · exact .refl b
  · exact b.wdcFails_evolves 2
  · exact .refl b
  · exact .dev b _

theorem wdcExpiry_evolves (tick : Nat) (b : Body) : b.Evolves (wdcExpiry tick b) := by
  unfold wdcExpiry
  split
  · exact b.wdcFails_evolves 1
  · exact .refl b

theorem Body.wdhFails_evolves (b : Body) (reason task missing : Nat) : b.Evolves (b.wdhFails reason task missing) :=
  ⟨b.hw.wdhCounted_evolves, rfl⟩

theorem Body.checkIn_evolves (b : Body) (v : Int) (stamp : Nat) : b.Evolves (b.checkIn v stamp).1 := by
  unfold Body.checkIn
  dsimp only
  split
  · dsimp only
    split
    · exact b.wdhFails_evolves _ _ _
    · exact .dev b _
  · split_ifs
    · exact .dev b _
    · exact b.wdhFails_evolves _ _ _
    · exact b.wdhFails_evolves _ _ _
    · exact b.wdhFails_evolves _ _ _
    · exact b.wdhFails_evolves _ _ _
    · exact .dev b _
    · exact .dev b _

theorem wdhLate_evolves (grace : Bool) (tick : Nat) (b : Body) : b.Evolves (wdhLate grace tick b) := by
  unfold wdhLate
  split
  · exact .refl b
  · exact b.wdhFails_evolves _ _ _

end Sys2Proof.Machine
end

section
/-!
PROOFS. Reads, writes, commits, the journal, CAN and the cascade: none changes the heartwood domain but through a check-in of WD-H,
and only a commit writes the host area.
-/
namespace Sys2Proof.Machine

/-! ## Reads and writes of objects -/

/-- A read may take a result or draw a free value: it changes nothing but the device. -/
theorem Body.fetch_evolves {b b' : Body} {idx sub : Nat} {v : Int} (h : b.fetch idx sub = .ok (v, b')) : b.Evolves b' := by
  unfold Body.fetch at h
  split_ifs at h
  · cases h; exact .dev b _
  · split at h <;> cases h
    exact .refl b
  · split at h <;> cases h
    exact .refl b
  · dsimp only at h
    split_ifs at h
    cases h; exact .refl b
  · split at h <;> cases h
    exact .dev b _
  · cases h; exact .dev b _
  · cases h; exact .dev b _
  · cases h; exact .dev b _
  · cases h; exact .refl b

theorem Body.read_evolves {b b' : Body} {idx sub : Nat} {v : Int} (h : b.read idx sub = .ok (v, b')) : b.Evolves b' := by
  unfold Body.read at h
  split at h
  · cases h
  · split at h
    · cases h
    · split at h
      · cases h
      · exact Body.fetch_evolves h

theorem Body.readFor_evolves (b : Body) (w : Who) (idx sub : Nat) : b.Evolves (b.readFor w idx sub).1 := by
  unfold Body.readFor
  split
  · rename_i h
    exact (Body.read_evolves h).thenDev _
  · exact .refl b

theorem Body.effect_evolves (b : Body) (w : Who) (idx sub : Nat) (v : Int) (stamp : Option Nat) (dieOk wordsOk : Bool) :
    b.Evolves (b.effect w idx sub v stamp dieOk wordsOk).1 := by
  unfold Body.effect
  dsimp only
  split_ifs
  · exact .dev b _
  · exact .dev b _
  · exact .dev b _
  · split
    · exact b.checkIn_evolves v _
    · exact .afterDev (Body.checkIn_evolves _ v _)
  · exact .dev b _
  · exact .dev b _

theorem Body.writeWith_evolves (b : Body) (w : Who) (idx sub len : Nat) (v : Int) (stamp : Option Nat) (dieOk wordsOk : Bool) :
    b.Evolves (b.writeWith w idx sub len v stamp dieOk wordsOk).1 := by
  unfold Body.writeWith
  split
  · exact .dev b _
  · split
    · exact .refl b
    · exact b.effect_evolves w idx sub _ stamp dieOk wordsOk

theorem Body.write_evolves (b : Body) (w : Who) (idx sub len : Nat) (v : Int) : b.Evolves (b.write w idx sub len v).1 :=
  b.writeWith_evolves w idx sub len v _ _ _

theorem Body.writeAny_evolves (b : Body) (w : Who) (idx sub len : Nat) (v : Int) : b.Evolves (b.writeAny w idx sub len v).1 := by
  unfold Body.writeAny
  split
  · exact .dev b _
  · exact b.write_evolves w idx sub len v

/-- A request is not heard, is refused on the device alone, or is what its service makes of it, and then its answer. -/
theorem Body.request_cases (w : Who) (f : Body → Body × Option Nat) (b : Body) :
    (∃ d, b.request w f = { b with d := d }) ∨ ∃ d d', b.request w f = { (f { b with d := d }).1 with d := d' } := by
  unfold Body.request
  split
  · exact .inl ⟨b.d, rfl⟩
  · dsimp only
    split
    · exact .inl ⟨_, rfl⟩
    · split <;> exact .inr ⟨_, _, rfl⟩

theorem Body.request_evolves (w : Who) (f : Body → Body × Option Nat) (hf : ∀ b : Body, b.Evolves (f b).1) (b : Body) :
    b.Evolves (b.request w f) := by
  obtain ⟨d, h⟩ | ⟨d, d', h⟩ := b.request_cases w f <;> rw [h]
  · exact .dev b d
  · exact .afterDev ((hf _).thenDev d')

theorem Body.request_keeps (w : Who) (f : Body → Body × Option Nat) (hf : ∀ b : Body, b.Keeps (f b).1) (b : Body) :
    b.Keeps (b.request w f) := by
  obtain ⟨d, h⟩ | ⟨d, d', h⟩ := b.request_cases w f <;> rw [h]
  · exact (Evolves.dev b d).keeps
  · exact .afterDev ((hf _).thenDev d')

theorem Body.clientWrite_evolves (w : Who) (idx sub : Nat) (v : Int) (b : Body) : b.Evolves (b.clientWrite w idx sub v) :=
  b.request_evolves w _ fun b => b.write_evolves w idx sub _ v

theorem Body.hostAreaRead_evolves (w : Who) (corrected uncorrectable : Bool) (b : Body) :
    b.Evolves (b.hostAreaRead w corrected uncorrectable) := by
  refine b.request_evolves w _ fun b => ?_
  split
  · exact .refl b
  · exact (b.readFor_evolves w _ _).thenDev _

theorem Body.command_evolves (action : Nat) (c : JCmd) (b : Body) : b.Evolves (b.command action c) :=
  b.request_evolves c.who _ fun b => .dev b _

/-! ## Commits: the host area is written and stays canonical (R519) -/

theorem Body.spoilPage_keeps (b : Body) (a : Nat) : b.Keeps (b.spoilPage a) := by
  unfold Body.spoilPage
  refine ⟨.refl _, fun h => ?_⟩
  dsimp only
  exact hostWrite_wf _ _ _ h

theorem Body.hostNow_keeps (b : Body) (w : Who) (a : Nat) (data : List Byte) (v : Verify) : b.Keeps (b.hostNow w a data v) := by
  unfold Body.hostNow
  dsimp only
  split
  · exact ⟨.refl _, hostWrite_wf _ _ _⟩
  · exact .afterDev ((Body.spoilPage_keeps _ a).thenDev _)

theorem Body.finish_keeps (b : Body) (x : Waiting) (v : Verify) : b.Keeps (b.finish x v) := by
  cases x with
  | store w sub => exact (Evolves.dev b _).keeps
  | restore w sub => exact (Evolves.dev b _).keeps
  | host w a data => exact b.hostNow_keeps w a data v

theorem Body.finishWaiting_keeps (b : Body) (k : CommitKind) (us : Nat) (v : Verify) : b.Keeps (b.finishWaiting k us v) := by
  unfold Body.finishWaiting
  split
  · exact .refl b
  · split
    · exact .refl b
    · split
      · exact .refl b
      · exact .afterDev (Body.finish_keeps _ _ v)

theorem Body.commitComplete_keeps (k : CommitKind) (page : Fin 1024) (v : Verify) (b : Body) : b.Keeps (b.commitComplete k page v) := by
  cases k with
  | image => exact b.finishWaiting_keeps _ _ v
  | hostArea => exact b.finishWaiting_keeps _ _ v
  | record | journal | log | gauge => exact (Evolves.dev b _).keeps

theorem Body.writeCommitted_keeps (b : Body) (w : Who) (idx sub len : Nat) (x : Int) (v : Verify) :
    b.Keeps (b.writeCommitted w idx sub len x v).1 := by
  have hw : b.Keeps (b.write w idx sub len x).1 := (b.write_evolves w idx sub len x).keeps
  unfold Body.writeCommitted
  dsimp only
  split
  · exact hw.trans (.afterDev (Body.finish_keeps _ _ v))
  · exact hw

/-! ## Journal -/

theorem Body.applyTarget_evolves (starts : Vector StartMeas 30) (w : Who) (b : Body) (x : Target) :
    b.Evolves (b.applyTarget starts w x) := by
  unfold Body.applyTarget
  split
  · exact .refl b
  · dsimp only
    split
    · exact .dev b _
    · exact .dev b _
    · exact Body.evolves_foldl _ (fun b (y : Nat × Nat × Int) => b.effect_evolves w y.1 y.2.1 y.2.2 none _ _) _ b

theorem Body.applyEntry_evolves (b : Body) (starts : Vector StartMeas 30) (i : Nat) : b.Evolves (b.applyEntry starts i) := by
  unfold Body.applyEntry
  split
  · exact .refl b
  · exact .thenDev (.afterDev (Body.evolves_foldl _ (Body.applyTarget_evolves starts _) _ _)) _

theorem Body.commitPoint_evolves (starts : Vector StartMeas 30) (b : Body) : b.Evolves (b.commitPoint starts) := by
  unfold Body.commitPoint
  split
  · exact .refl b
  · split
    · exact .refl b
    · split
      · exact .refl b
      · exact .afterDev (Body.applyEntry_evolves _ starts _)

theorem Body.prepareEntry_evolves (starts : Vector StartMeas 30) (b : Body) : b.Evolves (b.prepareEntry starts) := by
  have hc : b.Evolves ({ b with d := b.d.payEnds }.commitPoint starts) := .afterDev (Body.commitPoint_evolves starts _)
  unfold Body.prepareEntry
  dsimp only
  split
  · exact hc
  · split
    · exact hc
    · split
      · exact hc
      · split
        · split
          · exact hc.thenDev _
          · exact hc.trans (.afterDev (Body.applyEntry_evolves _ starts _))
        · split
          · exact hc.thenDev _
          · exact hc.thenDev _

theorem Body.replayEntry_evolves (starts : Vector StartMeas 30) (powerLost : Bool) (b : Body) (i : Nat) :
    b.Evolves (b.replayEntry starts powerLost i) := by
  unfold Body.replayEntry
  split
  · exact .refl b
  · split
    · exact .refl b
    · split
      · exact .dev b _
      · split
        · exact .dev b _
        · split
          · dsimp only
            split
            · exact .afterDev (Body.applyEntry_evolves _ starts i)
            · exact b.applyEntry_evolves starts i
          · split
            · exact .refl b
            · split
              · exact .dev b _
              · exact .dev b _

theorem Body.journalReplay_evolves (starts : Vector StartMeas 30) (b : Body) : b.Evolves (b.journalReplay starts) := by
  unfold Body.journalReplay
  split
  · exact .refl b
  · exact .afterDev (Body.evolves_foldl _ (Body.replayEntry_evolves starts _) _ _)

/-! ## CAN -/

theorem Body.segment_evolves (b : Body) (w : Who) (id : Nat) (toggle : Bool) (len value : Nat) (last : Bool) :
    b.Evolves (b.segment w id toggle len value last) := by
  unfold Body.segment
  split
  · exact .dev b _
  · split
    · exact .dev b _
    · split
      · exact .dev b _
      · dsimp only
        split
        · split
          · exact .dev b _
          · split
            · exact .thenDev (.afterDev (Body.writeAny_evolves _ _ _ _ _ _)) _
            · exact .afterDev (Body.writeAny_evolves _ _ _ _ _ _)
        · split
          · exact .dev b _
          · exact .dev b _

theorem Body.usdo_evolves (u : Usdo) (b : Body) : b.Evolves (b.usdo u) := by
  unfold Body.usdo
  dsimp only
  split
  · exact .refl b
  · exact b.request_evolves _ _ fun b => .refl b
  · exact b.request_evolves _ _ fun b => b.readFor_evolves _ _ _
  · exact b.request_evolves _ _ fun b => b.writeAny_evolves _ _ _ _ _
  · split
    · exact .refl b
    · split
      · exact .dev b _
      · exact .dev b _
  · split
    · exact .refl b
    · exact .afterDev (Body.segment_evolves _ _ _ _ _ _ _)

theorem Body.beginRead_evolves (b : Body) (w : Who) (c : ChanNo) : b.Evolves (b.beginRead w c) := by
  unfold Body.beginRead
  dsimp only
  split
  · exact .dev b _
  · split
    · exact .dev b _
    · exact .dev b _

theorem Body.endRead_evolves (b : Body) (w : Who) (c : ChanNo) : b.Evolves (b.endRead w c) := by
  unfold Body.endRead
  split
  · exact .refl b
  · exact .dev b _

theorem Body.readBuffer_evolves (w : Who) (c : ChanNo) (completed : Bool) (b : Body) : b.Evolves (b.readBuffer w c completed) := by
  unfold Body.readBuffer
  split
  · exact .refl b
  · refine .afterDev (d := b.d.leaveIdle b.hw.counter) ?_
    dsimp only
    split
    · exact Body.beginRead_evolves _ w c
    · split
      · exact Body.endRead_evolves _ w c
      · exact (Body.beginRead_evolves _ w c).trans (Body.endRead_evolves _ w c)

/-- Mapped objects are read one after the other. -/
theorem Body.sample_evolves (b : Body) (l : List Nat) : b.Evolves (b.sample l).2 := by
  refine Body.evolves_foldl_snd _ (fun x e => ?_) l ([], b)
  dsimp only
  split
  · rename_i h
    exact Body.fetch_evolves h
  · exact .refl x.2

theorem Body.rpdoEntry_evolves (p : Port) (b : Body) (x : Nat × Nat) : b.Evolves (b.rpdoEntry p x) := by
  have hw := b.write_evolves ⟨p, 0⟩ (entryIndex x.1) (entrySubindex x.1) (x.1 % 256 / 8) (slotValue x.1 x.2)
  unfold Body.rpdoEntry
  dsimp only
  split
  · exact hw
  · exact hw
  · exact hw.thenDev _

theorem Body.rpdoCommand_evolves (b : Body) (p : Port) (n : Fin 16) (l : List (Nat × Nat)) : b.Evolves (b.rpdoCommand p n l) := by
  unfold Body.rpdoCommand
  split
  · exact .refl b
  · dsimp only
    split
    · exact .dev b _
    · exact .dev b _

theorem Body.rpdoApply_evolves (p : Port) (b : Body) (x : Nat × List Nat) : b.Evolves (b.rpdoApply p x) := by
  unfold Body.rpdoApply
  dsimp only
  split
  · exact b.rpdoCommand_evolves p _ _
  · exact Body.evolves_foldl _ (Body.rpdoEntry_evolves p) _ b

theorem Body.rpdo_evolves (p : Port) (n : Fin 16) (data : List Nat) (b : Body) : b.Evolves (b.rpdo p n data) := by
  unfold Body.rpdo
  split
  · exact .refl b
  · dsimp only
    split
    · exact .dev b _
    · split
      · exact .dev b _
      · exact .afterDev (Body.rpdoApply_evolves p _ _)

theorem Body.sendTpdo_evolves (n : Fin 16) (onChange : Bool) (b : Body) (p : Port) : b.Evolves (b.sendTpdo n onChange p) := by
  unfold Body.sendTpdo
  split
  · exact .refl b
  · dsimp only
    split
    · exact .refl b
    · exact (b.sample_evolves _).thenDev _

theorem Body.tpdo_evolves (p : Port) (n : Fin 16) (since : Nat) (b : Body) : b.Evolves (b.tpdo p n since) := by
  unfold Body.tpdo
  split
  · exact .refl b
  · exact b.sendTpdo_evolves n true p

theorem Body.tpdoEventTimer_evolves (n : Fin 16) (ms : Nat) (b : Body) : b.Evolves (b.tpdoEventTimer n ms) := by
  unfold Body.tpdoEventTimer
  dsimp only
  split
  · exact .refl b
  · exact (b.sendTpdo_evolves n false .a).trans (Body.sendTpdo_evolves n false _ .b)

theorem Body.syncTpdo_evolves (p : Port) (b : Body) (n : Fin 16) : b.Evolves (b.syncTpdo p n) := by
  unfold Body.syncTpdo
  dsimp only
  split_ifs
  · exact .refl b
  · exact b.sendTpdo_evolves n true p
  · exact b.sendTpdo_evolves n false p
  · exact .refl b

theorem Body.sync_evolves (p : Port) (b : Body) : b.Evolves (b.sync p) := by
  unfold Body.sync
  split
  · exact .refl b
  · exact (Evolves.afterDev (Body.evolves_foldl _ (Body.rpdoApply_evolves p) _ _)).trans
      (Body.evolves_foldl _ (Body.syncTpdo_evolves p) _ _)

theorem Body.sampler_evolves (c : ChanNo) (b : Body) : b.Evolves (b.sampler c) := by
  unfold Body.sampler
  split
  · exact .refl b
  · exact (b.sample_evolves _).thenDev _

/-! ## Cascade -/

theorem Body.castVote_evolves (b : Body) : b.Evolves b.castVote := by
  unfold Body.castVote
  dsimp only
  split
  · exact .dev b _
  · exact .dev b _

theorem Body.prepareSegment_evolves (b : Body) (tag index count : Nat) (l : List CTarget) :
    b.Evolves (b.prepareSegment tag index count l) := by
  have vote : ∀ (last : Prop) [Decidable last] (d : Dev),
      b.Evolves (if last then { b with d := d }.castVote else { b with d := d }) := by
    intro last _ d
    split
    · exact .afterDev (Body.castVote_evolves _)
    · exact .dev b d
  unfold Body.prepareSegment
  dsimp only
  split
  · exact .dev b _
  · split
    · exact (vote _ _).thenDev _
    · exact .dev b _

theorem Body.commitSlave_evolves (b : Body) (tag : Nat) (starts : Vector StartMeas 30) : b.Evolves (b.commitSlave tag starts) := by
  unfold Body.commitSlave
  split
  · exact .dev b _
  · refine .thenDev ?_ _
    split
    · exact b.applyEntry_evolves starts _
    · exact .refl b

theorem Body.message_evolves (b : Body) (m : CMsg) : b.Evolves (b.message m) := by
  cases m with
  | prepare tag index count l => exact b.prepareSegment_evolves tag index count l
  | commit tag starts => exact b.commitSlave_evolves tag starts
  | unknown tag =>
    simp only [Body.message]
    split
    · exact .refl b
    · exact .dev b _
  | pollVote | pollOutcome | abort | inquire | getFail | getInfo => exact .dev b _

theorem Body.lateMessage_evolves (b : Body) : b.Evolves b.lateMessage := by
  unfold Body.lateMessage
  split
  · exact .afterDev (Body.message_evolves _ _)
  · exact .refl b

theorem Body.deliver_evolves (m : CMsg) (b : Body) : b.Evolves (b.deliver m) := by
  unfold Body.deliver
  split_ifs
  · exact .refl b
  · exact .dev b _
  · exact (b.message_evolves m).trans (Body.lateMessage_evolves _)

theorem Body.beaconReceived_evolves (c : RxCheck) (m : Beacon) (b : Body) : b.Evolves (b.beaconReceived c m) := by
  unfold Body.beaconReceived
  split
  · exact .refl b
  · split
    · exact .dev b _
    · dsimp only
      split
      · exact .dev b _
      · split
        · exact .afterDev (Body.lateMessage_evolves _)
        · exact .dev b _

theorem Body.replied_evolves (b : Body) (u : Nat) (sent : Msg) (m : ReplyMsg) (starts : Vector StartMeas 30) :
    b.Evolves (b.replied u sent m starts) := by
  unfold Body.replied
  dsimp only
  split
  case h_2 => exact .afterDev (Body.commitPoint_evolves starts _)
  all_goals exact .of_eq rfl rfl

theorem Body.replyReceived_evolves (u : Unit8) (c : RxCheck) (m : ReplyMsg) (starts : Vector StartMeas 30) (b : Body) :
    b.Evolves (b.replyReceived u c m starts) := by
  unfold Body.replyReceived
  split
  · exact .refl b
  · split
    · exact .dev b _
    · split
      · exact .refl b
      · split
        · exact .refl b
        · exact b.replied_evolves _ _ m starts

theorem Body.cascadePrepareStart_evolves (b : Body) : b.Evolves b.cascadePrepareStart := by
  unfold Body.cascadePrepareStart
  split
  · exact .refl b
  · split
    · exact .refl b
    · split
      · exact .refl b
      · split
        · exact .dev b _
        · exact .dev b _

end Sys2Proof.Machine
end

section
/-!
PROOFS. Every command and every step: the time counter, and the invariant of the reachable states.
-/
namespace Sys2Proof.Machine

/-! ## Every command -/

section
variable {s t : State}

/-- An effect on the body, lifted to the state. -/
theorem keeps_of_on {f : Body → Body} (hf : ∀ b : Body, b.Keeps (f b))
    (h : (.next (s.on f) : Host.Outcome State Fault Refusal) = .next t) : s.b.Keeps t.b := by
  cases h
  exact hf s.b

/-- An effect on the body that needs the core domain. -/
theorem keeps_of_coreBody {f : Body → Body} (hf : ∀ b : Body, b.Keeps (f b))
    (h : (.next (s.coreBody f) : Host.Outcome State Fault Refusal) = .next t) : s.b.Keeps t.b := by
  refine keeps_of_on (fun b => ?_) h
  split
  · exact hf b
  · exact .refl b

theorem keeps_of_event {f : Body → Body} (hf : ∀ b : Body, b.Evolves (f b))
    (h : (.next (s.on f) : Host.Outcome State Fault Refusal) = .next t) : s.b.Keeps t.b :=
  keeps_of_on (fun b => (hf b).keeps) h

theorem keeps_of_coreEvent {f : Body → Body} (hf : ∀ b : Body, b.Evolves (f b))
    (h : (.next (s.coreBody f) : Host.Outcome State Fault Refusal) = .next t) : s.b.Keeps t.b :=
  keeps_of_coreBody (fun b => (hf b).keeps) h

/-- An effect of the core domain alone. -/
theorem keeps_of_core {f : Nat → Dev → Dev}
    (h : (.next (s.core f) : Host.Outcome State Fault Refusal) = .next t) : s.b.Keeps t.b :=
  keeps_of_coreEvent (fun b => b.onDev_evolves f) h

theorem keeps_of_clientWrite {w : Who} {idx sub : Nat} {v : Int}
    (h : (.next (s.coreBody (Body.clientWrite w idx sub v)) : Host.Outcome State Fault Refusal) = .next t) : s.b.Keeps t.b :=
  keeps_of_coreEvent (Body.clientWrite_evolves w idx sub v) h

theorem keeps_of_command {action : Nat} {c : JCmd}
    (h : (.next (s.coreBody (Body.command action c)) : Host.Outcome State Fault Refusal) = .next t) : s.b.Keeps t.b :=
  keeps_of_coreEvent (Body.command_evolves action c) h

theorem keeps_of_deliver {m : CMsg}
    (h : (.next (s.coreBody (Body.deliver m)) : Host.Outcome State Fault Refusal) = .next t) : s.b.Keeps t.b :=
  keeps_of_coreEvent (Body.deliver_evolves m) h

/-- A request whose service leaves the host area alone. -/
theorem keeps_of_request {w : Who} {f : Body → Body × Option Nat} (hf : ∀ b : Body, b.Evolves (f b).1)
    (h : (.next (s.coreBody (Body.request w f)) : Host.Outcome State Fault Refusal) = .next t) : s.b.Keeps t.b :=
  keeps_of_coreEvent (Body.request_evolves w f hf) h

/-- A request whose service commits what it writes. -/
theorem keeps_of_writeCommitted {w : Who} {idx sub len : Nat} {x : Int} {v : Verify}
    (h : (.next (s.coreBody fun b => b.request w fun b => b.writeCommitted w idx sub len x v) :
      Host.Outcome State Fault Refusal) = .next t) : s.b.Keeps t.b :=
  keeps_of_coreBody (Body.request_keeps w _ fun b => b.writeCommitted_keeps w idx sub len x v) h

/-- A sample of a group of sensors, and the thermal latch that it may set. -/
theorem sampled_evolves (die : Bool) (g : Fin 3) (f : Nat → Dev → Dev) (b : Body) :
    b.Evolves (if b.d.sampled die then latchIf g (b.onDev f) else b) := by
  split
  · exact (b.onDev_evolves f).trans (latchIf_evolves g _)
  · exact .refl b

theorem execDbgacc_keeps {q : DebugReq} (h : execDbgacc q s = .next t) : s.b.Keeps t.b := by
  unfold execDbgacc at h
  split at h
  · split at h
    · cases h
    · exact keeps_of_core h
  · exact keeps_of_core h

end

/-- Every command but a heartwood power-on reset: an effect on the whole body is one of those above, and every other command is an
effect of the core domain alone. -/
theorem exec_keeps {c : Instr} {s t : State} (h : exec c s = .next t)
    (hc : ∀ dcin bat, c ≠ .heartwoodPowerOnReset dcin bat) : s.b.Keeps t.b := by
  cases c with
  | heartwoodPowerOnReset dcin bat => exact absurd rfl (hc dcin bat)
  | devicePowerOnReset p => exact keeps_of_event (devicePowerOn_evolves p) h
  | dcinValid mv us => exact keeps_of_event (dcinValid_evolves mv us) h
  | dcinInvalid mv us => exact keeps_of_event (dcinInvalid_evolves mv us) h
  | batsnsValid mv us => exact keeps_of_event (batsnsValid_evolves mv us) h
  | batsnsInvalid mv us => exact keeps_of_event (batsnsInvalid_evolves mv us) h
  | nwakeLow us => exact keeps_of_event (nwakeLow_evolves us) h
  | heartwoodCrystalStop => exact keeps_of_event heartwoodCrystalStop_evolves h
  | heartwoodCrystalStable us => exact keeps_of_event (heartwoodCrystalStable_evolves us) h
  | heartwoodCrystalTimeout us => exact keeps_of_event (heartwoodCrystalTimeout_evolves us) h
  | shipEntryComplete => exact keeps_of_coreEvent shipEntryComplete_evolves h
  | nrstLow cycles => exact keeps_of_coreEvent (nrstLow_evolves cycles) h
  | lockstepMismatch => exact keeps_of_coreEvent lockstepMismatch_evolves h
  | nmtResetNode port node => exact keeps_of_coreEvent (nmtResetNode_evolves port node) h
  | nmtResetCommunication port node => exact keeps_of_coreEvent (nmtResetCommunication_evolves port node) h
  | dieSample temps => exact keeps_of_coreEvent (sampled_evolves true 0 _) h
  | remoteSample ratios => exact keeps_of_coreEvent (sampled_evolves false 1 _) h
  | wdCService key stamp => exact keeps_of_coreEvent (wdcService_evolves key stamp) h
  | wdCExpiry tick => exact keeps_of_coreEvent (wdcExpiry_evolves tick) h
  | wdHMissing tick => exact keeps_of_coreEvent (wdhLate_evolves false tick) h
  | graceEnd tick => exact keeps_of_coreEvent (wdhLate_evolves true tick) h
  | commitComplete k page v => exact keeps_of_coreBody (Body.commitComplete_keeps k page v) h
  | shipAction | standbyAction | resumeAction | targetsAction => exact keeps_of_command h
  | prepareEntry starts => exact keeps_of_coreEvent (Body.prepareEntry_evolves starts) h
  | journalReplay starts => exact keeps_of_coreEvent (Body.journalReplay_evolves starts) h
  | inputCurrentLimitWrite | manualInsert | reinstate | retire | grSetPointWrite | coefficientCommit | runNow | ibLdSetPointWrite
  | clearRecord | chargerEnable | chargerDisable | chargeSettingWrite | newPack | shuntResistanceWrite | reinstateSensor
  | hkadcBModeWrite | globalStart | globalStop | timerControlWrite | flagClear | acknowledge | stickyClear | nfaultDrive
  | sourceConfigurationWrite | portRestart | clientRegistration | integratorKey | relock | pdoMappingCount | cobIdWrite
  | channelDisable | hide | blockProtection | testEnable | testDisable | arm | debugLock => exact keeps_of_clientWrite h
  | ocvTableWrite who len value => exact keeps_of_request (fun b => b.write_evolves who _ _ _ _) h
  | stagedImage who words => exact keeps_of_request (fun b => b.write_evolves who _ _ _ _) h
  | checkIn who value stamp => exact keeps_of_request (fun b => b.writeWith_evolves who _ _ _ _ _ _ _) h
  | program who value dieTemp => exact keeps_of_request (fun b => b.writeWith_evolves who _ _ _ _ _ _ _) h
  | lock who value wordsOk => exact keeps_of_request (fun b => b.writeWith_evolves who _ _ _ _ _ _ _) h
  | objectWrite who index sub len value => exact keeps_of_request (fun b => b.writeAny_evolves who _ _ _ _) h
  | resultRead who => exact keeps_of_request (fun b => b.readFor_evolves who _ _) h
  | storeParameters | restoreParameters | hostAreaWrite => exact keeps_of_writeCommitted h
  | hostAreaRead who corrected bad => exact keeps_of_coreEvent (Body.hostAreaRead_evolves who corrected bad) h
  | usdoRequest u => exact keeps_of_coreEvent (Body.usdo_evolves u) h
  | readBuffer who c completed => exact keeps_of_coreEvent (Body.readBuffer_evolves who c completed) h
  | rpdo port p data => exact keeps_of_coreEvent (Body.rpdo_evolves port p data) h
  | sync port => exact keeps_of_coreEvent (Body.sync_evolves port) h
  | tpdo port p since => exact keeps_of_coreEvent (Body.tpdo_evolves port p since) h
  | tpdoEventTimer p ms => exact keeps_of_coreEvent (Body.tpdoEventTimer_evolves p ms) h
  | sampler c => exact keeps_of_coreEvent (Body.sampler_evolves c) h
  | beaconReceived c m => exact keeps_of_coreEvent (Body.beaconReceived_evolves c m) h
  | replyReceived u c m starts => exact keeps_of_coreEvent (Body.replyReceived_evolves u c m starts) h
  | prepareSegment | pollVote | commit | pollOutcome | abort | inquire | getFail | getInfo | unknownTag => exact keeps_of_deliver h
  | cascadePrepareStart => exact keeps_of_coreEvent Body.cascadePrepareStart_evolves h
  | dbgacc q => exact execDbgacc_keeps h
  | _ => exact keeps_of_core h

/-- A heartwood power-on reset keeps the invariant: its registers start afresh, or the supply has returned. -/
theorem heartwoodReset_inv (dcin bat : Nat) (b : Body) (h : b.Inv) : (heartwoodReset dcin bat b).Inv := by
  unfold heartwoodReset
  dsimp only
  split_ifs
  · exact ⟨h.1, b.hw.resets_inv false⟩
  · exact h
  · exact h

theorem exec_inv {c : Instr} {s t : State} (h : exec c s = .next t) (hi : s.b.Inv) : t.b.Inv := by
  by_cases hc : ∃ dcin bat, c = .heartwoodPowerOnReset dcin bat
  · obtain ⟨dcin, bat, rfl⟩ := hc
    cases h
    exact heartwoodReset_inv dcin bat s.b hi
  · exact (exec_keeps h fun dcin bat e => hc ⟨dcin, bat, e⟩).inv hi

theorem exec_counter {c : Instr} {s t : State} (h : exec c s = .next t) :
    t.b.hw.counter = s.b.hw.counter ∨ ∃ dcin bat, c = .heartwoodPowerOnReset dcin bat := by
  by_cases hc : ∃ dcin bat, c = .heartwoodPowerOnReset dcin bat
  · exact .inr hc
  · exact .inl (exec_keeps h fun dcin bat e => hc ⟨dcin, bat, e⟩).hw.counter

/-! ## The tick of an empty queue -/

theorem step_nil {s : State} (h : s.pending = []) : step s = .next (s.on Body.tick) := by
  simp only [step, h]

theorem step_cons {s : State} {c : Instr} {rest : List Instr} (h : s.pending = c :: rest) :
    step s = exec c { s with pending := rest } := by
  simp only [step, h]

theorem Body.tick_powered {b : Body} (h : b.hw.powered = true) :
    b.tick = { b with hw := { b.hw with counter := min (b.hw.counter + 1) maxTime } } := if_pos h

theorem Body.tick_unpowered {b : Body} (h : b.hw.powered = false) : b.tick = b := if_neg (by simp [h])

/-- A tick moves the counter on, or holds it at its largest value, or finds no supply. -/
theorem Body.tick_counter (b : Body) (h : b.hw.counter ≤ maxTime) :
    b.hw.counter ≤ b.tick.hw.counter ∧ b.tick.hw.counter ≤ maxTime := by
  cases hp : b.hw.powered with
  | false => rw [b.tick_unpowered hp]; exact ⟨Nat.le_refl _, h⟩
  | true => rw [b.tick_powered hp]; exact ⟨Nat.le_min.2 ⟨Nat.le_succ _, h⟩, Nat.min_le_right _ _⟩

theorem Body.tick_inv (b : Body) (h : b.Inv) : b.tick.Inv := by
  obtain ⟨hhost, hmax, hreset, hwdc, hrest⟩ := id h
  have hcounter := b.tick_counter hmax
  cases hp : b.hw.powered with
  | false => rw [b.tick_unpowered hp]; exact h
  | true =>
    rw [b.tick_powered hp] at hcounter ⊢
    exact ⟨hhost, hcounter.2, hreset.trans hcounter.1, hwdc.trans hcounter.1, hrest⟩

/-! ## The settled obligations -/

/-- A step is a tick or a command; only a heartwood power-on reset moves the counter back. -/
theorem step_counter {s t : State} (h : step s = .next t) (hmax : s.b.hw.counter ≤ maxTime) :
    (s.b.hw.counter ≤ t.b.hw.counter ∧ t.b.hw.counter ≤ maxTime) ∨
      ∃ dcin bat rest, s.pending = .heartwoodPowerOnReset dcin bat :: rest := by
  cases hp : s.pending with
  | nil =>
    rw [step_nil hp] at h
    cases h
    exact .inl (s.b.tick_counter hmax)
  | cons c rest =>
    rw [step_cons hp] at h
    obtain hcounter | ⟨dcin, bat, rfl⟩ := exec_counter h
    · exact .inl ⟨hcounter.ge, hcounter.trans_le hmax⟩
    · exact .inr ⟨dcin, bat, rest, rfl⟩

/-- Settles O60: a tick keeps the invariant, a heartwood power-on reset starts it afresh, and every other command's effect on the
heartwood domain and the host area is one that keeps it. -/
theorem everyStepKeepsTheInvariant : Obligations.EveryStepKeepsTheInvariant := by
  intro s t h hi
  unfold Steps at h
  cases hp : s.pending with
  | nil =>
    rw [step_nil hp] at h
    cases h
    exact s.b.tick_inv hi
  | cons c rest =>
    rw [step_cons hp] at h
    exact exec_inv h hi

/-- Settles O52: a step moves the counter forward within its bound, unless a heartwood power-on reset is taken; the bound is more
than 272 years of ticks at 32768 Hz. -/
theorem timeCounterHolds : Obligations.TimeCounterHolds := by
  refine ⟨fun s t h hmax => ?_, fun s t h hmax => ?_, fun c s t h => exec_counter h, by decide⟩
  · exact (step_counter h hmax).imp_left And.left
  · refine (step_counter h hmax.le).imp_left fun ⟨hle, hbound⟩ => ?_
    exact Nat.le_antisymm hbound (hmax ▸ hle)

/-- Settles O49: the step of an empty queue is the tick, with and without supply. -/
theorem idleStepTicks : Obligations.IdleStepTicks := by
  refine ⟨fun s hq hp => ?_, fun s hq hp => ?_⟩
  · rw [step_nil hq, State.on, Body.tick_powered hp]
  · rw [step_nil hq, State.on, Body.tick_unpowered hp]

/-- Settles O58: each value is the default of its field in `State.reset`; the register files hold theirs at every index. -/
theorem resetValues : Obligations.ResetValues := by
  have hbranch : ∀ b : Branch, State.reset.b.d.branchOn b = false := by decide
  have hsource : ∀ n : Source, State.reset.b.d.sticky n.val = false := by decide
  have htimer : ∀ n : TimerNo, State.reset.b.d.timer[n].run = false := by decide
  exact ⟨rfl, rfl, rfl, rfl, rfl, rfl, rfl, hbranch, hsource, rfl, rfl, rfl, rfl, htimer, rfl, rfl⟩

/-- Settles O59: after reset the host area is empty, every kept time is 0, and the cause is that of a power-on. -/
theorem resetKeepsTheInvariant : Obligations.ResetKeepsTheInvariant :=
  ⟨rfl, by simp [State.reset, Heartwood.Inv]⟩

end Sys2Proof.Machine
end

section
/-!
PROOFS. The layers of a setting: object maps, the effective value as the highest layer gives it, and a live write that reads back.
-/
namespace Sys2Proof.Machine

/-! ## Object maps -/

@[simp] theorem ObjMap.get_nil (k : Nat) : ObjMap.get [] k = none := rfl

@[simp] theorem ObjMap.get_cons (e : Nat × Int) (m : ObjMap) (k : Nat) :
    ObjMap.get (e :: m) k = if e.1 = k then some e.2 else ObjMap.get m k := rfl

/-- A key that is set reads back; every other key reads as before, whether or not the map is sorted. -/
theorem ObjMap.get_set (m : ObjMap) (k j : Nat) (v : Int) : (m.set k v).get j = if k = j then some v else m.get j := by
  induction m with
  | nil => rfl
  | cons e m ih =>
    obtain ⟨k', v'⟩ := e
    simp only [ObjMap.set]
    split
    · rfl
    · split
      · rename_i heq
        subst heq
        simp only [ObjMap.get_cons]
        split <;> rfl
      · rename_i hne
        simp only [ObjMap.get_cons, ih]
        split
        · rename_i hj
          rw [if_neg (hj ▸ hne)]
        · rfl

/-- Subindices have one byte, so that a key names one object (R2). -/
theorem key_eq_iff {i j : Nat × Nat} (hi : i.2 < 256) (hj : j.2 < 256) : key i.1 i.2 = key j.1 j.2 ↔ i = j := by
  unfold key
  rw [Prod.ext_iff]
  omega

/-! ## The effective value (R21) -/

section
variable {d : Dev} {idx sub : Nat}

theorem Dev.int_of_live {v : Int} (h : ObjMap.get d.dict.live (key idx sub) = some v) : d.int idx sub = v := by
  simp only [Dev.int, h]

theorem Dev.int_of_image {v : Int} (hlive : ObjMap.get d.dict.live (key idx sub) = none)
    (h : ObjMap.get d.dict.image (key idx sub) = some v) : d.int idx sub = v := by
  simp only [Dev.int, hlive, h]

theorem Dev.int_of_otp {v : Int} (hlive : ObjMap.get d.dict.live (key idx sub) = none)
    (himage : ObjMap.get d.dict.image (key idx sub) = none) (h : ObjMap.get d.dict.otp (key idx sub) = some v) :
    d.int idx sub = v := by
  simp only [Dev.int, hlive, himage, h]

theorem Dev.int_of_rom (hlive : ObjMap.get d.dict.live (key idx sub) = none)
    (himage : ObjMap.get d.dict.image (key idx sub) = none) (h : ObjMap.get d.dict.otp (key idx sub) = none) :
    d.int idx sub = romDefault d idx sub := by
  simp only [Dev.int, hlive, himage, h]

end

theorem Dev.setLive_live (d : Dev) (idx sub : Nat) (v : Int) :
    (d.setLive idx sub v).dict.live = d.dict.live.set (key idx sub) v := rfl

/-- A live entry of another object changes no layer of a setting, and a ROM default reads no layer. -/
theorem Dev.int_congr {d d' : Dev} {idx sub : Nat}
    (hlive : ObjMap.get d'.dict.live (key idx sub) = ObjMap.get d.dict.live (key idx sub))
    (himage : d'.dict.image = d.dict.image) (hotp : d'.dict.otp = d.dict.otp) (hnode : d'.dict.nodeId = d.dict.nodeId) :
    d'.int idx sub = d.int idx sub := by
  simp only [Dev.int, romDefault, hlive, himage, hotp, hnode]

theorem settingReadsBack (d : Dev) (i j : Nat × Nat) (v : Int) (hi : i.2 < 256) (hj : j.2 < 256) :
    (d.setLive i.1 i.2 v).int j.1 j.2 = if i = j then v else d.int j.1 j.2 := by
  have hget : ObjMap.get (d.setLive i.1 i.2 v).dict.live (key j.1 j.2) =
      if i = j then some v else ObjMap.get d.dict.live (key j.1 j.2) := by
    simp only [Dev.setLive_live, ObjMap.get_set, key_eq_iff hi hj]
  split_ifs at hget ⊢ with hij
  · exact Dev.int_of_live hget
  · exact Dev.int_congr hget rfl rfl rfl

/-- Settles O56: each layer decides once the layers above it hold no entry, and a live write is an entry of the highest layer. -/
theorem layersDecide : Obligations.LayersDecide :=
  ⟨fun _ _ _ => ⟨fun _ => Dev.int_of_live, fun hlive => ⟨fun _ => Dev.int_of_image hlive, fun himage =>
    ⟨fun _ => Dev.int_of_otp hlive himage, Dev.int_of_rom hlive himage⟩⟩⟩, settingReadsBack⟩

end Sys2Proof.Machine
end

section
/-!
PROOFS. The core domain without power, what only a heartwood power-on reset releases, and the release of nRST.
-/
namespace Sys2Proof.Machine

/-! ## Effects that need the core domain -/

section
variable {s : State}

theorem State.on_eq_self {f : Body → Body} (h : f s.b = s.b) : s.on f = s := by
  rw [State.on, h]

theorem State.coreBody_unpowered (h : s.b.d.power.coreOn = false) (f : Body → Body) : s.coreBody f = s :=
  State.on_eq_self (by simp [h])

theorem next_coreBody_unpowered (h : s.b.d.power.coreOn = false) (f : Body → Body) :
    (.next (s.coreBody f) : Host.Outcome State Fault Refusal) = .next s :=
  congrArg _ (State.coreBody_unpowered h f)

theorem next_core_unpowered (h : s.b.d.power.coreOn = false) (f : Nat → Dev → Dev) :
    (.next (s.core f) : Host.Outcome State Fault Refusal) = .next s := next_coreBody_unpowered h (Body.onDev f)

/-- What a powered core domain makes of an effect on the device alone. -/
theorem State.core_powered (h : s.b.d.power.coreOn = true) (f : Nat → Dev → Dev) : s.core f = s.on (Body.onDev f) := by
  simp [State.core, State.on, h]

/-- A statement about a command of the core domain speaks of the device that the command's effect gives. -/
theorem Gives.device {c : Instr} {f : Nat → Dev → Dev} {P : Dev → Prop} (h : Gives c s P)
    (hc : exec c s = .next (s.core f)) (hon : s.b.d.power.coreOn = true) : P (f s.b.hw.counter s.b.d) := by
  obtain ⟨t, ht, -, -, -, hP⟩ := h
  rw [hc, State.core_powered hon] at ht
  cases ht
  exact hP

/-- The vendor's port is closed while the core domain is unpowered (R553). -/
theorem execDbgacc_unpowered (h : s.b.d.power.coreOn = false) (q : DebugReq) : execDbgacc q s = .next s := by
  cases q with
  | vendorWrite reg value =>
    simp only [execDbgacc, h, Bool.false_and, Bool.false_eq_true, if_false]
    exact next_core_unpowered h _
  | _ => exact next_core_unpowered h _

end

/-- Every command but the inputs, the two power-on resets and the heartwood crystal's events is an effect that needs the core
domain. -/
theorem exec_unpowered (c : Instr) (s : State) (h : s.b.d.power.coreOn = false) (hc : reachesUnpowered c = false) :
    exec c s = .next s := by
  cases c with
  | dcinValid | dcinInvalid | batsnsValid | batsnsInvalid | nwakeLow | heartwoodPowerOnReset | devicePowerOnReset
  | heartwoodCrystalStop | heartwoodCrystalStable | heartwoodCrystalTimeout => cases hc
  | dbgacc q => exact execDbgacc_unpowered h q
  | _ => exact next_coreBody_unpowered h _

/-! ## The thermal latch and the clock fallback -/

theorem exec_thermalLatch {c : Instr} {s t : State} (h : exec c s = .next t) (hl : s.b.hw.thermalLatch = true) :
    t.b.hw.thermalLatch = true ∨ ∃ dcin bat, c = .heartwoodPowerOnReset dcin bat := by
  by_cases hc : ∃ dcin bat, c = .heartwoodPowerOnReset dcin bat
  · exact .inr hc
  · exact .inl ((exec_keeps h fun dcin bat e => hc ⟨dcin, bat, e⟩).hw.thermalLatch hl)

theorem exec_fallback {c : Instr} {s t : State} (h : exec c s = .next t) (hf : s.b.hw.fallback = true) :
    t.b.hw.fallback = true ∨ ∃ dcin bat, c = .heartwoodPowerOnReset dcin bat := by
  by_cases hc : ∃ dcin bat, c = .heartwoodPowerOnReset dcin bat
  · exact .inr hc
  · exact .inl ((exec_keeps h fun dcin bat e => hc ⟨dcin, bat, e⟩).hw.fallback hf)

theorem devicePowerOn_latched {b : Body} (h : b.hw.thermalLatch = true) (p : PowerOn) : devicePowerOn p b = b :=
  if_pos (by simp [h])

theorem Body.endShip_latched {b : Body} (h : b.hw.thermalLatch = true) (source : Nat) : b.endShip source = b :=
  if_pos (.inl h)

theorem nwakeLow_latched {b : Body} (h : b.hw.thermalLatch = true) (hoff : b.d.power.coreOn = false) (us : Nat) :
    nwakeLow us b = b := by
  simp [nwakeLow, hoff, Body.endShip_latched h]

theorem latchHolds : LatchHolds := by
  refine ⟨fun _ _ _ => exec_thermalLatch, fun _ _ _ => exec_fallback, fun s p us hl hoff => ⟨?_, fun _ => ?_⟩⟩
  · exact congrArg Host.Outcome.next (State.on_eq_self (devicePowerOn_latched hl p))
  · exact congrArg Host.Outcome.next (State.on_eq_self (nwakeLow_latched hl hoff us))

/-- Settles O53: every other command needs the core domain, and the evolution of the heartwood domain keeps latch and fallback. -/
theorem unpoweredCoreIsInert : Obligations.UnpoweredCoreIsInert := ⟨exec_unpowered, latchHolds⟩

/-! ## The release of nRST loads the stored image, and may record a refusal -/

theorem Dev.refusal_of_still {d d' : Dev} (h : d'.still = d.still) : d'.integ.refusal = d.integ.refusal :=
  congrArg (fun e => e.integ.refusal) h

/-- A stored image whose IB0 set-point lies above 89.50 % of its declared input (R207). -/
def overDutyBank : Bank := { blank := false, entries := [(key 0x2240 1, 12000), (key 0x2240 2, 12000)] }

/-- nRST is low on a device whose first bank breaks R207, and which has refused nothing before. -/
def heldOverDuty : State :=
  { State.reset with b.d := { State.reset.b.d with power.nrstLow := true, nv.banks := #v[overDutyBank, {}] } }

/-- At the release the image is loaded without its IB entries, and 0x2010:05 names the duty as the cause (R220). -/
theorem nrstRelease_heldOverDuty_refusal : (heldOverDuty.b.d.nrstRelease heldOverDuty.b.hw.counter).integ.refusal = 3 := by
  decide +kernel

/-- Refutes O24: the frame of the nRST release keeps the refusal cause of the integrated rails, which the reload of the stored
image records anew. -/
theorem not_coreResetsComplete : ¬ Obligations.CoreResetsComplete := by
  intro h
  obtain ⟨-, hrelease, -⟩ := h heldOverDuty rfl
  obtain ⟨hstill, -⟩ := (hrelease rfl).device rfl rfl
  have hkept := Dev.refusal_of_still hstill
  rw [nrstRelease_heldOverDuty_refusal] at hkept
  exact absurd hkept (by decide)

end Sys2Proof.Machine
end

section
/-!
PROOFS. What the sequencer's orders and the raising of a source leave alone: every reading of the device that looks at none of the
parts they change. The power state and the branches that are on are two such readings.
-/
namespace Sys2Proof.Machine

/-! ## What an on order, the end of a journal entry and a sending leave alone -/

/-- A reading of the device that looks at no part of it which an on order, the end of a journal entry or a sending changes. -/
structure Dev.OrderFree {β : Type} (g : Dev → β) : Prop where
  seq' : ∀ d f, g (Dev.seq' d f) = g d
  judgeAll : ∀ d f, g (Dev.judgeAll d f) = g d
  casc' : ∀ d f, g (Dev.casc' d f) = g d
  jour' : ∀ d f, g (Dev.jour' d f) = g d
  wdh' : ∀ d f, g (Dev.wdh' d f) = g d
  port' : ∀ d p f, g (Dev.port' d p f) = g d
  test' : ∀ d f, g (Dev.test' d f) = g d
  out : ∀ (d : Dev) l, g { d with out := l } = g d

namespace Dev.OrderFree
variable {β : Type} {g : Dev → β} (hg : Dev.OrderFree g)
include hg

theorem send (d : Dev) (o : Out) : g (d.send o) = g d :=
  send_keeps g (fun d x _ => hg.test' d fun _ => x) (fun d p => hg.port' d p _) hg.out d o

theorem broadcast (d : Dev) : g d.broadcast = g d := by
  unfold Dev.broadcast
  split
  · rfl
  · rw [hg.send, hg.casc']

theorem endNow (d : Dev) (i : Nat) (st : EntryState) (detail : Nat) : g (d.endNow i st detail) = g d := by
  unfold Dev.endNow
  split
  · rfl
  · exact hg.jour' _ _

theorem endEntry (d : Dev) (i : Nat) (st : EntryState) (detail : Nat) : g (d.endEntry i st detail) = g d := by
  unfold Dev.endEntry
  split
  · exact hg.endNow _ _ _ _
  · exact hg.jour' _ _

theorem endAction (d : Dev) (action : Nat) (st : EntryState) (detail : Nat) : g (d.endAction action st detail) = g d :=
  foldl_keeps g _ (fun d i => hg.endEntry d i st detail) _ d

theorem loseTargets (d : Dev) (b : Branch) : g (d.loseTargets b) = g d := hg.jour' _ _

theorem loseBranches (d : Dev) (m : Nat) : g (d.loseBranches m) = g d := foldl_keeps g _ hg.loseTargets _ d

theorem loseCharger (d : Dev) : g d.loseCharger = g d := hg.jour' _ _

theorem closeTxn (d : Dev) : g d.closeTxn = g d := by
  unfold Dev.closeTxn
  split
  · split
    · exact hg.casc' _ _
    · rfl
  · rfl

theorem payEnds (d : Dev) : g d.payEnds = g d := by
  unfold Dev.payEnds
  split
  · rfl
  · refine foldl_keeps g _ (fun d i => ?_) _ d
    split
    · split
      · exact hg.endNow _ _ _ _
      · rfl
    · rfl

theorem settle (d : Dev) : g d.settle = g d := by
  unfold Dev.settle
  rw [hg.closeTxn]
  refine (foldl_keeps g _ (fun d i => ?_) _ _).trans ((hg.jour' _ _).trans (hg.payEnds d))
  split
  · exact hg.endEntry _ _ _ _
  · rfl

theorem abortTxn (d : Dev) (detail : Nat) : g (d.abortTxn detail) = g d := by
  unfold Dev.abortTxn
  split
  · rfl
  · split
    · rfl
    · dsimp only
      split
      · rw [hg.endEntry, hg.casc']
      · exact hg.casc' _ _

theorem issueOrder (d : Dev) (order : Nat) : g (d.issueOrder order) = g d := by
  unfold Dev.issueOrder
  split
  · rw [hg.casc']
    split
    · exact hg.abortTxn d _
    · rfl
  · rfl

theorem wdhCheck (d : Dev) : g d.wdhCheck = g d := by
  unfold Dev.wdhCheck
  split
  · exact hg.wdh' _ _
  · rfl

theorem wdhActionDone (d : Dev) : g d.wdhActionDone = g d := by
  unfold Dev.wdhActionDone
  dsimp only
  split
  · exact (hg.wdh' _ _).trans (hg.wdh' _ _)
  · rw [hg.wdhCheck, hg.wdh']

theorem wdhGroupCheck (d : Dev) : g d.wdhGroupCheck = g d := by
  unfold Dev.wdhGroupCheck
  split
  · exact hg.wdhActionDone d
  · exact hg.wdhCheck d

theorem wdhOrderDone (d : Dev) : g d.wdhOrderDone = g d := by
  unfold Dev.wdhOrderDone
  split
  · exact hg.wdh' _ _
  · rfl

theorem onCheck (d : Dev) (t : Nat) : g (d.onCheck t) = g d := by
  unfold Dev.onCheck
  split
  · rw [hg.endAction, hg.wdhOrderDone, hg.seq']
  · rfl

theorem seqBegin (d : Dev) (t : Nat) (st : SeqState) : g (d.seqBegin t st) = g d := hg.seq' _ _

theorem commonStart (d : Dev) (t m : Nat) (st : SeqState) : g (d.commonStart t m st) = g d := by
  unfold Dev.commonStart
  rw [hg.judgeAll, hg.seq', hg.seqBegin]

theorem startFull (d : Dev) (t : Nat) : g (d.startFull t) = g d := by
  unfold Dev.startFull
  split_ifs
  · rw [hg.onCheck, hg.commonStart]
  · rw [hg.issueOrder, hg.seq', hg.seqBegin]
  · rfl

theorem newRun (d : Dev) (t : Nat) : g (d.newRun t) = g d := by
  unfold Dev.newRun
  rw [hg.startFull, hg.judgeAll, hg.seq']

theorem wakeRun (d : Dev) (t : Nat) : g (d.wakeRun t) = g d := by
  unfold Dev.wakeRun
  split
  · exact hg.newRun d t
  · dsimp only
    split
    · rw [hg.casc', hg.send]
    · rw [hg.seq', hg.casc', hg.send]

end Dev.OrderFree

theorem Dev.power_orderFree : Dev.OrderFree Dev.power :=
  ⟨fun _ _ => rfl, fun _ _ => rfl, fun _ _ => rfl, fun _ _ => rfl, fun _ _ => rfl, Dev.port'_power, fun _ _ => rfl, fun _ _ => rfl⟩

theorem Dev.clk_orderFree : Dev.OrderFree Dev.clk :=
  ⟨fun _ _ => rfl, fun _ _ => rfl, fun _ _ => rfl, fun _ _ => rfl, fun _ _ => rfl, Dev.port'_clk, fun _ _ => rfl, fun _ _ => rfl⟩

end Sys2Proof.Machine
end

section
/-!
PROOFS. The raising of a source and its escalation: what they leave alone, and that they turn no branch on.
-/
namespace Sys2Proof.Machine

/-! ## What transitions, orders and records leave alone -/

/-- A reading of the device that looks at no part of it which a state transition, an order of the sequencer or a record of the fault
collector changes. -/
structure Dev.FaultFree {β : Type} (g : Dev → β) : Prop extends Dev.OrderFree g where
  power' : ∀ d f, g (Dev.power' d f) = g d
  clk' : ∀ d f, g (Dev.clk' d f) = g d
  path' : ∀ d f, g (Dev.path' d f) = g d
  chg' : ∀ d f, g (Dev.chg' d f) = g d
  gauge' : ∀ d f, g (Dev.gauge' d f) = g d
  th' : ∀ d f, g (Dev.th' d f) = g d
  conv' : ∀ d f, g (Dev.conv' d f) = g d
  timer' : ∀ d n f, g (Dev.timer' d n f) = g d
  faults' : ∀ d f, g (Dev.faults' d f) = g d
  nv' : ∀ d f, g (Dev.nv' d f) = g d
  life' : ∀ d f, g (Dev.life' d f) = g d
  setLive : ∀ d i s v, g (Dev.setLive d i s v) = g d

namespace Dev.FaultFree
variable {β : Type} {g : Dev → β} (hg : Dev.FaultFree g)
include hg

theorem log (d : Dev) (r : LogRec) : g (d.log r) = g d := by
  unfold Dev.log
  dsimp only
  split
  · exact (hg.nv' (d.power' _) fun n => { n with logQueue := n.logQueue ++ [r] }).trans (hg.power' d _)
  · exact (hg.faults' _ _).trans (hg.power' _ _)

theorem logEvent (d : Dev) (t kind subject reason : Nat) (data : List Nat) : g (d.logEvent t kind subject reason data) = g d :=
  hg.log _ _

theorem logFault (d : Dev) (t kind src cls reason esc : Nat) (data : List Nat) :
    g (d.logFault t kind src cls reason esc data) = g d := hg.log _ _

theorem src' (d : Dev) (n : Nat) (f : FaultSrc → FaultSrc) : g (d.src' n f) = g d := by
  unfold Dev.src'
  split
  · exact hg.faults' _ _
  · rfl

theorem nfPulse (d : Dev) : g d.nfPulse = g d := hg.faults' _ _
theorem emcy (d : Dev) (e : Emcy) : g (d.emcy e) = g d := by
  unfold Dev.emcy
  exact hg.faults' _ _


theorem record (d : Dev) (t src reason : Nat) (started : Bool) : g (d.record t src reason started) = g d := by
  unfold Dev.record
  dsimp only
  rw [Dev.when_keeps g _ _ _ (hg.emcy _ _), Dev.when_keeps g _ _ _ (hg.nfPulse _), hg.logFault, hg.faults', hg.src']

theorem recordNew (d : Dev) (t src reason : Nat) : g (d.recordNew t src reason) = g d := by
  unfold Dev.recordNew
  split
  · rfl
  · exact hg.record d _ _ _ _

theorem keepWake (d : Dev) : g d.keepWake = g d := by
  unfold Dev.keepWake
  split
  · rw [hg.seq', hg.power']
  · rfl

theorem firstFail (d : Dev) (t : Nat) (f : Failure) : g (d.firstFail t f) = g d := by
  unfold Dev.firstFail
  split
  · exact hg.seq' _ _
  · rw [hg.logEvent, hg.seq']

theorem endTest (d : Dev) : g d.endTest = g d := by
  have htest : ∀ x y, g (((d.power' fun p => { p with test := false }).test' x).th' y) = g d := fun x y => by
    rw [hg.th', hg.test', hg.power']
  unfold Dev.endTest
  dsimp only
  split
  · rfl
  · split
    · rw [hg.gauge', hg.conv', htest]
    · rw [hg.conv', htest]

theorem setPhase (d : Dev) (t : Nat) (p : ChgPhase) : g (d.setPhase t p) = g d := by
  unfold Dev.setPhase chargerTimers
  dsimp only
  split
  · rw [hg.timer', hg.timer', hg.chg']
  · exact hg.chg' _ _

theorem takeTimers (d : Dev) : g d.takeTimers = g d := by
  unfold Dev.takeTimers
  split_ifs
  · rfl
  · exact hg.chg' _ _
  · rw [hg.chg', hg.timer', hg.timer']

theorem releaseTimers (d : Dev) : g d.releaseTimers = g d := by
  unfold Dev.releaseTimers
  rw [hg.chg', hg.timer', hg.timer']

theorem chgClear (d : Dev) (t reason : Nat) : g (d.chgClear t reason) = g d := by
  unfold Dev.chgClear
  dsimp only
  split_ifs <;> simp only [hg.takeTimers, hg.releaseTimers, hg.chg', hg.setPhase]

theorem chgDisable (d : Dev) (t reason : Nat) : g (d.chgDisable t reason) = g d := by
  unfold Dev.chgDisable
  split
  · rfl
  · rw [hg.chg', hg.releaseTimers, hg.setPhase]

theorem disableCharger (d : Dev) (t : Nat) : g (d.disableCharger t) = g d := by
  unfold Dev.disableCharger
  rw [hg.chgDisable, hg.loseCharger, hg.setLive]

theorem goState (d : Dev) (t : Nat) (p : PState) : g (d.goState t p) = g d := by
  have hstandby : ∀ x : Dev, g ((x.conv' Hkadc.halted).gauge' fun y => { y with meas := none }) = g x := fun x => by
    rw [hg.gauge', hg.conv']
  unfold Dev.goState
  dsimp only
  split
  · rw [hg.chgClear, hg.endTest, Dev.when_keeps g _ _ _ (hstandby _), Dev.when_keeps g _ _ _ (hg.judgeAll _ _)]
    exact (hg.clk' _ fun _ => _).trans (hg.power' d fun _ => _)
  · rw [Dev.when_keeps g _ _ _ (hstandby _), Dev.when_keeps g _ _ _ (hg.judgeAll _ _)]
    exact (hg.clk' _ fun _ => _).trans (hg.power' d fun _ => _)

/-! ## Orders of the sequencer -/

theorem safeCheck (d : Dev) (t : Nat) : g (d.safeCheck t) = g d := by
  have haction : ∀ x : Dev, g (if x.wdh.action = some 2 then x.wdhActionDone else x.wdhOrderDone) = g x := fun x => by
    split_ifs
    · exact hg.wdhActionDone x
    · exact hg.wdhOrderDone x
  have hresume : ∀ x : Dev,
      g (if x.seq.resumeDue then ((x.seq' fun s => { s with resumeDue := false }).goState t .run).newRun t else x) = g x := fun x => by
    split_ifs
    · rw [hg.newRun, hg.goState, hg.seq']
    · rfl
  unfold Dev.safeCheck
  split
  · exact (hresume _).trans ((haction _).trans (hg.seq' _ _))
  · rfl

theorem enterSafeOn (d : Dev) (t : Nat) : g (d.enterSafeOn t) = g d := by
  have hstate : ∀ x : Dev, g (if x.power.state = .safe then x else x.goState t .safe) = g x := fun x => by
    split_ifs
    · rfl
    · exact hg.goState x _ _
  have hresume : ∀ x : Dev, g (if x.seq.finalFail ∧ !x.seq.resumeDue then x.endAction 4 .failed 9 else x) = g x := fun x => by
    split_ifs
    · exact hg.endAction x _ _ _
    · rfl
  unfold Dev.enterSafeOn
  dsimp only
  rw [hg.safeCheck, hg.commonStart, hg.seq']
  split
  · rw [hg.firstFail, hresume, hstate]
  · rw [hresume, hstate]

theorem wake (d : Dev) (t source : Nat) : g (d.wake t source) = g d := by
  unfold Dev.wake
  split_ifs
  · rw [hg.wakeRun, hg.goState, hg.power']
  · rw [hg.seq', hg.power']
  · rfl

theorem endShipEntry (d : Dev) : g d.endShipEntry = g d := by
  unfold Dev.endShipEntry
  split
  · rw [hg.path', hg.endAction]
  · rfl

theorem offDone (d : Dev) (t : Nat) : g (d.offDone t) = g d := by
  unfold Dev.offDone
  split
  · exact hg.seq' _ _
  · rw [hg.enterSafeOn, hg.seq']
  · have hstandby : g ((((d.endAction 2 .applied 0).seq' fun s => { s with state := .idle, after := .idle }).goState t .standby).clk'
        fun c => { c with pllLocked := false }) = g d := by
      rw [hg.clk', hg.goState, hg.seq', hg.endAction]
    dsimp only
    split
    · rw [hg.wake, hg.seq', hstandby]
    · exact hstandby
  · rw [hg.path', hg.seq']
  · dsimp only
    rw [hg.newRun]
    split
    · rw [hg.goState, hg.endShipEntry, hg.seq']
    · rw [hg.endShipEntry, hg.seq']
  · rw [hg.onCheck, hg.commonStart, hg.wdh', hg.seq']
  · exact hg.seq' _ _

theorem offCheck (d : Dev) (t : Nat) : g (d.offCheck t) = g d := by
  unfold Dev.offCheck
  split
  · rw [hg.offDone, hg.seq']
  · rfl

theorem beginOff (d : Dev) (t mask : Nat) (st : SeqState) (after : AfterOff) : g (d.beginOff t mask st after) = g d := by
  unfold Dev.beginOff
  dsimp only
  rw [hg.offCheck]
  split
  · rw [hg.seq', hg.seqBegin]
  · rw [hg.judgeAll, hg.seq', hg.seqBegin]

theorem groupCheck (d : Dev) (t : Nat) : g (d.groupCheck t) = g d := by
  unfold Dev.groupCheck
  split
  · rw [hg.beginOff, hg.seq']
  · rfl

theorem startShip (d : Dev) (t : Nat) : g (d.startShip t) = g d := by
  unfold Dev.startShip
  split
  · rfl
  · rw [hg.beginOff, hg.path', hg.life', hg.gauge', hg.seq', hg.endAction, hg.endAction]

theorem shipCheck (d : Dev) (t : Nat) : g (d.shipCheck t) = g d := by
  unfold Dev.shipCheck
  split
  · rw [hg.startShip, hg.seq']
  · rfl

theorem seqCheck (d : Dev) (t : Nat) : g (d.seqCheck t) = g d := by
  unfold Dev.seqCheck
  rw [hg.shipCheck, hg.groupCheck, hg.wdhGroupCheck, hg.offCheck, hg.safeCheck, hg.onCheck]

theorem abandonActions (d : Dev) : g d.abandonActions = g d := by
  unfold Dev.abandonActions
  rw [hg.seq', hg.path', hg.endAction, hg.endAction, hg.endAction]

theorem safeReaction (d : Dev) (t : Nat) (cause : Failure) : g (d.safeReaction t cause) = g d := by
  unfold Dev.safeReaction
  split_ifs
  · rfl
  · rw [hg.seq', hg.casc']
  · exact hg.firstFail _ _ _
  · rw [hg.beginOff, hg.issueOrder, hg.seq', hg.abandonActions]

/-! ## The fault collector -/

theorem faultWake (d : Dev) (t src : Nat) : g (d.faultWake t src) = g d := Dev.when_keeps g _ _ _ (hg.wake _ _ _)

theorem logEscalation (d : Dev) (t src code : Nat) : g (d.logEscalation t src code) = g d := hg.logFault _ _ _ _ _ _ _ _

end Dev.FaultFree

end Sys2Proof.Machine
end

section
/-!
PROOFS. The branches that are on: what turning a branch off, a fast-off and the raising of a source leave of them.
-/
namespace Sys2Proof.Machine

/-! ## Branch codes (Table 9-1) -/

section
variable {α : Type} (gr : Rail → α) (ch : Integrated → α) (xe : Fin 8 → α)

@[simp] theorem byBranch_railBranch (r : Rail) : byBranch (railBranch r) gr ch xe = gr r := by
  simp [byBranch, railBranch]

@[simp] theorem byBranch_chanCode (c : Integrated) : byBranch (chanCode c) gr ch xe = ch c := by
  cases c with
  | ib n =>
    have h : 8 + n.val < 14 := by omega
    simp [byBranch, chanCode, h]
  | ld n =>
    have h8 : ¬ 14 + n.val < 8 := by omega
    have h22 : 14 + n.val < 22 := by omega
    simp [byBranch, chanCode, h8, h22]

@[simp] theorem byBranch_xeBranch (n : Fin 8) : byBranch (xeBranch n) gr ch xe = xe n := by
  have h8 : ¬ 22 + n.val < 8 := by omega
  have h14 : ¬ 22 + n.val < 14 := by omega
  simp [byBranch, xeBranch, h8, h14]

end

/-- Every branch is a rail, an integrated channel or an external enable. -/
theorem branch_cases (b : Branch) : (∃ r, b = railBranch r) ∨ (∃ c, b = chanCode c) ∨ ∃ n, b = xeBranch n := by
  by_cases hr : b.val < 8
  · exact .inl ⟨⟨b.val, hr⟩, rfl⟩
  by_cases hi : b.val < 14
  · exact .inr (.inl ⟨.ib ⟨b.val - 8, by omega⟩, Fin.ext (by simp only [chanCode]; omega)⟩)
  by_cases hl : b.val < 22
  · exact .inr (.inl ⟨.ld ⟨b.val - 14, by omega⟩, Fin.ext (by simp only [chanCode]; omega)⟩)
  · exact .inr (.inr ⟨⟨b.val - 22, by omega⟩, Fin.ext (by simp only [xeBranch]; omega)⟩)

@[simp] theorem railBranch_inj {r s : Rail} : railBranch r = railBranch s ↔ r = s := by
  simp [railBranch, Fin.ext_iff]

@[simp] theorem xeBranch_inj {m n : Fin 8} : xeBranch m = xeBranch n ↔ m = n := by
  simp [xeBranch, Fin.ext_iff]

@[simp] theorem chanCode_inj {c e : Integrated} : chanCode c = chanCode e ↔ c = e := by
  refine ⟨fun h => ?_, congrArg _⟩
  have hval := congrArg Fin.val h
  cases c <;> cases e <;> simp only [chanCode, Integrated.ib.injEq, Integrated.ld.injEq, reduceCtorEq, Fin.ext_iff] at hval ⊢ <;> omega

@[simp] theorem chanCode_ne_railBranch (c : Integrated) (r : Rail) : chanCode c ≠ railBranch r := by
  cases c <;> simp only [chanCode, railBranch, ne_eq, Fin.ext_iff] <;> omega

@[simp] theorem xeBranch_ne_railBranch (n : Fin 8) (r : Rail) : xeBranch n ≠ railBranch r := by
  simp only [xeBranch, railBranch, ne_eq, Fin.ext_iff]
  omega

@[simp] theorem xeBranch_ne_chanCode (n : Fin 8) (c : Integrated) : xeBranch n ≠ chanCode c := by
  cases c <;> simp only [chanCode, xeBranch, ne_eq, Fin.ext_iff] <;> omega

/-! ## Whether a branch is on -/

@[simp] theorem Dev.branchOn_railBranch (d : Dev) (r : Rail) : d.branchOn (railBranch r) = d.railOn r := by
  simp [Dev.branchOn]

@[simp] theorem Dev.branchOn_chanCode (d : Dev) (c : Integrated) : d.branchOn (chanCode c) = (d.chan c).on := by
  simp [Dev.branchOn]

@[simp] theorem Dev.branchOn_xeBranch (d : Dev) (n : Fin 8) : d.branchOn (xeBranch n) = d.integ.xe[n].en := by
  simp [Dev.branchOn]

theorem Dev.branchOn_congr {d d' : Dev} (hrail : ∀ r, d'.railOn r = d.railOn r) (hinteg : d'.integ = d.integ) :
    d'.branchOn = d.branchOn := by
  have hchan : ∀ c, d'.chan c = d.chan c := fun c => by cases c <;> simp only [Dev.chan, hinteg]
  funext b
  simp only [Dev.branchOn, hrail, hchan, hinteg]

/-- No transition, order or record of the fault collector is one of the parts that say whether a branch is on. -/
theorem Dev.branchOn_faultFree : Dev.FaultFree Dev.branchOn where
  seq' _ _ := rfl
  judgeAll _ _ := rfl
  casc' _ _ := rfl
  jour' _ _ := rfl
  wdh' _ _ := rfl
  port' d p f := by cases p <;> rfl
  test' _ _ := rfl
  out _ _ := rfl
  power' _ _ := rfl
  clk' _ _ := rfl
  path' _ _ := rfl
  chg' _ _ := rfl
  gauge' _ _ := rfl
  th' _ _ := rfl
  conv' _ _ := rfl
  timer' _ _ _ := rfl
  faults' _ _ := rfl
  nv' _ _ := rfl
  life' _ _ := rfl
  setLive _ _ _ _ := rfl

@[simp] theorem Dev.judge'_branchOn (d : Dev) (b : Branch) (f : BranchJ → BranchJ) : (d.judge' b f).branchOn = d.branchOn := rfl
@[simp] theorem Dev.ph'_branchOn (d : Dev) (p : Phase) (f : PhaseSt → PhaseSt) : (d.ph' p f).branchOn = d.branchOn := rfl
@[simp] theorem Dev.setFiring_branchOn (d : Dev) (p : Phase) (x : Firing) : (d.setFiring p x).branchOn = d.branchOn := rfl

/-- Whether a rail in a mode is on. -/
def RailMode.isOn (m : RailMode) : Bool := m = .softStart || m = .regulating

theorem Dev.railOn_eq (d : Dev) (r : Rail) : d.railOn r = d.grove.rail[r].mode.isOn := rfl

theorem Dev.rail'_railOn (d : Dev) (r s : Rail) (f : RailSt → RailSt) :
    (d.rail' r f).railOn s = if r = s then (f d.grove.rail[s]).mode.isOn else d.railOn s := by
  rw [Dev.railOn_eq, Dev.railOn_eq]
  have hget : (d.rail' r f).grove.rail[s] = if r = s then f d.grove.rail[s] else d.grove.rail[s] := upd_get _ _ _ _
  rw [hget]
  split_ifs <;> rfl

theorem Dev.rail'_branchOn_of_mode {d : Dev} {r : Rail} {f : RailSt → RailSt} (h : ∀ x, (f x).mode = x.mode) :
    (d.rail' r f).branchOn = d.branchOn := by
  refine Dev.branchOn_congr (fun s => ?_) rfl
  rw [Dev.rail'_railOn, h, ← Dev.railOn_eq, ite_self]

@[simp] theorem Dev.lp'_branchOn (d : Dev) (r : Rail) (f : Loop → Loop) : (d.lp' r f).branchOn = d.branchOn :=
  Dev.rail'_branchOn_of_mode fun _ => rfl

@[simp] theorem Dev.pl'_branchOn (d : Dev) (r : Rail) (f : Placement → Placement) : (d.pl' r f).branchOn = d.branchOn :=
  Dev.rail'_branchOn_of_mode fun _ => rfl

theorem Dev.grove'_branchOn {d : Dev} {f : Grove → Grove} (h : (f d.grove).rail = d.grove.rail) : (d.grove' f).branchOn = d.branchOn :=
  Dev.branchOn_congr (fun r => by simp [Dev.railOn, h]) rfl

/-- Of a rail that goes off, only its own branch is no longer on. -/
theorem Dev.rail'_branchOn_off {d : Dev} {r : Rail} {f : RailSt → RailSt} (h : ∀ x, (f x).mode.isOn = false) (b : Branch) :
    (d.rail' r f).branchOn b = (d.branchOn b && decide (b ≠ railBranch r)) := by
  obtain ⟨s, rfl⟩ | ⟨c, rfl⟩ | ⟨n, rfl⟩ := branch_cases b
  · rw [Dev.branchOn_railBranch, Dev.rail'_railOn]
    by_cases hs : r = s
    · simp [hs, h]
    · simp [hs, Ne.symm hs]
  · cases c <;> simp [Dev.chan, Dev.rail']
  · simp [Dev.rail']

theorem Dev.branchOn_of_off {d : Dev} {b : Branch} (h : d.branchOn b = false) (x : Branch) :
    d.branchOn x = (d.branchOn x && decide (x ≠ b)) := by
  by_cases hx : x = b
  · simp [hx, h]
  · simp [hx]

/-! ## Phases and insertions (R106, R129) -/

@[simp] theorem Dev.abortTuning_branchOn (d : Dev) (t : Nat) (r : Rail) (outcome : Nat) :
    (d.abortTuning t r outcome).branchOn = d.branchOn := by
  unfold Dev.abortTuning
  split
  · rfl
  · split
    · rfl
    · dsimp only
      rw [Dev.lp'_branchOn, Dev.grove'_branchOn rfl]
      exact Dev.when_keeps Dev.branchOn _ _ _ (Dev.branchOn_faultFree.logEvent _ _ _ _ _ _)

@[simp] theorem Dev.minimumCheck_branchOn (d : Dev) (t : Nat) (r : Rail) : (d.minimumCheck t r).branchOn = d.branchOn := by
  unfold Dev.minimumCheck
  split
  · rw [Dev.branchOn_faultFree.keepWake, Dev.branchOn_faultFree.recordNew]
    exact Dev.rail'_branchOn_of_mode fun _ => rfl
  · rfl

@[simp] theorem Dev.retireKeeping_branchOn (d : Dev) (t : Nat) (p : Phase) (reason : Nat) (place : Bool) :
    (d.retireKeeping t p reason place).branchOn = d.branchOn := by
  unfold Dev.retireKeeping
  split
  · rfl
  · dsimp only
    split
    · rw [Dev.minimumCheck_branchOn, Dev.branchOn_faultFree.recordNew, Dev.pl'_branchOn, Dev.grove'_branchOn rfl, Dev.ph'_branchOn]
    · rw [Dev.branchOn_faultFree.recordNew, Dev.pl'_branchOn, Dev.grove'_branchOn rfl, Dev.ph'_branchOn]

@[simp] theorem Dev.retirePhase_branchOn (d : Dev) (t : Nat) (p : Phase) (reason : Nat) :
    (d.retirePhase t p reason).branchOn = d.branchOn := d.retireKeeping_branchOn t p reason false

@[simp] theorem Dev.retireAfter_branchOn (d : Dev) (t : Nat) (retiring : Option Nat) (reason : Nat) :
    (d.retireAfter t retiring reason).branchOn = d.branchOn := by
  refine foldl_keeps Dev.branchOn _ (fun d p => ?_) _ d
  split
  · exact d.retirePhase_branchOn t p reason
  · rfl

@[simp] theorem Dev.joinList_branchOn (d : Dev) (t : Nat) (r : Rail) (p : Phase) (replaces : Option Nat) (x : Firing) :
    (d.joinList t r p replaces x).branchOn = d.branchOn := by
  unfold Dev.joinList
  rw [Dev.pl'_branchOn, Dev.grove'_branchOn rfl, Dev.setFiring_branchOn, Dev.ph'_branchOn]

@[simp] theorem Dev.insertOff_branchOn (d : Dev) (t : Nat) (r : Rail) (o : Owed) : (Dev.insertOff t r d o).branchOn = d.branchOn := by
  unfold Dev.insertOff
  split
  · rw [Dev.retireAfter_branchOn, Dev.joinList_branchOn]
  · exact Dev.pl'_branchOn _ _ _

@[simp] theorem Dev.settleInsertions_branchOn (d : Dev) (t : Nat) (r : Rail) : (d.settleInsertions t r).branchOn = d.branchOn := by
  unfold Dev.settleInsertions
  refine (foldl_keeps Dev.branchOn _ (fun d o => d.insertOff_branchOn t r o) _ _).trans ?_
  split
  · exact Dev.pl'_branchOn _ _ _
  · split
    · rw [Dev.retireAfter_branchOn, Dev.pl'_branchOn]
    · rw [Dev.insertOff_branchOn, Dev.pl'_branchOn]

@[simp] theorem Dev.phasesMid_branchOn (d : Dev) (t : Nat) (r : Rail) : (d.phasesMid t r).branchOn = d.branchOn := by
  refine foldl_keeps Dev.branchOn _ (fun d p => ?_) _ d
  dsimp only
  split
  · exact d.retirePhase_branchOn t p _
  · rfl

/-! ## Turning off (R172, R173, R216, R223) -/

theorem Dev.fastOffRail_branchOn (d : Dev) (t : Nat) (r : Rail) (b : Branch) :
    (d.fastOffRail t r).branchOn b = (d.branchOn b && decide (b ≠ railBranch r)) := by
  unfold Dev.fastOffRail
  dsimp only
  split
  · rename_i h
    exact Dev.branchOn_of_off (by rw [Dev.branchOn_railBranch, Dev.railOn_eq, h]; rfl) b
  · rw [Dev.judge'_branchOn, Dev.settleInsertions_branchOn, Dev.rail'_branchOn_off (fun _ => rfl), Dev.phasesMid_branchOn,
      Dev.abortTuning_branchOn]

theorem Dev.turnOffRail_branchOn (d : Dev) (t : Nat) (r : Rail) (b : Branch) :
    (d.turnOffRail t r).branchOn b = (d.branchOn b && decide (b ≠ railBranch r)) := by
  unfold Dev.turnOffRail
  split
  · rename_i h
    exact Dev.branchOn_of_off (by simpa using h) b
  · split
    · exact d.fastOffRail_branchOn t r b
    · dsimp only
      rw [Dev.judge'_branchOn, Dev.rail'_branchOn_off (fun _ => rfl), Dev.abortTuning_branchOn]

theorem Dev.chan'_chan (d : Dev) (c e : Integrated) (f : ChanSt → ChanSt) :
    (d.chan' c f).chan e = if c = e then f (d.chan e) else d.chan e := by
  cases c with
  | ib m => cases e with
    | ib n => simpa [Dev.chan', Dev.chan, Dev.ib'] using upd_get d.integ.ib m n f
    | ld n => simp [Dev.chan', Dev.chan, Dev.ib']
  | ld m => cases e with
    | ib n => simp [Dev.chan', Dev.chan, Dev.ld']
    | ld n => simpa [Dev.chan', Dev.chan, Dev.ld'] using upd_get d.integ.ld m n f

theorem Dev.turnOffChan_branchOn (d : Dev) (c : Integrated) (b : Branch) :
    (d.turnOffChan c).branchOn b = (d.branchOn b && decide (b ≠ chanCode c)) := by
  unfold Dev.turnOffChan
  split
  · rename_i h
    exact Dev.branchOn_of_off (by simpa using h) b
  · dsimp only
    rw [Dev.judge'_branchOn]
    obtain ⟨r, rfl⟩ | ⟨e, rfl⟩ | ⟨n, rfl⟩ := branch_cases b
    · cases c <;> simp [Dev.railOn, Dev.chan', Dev.ib', Dev.ld', (chanCode_ne_railBranch _ _).symm]
    · rw [Dev.branchOn_chanCode, Dev.chan'_chan]
      by_cases he : c = e
      · simp [he, ChanSt.stopped]
      · simp [he, Ne.symm he]
    · cases c <;> simp [Dev.chan', Dev.ib', Dev.ld']

theorem Dev.turnOffXe_branchOn (d : Dev) (n : Fin 8) (b : Branch) :
    (d.turnOffXe n).branchOn b = (d.branchOn b && decide (b ≠ xeBranch n)) := by
  unfold Dev.turnOffXe
  split
  · rename_i h
    exact Dev.branchOn_of_off (by simpa using h) b
  · dsimp only
    rw [Dev.judge'_branchOn]
    obtain ⟨r, rfl⟩ | ⟨c, rfl⟩ | ⟨m, rfl⟩ := branch_cases b
    · simp [Dev.railOn, Dev.xe', (xeBranch_ne_railBranch _ _).symm]
    · cases c <;> simp [Dev.chan, Dev.xe', (xeBranch_ne_chanCode _ _).symm]
    · rw [Dev.branchOn_xeBranch, Dev.xe'_integ, upd_get]
      by_cases hm : n = m
      · simp [hm]
      · simp [hm, Ne.symm hm]

/-- Turning a branch off leaves every other branch as it was. -/
theorem Dev.turnOff_branchOn (d : Dev) (t : Nat) (b x : Branch) :
    (d.turnOff t b).branchOn x = (d.branchOn x && decide (x ≠ b)) := by
  unfold Dev.turnOff
  obtain ⟨r, rfl⟩ | ⟨c, rfl⟩ | ⟨n, rfl⟩ := branch_cases b
  · rw [byBranch_railBranch, Dev.turnOffRail_branchOn]
  · rw [byBranch_chanCode, Dev.turnOffChan_branchOn]
  · rw [byBranch_xeBranch, Dev.turnOffXe_branchOn]

theorem Dev.fastOff_branchOn (d : Dev) (t : Nat) (b x : Branch) :
    (d.fastOff t b).branchOn x = (d.branchOn x && decide (x ≠ b)) := by
  unfold Dev.fastOff
  obtain ⟨r, rfl⟩ | ⟨c, rfl⟩ | ⟨n, rfl⟩ := branch_cases b
  · rw [byBranch_railBranch, Dev.fastOffRail_branchOn]
  · rw [byBranch_chanCode, Dev.turnOffChan_branchOn]
  · rw [byBranch_xeBranch, Dev.turnOffXe_branchOn]

/-- A fast-off of a mask turns off the branches that the mask names, and no other. -/
theorem Dev.fastOffMask_branchOn (d : Dev) (t m : Nat) (x : Branch) :
    (d.fastOffMask t m).branchOn x = (d.branchOn x && !inMask m x) := by
  have hfold : ∀ (l : List Branch) (d : Dev), (l.foldl (fun d b => d.fastOff t b) d).branchOn x = (d.branchOn x && decide (x ∉ l)) := by
    intro l
    induction l with
    | nil => simp
    | cons b l ih =>
      intro d
      rw [List.foldl_cons, ih, Dev.fastOff_branchOn]
      simp [Bool.and_assoc]
  rw [Dev.fastOffMask, hfold]
  simp [allBranches]

/-! ## The raising of a source turns no branch on -/

/-- Every branch that is on was on before. -/
def Dev.TurnsNoneOn (d d' : Dev) : Prop := ∀ b, d'.branchOn b = true → d.branchOn b = true

namespace Dev.TurnsNoneOn
variable {d d' d'' : Dev}

theorem of_eq (h : d'.branchOn = d.branchOn) : d.TurnsNoneOn d' := fun b hb => by rwa [h] at hb
theorem refl (d : Dev) : d.TurnsNoneOn d := of_eq rfl
theorem trans (h : d.TurnsNoneOn d') (h' : d'.TurnsNoneOn d'') : d.TurnsNoneOn d'' := fun b hb => h b (h' b hb)
theorem off (h : d.TurnsNoneOn d') {b : Branch} (hb : d.branchOn b = false) : d'.branchOn b = false := by
  by_contra hon
  rw [h b (by simpa using hon)] at hb
  contradiction

end Dev.TurnsNoneOn

theorem Dev.turnOff_turnsNoneOn (d : Dev) (t : Nat) (b : Branch) : d.TurnsNoneOn (d.turnOff t b) := fun x hx => by
  rw [Dev.turnOff_branchOn] at hx
  exact Bool.and_elim_left hx

theorem Dev.fastOffMask_turnsNoneOn (d : Dev) (t m : Nat) : d.TurnsNoneOn (d.fastOffMask t m) := fun x hx => by
  rw [Dev.fastOffMask_branchOn] at hx
  exact Bool.and_elim_left hx

theorem Dev.escalateEffect_turnsNoneOn (d : Dev) (t src code : Nat) : d.TurnsNoneOn (d.escalateEffect t src code) := by
  have hg := Dev.branchOn_faultFree
  unfold Dev.escalateEffect
  dsimp only
  split
  · split
    · exact (Dev.TurnsNoneOn.of_eq (hg.loseTargets _ _)).trans ((Dev.turnOff_turnsNoneOn _ _ _).trans (.of_eq (hg.settle _)))
    · exact .refl d
  · exact .of_eq (hg.disableCharger d t)
  · exact .of_eq (hg.safeReaction d t _)
  · exact (Dev.TurnsNoneOn.of_eq (hg.loseBranches _ _)).trans ((Dev.fastOffMask_turnsNoneOn _ _ _).trans
      (.of_eq ((hg.safeReaction _ _ _).trans (hg.settle _))))
  · split
    · exact .of_eq (hg.seq' _ _)
    · exact .of_eq (hg.startShip d t)
  · exact .refl d

theorem Dev.escalate_turnsNoneOn (d : Dev) (t src : Nat) : d.TurnsNoneOn (d.escalate t src) := by
  have hg := Dev.branchOn_faultFree
  unfold Dev.escalate
  dsimp only
  split
  · exact .of_eq ((hg.faults' _ _).trans ((hg.faults' _ _).trans (hg.src' _ _ _)))
  · exact (Dev.TurnsNoneOn.of_eq ((hg.logEscalation _ _ _ _).trans ((hg.faults' _ _).trans (hg.src' _ _ _)))).trans
      (Dev.escalateEffect_turnsNoneOn _ _ _ _)

theorem Dev.raise_turnsNoneOn (d : Dev) (t src reason : Nat) : d.TurnsNoneOn (d.raise t src reason) := by
  have hg := Dev.branchOn_faultFree
  have hrecord : ((d.record t src reason false).faultWake t src).branchOn = d.branchOn :=
    (hg.faultWake _ _ _).trans (hg.record _ _ _ _ _)
  unfold Dev.raise Dev.raiseAs
  split
  · exact .refl d
  split
  · exact .of_eq (hg.faultWake d t src)
  dsimp only
  split
  · exact (Dev.TurnsNoneOn.of_eq ((hg.broadcast _).trans hrecord)).trans (Dev.escalate_turnsNoneOn _ _ _)
  · exact .of_eq hrecord

end Sys2Proof.Machine
end

section
/-!
PROOFS. IDLE, the wakes from STANDBY, and TIME.
-/
namespace Sys2Proof.Machine

/-! ## Commands of the core domain and of the whole body -/

/-- A command of the whole body answers what its effect makes of the body. -/
theorem GivesBody.of_on {c : Instr} {s : State} {f : Body → Body} {P : Body → Prop} (hc : exec c s = .next (s.on f)) (h : P (f s.b)) :
    GivesBody c s P := ⟨s.on f, hc, rfl, h⟩

/-- A command of the powered core domain answers what its effect makes of the device. -/
theorem Gives.of_core {c : Instr} {s : State} {f : Nat → Dev → Dev} {P : Dev → Prop} (hc : exec c s = .next (s.core f))
    (hon : s.b.d.power.coreOn = true) (h : P (f s.b.hw.counter s.b.d)) : Gives c s P :=
  GivesBody.of_on (hc.trans (congrArg _ (State.core_powered hon f))) ⟨rfl, rfl, h⟩

/-! ## The wakes from STANDBY (R33, R34) -/

section
variable {d : Dev} (h : d.power.state = .standby)
include h

theorem Dev.wake_standby (t source : Nat) :
    d.wake t source = ((d.power' fun p => { p with wakeSource := source }).goState t .run).wakeRun t := if_pos h

theorem Dev.goState_run_power (t : Nat) : (d.goState t .run).power = { d.power with state := .run, previous := d.power.code, lastTime := t } := by
  simp [Dev.goState, Dev.inRun, Dev.when, h]

theorem Dev.goState_run_clk (t : Nat) : (d.goState t .run).clk = { d.clk with pllLocked := true } := by
  simp [Dev.goState, Dev.inRun, Dev.when, h]

/-- A wake from STANDBY records its source and the state that it ends. -/
theorem Dev.wake_standby_power (t source : Nat) : (d.wake t source).power =
    { d.power with wakeSource := source, state := .run, previous := d.power.code, lastTime := t } := by
  rw [Dev.wake_standby h, Dev.power_orderFree.wakeRun]
  exact Dev.goState_run_power (d := d.power' fun p => { p with wakeSource := source }) h t

/-- A wake from STANDBY locks the root PLL. -/
theorem Dev.wake_standby_clk (t source : Nat) : (d.wake t source).clk = { d.clk with pllLocked := true } := by
  rw [Dev.wake_standby h, Dev.clk_orderFree.wakeRun]
  exact Dev.goState_run_clk (d := d.power' fun p => { p with wakeSource := source }) h t

theorem Dev.canRxWake_standby (p : Port) (t : Nat) : d.canRxWake p t = d.wake t (3 + portNo p) := if_pos (by simp [h])

theorem Dev.cascadeCsyncWake_standby (hrole : d.casc.role ≠ 0) {ns : Nat} (hns : 2000 ≤ ns) (t : Nat) :
    d.cascadeCsyncWake ns t = d.wake t 7 := if_neg (by simp [h, hrole, hns])

/-- A halt asked for in STANDBY takes effect at the wake for the service of WD-C (R562). -/
theorem Dev.standbyWdCWake_haltDue (hrun : d.coresRun = true) (hdue : d.tap.haltDue = true) : d.standbyWdCWake = d.haltCores := by
  simp [Dev.standbyWdCWake, h, hrun, hdue]

theorem Dev.standbyWdCWake_serviced (hrun : d.coresRun = true) (hdue : d.tap.haltDue = false) :
    d.standbyWdCWake = { d with wdc := { d.wdc with first := false } } := by
  simp [Dev.standbyWdCWake, h, hrun, hdue]

end

/-! ## IDLE (R30) and TIME (R47) -/

theorem Dev.indicesWhere_eq_nil {d : Dev} {p : Entry → Bool} (h : ∀ e ∈ d.jour.entries, p e = false) : d.indicesWhere p = [] := by
  refine List.filter_eq_nil_iff.2 fun i _ => ?_
  cases he : d.jour.entries[i]? with
  | none => simp
  | some e => simp [h e (List.mem_of_getElem? he)]

theorem Dev.goState_idle_of_run {d : Dev} (h : d.power.state = .run) (t : Nat) :
    d.goState t .idle = { d with power := { d.power with state := .idle, previous := d.power.code, lastTime := t } } := by
  simp [Dev.goState, Dev.when, h]

/-- With no work pending for the cores, RUN passes into IDLE. -/
theorem Dev.idleEntry_of_run {d : Dev} (h : d.power.state = .run) (hrun : d.coresRun = true) (ha : d.portA.sessions = [])
    (hb : d.portB.sessions = []) (hreplay : d.jour.replayDue = false) (hended : ∀ e ∈ d.jour.entries, e.state.ended = true)
    (hprog : d.otp.prog = none) (t : Nat) : d.idleEntry t = d.goState t .idle := by
  have hopen : (d.indicesWhere fun e => !e.state.ended) = [] := Dev.indicesWhere_eq_nil fun e he => by simp [hended e he]
  simp [Dev.idleEntry, h, hrun, ha, hb, hreplay, hopen, hprog]

theorem Power.leaveIdle_state_ne (p : Power) (t : Nat) : (p.leaveIdle t).state ≠ .idle := by
  unfold Power.leaveIdle
  split
  · simp
  · assumption

theorem Dev.timeObject_consumed {d : Dev} {p : Port} (hserved : d.served = true) (hport : (d.port p).consumes = true)
    (hconsumer : (d.nat 0x1012 0).testBit 31 = true) (value t : Nat) : d.timeObject p value t =
      (d.leaveIdle t).clk' fun c => { c with lastTimeValue := value % 2 ^ 48, counterAtTime := t } :=
  if_neg (by simp [hserved, hport, hconsumer])

/-- Settles O26: the two wakes of a port and of CSYNC are one wake with their sources; the other commands take one branch each. -/
theorem wakesComplete : Obligations.WakesComplete := by
  intro s hon
  refine ⟨fun p h => ?_, fun ns h hrole hns => ?_, fun h hrun hdue => ?_, fun h hrun hdue => ?_,
    fun h hrun ha hb hreplay hended hprog => ?_, fun p value hserved hport hconsumer => ?_⟩
  · refine Gives.of_core rfl hon ?_
    rw [Dev.canRxWake_standby h, Dev.wake_standby_power h, Dev.wake_standby_clk h]
    exact ⟨rfl, rfl, rfl, rfl, Dev.wake_still _ _ _⟩
  · refine Gives.of_core rfl hon ?_
    rw [Dev.cascadeCsyncWake_standby h hrole hns, Dev.wake_standby_power h, Dev.wake_standby_clk h]
    exact ⟨rfl, rfl, rfl, Dev.wake_still _ _ _⟩
  · refine Gives.of_core rfl hon ?_
    exact Dev.standbyWdCWake_haltDue h hrun hdue
  · refine Gives.of_core rfl hon ?_
    exact Dev.standbyWdCWake_serviced h hrun hdue
  · refine Gives.of_core rfl hon ?_
    rw [Dev.idleEntry_of_run h hrun ha hb hreplay hended hprog, Dev.goState_idle_of_run h]
  · refine Gives.of_core rfl hon ?_
    rw [Dev.timeObject_consumed hserved hport hconsumer]
    exact ⟨rfl, rfl, Power.leaveIdle_state_ne _ _⟩

end Sys2Proof.Machine
end

section
/-!
PROOFS. The reference and root clocks, the clock of the heartwood domain, and their checks: the sources that they raise.
-/
namespace Sys2Proof.Machine

/-! ## Reading `still` -/

/-- Beside two parts that a command may change in any way, `still` says what it leaves alone. -/
theorem Dev.still_but_clk_casc {d d' : Dev} {c : Clocks} {k : Cascade} (h : d'.still = { d with clk := c, casc := k }.still) :
    d'.still = { d with clk := d'.clk, casc := d'.casc }.still :=
  congrArg (fun x : Dev => { x with clk := d'.clk.still, casc := d'.casc.still }) h

theorem Dev.clk_of_still {d d' : Dev} (h : d'.still = d.still) : d'.clk.still = d.clk.still := congrArg Dev.clk h
theorem Dev.casc_of_still {d d' : Dev} (h : d'.still = d.still) : d'.casc.still = d.casc.still := congrArg Dev.casc h

theorem Dev.role_of_still {d d' : Dev} (h : d'.still = d.still) : d'.casc.role = d.casc.role := by
  change d'.still.casc.role = d.still.casc.role
  rw [h]

/-! ## A source that is sticky stays so while another is raised -/

theorem Dev.record_kept (d : Dev) (t src reason : Nat) (started : Bool) (h : d.sticky src = false) :
    d.Kept (d.record t src reason started) := fun n hn => by
  have hne : n ≠ src := fun e => by simp [e, h] at hn
  rw [Dev.srcState_of_src (d.record_src t src reason started), Dev.src'_srcState_ne _ _ _ _ hne]

/-- An escalation changes the state of its own source alone. -/
theorem Dev.escalate_srcState_ne (d : Dev) (t : Nat) {src n : Nat} (hne : n ≠ src) (hn : d.sticky n = true) :
    (d.escalate t src).srcState n = d.srcState n := by
  have hown : ∀ x : Dev, x.faults.src = (d.src' src fun s => { s with state := .escalated }).faults.src →
      x.srcState n = d.srcState n := fun x hx => by
    rw [Dev.srcState_of_src hx, Dev.src'_srcState_ne _ _ _ _ hne]
  unfold Dev.escalate
  dsimp only
  split
  · exact hown _ (by simp)
  · refine (Dev.escalateEffect_kept _ t src _ n ?_).trans (hown _ (by simp))
    unfold Dev.sticky
    rw [hown _ (by simp)]
    exact hn

theorem Dev.raise_kept (d : Dev) (t src reason : Nat) : d.Kept (d.raise t src reason) := by
  unfold Dev.raise Dev.raiseAs
  split
  · exact .refl d
  split
  · exact .of_src (d.faultWake_src t src)
  rename_i h
  have hrecord : d.Kept ((d.record t src reason false).faultWake t src) :=
    (d.record_kept t src reason false (by simpa using h)).then (Dev.faultWake_src _ _ _)
  dsimp only
  split
  · intro n hn
    have hbroadcast := hrecord.then (Dev.broadcast_src _)
    rw [Dev.escalate_srcState_ne _ _ (fun e : n = src => h (e ▸ hn)) (hbroadcast.sticky hn), hbroadcast n hn]
  · exact hrecord

/-! ## The crystal of the reference (R40, R41, R259) -/

/-- A cascade unit on the internal RC changes nothing but its link reason and what FS112 brings. -/
theorem Dev.rcInCascade_still (d : Dev) (t : Nat) : ∃ k, (d.rcInCascade t).still = { d with casc := k }.still := by
  unfold Dev.rcInCascade
  split
  · exact ⟨d.casc, rfl⟩
  · exact ⟨_, Dev.raise_still _ _ _ _⟩

theorem Dev.rcInCascade_kept (d : Dev) (t : Nat) : d.Kept (d.rcInCascade t) := by
  unfold Dev.rcInCascade
  split
  · exact .refl d
  · exact (Dev.raise_kept _ _ _ _).after rfl

theorem Dev.rcInCascade_of_role {d : Dev} (h : d.casc.role ≠ 0) (t : Nat) :
    (d.rcInCascade t).sticky 112 = true ∧ (d.rcInCascade t).casc.linkReason = 4 := by
  rw [Dev.rcInCascade, if_neg h]
  exact ⟨Dev.raise_sticky _ _ _ _ (by decide), congrArg Cascade.linkReason (Dev.casc_of_still (Dev.raise_still _ _ _ _))⟩

/-- What the loss of the reference crystal leaves: FS096, the clocks as `f` makes them, and in a cascade FS112. -/
theorem Dev.crystalFault_spec (d : Dev) (f : Clocks → Clocks) (t : Nat) (d' : Dev)
    (hd' : d' = ((d.clk' f).raise t 96 0).rcInCascade t) :
    d'.still = { d with clk := d'.clk, casc := d'.casc }.still ∧ d'.sticky 96 = true ∧ d'.clk.crystal = (f d.clk).crystal ∧
      d'.clk.crystalWanted = (f d.clk).crystalWanted ∧ (d.casc.role ≠ 0 → d'.sticky 112 = true ∧ d'.casc.linkReason = 4) := by
  have hraise : ((d.clk' f).raise t 96 0).still = (d.clk' f).still := Dev.raise_still _ _ _ _
  obtain ⟨k, hk⟩ := ((d.clk' f).raise t 96 0).rcInCascade_still t
  have hstill : d'.still = { d with clk := f d.clk, casc := k }.still :=
    hd' ▸ hk.trans (congrArg (fun x : Dev => { x with casc := k.still }) hraise)
  have hclk := Dev.clk_of_still hstill
  refine ⟨Dev.still_but_clk_casc hstill, ?_, (congrArg Clocks.crystal hclk :), (congrArg Clocks.crystalWanted hclk :), fun hrole => ?_⟩
  · rw [hd']
    exact (Dev.rcInCascade_kept _ t).sticky (Dev.raise_sticky _ _ _ _ (by decide))
  · rw [hd']
    exact Dev.rcInCascade_of_role (fun h => hrole ((Dev.role_of_still hraise).symm.trans h)) t

/-! ## The root PLL (R42) -/

theorem Dev.pllLockLoss_still (d : Dev) (t : Nat) : (d.pllLockLoss t).still = d.still := by
  unfold Dev.pllLockLoss
  rw [Dev.seqCheck_still, Dev.raise_still, Dev.settle_still, Dev.fastOffMask_still, Dev.loseBranches_still]
  exact Dev.clk'_still _ _ rfl

theorem Dev.pllLockLoss_sticky (d : Dev) (t : Nat) : (d.pllLockLoss t).sticky 97 = true := by
  unfold Dev.pllLockLoss
  rw [Dev.seqCheck_sticky]
  exact Dev.raise_sticky _ _ _ _ (by decide)

/-- The fast-off takes every rail, and nothing that follows turns one on. -/
theorem Dev.pllLockLoss_railOff (d : Dev) (t : Nat) (r : Rail) : (d.pllLockLoss t).branchOn (railBranch r) = false := by
  have hmask : inMask 0xFF (railBranch r) = true := by
    revert r
    decide
  unfold Dev.pllLockLoss
  rw [Dev.branchOn_faultFree.seqCheck]
  refine (Dev.raise_turnsNoneOn _ _ _ _).off ?_
  rw [Dev.branchOn_faultFree.settle, Dev.fastOffMask_branchOn, hmask]
  simp

/-! ## The check of WDOSC (R43) -/

theorem Dev.src'_eq (d : Dev) (n : Nat) (f : FaultSrc → FaultSrc) : d.src' n f = { d with faults := (d.src' n f).faults } := by
  unfold Dev.src'
  split <;> rfl

theorem Dev.src'_retrying {n : Nat} (h : n < 128) (d : Dev) (f : FaultSrc → FaultSrc) :
    (d.src' n f).retrying n = (f d.faults.src[n]).retrying := by
  simp only [Dev.src', Dev.retrying, h, dif_pos, Dev.faults'_faults]
  exact congrArg FaultSrc.retrying (upd_val d.faults.src ⟨n, h⟩ f)

theorem Dev.retrying_of_src {d d' : Dev} (h : d'.faults.src = d.faults.src) (n : Nat) : d'.retrying n = d.retrying n := by
  unfold Dev.retrying
  rw [h]

/-- A fault record queues its log record, and ends IDLE. -/
theorem Dev.logFault_eq (d : Dev) (t kind src cls reason esc : Nat) (data : List Nat) : ∃ f n,
    d.logFault t kind src cls reason esc data = { d with power := d.power.leaveIdle t, faults := f, nv := n } ∧
      f.transient = d.faults.transient ∧ f.src = d.faults.src := by
  unfold Dev.logFault Dev.log
  dsimp only
  split <;> exact ⟨_, _, rfl, rfl, rfl⟩

/-- The nFAULT pulse and the emergency message of an event are in the fault collector, and leave its sources and counts alone. -/
theorem Dev.signalled_eq (d : Dev) (nfc emc : Bool) (e : Dev → Emcy) : ∃ f,
    (d.when nfc Dev.nfPulse).when emc (fun d => d.emcy (e d)) = { d with faults := f } ∧
      f.transient = d.faults.transient ∧ f.src = d.faults.src := by
  cases nfc <;> cases emc <;> exact ⟨_, rfl, rfl, rfl⟩

/-- A transient event of a source that is not sticky is counted and recorded, and its retry is over (R435). -/
theorem Dev.transient_eq {d : Dev} {src : Nat} (h : d.sticky src = false) (t reason : Nat) : ∃ f n,
    d.transient t src reason = { d with power := d.power.leaveIdle t, faults := f, nv := n } ∧
      f.transient = satInc 32 d.faults.transient ∧
      f.src = (d.src' src fun s => { s with count := satInc 16 s.count, retrying := false }).faults.src := by
  unfold Dev.transient
  rw [if_neg (by simp [h]), Dev.src'_eq]
  dsimp only
  obtain ⟨f, n, hlog, hlogTransient, hlogSrc⟩ := Dev.logFault_eq (Dev.faults' _ _) t 0x02 src 3 reason 0xFF _
  obtain ⟨f', hsignal, htransient, hsrc⟩ := Dev.signalled_eq _ _ _ fun d => ⟨0xFF00 + src, d.errorRegister, 3, reason, t % 2 ^ 24⟩
  refine ⟨f', n, hsignal.trans ?_, ?_, ?_⟩
  · rw [hlog]
    rfl
  · rw [htransient, hlog, hlogTransient]
    unfold Dev.src'
    split <;> rfl
  · rw [hsrc, hlog, hlogSrc]
    rfl

/-- What a retry that succeeds leaves: its source no longer awaits it, and one more transient event. -/
theorem Dev.transient_retried {d : Dev} {src : Nat} (hsrc : src < 128) (h : d.sticky src = false) (t reason : Nat) :
    (d.transient t src reason).retrying src = false ∧
      (d.transient t src reason).faults.transient = satInc 32 d.faults.transient ∧
      ∃ f n, d.transient t src reason = { d with power := d.power.leaveIdle t, faults := f, nv := n } := by
  obtain ⟨f, n, heq, htransient, hsources⟩ := Dev.transient_eq h t reason
  rw [heq]
  refine ⟨?_, htransient, f, n, rfl⟩
  rw [Dev.retrying_of_src hsources, Dev.src'_retrying hsrc]

@[simp] theorem Dev.clk'_retrying (d : Dev) (f : Clocks → Clocks) (n : Nat) : (d.clk' f).retrying n = d.retrying n := rfl
@[simp] theorem Dev.clk'_sticky (d : Dev) (f : Clocks → Clocks) (n : Nat) : (d.clk' f).sticky n = d.sticky n := rfl

section
variable {d : Dev} (hstate : d.power.state ≠ .standby) {count : Nat} (t : Nat)
include hstate

theorem Dev.wdoscCrossCheck_first (hbad : count < 96 ∨ 160 < count) (hretry : d.retrying 98 = false) (hsticky : d.sticky 98 = false) :
    d.wdoscCrossCheck count t = (d.clk' fun c => { c with wdoscCount := count }).awaitRetry 98 := by
  simp [Dev.wdoscCrossCheck, hstate, hbad, hretry, hsticky]

theorem Dev.wdoscCrossCheck_second (hbad : count < 96 ∨ 160 < count) (hretry : d.retrying 98 = true) :
    d.wdoscCrossCheck count t = { d with clk := { d.clk with wdoscCount := count, measuring := true } } := by
  simp only [Dev.wdoscCrossCheck, hstate, hbad, hretry, Dev.clk'_retrying, gt_iff_lt, if_true, if_false, Bool.or_eq_true,
    decide_eq_true_eq]
  rfl

theorem Dev.wdoscCrossCheck_good (hlo : 96 ≤ count) (hhi : count ≤ 160) (hretry : d.retrying 98 = false) :
    d.wdoscCrossCheck count t = d.clk' fun c => { c with wdoscCount := count } := by
  simp [Dev.wdoscCrossCheck, hstate, Nat.not_lt.2 hlo, Nat.not_lt.2 hhi, hretry]

theorem Dev.wdoscCrossCheck_retried (hlo : 96 ≤ count) (hhi : count ≤ 160) (hretry : d.retrying 98 = true)
    (hmeasuring : d.clk.measuring = false) :
    d.wdoscCrossCheck count t = (d.clk' fun c => { c with wdoscCount := count }).transient t 98 0 := by
  simp [Dev.wdoscCrossCheck, hstate, Nat.not_lt.2 hlo, Nat.not_lt.2 hhi, hretry, hmeasuring]

end

/-! ## The deviation measurement (R44) -/

/-- The source that an event of class C or U raises, where it is clear: what Table 17-1 records of it. -/
theorem Dev.raise_src {d : Dev} {src : Nat} (hsrc : src < 120) (hclass : sourceClass src ≠ classF) (h : d.sticky src = false)
    (t reason : Nat) : (d.raise t src reason).faults.src = (d.src' src fun s =>
      { s with state := d.raisedState src false, reason := reason, count := satInc 16 s.count, retrying := false }).faults.src := by
  unfold Dev.raise Dev.raiseAs
  rw [if_neg (by omega), if_neg (by simp [h])]
  dsimp only
  rw [if_neg hclass, Dev.faultWake_src, Dev.record_src]

theorem Dev.clockDeviation_measured {d : Dev} (h : d.clk.measuring = true) (wdosc bclk t : Nat) : d.clockDeviation wdosc bclk t =
    ((d.clk' fun c => { c with measuring := false }).raise t 98 (deviating wdosc bclk)).seqCheck t := by
  simp [Dev.clockDeviation, h]

theorem Dev.clockDeviation_reason {d : Dev} (h : d.clk.measuring = true) (hsticky : d.sticky 98 = false) (wdosc bclk t : Nat) :
    (d.clockDeviation wdosc bclk t).faults.src[98].reason = deviating wdosc bclk := by
  have hsrc : (d.clockDeviation wdosc bclk t).faults.src =
      ((d.clk' fun c => { c with measuring := false }).raise t 98 (deviating wdosc bclk)).faults.src := by
    rw [Dev.clockDeviation_measured h, Dev.seqCheck_src]
  rw [Dev.raise_src (d := d.clk' _) (by decide) (by decide) hsticky] at hsrc
  simp only [hsrc, Dev.src', Nat.reduceLT, dif_pos, Dev.faults'_faults]
  exact congrArg FaultSrc.reason (upd_val d.faults.src ⟨98, by decide⟩ _)

theorem clocksComplete_core : ClocksComplete := by
  intro s hon
  refine ⟨fun us hw hus => ?_, fun us hw hus => ?_, fun hc => ?_, ?_, fun count hst hbad hr hk => ?_, fun count hst hbad hr => ?_,
    fun count hst hlo hhi hr => ?_, fun count hst hlo hhi hr hm hk => ?_, fun wdosc bclk hm => ?_⟩
  · refine Gives.of_core rfl hon ?_
    exact if_pos (by simp [hw, hus])
  · refine Gives.of_core rfl hon ?_
    obtain ⟨hstill, hsticky, hcrystal, hwanted, hcascade⟩ := s.b.d.crystalFault_spec (fun c => { c with crystalWanted := false }) s.b.hw.counter _ rfl
    rw [Dev.crystalStartTimeout, if_pos (by simp [hw, hus])]
    exact ⟨hstill, hsticky, hwanted, hcrystal, hcascade⟩
  · refine Gives.of_core rfl hon ?_
    obtain ⟨hstill, hsticky, hcrystal, hwanted, hcascade⟩ := s.b.d.crystalFault_spec (fun c => { c with crystal := false }) s.b.hw.counter _ rfl
    rw [Dev.crystalStop, if_pos hc]
    exact ⟨hstill, hsticky, hcrystal, hcascade⟩
  · exact Gives.of_core rfl hon ⟨Dev.pllLockLoss_still _ _, Dev.pllLockLoss_sticky _ _, Dev.pllLockLoss_railOff _ _⟩
  · refine Gives.of_core rfl hon ?_
    rw [Dev.wdoscCrossCheck_first hst _ hbad hr hk]
    exact ⟨Dev.src'_eq _ _ _, Dev.src'_retrying (by decide) _ _⟩
  · exact Gives.of_core rfl hon (Dev.wdoscCrossCheck_second hst _ hbad hr)
  · exact Gives.of_core rfl hon (Dev.wdoscCrossCheck_good hst _ hlo hhi hr)
  · refine Gives.of_core rfl hon ?_
    rw [Dev.wdoscCrossCheck_retried hst _ hlo hhi hr hm]
    obtain ⟨hretried, hcount, f, n, heq⟩ := Dev.transient_retried (d := s.b.d.clk' fun c => { c with wdoscCount := count })
      (src := 98) (by decide) hk s.b.hw.counter 0
    refine ⟨hretried, hcount, .inr ?_, ?_⟩ <;> rw [heq] <;> rfl
  · refine Gives.of_core rfl hon ?_
    have hstill : (s.b.d.clockDeviation wdosc bclk s.b.hw.counter).still =
        { s.b.d with clk := { s.b.d.clk with measuring := false } }.still := by
      rw [Dev.clockDeviation_measured hm, Dev.seqCheck_still, Dev.raise_still]
      rfl
    refine ⟨congrArg Clocks.measuring (Dev.clk_of_still hstill), ?_, fun hk => Dev.clockDeviation_reason hm hk _ _ _, hstill⟩
    rw [Dev.clockDeviation_measured hm, Dev.seqCheck_sticky]
    exact Dev.raise_sticky _ _ _ _ (by decide)

/-! ## The crystal of the heartwood domain (R45, R573) -/

/-- FS099 is raised where the core domain is powered, and nothing happens where it is not. -/
theorem Body.fallback_raised (b : Body) (b' : Body)
    (h : b' = if b.d.power.coreOn then b.onDev fun t d => d.raise t 99 0 else b) :
    b'.hw = b.hw ∧ b'.host = b.host ∧ b'.d.still = b.d.still ∧ (b.d.power.coreOn = true → b'.d.sticky 99 = true) ∧
      (b.d.power.coreOn = false → b'.d = b.d) := by
  subst h
  cases hon : b.d.power.coreOn with
  | true => exact ⟨rfl, rfl, Dev.raise_still _ _ _ _, fun _ => Dev.raise_sticky _ _ _ _ (by decide), nofun⟩
  | false => exact ⟨rfl, rfl, rfl, nofun, fun _ => rfl⟩

theorem heartwoodClockComplete : HeartwoodClockComplete := by
  refine fun s => ⟨fun hp hrun => ?_, fun us hp hf hus => ?_, fun us hp hrun hus => ?_⟩
  · refine GivesBody.of_on rfl ?_
    rw [heartwoodCrystalStop, if_neg (by simp [hp, hrun])]
    exact Body.fallback_raised { s.b with hw := { s.b.hw with crystalRunning := false, fallback := true } } _ rfl
  · refine GivesBody.of_on rfl ?_
    exact if_neg (by simp [hp, hf, hus])
  · refine GivesBody.of_on rfl ?_
    rw [heartwoodCrystalTimeout, if_neg (by simp [hp, hrun, hus])]
    exact Body.fallback_raised { s.b with hw := { s.b.hw with fallback := true } } _ rfl

/-- Settles O25: a lost crystal and a fallback raise their sources, a lost lock turns every rail off, and the check of WDOSC has a
clause for each of its outcomes. -/
theorem clocksComplete : Obligations.ClocksComplete := ⟨clocksComplete_core, heartwoodClockComplete⟩

end Sys2Proof.Machine
end

section
/-!
PROOFS. The heartwood power-on reset, the brown-out reset and the device power-on reset.
-/
namespace Sys2Proof.Machine

/-! ## The core domain without supply (R16, R59, Table 2-7) -/

theorem PhaseSt.kept_kept (x : PhaseSt) : x.kept.kept = x.kept := rfl

/-- What a loss of the supply leaves has nothing more to lose. -/
theorem Dev.unpowered_unpowered (d : Dev) : d.unpowered.unpowered = d.unpowered := by
  cases h : d.power.brownOut <;> simp +contextual [Dev.unpowered, Dev.kept, Life.wholeHours, PhaseSt.kept_kept, h]

/-- No branch of a device as it starts is on. -/
theorem Dev.default_branchOn : ∀ b, ({} : Dev).branchOn b = false := by
  decide

theorem Dev.kept_branchOn (d : Dev) (b : Branch) : d.kept.branchOn b = false := Dev.default_branchOn b

theorem Dev.unpowered_of_unpowered (d : Dev) : Unpowered d.unpowered :=
  ⟨d.unpowered_unpowered.symm, rfl, rfl, d.kept_branchOn⟩

theorem Dev.off_unpowered (d : Dev) : d.off.unpowered = d.off := by
  have hpath : ∀ x : Dev, (x.path' fun p => { p with dcinValid := false, batValid := false }).unpowered =
      x.unpowered.path' fun p => { p with dcinValid := false, batValid := false } := fun _ => rfl
  rw [Dev.off, hpath, Dev.unpowered_unpowered]

theorem Dev.unpowered_of_off (d : Dev) : Unpowered d.off := ⟨d.off_unpowered.symm, rfl, rfl, d.kept_branchOn⟩

/-! ## The heartwood power-on reset (R66, R86) -/

theorem heartwoodReset_falls {dcin bat : Nat} {b : Body} (h : max dcin bat < 8000) (hp : b.hw.powered = true) :
    heartwoodReset dcin bat b = { b with hw := b.hw.resets false, d := b.d.off } := if_pos ⟨h, hp⟩

theorem heartwoodReset_rises {dcin bat : Nat} {b : Body} (h : 10000 < max dcin bat) (hp : b.hw.powered = false) :
    heartwoodReset dcin bat b = { b with hw := { b.hw with powered := true } } := by
  simp only [heartwoodReset, heartwoodResetMv, heartwoodStartMv, hp, h]
  simp

theorem heartwoodReset_between {dcin bat : Nat} {b : Body}
    (h : (b.hw.powered = true ∧ 8000 ≤ max dcin bat) ∨ (b.hw.powered = false ∧ max dcin bat ≤ 10000)) :
    heartwoodReset dcin bat b = b := by
  unfold heartwoodReset heartwoodResetMv heartwoodStartMv
  dsimp only
  obtain ⟨hp, h⟩ | ⟨hp, h⟩ := h
  · rw [if_neg (by simp only [hp]; omega), if_neg (by simp [hp])]
  · rw [if_neg (by simp [hp]), if_neg (by simp only [hp]; omega)]

/-! ## The brown-out reset (R37, R82) -/

theorem Dev.noteHoldup_eq (d : Dev) (t : Nat) : d.noteHoldup t = d.path' fun p => { p with
    holdupUs := if d.power.state = .holdup then (t - d.power.holdupEntry) * 1000000 / 32768 else p.holdupUs } := by
  unfold Dev.noteHoldup
  by_cases h : d.power.state = .holdup
  · simp [h]
  · simp [h, Dev.path']

/-- Below its reset level the core domain counts the brown-out, keeps the duration of a HOLDUP and loses its supply. -/
theorem Dev.brownOutReset_low {d : Dev} {mv : Nat} (h : mv < 4200) (hship : d.path.ship ≠ .pastReturn) (t : Nat) :
    d.brownOutReset mv t = (((d.path' fun p => { p with
      holdupUs := if d.power.state = .holdup then (t - d.power.holdupEntry) * 1000000 / 32768 else p.holdupUs }).life'
        fun l => { l with brownOuts := satInc 32 l.brownOuts }).power' fun p => { p with brownOut := true, test := false }).unpowered := by
  rw [Dev.brownOutReset, if_neg (by simp [hship, h]), Dev.noteHoldup_eq]

theorem Dev.brownOutReset_pastReturn {d : Dev} (h : d.path.ship = .pastReturn) (mv t : Nat) : d.brownOutReset mv t = d :=
  if_pos (.inr h)

/-! ## What the device power-on reset rebuilds, and what it keeps -/

/-- What the rebuilding of the core domain leaves as the loss of its supply left it; the straps are sampled first. -/
structure Anchor where
  coreOn : Bool
  straps : Straps
  banks : Vector Bank 2
  words : List (Nat × Nat)
  dcinValid : Bool
  powerOns : Nat
  lifeRecord : Twin Life

/-- The count of power-ons as start-up restores it: that of the copy it uses of the service-life record, if it uses one. -/
def Anchor.restoredPowerOns (a : Anchor) : Nat :=
  match (a.lifeRecord.startUp lifeDefault).1 with
  | some life => life.powerOns
  | none => a.powerOns

theorem Anchor.restoredPowerOns_of_none {a : Anchor} (h : (a.lifeRecord.startUp lifeDefault).1 = none) :
    a.restoredPowerOns = a.powerOns := by
  simp only [Anchor.restoredPowerOns, h]

def Dev.anchor (d : Dev) : Anchor :=
  { coreOn := d.power.coreOn, straps := d.straps, banks := d.nv.banks, words := d.otp.words, dcinValid := d.path.dcinValid
    powerOns := d.life.powerOns, lifeRecord := d.recs.life }

theorem Dev.anchor_of_still {d d' : Dev} (h : d'.still = d.still) : d'.anchor = d.anchor := by
  change d'.still.anchor = d.still.anchor
  rw [h]

/-- A stage of the rebuilding: it keeps the anchor, and turns no branch on. -/
structure Dev.Rebuilt (d d' : Dev) : Prop where
  anchor : d'.anchor = d.anchor
  branches : d.TurnsNoneOn d'

namespace Dev

theorem Rebuilt.of_eq {d d' : Dev} (hanchor : d'.anchor = d.anchor) (hbranches : d'.branchOn = d.branchOn) : d.Rebuilt d' :=
  ⟨hanchor, .of_eq hbranches⟩

theorem Rebuilt.refl (d : Dev) : d.Rebuilt d := .of_eq rfl rfl

theorem Rebuilt.trans {d d' d'' : Dev} (h : d.Rebuilt d') (h' : d'.Rebuilt d'') : d.Rebuilt d'' :=
  ⟨h'.anchor.trans h.anchor, h.branches.trans h'.branches⟩

theorem rebuilt_foldl {α : Type} (f : Dev → α → Dev) (h : ∀ (d : Dev) a, d.Rebuilt (f d a)) (l : List α) (d : Dev) :
    d.Rebuilt (l.foldl f d) := by
  induction l generalizing d with
  | nil => exact .refl d
  | cons a l ih => exact (h d a).trans (ih _)

theorem Rebuilt.when {d : Dev} {f : Dev → Dev} (h : d.Rebuilt (f d)) (c : Bool) : d.Rebuilt (d.when c f) := by
  unfold Dev.when
  split
  · exact h
  · exact .refl d

variable (d : Dev)

theorem raise_rebuilt (t src reason : Nat) : d.Rebuilt (d.raise t src reason) :=
  ⟨anchor_of_still (d.raise_still t src reason), d.raise_turnsNoneOn t src reason⟩

theorem logEvent_rebuilt (t kind subject reason : Nat) (data : List Nat) : d.Rebuilt (d.logEvent t kind subject reason data) :=
  .of_eq (anchor_of_still (d.logEvent_still t kind subject reason data)) (branchOn_faultFree.logEvent d t kind subject reason data)

theorem send_rebuilt (o : Out) : d.Rebuilt (d.send o) := .of_eq (anchor_of_still (d.send_still o)) (branchOn_faultFree.send d o)

theorem chgClear_rebuilt (t reason : Nat) : d.Rebuilt (d.chgClear t reason) :=
  .of_eq (anchor_of_still (d.chgClear_still t reason)) (branchOn_faultFree.chgClear d t reason)

theorem setPhase_rebuilt (t : Nat) (p : ChgPhase) : d.Rebuilt (d.setPhase t p) :=
  .of_eq (anchor_of_still (d.setPhase_still t p)) (branchOn_faultFree.setPhase d t p)

theorem dict'_rebuilt (f : Dict → Dict) : d.Rebuilt (d.dict' f) := .of_eq rfl rfl
theorem clk'_rebuilt (f : Clocks → Clocks) : d.Rebuilt (d.clk' f) := .of_eq rfl rfl
theorem seq'_rebuilt (f : Seq → Seq) : d.Rebuilt (d.seq' f) := .of_eq rfl rfl
theorem chg'_rebuilt (f : Charger → Charger) : d.Rebuilt (d.chg' f) := .of_eq rfl rfl
theorem gauge'_rebuilt (f : Gauge → Gauge) : d.Rebuilt (d.gauge' f) := .of_eq rfl rfl
theorem th'_rebuilt (f : Thermal → Thermal) : d.Rebuilt (d.th' f) := .of_eq rfl rfl
theorem conv'_rebuilt (f : Hkadc → Hkadc) : d.Rebuilt (d.conv' f) := .of_eq rfl rfl
theorem wdh'_rebuilt (f : Wdh → Wdh) : d.Rebuilt (d.wdh' f) := .of_eq rfl rfl
theorem timer'_rebuilt (n : TimerNo) (f : Timer → Timer) : d.Rebuilt (d.timer' n f) := .of_eq rfl rfl
theorem sensor'_rebuilt (n : Fin 28) (f : Sensor → Sensor) : d.Rebuilt (d.sensor' n f) := .of_eq rfl rfl
theorem pool'_rebuilt (f : Pool → Pool) : d.Rebuilt (d.pool' f) := .of_eq rfl rfl
theorem port'_rebuilt (p : Port) (f : PortSt → PortSt) : d.Rebuilt (d.port' p f) := by
  cases p <;> exact .of_eq rfl rfl
theorem ph'_rebuilt (p : Phase) (f : PhaseSt → PhaseSt) : d.Rebuilt (d.ph' p f) := .of_eq rfl rfl
theorem setLive_rebuilt (idx sub : Nat) (v : Int) : d.Rebuilt (d.setLive idx sub v) := .of_eq rfl rfl

variable {d}

theorem otp'_rebuilt {f : Otp → Otp} (h : (f d.otp).words = d.otp.words) : d.Rebuilt (d.otp' f) :=
  .of_eq (by simp [anchor, Dev.otp', h]) rfl
theorem nv'_rebuilt {f : Nv → Nv} (h : (f d.nv).banks = d.nv.banks) : d.Rebuilt (d.nv' f) :=
  .of_eq (by simp [anchor, h]) rfl
theorem path'_rebuilt {f : Path → Path} (h : (f d.path).dcinValid = d.path.dcinValid) : d.Rebuilt (d.path' f) :=
  .of_eq (by simp [anchor, h]) rfl
theorem grove'_rebuilt {f : Grove → Grove} (h : (f d.grove).rail = d.grove.rail) : d.Rebuilt (d.grove' f) :=
  .of_eq rfl (grove'_branchOn h)

variable (d)

/-! ## The regions and the device records (R516, R529, R531) -/

theorem withBoard_rebuilt (m : Words) (l : List OtpEntry) : d.Rebuilt (d.withBoard m l) := by
  unfold withBoard
  exact d.dict'_rebuilt _

theorem applyBoard_rebuilt (m : Words) (sound : Bool) : d.Rebuilt (d.applyBoard m sound) := by
  unfold applyBoard
  refine Rebuilt.trans ?_ (clk'_rebuilt _ _)
  refine Rebuilt.trans ?_ (otp'_rebuilt rfl)
  refine Rebuilt.trans ?_ (dict'_rebuilt _ _)
  refine Rebuilt.trans ?_ (dict'_rebuilt _ _)
  split
  · exact d.withBoard_rebuilt m _
  · exact d.dict'_rebuilt _

theorem checkRegions_rebuilt (t : Nat) (p : PowerOn) : d.Rebuilt (d.checkRegions t p) := by
  unfold checkRegions
  refine Rebuilt.trans ?_ (rebuilt_foldl _ (fun d r => d.raise_rebuilt t 106 r) _ _)
  exact (otp'_rebuilt rfl).trans (applyBoard_rebuilt _ _ _)

/-- The service-life record, restored after the other records, decides the count of power-ons. -/
theorem restoreLife_spec {d x : Dev} (h : d.Rebuilt x) :
    (match (d.recs.life.startUp lifeDefault).1 with | some life => { x with life := life } | none => x).anchor =
        { d.anchor with powerOns := d.anchor.restoredPowerOns } ∧
      d.TurnsNoneOn (match (d.recs.life.startUp lifeDefault).1 with | some life => { x with life := life } | none => x) := by
  unfold Anchor.restoredPowerOns Dev.anchor
  dsimp only
  cases (d.recs.life.startUp lifeDefault).1 with
  | some life =>
    exact ⟨congrArg (fun a : Anchor => { a with powerOns := life.powerOns }) h.anchor, h.branches.trans (.of_eq rfl)⟩
  | none => exact ⟨h.anchor, h.branches⟩

theorem restoreRecords_spec (t : Nat) : (d.restoreRecords t).anchor = { d.anchor with powerOns := d.anchor.restoredPowerOns } ∧
    d.TurnsNoneOn (d.restoreRecords t) := by
  have hlost : ∀ (x : Dev) (lost : Bool), x.Rebuilt (x.when lost fun d => d.raise t 105 2) := fun x lost =>
    (x.raise_rebuilt t 105 2).when lost
  suffices hrecords : ∃ x : Dev, d.Rebuilt x ∧ ∃ lost : Bool, d.restoreRecords t =
      (match (d.recs.life.startUp lifeDefault).1 with | some life => { x with life := life } | none => x).when lost
        fun d => d.raise t 105 2 by
    obtain ⟨x, hx, lost, heq⟩ := hrecords
    rw [heq]
    have hlife := restoreLife_spec hx
    exact ⟨(hlost _ lost).anchor.trans hlife.1, hlife.2.trans (hlost _ lost).branches⟩
  refine ⟨_, ?_, _, rfl⟩
  refine Rebuilt.trans (d' := ?failTaken) ?_ ?misc
  case misc =>
    refine Rebuilt.trans ?_ (hlost _ _)
    split
    case h_2 => exact .refl _
    case h_1 => exact Rebuilt.trans (nv'_rebuilt rfl) (th'_rebuilt _ _)
  refine Rebuilt.trans (d' := ?rolesTaken) ?_ ?fail
  case fail =>
    refine Rebuilt.trans ?_ (hlost _ _)
    split
    case h_2 => exact .refl _
    case h_1 => exact seq'_rebuilt _ _
  refine Rebuilt.trans (d' := ?remapTaken) ?_ ?roles
  case roles =>
    refine Rebuilt.trans ?_ (hlost _ _)
    split
    case h_2 => exact .refl _
    case h_1 => exact grove'_rebuilt rfl
  refine Rebuilt.trans ?_ (hlost _ _)
  split
  · exact nv'_rebuilt rfl
  · exact .refl d

/-! ## Settings, timers and converters (R21, R220, R387, R391) -/

theorem dropGroup_rebuilt (t : Nat) (relates : Nat → Nat → Bool) : d.Rebuilt (d.dropGroup t relates) := by
  unfold dropGroup
  split
  · exact .refl d
  · exact (d.dict'_rebuilt _).trans (logEvent_rebuilt _ _ _ _ _ _)

theorem loadImage_rebuilt (t : Nat) (entries : ObjMap) : d.Rebuilt (d.loadImage t entries) := by
  have himage : ∀ (f : Dict → Dict) (refused : ObjMap), d.Rebuilt (refused.foldl (fun d e => d.logRefused t e.1) (d.dict' f)) :=
    fun f refused => (d.dict'_rebuilt f).trans (rebuilt_foldl _ (fun d e => d.logEvent_rebuilt _ _ _ _ _) _ _)
  have hrule : ∀ (d : Dev) (r : Rule), d.Rebuilt (if r.ok d then d else d.dropGroup t r.group) := fun d r => by
    split
    · exact .refl d
    · exact d.dropGroup_rebuilt t _
  unfold loadImage
  refine Rebuilt.trans ?_ (rebuilt_foldl _ hrule _ _)
  split
  · exact himage _ _
  · exact (himage _ _).trans ((dropGroup_rebuilt _ _ _).trans (.of_eq rfl rfl))

theorem reloadSettings_rebuilt (t : Nat) : d.Rebuilt (d.reloadSettings t) := by
  unfold reloadSettings
  have hcleared : d.Rebuilt ((d.dict' fun x => { x with live := [], image := [] }).otp' fun o => { o with staged := [] }) :=
    Rebuilt.trans (d.dict'_rebuilt _) (otp'_rebuilt rfl)
  refine hcleared.trans ?_
  dsimp only
  split
  · exact setLive_rebuilt _ _ _ _
  split
  · refine Rebuilt.trans ?_ (loadImage_rebuilt _ _ _)
    exact nv'_rebuilt rfl
  split
  · exact nv'_rebuilt rfl
  · refine Rebuilt.trans ?_ (raise_rebuilt _ _ _ _)
    exact nv'_rebuilt rfl

theorem latchWdh_rebuilt : d.Rebuilt d.latchWdh := d.wdh'_rebuilt _

theorem checkOcv_rebuilt (t : Nat) : d.Rebuilt (d.checkOcv t) := by
  unfold checkOcv
  split
  · exact d.raise_rebuilt _ _ _
  · exact .refl d

theorem loadTimer_rebuilt (n : TimerNo) : d.Rebuilt (d.loadTimer n) := by
  unfold loadTimer
  split
  · exact .refl d
  · exact d.timer'_rebuilt _ _

theorem loadTimers_rebuilt : d.Rebuilt d.loadTimers :=
  rebuilt_foldl _ (fun d n => (d.loadTimer_rebuilt n).trans ((timer'_rebuilt _ _ _).when _)) _ d

theorem hkMode_rebuilt (mode : Nat) : d.Rebuilt (d.hkMode mode) := by
  unfold hkMode
  exact (d.setLive_rebuilt _ _ _).trans (conv'_rebuilt _ _)

theorem hkLoaded_rebuilt : d.Rebuilt d.hkLoaded := by
  unfold hkLoaded
  dsimp only
  split_ifs
  · exact .refl d
  · exact d.hkMode_rebuilt _
  · exact d.hkMode_rebuilt _

theorem acceptCheck_rebuilt (t : Nat) : d.Rebuilt (d.acceptCheck t) := by
  unfold acceptCheck
  split
  · exact (d.setPhase_rebuilt t .fastCc).trans ((gauge'_rebuilt _ _).when _)
  · exact .refl d

theorem packVoltage_rebuilt (t : Nat) (available : Bool) : d.Rebuilt (d.packVoltage t available) := by
  unfold packVoltage
  split_ifs
  · exact d.gauge'_rebuilt _
  · exact .refl d
  · exact (d.gauge'_rebuilt _).trans ((raise_rebuilt _ _ _ _).trans (acceptCheck_rebuilt _ _))

theorem tempWindow_rebuilt : d.Rebuilt d.tempWindow := by
  unfold tempWindow
  exact d.chg'_rebuilt _

theorem inputsLost_rebuilt (t : Nat) : d.Rebuilt (d.inputsLost t) := by
  unfold inputsLost
  split
  · exact .refl d
  · refine Rebuilt.trans ?_ (acceptCheck_rebuilt _ _)
    refine Rebuilt.trans ?_ ((raise_rebuilt _ _ _ _).trans ((raise_rebuilt _ _ _ _).trans (tempWindow_rebuilt _)))
    exact rebuilt_foldl _ (fun d n => d.sensor'_rebuilt n _) _ d

theorem stopHost_rebuilt : d.Rebuilt d.stopHost := by
  unfold stopHost
  exact (d.setLive_rebuilt _ _ _).trans (conv'_rebuilt _ _)

theorem excludeB_rebuilt (t : Nat) : d.Rebuilt (d.excludeB t) := by
  unfold excludeB
  split
  · exact .refl d
  · exact (d.stopHost_rebuilt.trans (conv'_rebuilt _ _)).trans ((raise_rebuilt _ _ _ _).trans (inputsLost_rebuilt _ _))

theorem excludeA_rebuilt (t : Nat) : d.Rebuilt (d.excludeA t) := by
  unfold excludeA
  split
  · exact .refl d
  · refine Rebuilt.trans ?_ (inputsLost_rebuilt _ _)
    refine Rebuilt.trans ?_ ((raise_rebuilt _ _ _ _).trans (packVoltage_rebuilt _ _ _))
    split
    · exact d.conv'_rebuilt _
    · exact (d.conv'_rebuilt _).trans ((stopHost_rebuilt _).trans (conv'_rebuilt _ _))

theorem checkConverters_rebuilt (t : Nat) (a b : List Nat) : d.Rebuilt (d.checkConverters t a b) := by
  have hb : ∀ (d : Dev) (fails : Bool), d.Rebuilt (if fails then d.excludeB t else d) := fun d fails => by
    split
    · exact d.excludeB_rebuilt t
    · exact .refl d
  have ha : ∀ (d : Dev) (fails : Bool), d.Rebuilt (if fails then d.excludeA t else d) := fun d fails => by
    split
    · exact d.excludeA_rebuilt t
    · exact .refl d
  unfold checkConverters
  refine Rebuilt.trans ?_ (ha _ _)
  refine Rebuilt.trans ?_ (hb _ _)
  exact d.conv'_rebuilt _

/-! ## The grove, the battery pair and the gauge (R105, R354, R580) -/

theorem rail'_rebuilt_off {r : Rail} {f : RailSt → RailSt} (h : ∀ x, (f x).mode.isOn = false) : d.Rebuilt (d.rail' r f) :=
  ⟨rfl, fun b hb => by
    rw [rail'_branchOn_off h] at hb
    exact Bool.and_elim_left hb⟩

/-- Every rail starts off. -/
theorem initGrove_rebuilt (old : Grove) : d.Rebuilt (d.initGrove old) := by
  unfold initGrove
  refine Rebuilt.trans ?_ (rebuilt_foldl _ (fun d r => d.rail'_rebuilt_off fun _ => rfl) _ _)
  refine Rebuilt.trans ?_ (rebuilt_foldl _ (fun d p => d.ph'_rebuilt p _) _ _)
  refine ⟨rfl, fun b hb => ?_⟩
  obtain ⟨r, rfl⟩ | ⟨c, rfl⟩ | ⟨n, rfl⟩ := branch_cases b
  · simp [railOn] at hb
  · cases c <;> simpa [chan] using hb
  · simpa using hb

theorem supplementQuiet_rebuilt : d.Rebuilt d.supplementQuiet := by
  unfold supplementQuiet
  split
  · exact .refl d
  · exact path'_rebuilt rfl

theorem newPackValues_rebuilt : d.Rebuilt d.newPackValues := d.gauge'_rebuilt _
theorem gaugeAbsent_rebuilt : d.Rebuilt d.gaugeAbsent := d.gauge'_rebuilt _

theorem rescaleShunt_rebuilt (old new : Int) : d.Rebuilt (d.rescaleShunt old new) := by
  unfold rescaleShunt
  split
  · exact .refl d
  · exact (d.gauge'_rebuilt _).trans (chg'_rebuilt _ _)

theorem restoreGauge_rebuilt (t : Nat) (cold ship : Bool) : d.Rebuilt (d.restoreGauge t cold ship) := by
  have hshunt : ∀ (f : Gauge → Gauge) (c : Prop) [Decidable c] (old new : Int),
      d.Rebuilt (if c then d.gauge' f else (d.gauge' f).rescaleShunt old new) := fun f c _ old new => by
    split
    · exact d.gauge'_rebuilt f
    · exact (d.gauge'_rebuilt f).trans (rescaleShunt_rebuilt _ old new)
  unfold restoreGauge
  dsimp only
  split
  case h_1 =>
    refine Rebuilt.trans ?_ (raise_rebuilt _ _ _ _)
    exact (d.gauge'_rebuilt _).trans (newPackValues_rebuilt _)
  case h_2 =>
    split
    · refine Rebuilt.trans ?_ (gauge'_rebuilt _ _)
      exact hshunt _ _ _ _
    · refine Rebuilt.trans ?_ (gaugeAbsent_rebuilt _)
      refine Rebuilt.trans ?_ (gauge'_rebuilt _ _)
      exact hshunt _ _ _ _

/-! ## The device power-on reset (R37, R38, R61) -/

theorem latchPort_rebuilt (p : Port) : d.Rebuilt (d.latchPort p) := by
  unfold latchPort releaseTransfers
  exact (d.port'_rebuilt p _).trans (pool'_rebuilt _ _)

theorem bootPort_rebuilt (p : Port) : d.Rebuilt (d.bootPort p) := by
  unfold bootPort
  split
  · exact .refl d
  · exact (d.port'_rebuilt p _).trans (send_rebuilt _ _)

theorem bootBoth_rebuilt : d.Rebuilt d.bootBoth := (d.bootPort_rebuilt .a).trans (bootPort_rebuilt _ .b)

theorem initCascade_rebuilt : d.Rebuilt d.initCascade := .of_eq rfl rfl

/-- The core domain as its power-on reset finds it: what the loss of its supply kept, with the straps and the supplies sampled. -/
def poweredOn (t : Nat) (p : PowerOn) : Dev :=
  ({ d.kept with straps := sampleStraps p.node p.addr }.path' fun x => { x with
    vpreMv := p.vpreMv, holdMv := p.holdMv, vsysMv := p.vsysMv, capTimed := p.holdMv ≥ 6000 }).power' fun x => { x with lastTime := t }

theorem poweredOn_anchor (t : Nat) (p : PowerOn) : (d.poweredOn t p).anchor =
    { d.anchor with coreOn := true, straps := sampleStraps p.node p.addr } := rfl

theorem poweredOn_branchOn (t : Nat) (p : PowerOn) (b : Branch) : (d.poweredOn t p).branchOn b = false := d.kept_branchOn b

theorem driveD_rebuilt (p : Pair) : d.Rebuilt (d.path' fun x => x.driveD p) := path'_rebuilt rfl

/-- The records restored, every later stage but one keeps the anchor: that one counts the power-on. -/
theorem powerOnReset_eq (t : Nat) (cold : Bool) (p : PowerOn) : ∃ x, (((d.poweredOn t p).checkRegions t p).restoreRecords t).Rebuilt x ∧
    d.powerOnReset t cold p =
      (((x.life' fun l => { l with powerOns := satInc 32 l.powerOns }).latchPort .a).latchPort .b).bootBoth := by
  refine ⟨_, ?_, rfl⟩
  refine Rebuilt.trans ?_ (chgClear_rebuilt _ _ _)
  refine Rebuilt.trans ?_ (chg'_rebuilt _ _)
  refine Rebuilt.trans ?_ (restoreGauge_rebuilt _ _ _ _)
  refine Rebuilt.trans ?_ (supplementQuiet_rebuilt _)
  refine Rebuilt.trans ?_ (driveD_rebuilt _ _)
  refine Rebuilt.trans ?_ (hkLoaded_rebuilt _)
  refine Rebuilt.trans ?_ (loadTimers_rebuilt _)
  refine Rebuilt.trans ?_ (checkOcv_rebuilt _ _)
  refine Rebuilt.trans ?_ (checkConverters_rebuilt _ _ _ _)
  refine Rebuilt.trans ?_ (initGrove_rebuilt _ _)
  refine Rebuilt.trans ?_ (latchWdh_rebuilt _)
  refine Rebuilt.trans ?_ (initCascade_rebuilt _)
  refine Rebuilt.trans ?_ (reloadSettings_rebuilt _ _)
  exact initCascade_rebuilt _

theorem powerOnReset_spec (t : Nat) (cold : Bool) (p : PowerOn) : (d.powerOnReset t cold p).anchor =
      { d.anchor with coreOn := true, straps := sampleStraps p.node p.addr, powerOns := satInc 32 d.anchor.restoredPowerOns } ∧
    ∀ b, (d.powerOnReset t cold p).branchOn b = false := by
  obtain ⟨x, hx, heq⟩ := d.powerOnReset_eq t cold p
  have hregions := (d.poweredOn t p).checkRegions_rebuilt t p
  obtain ⟨hrecords, hrecordsOff⟩ := ((d.poweredOn t p).checkRegions t p).restoreRecords_spec t
  have hboot (y : Dev) : y.Rebuilt ((y.latchPort .a).latchPort .b).bootBoth :=
    ((y.latchPort_rebuilt .a).trans (latchPort_rebuilt _ .b)).trans (bootBoth_rebuilt _)
  rw [hregions.anchor, poweredOn_anchor] at hrecords
  rw [heq]
  constructor
  · have hcounted := congrArg (fun a : Anchor => { a with powerOns := satInc 32 a.powerOns }) (hx.anchor.trans hrecords)
    exact (hboot _).anchor.trans hcounted
  · have hoff : (d.poweredOn t p).TurnsNoneOn x := (hregions.branches.trans hrecordsOff).trans hx.branches
    have hcounted : x.TurnsNoneOn (x.life' fun l => { l with powerOns := satInc 32 l.powerOns }) := .of_eq rfl
    exact fun b => ((hoff.trans hcounted).trans (hboot _).branches).off (d.poweredOn_branchOn t p b)

end Dev

theorem devicePowerOn_started {b : Body} {p : PowerOn} (hoff : b.d.power.coreOn = false) (hpowered : b.hw.powered = true)
    (hlatch : b.hw.thermalLatch = false) (hship : b.hw.shipHold = false) (hv : 4650 < p.vpreMv) :
    devicePowerOn p b = { b with
      hw := { b.hw.caused (if b.hw.powerOnCount = 0 then b.hw.lastCause else if b.d.power.brownOut then 3 else 2) with
        powerOnCount := satInc 16 b.hw.powerOnCount }
      d := b.d.powerOnReset b.hw.counter (b.hw.powerOnCount = 0) p } := by
  have hrelease : decide (p.vpreMv ≤ vpreRelease) = false := decide_eq_false (Nat.not_le.mpr hv)
  rw [devicePowerOn, if_neg (by simp [hoff, hpowered, hlatch, hship, hrelease])]

/-- Settles O23: a domain that loses its supply keeps what Table 2-7 names and has no branch on; the power-on reset of the core
domain rebuilds the rest stage by stage, each of which keeps what lies in storage and turns no branch on. -/
theorem powerOnResetsComplete : Obligations.PowerOnResetsComplete := by
  intro s
  refine ⟨fun dcin bat hv hp => ?_, fun dcin bat hv hp => ?_, fun dcin bat h => ?_,
    fun p hoff hpowered hlatch hship hv => ?_, fun mv hon hmv hship => ?_, fun mv hon hship => ?_⟩
  · refine GivesBody.of_on rfl ?_
    rw [heartwoodReset_falls hv hp]
    exact ⟨rfl, rfl, rfl, rfl, rfl, Dev.unpowered_of_off _, rfl, rfl, rfl, rfl, rfl, rfl⟩
  · exact GivesBody.of_on rfl (heartwoodReset_rises hv hp)
  · exact GivesBody.of_on rfl (heartwoodReset_between h)
  · refine GivesBody.of_on rfl ?_
    rw [devicePowerOn_started hoff hpowered hlatch hship hv]
    obtain ⟨hanchor, hbranches⟩ := s.b.d.powerOnReset_spec s.b.hw.counter (s.b.hw.powerOnCount = 0) p
    generalize s.b.d.powerOnReset s.b.hw.counter (s.b.hw.powerOnCount = 0) p = d at hanchor hbranches ⊢
    refine ⟨rfl, rfl, congrArg Anchor.coreOn hanchor, congrArg Anchor.straps hanchor, congrArg Anchor.banks hanchor,
      congrArg Anchor.words hanchor, congrArg Anchor.dcinValid hanchor, fun hnone => ?_, hbranches⟩
    exact (congrArg Anchor.powerOns hanchor).trans (congrArg (satInc 32) (Anchor.restoredPowerOns_of_none hnone))
  · refine Gives.of_core rfl hon ?_
    rw [Dev.brownOutReset_low hmv hship]
    exact ⟨Dev.unpowered_of_unpowered _, ⟨rfl, rfl, rfl, rfl, rfl, rfl⟩, rfl, rfl, rfl, rfl, rfl, rfl⟩
  · exact Gives.of_core rfl hon (Dev.brownOutReset_pastReturn hship _ _)

end Sys2Proof.Machine
end

section
/-!
PROOFS. A client's write that passes its checks, and the objects whose write puts a setting in force and does no more.
-/
namespace Sys2Proof.Machine

/-! ## A request that is served (R458, R463, R465) -/

/-- A command of the whole body that needs the core domain answers what its effect makes of the powered body. -/
theorem GivesBody.of_coreBody {c : Instr} {s : State} {f : Body → Body} {P : Body → Prop}
    (hc : exec c s = .next (s.coreBody f)) (hon : s.b.d.power.coreOn = true) (h : P (f s.b)) : GivesBody c s P :=
  GivesBody.of_on (hc.trans (by simp [State.coreBody, State.on, hon])) h

/-- A command of the core domain that changes the device alone. -/
theorem Gives.of_coreBody {c : Instr} {s : State} {f : Body → Body} {d : Dev} {P : Dev → Prop}
    (hc : exec c s = .next (s.coreBody f)) (hon : s.b.d.power.coreOn = true) (hf : f s.b = { s.b with d := d }) (h : P d) :
    Gives c s P := by
  refine GivesBody.of_coreBody hc hon ?_
  rw [hf]
  exact ⟨rfl, rfl, h⟩

/-- A request that is heard and succeeds at once is answered with success. -/
theorem Body.request_succeeds {w : Who} {f : Body → Body × Option Nat} {b : Body} {d : Dev} (hhears : b.d.hears w.port = true)
    (hfree : (b.d.port w.port).sessions.length < 4)
    (hf : f { b with d := b.d.leaveIdle b.hw.counter } = ({ b with d := d }, some 0)) : b.request w f = { b with d := d.ok w } := by
  have hfree' : ¬ 4 ≤ ((b.d.leaveIdle b.hw.counter).port w.port).sessions.length := Nat.not_le.2 hfree
  simp only [Body.request, hhears, hf, Bool.not_true, Bool.false_eq_true, if_false, ge_iff_le, hfree']
  rfl

/-- A write that passes steps 1 to 12 of Table 18-4 has the effect of its object. -/
theorem Body.write_passed {b : Body} {idx sub len : Nat} {v v' : Int} (hcheck : b.d.checkWrite idx sub len v = .ok v')
    (hstep : b.d.step12 idx sub v' = true) (w : Who) :
    b.write w idx sub len v = b.effect w idx sub v' none b.d.dieForOtp (b.d.otp.boardCause ≠ 1) := by
  unfold Body.write Body.writeWith
  rw [hcheck]
  exact if_neg (by simp [hstep])

/-- A client's write that passes leaves what its effect makes of the device that has left IDLE. -/
theorem Wrote.of_effect {c : Instr} {s : State} {w : Who} {idx sub len : Nat} {v v' : Int} {d : Dev}
    (hp : Passes s w idx sub len v v') (hc : exec c s = .next (s.coreBody fun b => b.request w fun b => b.write w idx sub len v))
    (he : ∀ die words, Body.effect { s.b with d := awake s } w idx sub v' none die words = ({ s.b with d := d }, some 0)) :
    Wrote c s w d := by
  obtain ⟨⟨hon, hhears, hfree⟩, hcheck, hstep⟩ := hp
  have hwrite := Body.write_passed (b := { s.b with d := awake s }) hcheck hstep w
  exact Gives.of_coreBody hc hon (Body.request_succeeds hhears hfree (hwrite.trans (he _ _))) rfl

/-! ## Settings that a write only puts in force -/

section
variable (b : Body) (w : Who) {idx sub : Nat} (v : Int) (stamp : Option Nat) (die words : Bool)

theorem Body.effect_pdo (hlo : 0x1400 ≤ idx) (hhi : idx < 0x2000) :
    b.effect w idx sub v stamp die words = ({ b with d := b.d.setLive idx sub v }, some 0) := by
  have hcomm : b.d.effectComm w idx sub v = (b.d.setLive idx sub v, some 0) := by
    unfold Dev.effectComm
    rw [if_neg (by omega), if_neg (by omega), if_neg (by omega), if_neg (by omega), if_neg (by omega), if_neg (by omega)]
  unfold Body.effect
  rw [if_pos (by omega), hcomm]

/-- The enable of the charger, its watchdog's period and the shunt act on more than their setting (R298, R315, R330). -/
theorem Body.effect_power (hrange : 0x2100 ≤ idx ∧ idx < 0x2200)
    (hplain : ¬(idx = 0x2140 ∧ sub = 1) ∧ idx ≠ 0x2142 ∧ idx ≠ 0x2180) :
    b.effect w idx sub v stamp die words = ({ b with d := b.d.setLive idx sub v }, some 0) := by
  have hpower : b.d.effectPower b.hw.counter idx sub v = b.d.setLive idx sub v := by
    unfold Dev.effectPower
    rw [if_neg (by omega), if_neg hplain.1, if_neg (by omega), if_neg (by omega)]
  unfold Body.effect
  rw [if_neg (by omega), if_pos hrange.2, hpower]

/-- Of the fault collector, the drive of nFAULT and the configuration of a source (R438, R440). -/
theorem Body.effect_faultSetting (h : idx = 0x2510 ∨ (idx = 0x2500 ∧ sub = 7)) :
    b.effect w idx sub v stamp die words = ({ b with d := b.d.setLive idx sub v }, some 0) := by
  have hservice : b.d.effectService b.hw.counter w idx sub v = (b.d.setLive idx sub v, some 0) := by
    unfold Dev.effectService
    rw [if_neg (by omega), if_neg (by omega), if_neg (by omega), dif_neg (by omega), if_neg (by omega), if_neg (by omega)]
    exact congrArg (·, some 0) (if_neg (by omega))
  unfold Body.effect
  rw [if_neg (by omega), if_neg (by omega), if_neg (by omega), if_neg (by omega), if_pos (by omega), hservice]

end

/-- Settles O30: each write has the effect of its object, which is to put the setting in force. -/
theorem settingWritesComplete : Obligations.SettingWritesComplete := by
  intro s w v v'
  refine ⟨fun hp => ?_, fun hp => ?_, fun hp => ?_, fun len hp => ?_, fun hp => ?_, fun src hp => ?_, fun p hp => ?_, fun p hp => ?_,
    fun p hp => ?_, fun p hp => ?_⟩
  · exact .of_effect hp rfl fun _ _ => Body.effect_power _ w v' none _ _ (by decide) (by decide)
  · exact .of_effect hp rfl fun _ _ => Body.effect_power _ w v' none _ _ (by decide) (by decide)
  · exact .of_effect hp rfl fun _ _ => Body.effect_power _ w v' none _ _ (by decide) (by decide)
  · exact .of_effect hp rfl fun _ _ => Body.effect_power _ w v' none _ _ (by decide) (by decide)
  · exact .of_effect hp rfl fun _ _ => Body.effect_faultSetting _ w v' none _ _ (.inr ⟨rfl, rfl⟩)
  · exact .of_effect hp rfl fun _ _ => Body.effect_faultSetting _ w v' none _ _ (.inl rfl)
  · exact .of_effect hp rfl fun _ _ => Body.effect_pdo _ w v' none _ _ (by omega) (by omega)
  · exact .of_effect hp rfl fun _ _ => Body.effect_pdo _ w v' none _ _ (by omega) (by omega)
  · exact .of_effect hp rfl fun _ _ => Body.effect_pdo _ w v' none _ _ (by omega) (by omega)
  · exact .of_effect hp rfl fun _ _ => Body.effect_pdo _ w v' none _ _ (by omega) (by omega)

end Sys2Proof.Machine
end

section
/-!
PROOFS. Events that only record: what they leave of the device, and what leaves the power path as it is.
-/
namespace Sys2Proof.Machine

/-! ## What leaves the power path as it is -/

theorem Dev.path_orderFree : Dev.OrderFree Dev.path :=
  ⟨fun _ _ => rfl, fun _ _ => rfl, fun _ _ => rfl, fun _ _ => rfl, fun _ _ => rfl, Dev.port'_path, fun _ _ => rfl, fun _ _ => rfl⟩

theorem Dev.endTest_path (d : Dev) : d.endTest.path = d.path := by
  unfold Dev.endTest
  dsimp only
  split_ifs <;> rfl

/-- Clearing the charger changes the charger and the timers that it takes, and no more. -/
theorem Dev.chgClear_keeps {β : Type} (g : Dev → β) (hchg : ∀ d f, g (Dev.chg' d f) = g d)
    (htimer : ∀ d n f, g (Dev.timer' d n f) = g d) (d : Dev) (t reason : Nat) : g (d.chgClear t reason) = g d := by
  have hset : ∀ p, g (d.setPhase t p) = g d := fun p => by
    unfold Dev.setPhase chargerTimers
    dsimp only
    split
    · rw [htimer, htimer, hchg]
    · exact hchg d _
  have hnext : ∀ (x : Dev) (c : Prop) [Decidable c], g (if c then x.takeTimers else x.releaseTimers) = g x := fun x c _ => by
    unfold Dev.takeTimers Dev.releaseTimers
    split_ifs
    · rfl
    · exact hchg x _
    · rw [hchg, htimer, htimer]
    · rw [hchg, htimer, htimer]
  exact (hnext _ _).trans ((hchg _ _).trans (hset _))

theorem Dev.chgClear_path (d : Dev) (t reason : Nat) : (d.chgClear t reason).path = d.path :=
  Dev.chgClear_keeps Dev.path (fun _ _ => rfl) (fun _ _ _ => rfl) d t reason

@[simp] theorem Dev.goState_path (d : Dev) (t : Nat) (p : PState) : (d.goState t p).path = d.path := by
  unfold Dev.goState
  dsimp only
  split
  · rw [Dev.chgClear_path, Dev.endTest_path, Dev.when_keeps Dev.path, Dev.when_keeps Dev.path] <;> rfl
  · rw [Dev.when_keeps Dev.path, Dev.when_keeps Dev.path] <;> rfl

@[simp] theorem Dev.wake_path (d : Dev) (t source : Nat) : (d.wake t source).path = d.path := by
  unfold Dev.wake
  split_ifs
  · exact (Dev.path_orderFree.wakeRun _ _).trans (Dev.goState_path _ _ _)
  · rfl
  · rfl

/-! ## The record of a lasting event, and a source that does not escalate at once (R433, R435) -/

/-- A lasting event is recorded in the fault collector and the log, which ends IDLE. -/
theorem Dev.record_eq (d : Dev) (t src reason : Nat) (started : Bool) :
    ∃ f n, d.record t src reason started = { d with power := d.power.leaveIdle t, faults := f, nv := n } := by
  unfold Dev.record
  dsimp only
  rw [Dev.src'_eq]
  obtain ⟨f, n, hlog, -, -⟩ := Dev.logFault_eq (Dev.faults' _ _) t 0x01 src (sourceClass src) reason 0xFF _
  obtain ⟨f', hsignal, -, -⟩ := Dev.signalled_eq _ _ _ fun d =>
    ⟨0xFF00 + src, d.errorRegister, sourceClass src, reason, t % 2 ^ 24⟩
  refine ⟨f', n, hsignal.trans ?_⟩
  rw [hlog]
  rfl

/-- A corrected event changes nothing but its record: it wakes nothing and escalates only by its timer (R435). -/
theorem Dev.raise_corrected {src : Nat} (hclass : sourceClass src = classC) (d : Dev) (t reason : Nat) : ∃ p f n,
    d.raise t src reason = { d with power := p, faults := f, nv := n } ∧ (p = d.power ∨ p = d.power.leaveIdle t) := by
  have hwake : ∀ x : Dev, x.faultWake t src = x := fun x => by simp [Dev.faultWake, Dev.when, hclass]
  unfold Dev.raise Dev.raiseAs
  split_ifs
  · exact ⟨_, _, _, rfl, .inl rfl⟩
  · exact ⟨_, _, _, hwake d, .inl rfl⟩
  · obtain ⟨f, n, hrecord⟩ := d.record_eq t src reason false
    refine ⟨_, f, n, ?_, .inr rfl⟩
    dsimp only
    rw [hclass, if_neg (by decide), hwake, hrecord]

/-- Only a fatal source can reach the power path, by the escalation that it brings at once. -/
theorem Dev.raise_path {src : Nat} (hclass : sourceClass src ≠ classF) (d : Dev) (t reason : Nat) :
    (d.raise t src reason).path = d.path := by
  have hwake : ∀ x : Dev, (x.faultWake t src).path = x.path := fun x => Dev.when_keeps Dev.path _ _ _ (Dev.wake_path _ _ _)
  unfold Dev.raise Dev.raiseAs
  split_ifs
  · rfl
  · exact hwake d
  · obtain ⟨f, n, hrecord⟩ := d.record_eq t src reason false
    dsimp only
    rw [if_neg hclass, hwake, hrecord]

/-! ## Effects that only record -/

/-- From `d` to `d'` nothing has changed but the grove, the journal and what was recorded, at heartwood time `t`: a record ends
IDLE, and leaves the power state alone but for that (Table 2-2). -/
structure Dev.RecordsOnly (t : Nat) (d d' : Dev) : Prop where
  rest : d' = { d with power := d'.power, grove := d'.grove, faults := d'.faults, nv := d'.nv, jour := d'.jour }
  power : d'.power = d.power ∨ d'.power = d.power.leaveIdle t

theorem Power.leaveIdle_leaveIdle (p : Power) (t : Nat) : (p.leaveIdle t).leaveIdle t = p.leaveIdle t :=
  if_neg (p.leaveIdle_state_ne t)

namespace Dev.RecordsOnly
variable {t : Nat} {d d' d'' : Dev}

theorem refl (t : Nat) (d : Dev) : d.RecordsOnly t d := ⟨rfl, .inl rfl⟩

theorem of_eq {g : Grove} {f : Faults} {n : Nv} {j : Journal} (h : d' = { d with grove := g, faults := f, nv := n, jour := j }) :
    d.RecordsOnly t d' := by
  subst h
  exact ⟨rfl, .inl rfl⟩

theorem trans (h : d.RecordsOnly t d') (h' : d'.RecordsOnly t d'') : d.RecordsOnly t d'' := by
  refine ⟨h'.rest.trans (congrArg (fun x : Dev => { x with
    power := d''.power, grove := d''.grove, faults := d''.faults, nv := d''.nv, jour := d''.jour }) h.rest), ?_⟩
  obtain hp | hp := h.power <;> obtain hp' | hp' := h'.power <;> simp [hp, hp', Power.leaveIdle_leaveIdle]

theorem foldl {α : Type} (f : Dev → α → Dev) (h : ∀ (d : Dev) a, d.RecordsOnly t (f d a)) (l : List α) (d : Dev) :
    d.RecordsOnly t (l.foldl f d) := by
  induction l generalizing d with
  | nil => exact .refl t d
  | cons a l ih => exact (h d a).trans (ih _)

theorem path_eq (h : d.RecordsOnly t d') : d'.path = d.path := by rw [h.rest]
theorem chg_eq (h : d.RecordsOnly t d') : d'.chg = d.chg := by rw [h.rest]

/-- What only records does so beside any change of the power path. -/
theorem afterPath (h : d.RecordsOnly t d') (f : Path → Path) : (d.path' f).RecordsOnly t (d'.path' f) := by
  refine ⟨?_, h.power⟩
  have hpath := congrArg (fun x : Dev => x.path' f) h.rest
  exact hpath

end Dev.RecordsOnly

section
variable (d : Dev) (t : Nat)

theorem Dev.raise_recordsOnly {src : Nat} (hclass : sourceClass src = classC) (reason : Nat) :
    d.RecordsOnly t (d.raise t src reason) := by
  obtain ⟨p, f, n, hraise, hp⟩ := Dev.raise_corrected hclass d t reason
  rw [hraise]
  exact ⟨rfl, hp⟩

theorem Dev.logEvent_recordsOnly (kind subject reason : Nat) (data : List Nat) :
    d.RecordsOnly t (d.logEvent t kind subject reason data) := by
  unfold Dev.logEvent Dev.log
  dsimp only
  split <;> exact ⟨rfl, .inr rfl⟩

theorem Dev.abortTuning_recordsOnly (r : Rail) (outcome : Nat) : d.RecordsOnly t (d.abortTuning t r outcome) := by
  unfold Dev.abortTuning
  split
  · exact .refl t d
  split
  · exact .refl t d
  dsimp only [Dev.when]
  split
  · exact (d.logEvent_recordsOnly t _ _ _ _).trans (.of_eq rfl)
  · exact .of_eq rfl

theorem Dev.joinList_recordsOnly (r : Rail) (p : Phase) (replaces : Option Nat) (x : Firing) :
    d.RecordsOnly t (d.joinList t r p replaces x) := .of_eq rfl

theorem Dev.beginRamp_recordsOnly (r : Rail) : d.RecordsOnly t (d.beginRamp t r) := by
  unfold Dev.beginRamp
  split
  · exact .refl t d
  split
  · exact .refl t d
  split
  · exact ((d.abortTuning_recordsOnly t r _).trans (Dev.joinList_recordsOnly _ t r _ _ _)).trans (.of_eq rfl)
  · exact .of_eq rfl

theorem Dev.endNow_recordsOnly (i : Nat) (st : EntryState) (detail : Nat) : d.RecordsOnly t (d.endNow i st detail) := by
  unfold Dev.endNow
  split
  · exact .refl t d
  · exact .of_eq rfl

theorem Dev.payEnds_recordsOnly : d.RecordsOnly t d.payEnds := by
  unfold Dev.payEnds
  split
  · exact .refl t d
  · refine .foldl _ (fun d i => ?_) _ d
    split
    · split
      · exact d.endNow_recordsOnly t _ _ _
      · exact .refl t d
    · exact .refl t d

/-- The deferred actions begin ramps and place tuning runs; none is left deferred (R84). -/
theorem Dev.startDeferred_recordsOnly : (d.path' fun p => { p with deferred := [] }).RecordsOnly t (d.startDeferred t) := by
  refine .foldl _ (fun d a => ?_) _ _
  split
  · split
    · split
      · exact .refl t d
      · exact d.beginRamp_recordsOnly t _
    · exact .refl t d
  · exact .of_eq rfl

end

end Sys2Proof.Machine
end

section
/-!
PROOFS. The inputs: their validity events, the entry and the end of HOLDUP, and the end of SHIP.
-/
namespace Sys2Proof.Machine

/-! ## What is lost and owed at HOLDUP (R30, R82) -/

/-- What a HOLDUP entry clears lies in the dictionary and the telemetry pool, or is no part of `still`. -/
theorem Dev.holdupClears_still {d x : Dev} (h : x.still = d.still) :
    ∃ y p, x.holdupClears.still = { d with dict := y, pool := p }.still :=
  ⟨{ x.dict with unlocked := false }, { x.pool with buffers := [] },
    congrArg (fun e : Dev => { e with dict := { x.dict with unlocked := false }.still, pool := { x.pool with buffers := [] } }) h⟩

/-- But for what it clears, the entry of HOLDUP is made of orders. -/
theorem Dev.enterHoldup_still (d : Dev) (t : Nat) : ∃ x p, (d.enterHoldup t).still = { d with dict := x, pool := p }.still := by
  have hsafe : ∀ (x : Dev) (c : Prop) [Decidable c], (if c then x.goState t .safe else x).still = x.still := fun x c _ => by
    split
    · exact x.goState_still t _
    · rfl
  have hentered : ∀ (x : Dev) (before : PState), (((x.power' fun p => { p with beforeHoldup := before, holdupEntry := t }).gauge'
      fun g => { g with due := true }).life' fun l => { l with recordDue := true }).still = x.still := fun _ _ => rfl
  unfold Dev.enterHoldup
  split
  · exact ⟨d.dict, d.pool, rfl⟩
  · simp only [Dev.broadcast_still, Dev.settle_still]
    refine Dev.holdupClears_still ((hentered _ _).trans ?_)
    rw [Dev.goState_still, hsafe, Dev.seq'_still, Dev.fastOffMask_still, Dev.loseBranches_still, Dev.abandonActions_still]

theorem Dev.payOwed_still (d : Dev) (t : Nat) : (d.payOwed t).still = d.still := by
  unfold Dev.payOwed
  refine (foldl_keeps Dev.still _ (fun d n => ?_) _ _).trans (d.faults'_still _)
  rw [Dev.escalateEffect_still, Dev.logEscalation_still]

/-- But for its duration, which is kept, the end of HOLDUP is made of orders and of the escalations owed. -/
theorem Dev.leaveHoldup_still (d : Dev) (t : Nat) :
    ∃ us, (d.leaveHoldup t).still = { d with path := { d.path with holdupUs := us } }.still := by
  unfold Dev.leaveHoldup
  split
  · exact ⟨d.path.holdupUs, rfl⟩
  · have hnoted := congrArg Dev.still (d.noteHoldup_eq t)
    refine ⟨_, Eq.trans ?_ hnoted⟩
    dsimp only
    rw [Dev.payOwed_still]
    split <;> simp

theorem Dev.abandonShip_still (d : Dev) (t : Nat) : (d.abandonShip t).still = d.still := by
  unfold Dev.abandonShip
  split
  · rfl
  · rw [Dev.offDone_still, Dev.seq'_still, Dev.endAction_still]
    rfl
  · rfl

/-! ## What the events of an input leave alone (R67, R313)

Of the power path an event of DCIN leaves DCIN's own part as it has put it, and an event of BATSNS that of BATSNS; the rest of the
path answers to the input. A BATSNS event reaches the gauge, and the entry of HOLDUP the dictionary and the telemetry pool. -/

def Dev.dcinFrame (d : Dev) : Dev := { d.still with
  path := { dcinValid := d.path.dcinValid, dcinMv := d.path.dcinMv, dPair := d.path.dPair } }

def Dev.batFrame (d : Dev) : Dev := { d.still with path := { batValid := d.path.batValid, batMv := d.path.batMv }, gauge := {} }

/-- A frame of which the entry of HOLDUP may clear a part. -/
def Dev.uncleared (d : Dev) : Dev := { d with dict := {}, pool := {} }

section
variable {d d' : Dev}

theorem Dev.dcinFrame_of_still (h : d'.still = d.still) : d'.dcinFrame = d.dcinFrame :=
  congrArg (fun e : Dev => { e with path := { dcinValid := e.path.dcinValid, dcinMv := e.path.dcinMv, dPair := e.path.dPair } }) h

theorem Dev.batFrame_of_still (h : d'.still = d.still) : d'.batFrame = d.batFrame :=
  congrArg (fun e : Dev => { e with path := { batValid := e.path.batValid, batMv := e.path.batMv }, gauge := {} }) h

theorem Dev.path'_batFrame {f : Path → Path} {valid : Bool} {mv : Nat} (hvalid : (f d.path).batValid = valid)
    (hmv : (f d.path).batMv = mv) : (d.path' f).batFrame = { d.batFrame with path := { batValid := valid, batMv := mv } } := by
  subst hvalid hmv
  rfl

theorem Dev.still_of_dcinFrame {f : Path → Path} (h : d'.dcinFrame = (d.path' f).dcinFrame) :
    d'.still = { d with path := d'.path }.still :=
  congrArg (fun e : Dev => { e with path := d'.path.still }) h

theorem Dev.still_of_dcinFrame_uncleared {f : Path → Path} (h : d'.dcinFrame.uncleared = (d.path' f).dcinFrame.uncleared) :
    d'.still = { d with path := d'.path, dict := d'.dict, pool := d'.pool }.still :=
  congrArg (fun e : Dev => { e with path := d'.path.still, dict := d'.dict.still, pool := d'.pool }) h

theorem Dev.still_of_batFrame {f : Path → Path} (h : d'.batFrame = (d.path' f).batFrame) :
    d'.still = { d with path := d'.path, gauge := d'.gauge }.still :=
  congrArg (fun e : Dev => { e with path := d'.path.still, gauge := d'.gauge.still }) h

theorem Dev.still_of_batFrame_uncleared {f : Path → Path} (h : d'.batFrame.uncleared = (d.path' f).batFrame.uncleared) :
    d'.still = { d with path := d'.path, gauge := d'.gauge, dict := d'.dict, pool := d'.pool }.still :=
  congrArg (fun e : Dev => { e with
    path := d'.path.still, gauge := d'.gauge.still, dict := d'.dict.still, pool := d'.pool }) h

end

section
variable (d : Dev) (t : Nat)

theorem Dev.supplementTrigger_dcinFrame : d.supplementTrigger.dcinFrame = d.dcinFrame := by
  unfold Dev.supplementTrigger
  split <;> rfl

theorem Dev.supplementQuiet_batFrame : d.supplementQuiet.batFrame = d.batFrame := by
  unfold Dev.supplementQuiet
  split <;> rfl

theorem Dev.gaugePresent_batFrame : d.gaugePresent.batFrame = d.batFrame := by
  unfold Dev.gaugePresent
  split <;> rfl

theorem Dev.leaveHoldup_dcinFrame : (d.leaveHoldup t).dcinFrame = d.dcinFrame := by
  obtain ⟨us, h⟩ := d.leaveHoldup_still t
  exact (Dev.dcinFrame_of_still h).trans rfl

theorem Dev.leaveHoldup_batFrame : (d.leaveHoldup t).batFrame = d.batFrame := by
  obtain ⟨us, h⟩ := d.leaveHoldup_still t
  exact (Dev.batFrame_of_still h).trans rfl

theorem Dev.enterHoldup_dcinFrame : (d.enterHoldup t).dcinFrame.uncleared = d.dcinFrame.uncleared := by
  obtain ⟨x, y, h⟩ := d.enterHoldup_still t
  exact (congrArg Dev.uncleared (Dev.dcinFrame_of_still h)).trans rfl

theorem Dev.enterHoldup_batFrame : (d.enterHoldup t).batFrame.uncleared = d.batFrame.uncleared := by
  obtain ⟨x, y, h⟩ := d.enterHoldup_still t
  exact (congrArg Dev.uncleared (Dev.batFrame_of_still h)).trans rfl

theorem Dev.gaugeAbsent_batFrame : d.gaugeAbsent.batFrame = d.batFrame := rfl

theorem Dev.enterNoPack_batFrame : (d.enterNoPack t).batFrame = d.batFrame := by
  have hpair : ∀ x : Dev, (x.path' fun p => { p.driveB .off with supplement := false }).batFrame = x.batFrame := fun _ => rfl
  unfold Dev.enterNoPack
  dsimp only
  rw [Dev.gaugeAbsent_batFrame, hpair]
  exact Dev.batFrame_of_still ((Dev.chg'_still _ _ rfl).trans (d.setPhase_still t .noPack))

theorem Dev.noPackByVoltage_batFrame : (d.noPackByVoltage t).batFrame = d.batFrame := by
  unfold Dev.noPackByVoltage
  split
  · exact d.enterNoPack_batFrame t
  · rfl

/-! ## The device as an input event leaves it -/

theorem Dev.dcinBecomesValid_dcinFrame (mv : Nat) : ∃ pair, (d.dcinBecomesValid t mv).dcinFrame =
    (d.path' fun p => { p with dcinValid := true, dcinMv := mv, dPair := pair }).dcinFrame := by
  unfold Dev.dcinBecomesValid
  dsimp only
  split
  · rw [Dev.leaveHoldup_dcinFrame, Dev.dcinFrame_of_still (Dev.abandonShip_still _ _)]
    exact ⟨_, rfl⟩
  · rw [Dev.dcinFrame_of_still (Dev.wake_still _ _ _), Dev.dcinFrame_of_still (Dev.abandonShip_still _ _)]
    exact ⟨_, rfl⟩

theorem Dev.dcinBecomesInvalid_dcinFrame (mv : Nat) : (d.dcinBecomesInvalid t mv).dcinFrame.uncleared =
    (d.path' fun p => { p with dcinValid := false, dcinMv := mv, dPair := .off }).dcinFrame.uncleared := by
  unfold Dev.dcinBecomesInvalid
  dsimp only
  rw [Dev.enterHoldup_dcinFrame, Dev.when_keeps Dev.dcinFrame _ _ _ (Dev.dcinFrame_of_still (Dev.raise_still _ _ _ _)),
    Dev.supplementTrigger_dcinFrame, Dev.when_keeps Dev.dcinFrame _ _ _ rfl]
  rfl

theorem Dev.batBecomesValid_batFrame (mv : Nat) :
    (d.batBecomesValid t mv).batFrame = (d.path' fun p => { p with batValid := true, batMv := mv }).batFrame := by
  unfold Dev.batBecomesValid
  rw [Dev.leaveHoldup_batFrame, Dev.gaugePresent_batFrame, Dev.supplementQuiet_batFrame]

theorem Dev.batBecomesInvalid_batFrame (mv : Nat) : (d.batBecomesInvalid t mv).batFrame.uncleared =
    (d.path' fun p => { p with batValid := false, batMv := mv }).batFrame.uncleared := by
  have hnoPack := Dev.noPackByVoltage_batFrame (d.path' fun p => { p with batMv := mv }) t
  have hmv : (Dev.noPackByVoltage (d.path' fun p => { p with batMv := mv }) t).path.batMv = mv :=
    congrArg (fun e : Dev => e.path.batMv) hnoPack
  unfold Dev.batBecomesInvalid
  dsimp only
  rw [Dev.enterHoldup_batFrame, Dev.path'_batFrame (valid := false) (mv := mv), Dev.gaugeAbsent_batFrame, hnoPack]
  · rfl
  · split <;> rfl
  · split <;> exact hmv

end

/-! ## The entry of HOLDUP from RUN (R30, R82) -/

theorem Dev.endAction_seq (d : Dev) (action : Nat) (st : EntryState) (detail : Nat) :
    (d.endAction action st detail).seq = d.seq := by
  have hnow : ∀ (x : Dev) (i : Nat), (x.endNow i st detail).seq = x.seq := fun x i => by
    unfold Dev.endNow
    split <;> rfl
  refine foldl_keeps Dev.seq _ (fun x i => ?_) _ d
  unfold Dev.endEntry
  split
  · exact hnow x i
  · rfl

theorem Dev.abandonActions_seq (d : Dev) : d.abandonActions.seq = { d.seq with wakeDue := false, resumeDue := false } := by
  unfold Dev.abandonActions
  simp only [Dev.seq'_seq, Dev.path'_seq, Dev.endAction_seq]

theorem Dev.abandonActions_power (d : Dev) : d.abandonActions.power = d.power := by
  unfold Dev.abandonActions
  simp only [Dev.seq'_power, Dev.path'_power, Dev.power_orderFree.endAction]

theorem Dev.chgClear_power (d : Dev) (t reason : Nat) : (d.chgClear t reason).power = d.power :=
  Dev.chgClear_keeps Dev.power (fun _ _ => rfl) (fun _ _ _ => rfl) d t reason

theorem Dev.endTest_state (d : Dev) : d.endTest.power.state = d.power.state := by
  unfold Dev.endTest
  dsimp only
  split_ifs <;> rfl

theorem Dev.goState_state (d : Dev) (t : Nat) (p : PState) : (d.goState t p).power.state = p := by
  unfold Dev.goState
  dsimp only
  split
  · rw [Dev.chgClear_power, Dev.endTest_state, Dev.when_keeps Dev.power, Dev.when_keeps Dev.power] <;> rfl
  · rw [Dev.when_keeps Dev.power, Dev.when_keeps Dev.power] <;> rfl

/-- A fast-off of every branch leaves none on. -/
theorem Dev.fastOffAll_branchOn (d : Dev) (t : Nat) (b : Branch) : (d.fastOffMask t allMask).branchOn b = false := by
  have hmask : inMask allMask b = true := by
    revert b
    decide
  rw [Dev.fastOffMask_branchOn, hmask]
  simp

theorem Dev.enterHoldup_of_run {d : Dev} (hrun : d.power.state = .run) (hseq : d.seq.state = .idle)
    (hdcin : d.path.dcinValid = false) (hbat : d.path.batValid = false) (hship : d.path.ship = .none) (t : Nat) :
    (d.enterHoldup t).power.state = .holdup ∧ (d.enterHoldup t).power.beforeHoldup = .run ∧
      (d.enterHoldup t).power.holdupEntry = t ∧ ∀ b, (d.enterHoldup t).branchOn b = false := by
  have hbefore : (if d.abandonActions.seq.order = .safeOff then PState.safe
      else if d.abandonActions.power.state = .idle then .run else d.abandonActions.power.state) = .run := by
    simp [Dev.abandonActions_seq, Dev.abandonActions_power, Seq.order, hrun, hseq]
  have hpower : ∀ (x : Dev) (before : PState), (((x.power' fun p => { p with beforeHoldup := before, holdupEntry := t }).gauge'
      fun g => { g with due := true }).life' fun l => { l with recordDue := true }).holdupClears.power =
      { x.power with beforeHoldup := before, holdupEntry := t } := fun _ _ => rfl
  have hbranch : ∀ (x : Dev) (before : PState), (((x.power' fun p => { p with beforeHoldup := before, holdupEntry := t }).gauge'
      fun g => { g with due := true }).life' fun l => { l with recordDue := true }).holdupClears.branchOn = x.branchOn :=
    fun _ _ => rfl
  have hg := Dev.branchOn_faultFree
  unfold Dev.enterHoldup
  rw [if_neg (by simp [hrun, hdcin, hbat, hship])]
  dsimp only
  rw [hbefore, if_neg (by decide), Dev.power_orderFree.broadcast, Dev.power_orderFree.settle, hpower]
  refine ⟨?_, rfl, rfl, fun b => ?_⟩
  · dsimp only
    rw [Dev.goState_state]
  rw [hg.broadcast, hg.settle, hbranch, hg.goState, hg.seq']
  exact Dev.fastOffAll_branchOn _ _ _

/-- What decides whether HOLDUP is entered, and the state that it returns to. -/
def Dev.holdupReads (d : Dev) : Power × Seq × Bool × Bool × ShipStage :=
  (d.power, d.seq, d.path.dcinValid, d.path.batValid, d.path.ship)

theorem Dev.supplementTrigger_holdupReads (d : Dev) : d.supplementTrigger.holdupReads = d.holdupReads := by
  unfold Dev.supplementTrigger
  split <;> rfl

/-- Where DCIN was the last valid input, its loss by its low level enters HOLDUP (R30). -/
theorem Dev.dcinBecomesInvalid_of_run {d : Dev} (hrun : d.power.state = .run) (hseq : d.seq.state = .idle)
    (hbat : d.path.batValid = false) (hship : d.path.ship = .none) {mv : Nat} (hmv : mv ≤ 62000) (t : Nat) :
    (d.dcinBecomesInvalid t mv).power.state = .holdup ∧ (d.dcinBecomesInvalid t mv).power.beforeHoldup = .run ∧
      (d.dcinBecomesInvalid t mv).power.holdupEntry = t ∧ ∀ b, (d.dcinBecomesInvalid t mv).branchOn b = false := by
  have hreads : ∀ (x : Dev) (c : Bool),
      ((x.when c fun d => d.path' fun p => { p.driveB .off with supplement := false }).supplementTrigger).holdupReads =
        x.holdupReads := fun x c => by
    rw [Dev.supplementTrigger_holdupReads]
    exact Dev.when_keeps Dev.holdupReads _ _ _ rfl
  unfold Dev.dcinBecomesInvalid
  dsimp only
  rw [Dev.when, if_neg (by simpa using hmv)]
  refine Dev.enterHoldup_of_run ?_ ?_ ?_ ?_ ?_ t
  · refine (congrArg (fun r => r.1.state) (hreads _ _)).trans ?_
    exact hrun
  · refine (congrArg (fun r => r.2.1.state) (hreads _ _)).trans ?_
    exact hseq
  · exact congrArg (fun r => r.2.2.1) (hreads _ _)
  · refine (congrArg (fun r => r.2.2.2.1) (hreads _ _)).trans ?_
    exact hbat
  · refine (congrArg (fun r => r.2.2.2.2) (hreads _ _)).trans ?_
    exact hship

/-! ## The unpowered core domain, and the end of SHIP (R67, R89) -/

theorem Body.endShip_held {b : Body} (hlatch : b.hw.thermalLatch = false) (hpowered : b.hw.powered = true)
    (hship : b.d.power.state = .ship) (hhold : b.hw.shipHold = true) (source : Nat) : b.endShip source =
      { b with
        hw := { b.hw with shipHold := false, wakeTick := b.hw.counter }
        d := b.d.power' fun p => { p with wakeSource := source } } := by
  rw [Body.endShip, if_neg (by simp [hlatch, hpowered, hship]), if_pos hhold]

/-! ## The events of an input by their levels (Table 4-2) -/

theorem invalidLevel_iff (low mv us : Nat) :
    invalidLevel low mv us = true ↔ (mv < low ∧ 20 ≤ us) ∨ (62000 < mv ∧ 1 ≤ us) := by
  simp [invalidLevel]

section
variable {mv us : Nat} {b : Body}

theorem dcinValid_held (hlo : 18000 ≤ mv) (hhi : mv ≤ 60500) (hus : 10000 ≤ us) (hinvalid : b.d.path.dcinValid = false)
    (hpowered : b.hw.powered = true) : dcinValid mv us b =
      if b.d.power.coreOn then b.onDev fun t d => d.dcinBecomesValid t mv
      else Body.endShip { b with d := b.d.path' fun p => { p with dcinValid := true, dcinMv := mv, dLock := .none } } 2 := by
  rw [dcinValid, if_neg]
  simp only [hinvalid, hpowered, Bool.not_true, Bool.false_eq_true, or_false]
  omega

theorem batsnsValid_held (hlo : 17000 ≤ mv) (hhi : mv ≤ 60500) (hus : 10000 ≤ us) (hpowered : b.hw.powered = true) :
    batsnsValid mv us b = if b.d.power.coreOn then b.onDev fun t d => d.batBecomesValid t mv
      else { b with d := b.d.path' fun p => { p with batValid := true, batMv := mv } } := by
  rw [batsnsValid, if_neg]
  simp only [hpowered, Bool.not_true, Bool.false_eq_true, or_false]
  omega

theorem dcinInvalid_level (h : (mv < 17000 ∧ 20 ≤ us) ∨ (62000 < mv ∧ 1 ≤ us)) : dcinInvalid mv us b =
    if b.d.power.coreOn then b.onDev fun t d => d.dcinBecomesInvalid t mv
    else { b with d := b.d.path' fun p => { p with dcinValid := false, dcinMv := mv } } := by
  rw [dcinInvalid, (invalidLevel_iff _ _ _).2 h]
  exact if_neg (by decide)

theorem batsnsInvalid_level (h : (mv < 16000 ∧ 20 ≤ us) ∨ (62000 < mv ∧ 1 ≤ us)) : batsnsInvalid mv us b =
    if b.d.power.coreOn then b.onDev fun t d => d.batBecomesInvalid t mv
    else { b with d := b.d.path' fun p => { p with batValid := false, batMv := mv } } := by
  rw [batsnsInvalid, (invalidLevel_iff _ _ _).2 h]
  exact if_neg (by decide)

end

/-- A command of the whole body that acts on the device alone. -/
theorem Gives.of_on {c : Instr} {s : State} {f : Body → Body} {d : Dev} {P : Dev → Prop} (hc : exec c s = .next (s.on f))
    (hf : f s.b = { s.b with d := d }) (h : P d) : Gives c s P := by
  refine GivesBody.of_on hc ?_
  rw [hf]
  exact ⟨rfl, rfl, h⟩

theorem inputEventsComplete_core : InputEventsComplete := by
  intro s hon
  refine ⟨fun mv us hlo hhi hus hinvalid hpowered => ?_, fun mv us h => ?_, fun mv us hlo hhi hus hpowered => ?_,
    fun mv us h => ?_, fun us hus hstate hrole => ?_⟩
  · refine Gives.of_on rfl ((dcinValid_held hlo hhi hus hinvalid hpowered).trans (if_pos hon)) ?_
    obtain ⟨pair, h⟩ := s.b.d.dcinBecomesValid_dcinFrame s.b.hw.counter mv
    exact ⟨Dev.still_of_dcinFrame h, (congrArg (fun e : Dev => e.path.dcinValid) h :),
      (congrArg (fun e : Dev => e.path.dcinMv) h :)⟩
  · refine Gives.of_on rfl ((dcinInvalid_level h).trans (if_pos hon)) ?_
    have h := s.b.d.dcinBecomesInvalid_dcinFrame s.b.hw.counter mv
    exact ⟨Dev.still_of_dcinFrame_uncleared h, (congrArg (fun e : Dev => e.path.dcinValid) h :),
      (congrArg (fun e : Dev => e.path.dcinMv) h :), (congrArg (fun e : Dev => e.path.dPair) h :)⟩
  · refine Gives.of_on rfl ((batsnsValid_held hlo hhi hus hpowered).trans (if_pos hon)) ?_
    have h := s.b.d.batBecomesValid_batFrame s.b.hw.counter mv
    exact ⟨Dev.still_of_batFrame h, (congrArg (fun e : Dev => e.path.batValid) h :),
      (congrArg (fun e : Dev => e.path.batMv) h :)⟩
  · refine Gives.of_on rfl ((batsnsInvalid_level h).trans (if_pos hon)) ?_
    have h := s.b.d.batBecomesInvalid_batFrame s.b.hw.counter mv
    exact ⟨Dev.still_of_batFrame_uncleared h, (congrArg (fun e : Dev => e.path.batValid) h :),
      (congrArg (fun e : Dev => e.path.batMv) h :)⟩
  · refine Gives.of_on (d := s.b.d.wake s.b.hw.counter 1) rfl ?_ ?_
    · rw [nwakeLow, if_pos hon, if_pos hus]
      rfl
    · rw [Dev.wake_standby_power hstate, Dev.wake_standby_clk hstate]
      exact ⟨Dev.wake_still _ _ _, rfl, rfl, rfl⟩

theorem inputsUnpowered : InputsUnpowered := by
  intro s hoff
  have hoff' : ¬ s.b.d.power.coreOn = true := by simp [hoff]
  refine ⟨fun mv us h => ?_, fun mv us hlo hhi hus hpowered => ?_, fun mv us h => ?_,
    fun us hus hship hhold hpowered hlatch => ?_, fun mv us hlo hhi hus hinvalid hship hhold hpowered hlatch => ?_⟩
  · exact Gives.of_on rfl ((dcinInvalid_level h).trans (if_neg hoff')) rfl
  · exact Gives.of_on rfl ((batsnsValid_held hlo hhi hus hpowered).trans (if_neg hoff')) rfl
  · exact Gives.of_on rfl ((batsnsInvalid_level h).trans (if_neg hoff')) rfl
  · refine GivesBody.of_on rfl ?_
    rw [nwakeLow, if_neg hoff', if_pos hus, Body.endShip_held hlatch hpowered hship hhold]
    exact ⟨rfl, rfl, rfl⟩
  · refine GivesBody.of_on rfl ?_
    have hend := Body.endShip_held
      (b := { s.b with d := s.b.d.path' fun p => { p with dcinValid := true, dcinMv := mv, dLock := .none } })
      hlatch hpowered hship hhold 2
    rw [dcinValid_held hlo hhi hus hinvalid hpowered, if_neg hoff', hend]
    exact ⟨rfl, rfl, rfl⟩

theorem holdupTurnsEveryBranchOff : HoldupTurnsEveryBranchOff := by
  intro s mv us hon hrun hship hbat hseq hmv hus
  refine Gives.of_on rfl ((dcinInvalid_level (.inl ⟨hmv, hus⟩)).trans (if_pos hon)) ?_
  exact Dev.dcinBecomesInvalid_of_run hrun hseq hbat hship (by omega) _

/-- Settles O1: each input event keeps its frame through the orders that it brings; the loss of the last input fast-offs every
branch, and nothing that follows turns one on. -/
theorem inputEventsComplete : Obligations.InputEventsComplete :=
  ⟨inputEventsComplete_core, inputsUnpowered, holdupTurnsEveryBranchOff⟩

end Sys2Proof.Machine
end

section
/-!
PROOFS. The trunk: its levels, the supplement and the two pairs.
-/
namespace Sys2Proof.Machine

/-! ## A reading of the trunk (R152)

It reaches the path's reading, the charger's region, the feed-forward of the rails and the tuning run; a feed-forward without a
value draws one from the open values. -/

/-- A device but for the open values it has drawn. -/
def Dev.undrawn (d : Dev) : Dev := { d with free := 0 }

theorem Dev.still_of_undrawn {d d' : Dev} (h : d'.still.undrawn = d.still.undrawn) : d'.still = { d with free := d'.free }.still :=
  congrArg (fun e : Dev => { e with free := d'.free }) h

theorem Dev.updateFeedForward_keeps {β : Type} (g : Dev → β) (hlp : ∀ d r f, g (Dev.lp' d r f) = g d)
    (hdraw : ∀ d : Dev, g d.draw.2 = g d) (d : Dev) (r : Rail) : g (d.updateFeedForward r) = g d := by
  unfold Dev.updateFeedForward
  split_ifs
  · rfl
  · exact (hlp _ _ _).trans (hdraw d)
  · exact hlp _ _ _

theorem Dev.readTrunk_keeps {β : Type} (g : Dev → β) (hregion : ∀ d : Dev, g d.chgReading = g d)
    (hfeed : ∀ (d : Dev) r, g (d.updateFeedForward r) = g d) (habort : ∀ (d : Dev) t r o, g (d.abortTuning t r o) = g d)
    (d : Dev) (t mv : Nat) : g (d.readTrunk t mv) = g (d.path' fun p => { p with vsysMv := mv }) := by
  have hread : ∀ l : List Rail, g (l.foldl Dev.updateFeedForward (d.path' fun p => { p with vsysMv := mv }).chgReading) =
      g (d.path' fun p => { p with vsysMv := mv }) := fun l => (foldl_keeps g _ hfeed l _).trans (hregion _)
  unfold Dev.readTrunk
  dsimp only
  split
  · split_ifs
    · exact (habort _ _ _ _).trans (hread _)
    · exact hread _
    · exact hread _
  · exact hread _

section
variable (d : Dev) (t mv : Nat)

theorem Dev.readTrunk_undrawn :
    (d.readTrunk t mv).still.undrawn = (d.path' fun p => { p with vsysMv := mv }).still.undrawn := by
  refine Dev.readTrunk_keeps (fun d => d.still.undrawn) (fun d => ?_) (fun d r => ?_) (fun d t r o => ?_) d t mv
  · unfold Dev.chgReading
    split <;> rfl
  · exact Dev.updateFeedForward_keeps (fun d => d.still.undrawn) (fun d r f => congrArg _ (d.lp'_still r f)) (fun _ => rfl) d r
  · exact congrArg _ (d.abortTuning_still t r o)

theorem Dev.readTrunk_path : (d.readTrunk t mv).path = { d.path with vsysMv := mv } := by
  refine Dev.readTrunk_keeps Dev.path (fun d => ?_) (Dev.updateFeedForward_keeps _ (fun _ _ _ => rfl) fun _ => rfl)
    (fun d t r o => (d.abortTuning_recordsOnly t r o).path_eq) d t mv
  unfold Dev.chgReading
  split <;> rfl

theorem Dev.readTrunk_phase : (d.readTrunk t mv).chg.phase = d.chg.phase := by
  refine Dev.readTrunk_keeps (fun d => d.chg.phase) (fun d => ?_)
    (Dev.updateFeedForward_keeps (fun d => d.chg.phase) (fun _ _ _ => rfl) fun _ => rfl)
    (fun d t r o => congrArg Charger.phase (d.abortTuning_recordsOnly t r o).chg_eq) d t mv
  unfold Dev.chgReading
  split <;> rfl

/-! ## The supplement (R72, R75, R76, R580) -/

theorem Dev.supplementTrigger_rest : d.supplementTrigger = { d with path := d.supplementTrigger.path } := by
  unfold Dev.supplementTrigger
  split <;> rfl

theorem Dev.supplementQuiet_rest : d.supplementQuiet = { d with path := d.supplementQuiet.path } := by
  unfold Dev.supplementQuiet
  split <;> rfl

/-- A supplement leaves the trunk's reading and the DCIN pair to other events. -/
theorem Dev.supplementQuiet_trunk : d.supplementQuiet.path.trunkOv = d.path.trunkOv ∧
    d.supplementQuiet.path.vsysMv = d.path.vsysMv ∧ d.supplementQuiet.path.dPair = d.path.dPair := by
  unfold Dev.supplementQuiet
  split <;> exact ⟨rfl, rfl, rfl⟩

theorem Dev.supplementTrigger_dcin :
    d.supplementTrigger.path.dPair = d.path.dPair ∧ d.supplementTrigger.path.dcinMA = d.path.dcinMA := by
  unfold Dev.supplementTrigger
  split <;> exact ⟨rfl, rfl⟩

theorem Dev.path'_undrawn {d d' : Dev} {q : Path} (hpath : d'.path = q)
    (h : d'.still.undrawn = (d.path' fun _ => q).still.undrawn) (f : Path → Path) :
    (d'.path' f).still.undrawn = (d.path' fun _ => f q).still.undrawn := by
  subst hpath
  exact congrArg (fun e : Dev => { e with path := (f d'.path).still }) h

variable {d}

theorem Dev.supplementTrigger_starts (hnone : d.path.supplement = false) (hready : d.pairReady = true) : d.supplementTrigger =
    d.path' fun p => { p.driveB .ideal with supplement := true, supplements := satInc 32 p.supplements } :=
  if_neg (by simp [hnone, hready])

theorem Dev.supplementTrigger_counted (hnone : d.path.supplement = false) (hready : d.pairReady = true) :
    d.supplementTrigger.path.supplement = true ∧ d.supplementTrigger.path.supplements = satInc 32 d.path.supplements := by
  rw [Dev.supplementTrigger_starts hnone hready]
  exact ⟨rfl, rfl⟩

theorem Dev.supplementTrigger_supplement (h : d.path.supplement = true ∨ d.pairReady = true) :
    d.supplementTrigger.path.supplement = true := by
  unfold Dev.supplementTrigger
  split
  · next hnot =>
    obtain hsup | hready := h
    · exact hsup
    · simpa [hready] using hnot
  · rfl

theorem Dev.pairReady_iff :
    d.pairReady = true ↔ d.path.batValid = true ∧ d.path.trunkOv = false ∧ d.chg.phase ≠ .noPack := by
  simp [Dev.pairReady, and_assoc]

variable (d)

/-- The lock of a dissipation becomes that of a reverse current, so that the pair returns at the end of a supplement exactly where
nothing held it off. -/
theorem Path.endSupplement_dPair (p : Path) : p.endSupplement.dPair = p.dcinPair := by
  have hlock : (if p.dLock = .dissipation then PairLock.reverse else p.dLock) = .none ↔ p.dLock = .none := by
    cases p.dLock <;> decide
  unfold Path.endSupplement Path.dcinPair
  dsimp only [Path.driveD, Path.driveB]
  simp only [hlock]

/-! ## The DCIN pair -/

theorem Path.driveD_dRamp {p : Path} (hoff : p.dPair = .off) (x : Pair) :
    (p.driveD x).dRamp = (decide (x ≠ .off) && decide (p.vsysMv < 10000)) := by
  cases x with
  | off => rfl
  | ideal => exact if_pos hoff
  | linear => exact if_pos hoff

theorem Path.dcinPair_off {p : Path} (hlock : p.dLock ≠ .none) : p.dcinPair = .off := if_neg fun h => hlock h.2.1

/-- The DCIN pair turns off under R68 with the record of FS051, whatever of the path an event has changed before. -/
theorem Dev.dcinReverseOff_frame {d' : Dev} (h : d' = { d with path := d'.path }) :
    ((d'.dcinReverseOff t).power = d.power ∨ (d'.dcinReverseOff t).power = d.power.leaveIdle t) ∧
      d'.dcinReverseOff t = { d with
        power := (d'.dcinReverseOff t).power, path := (d'.dcinReverseOff t).path, faults := (d'.dcinReverseOff t).faults
        nv := (d'.dcinReverseOff t).nv } ∧
      (d'.dcinReverseOff t).sticky 51 = true ∧
      (d'.dcinReverseOff t).path = { d'.path.driveD .off with dLock := .reverse } := by
  generalize d'.path = q at h
  subst h
  obtain ⟨p, f, n, hraise, hp⟩ := Dev.raise_corrected (src := 51) (by decide)
    (Dev.path' { d with path := q } fun p => { p.driveD .off with dLock := .reverse }) t 0
  have hsticky : (Dev.dcinReverseOff { d with path := q } t).sticky 51 = true := Dev.raise_sticky _ t 51 0 (by decide)
  refine ⟨?_, ?_, hsticky, ?_⟩ <;> rw [show Dev.dcinReverseOff { d with path := q } t = _ from hraise]
  · exact hp
  · rfl
  · rfl

/-- The path with the DCIN current at its limit (R73). -/
def Path.limited (mA bat : Nat) (p : Path) : Path := { p with dPair := .linear, dcinMA := mA, batMv := bat }

variable {d} in
/-- At the limit a pack below node D shares the trunk with DCIN. -/
theorem Dev.dcinCurrentLimit_shared {mA nodeD bat : Nat} (hpair : d.path.dPair ≠ .off) (hmA : d.nat 0x2100 2 ≤ mA)
    (hbat : bat < nodeD) :
    d.dcinCurrentLimit mA nodeD bat t = (d.path' (Path.limited mA bat)).supplementTrigger := by
  rw [Dev.dcinCurrentLimit, if_neg hpair, if_neg (by omega)]
  exact if_neg (by omega)

variable {d} in
/-- At the limit a pack at or above node D takes the trunk over as soon as it conducts. -/
theorem Dev.dcinCurrentLimit_reversed {mA nodeD bat : Nat} (hpair : d.path.dPair ≠ .off) (hmA : d.nat 0x2100 2 ≤ mA)
    (hbat : nodeD ≤ bat) (hsup : (d.path' (Path.limited mA bat)).supplementTrigger.path.supplement = true) :
    d.dcinCurrentLimit mA nodeD bat t = (d.path' (Path.limited mA bat)).supplementTrigger.dcinReverseOff t := by
  rw [Dev.dcinCurrentLimit, if_neg hpair, if_neg (by omega)]
  exact if_pos ⟨hsup, hbat⟩

end

/-- Settles O2: each event by the branch that its hypotheses choose; FS051 is recorded without an escalation, and the other sources
leave `still` as it is. -/
theorem trunkEventsComplete : Obligations.TrunkEventsComplete := by
  intro s hon
  refine ⟨fun mv us hmv hus => ?_, fun mv us hmv hus => ?_, fun mv us hov hmv hus => ?_,
    fun mv average hmv hnone hbat hov hpack => ?_, fun uv huv hpair => ?_, fun nodeD trunk us hlock hnode hus => ?_,
    fun mA nodeD bat hpair hmA hbat => ?_,
    fun mA nodeD bat hpair hmA hbat hsup => ?_, fun mA nodeD bat hpair hmA => ?_,
    fun nodeD trunk mA us hpair hsup hdiss hus => ?_,
    fun dis us hsup hdcin hbat hdis hus => ?_, fun drop pack hpair hdrop hpack => ?_⟩
  · refine Gives.of_core rfl hon ?_
    rw [Dev.trunkLow, if_pos ⟨hmv, hus⟩]
    refine ⟨Dev.raise_sticky _ _ _ _ (by decide), ?_⟩
    exact Dev.still_of_undrawn (d := s.b.d.path' fun p => { p with vsysMv := mv })
      ((congrArg Dev.undrawn (Dev.raise_still _ _ _ _)).trans (Dev.readTrunk_undrawn _ _ _))
  · refine Gives.of_core rfl hon ?_
    rw [Dev.trunkOverVoltage, if_pos ⟨hmv, hus⟩]
    exact ⟨Dev.raise_sticky _ _ _ _ (by decide), Dev.raise_still _ _ _ _⟩
  · refine Gives.of_core rfl hon ?_
    rw [Dev.trunkOverVoltageRecovery, if_pos ⟨hov, hmv, hus⟩]
    obtain ⟨hnormal, hread, hpair⟩ := Dev.supplementQuiet_trunk (s.b.d.path' fun p =>
      Path.driveD { p with vsysMv := mv, trunkOv := false } (Path.dcinPair { p with vsysMv := mv, trunkOv := false }))
    refine ⟨Dev.supplementQuiet_rest _, hnormal, hread, hpair.trans ?_⟩
    simp [Path.driveD, Path.dcinPair]
  · refine Gives.of_core rfl hon ?_
    have hpath := s.b.d.readTrunk_path s.b.hw.counter mv
    have hready : (s.b.d.readTrunk s.b.hw.counter mv).pairReady = true := by
      rw [Dev.pairReady_iff, hpath, Dev.readTrunk_phase]
      exact ⟨hbat, hov, hpack⟩
    rw [Dev.trunkDroop, if_pos hmv, Dev.supplementTrigger_starts (by rw [hpath]; exact hnone) hready]
    refine (Dev.still_of_undrawn (d := s.b.d.path' _) (Dev.path'_undrawn hpath (Dev.readTrunk_undrawn _ _ _) _)).trans ?_
    rfl
  · refine Gives.of_core rfl hon ?_
    rw [Dev.dcinReverseCurrent, if_pos ⟨huv, hpair⟩]
    obtain ⟨hpower, hrest, hsticky, hpath⟩ :=
      Dev.dcinReverseOff_frame s.b.d s.b.hw.counter (Dev.supplementTrigger_rest (s.b.d.path' _))
    refine ⟨hpower, hrest, hsticky, congrArg Path.dPair hpath, congrArg Path.dLock hpath,
      (congrArg Path.dcinMA hpath).trans (Dev.supplementTrigger_dcin _).2, fun hnone hready => ?_⟩
    · rw [hpath]
      refine Dev.supplementTrigger_counted ?_ ?_
      · exact hnone
      · exact hready
  · refine Gives.of_core rfl hon ?_
    rw [Dev.dcinPairReturn, if_pos ⟨hlock, hnode, hus⟩]
    refine ⟨rfl, ?_, fun hoff => ?_⟩
    · simp [Dev.path', Path.driveD, Path.dcinPair]
    · refine Path.driveD_dRamp ?_ _
      exact hoff
  · refine Gives.of_core rfl hon ?_
    rw [Dev.dcinCurrentLimit_shared _ hpair hmA hbat]
    obtain ⟨hlinear, hmA'⟩ := Dev.supplementTrigger_dcin (s.b.d.path' (Path.limited mA bat))
    refine ⟨Dev.supplementTrigger_rest (s.b.d.path' _), hlinear, hmA', fun hnone hready => ?_⟩
    exact Dev.supplementTrigger_counted (d := s.b.d.path' (Path.limited mA bat)) hnone hready
  · refine Gives.of_core rfl hon ?_
    have hstarted := Dev.supplementTrigger_supplement (d := s.b.d.path' (Path.limited mA bat)) hsup
    rw [Dev.dcinCurrentLimit_reversed _ hpair hmA hbat hstarted]
    obtain ⟨hpower, hrest, hsticky, hpath⟩ :=
      Dev.dcinReverseOff_frame s.b.d s.b.hw.counter (Dev.supplementTrigger_rest (s.b.d.path' _))
    exact ⟨hpower, hrest, hsticky, congrArg Path.dPair hpath, congrArg Path.dLock hpath,
      (congrArg Path.supplement hpath).trans hstarted⟩
  · refine Gives.of_core rfl hon ?_
    rw [Dev.dcinCurrentLimit, if_neg (by simp [hpair]), if_pos hmA]
    simp [Dev.path', hpair]
  · refine Gives.of_core rfl hon ?_
    rw [Dev.dcinLinearModeDissipation, if_pos ⟨hpair, hsup, hdiss, hus⟩]
    exact ⟨Dev.raise_sticky _ _ _ _ (by decide), Dev.raise_still _ _ _ _⟩
  · refine Gives.of_core rfl hon ?_
    rw [Dev.supplementEnd, if_pos ⟨hsup, hdcin, hbat, hdis, hus⟩]
    have hdPair := s.b.d.path.endSupplement_dPair
    exact ⟨rfl, rfl, rfl, fun hlock => hdPair.trans (Path.dcinPair_off hlock), fun hlock hov =>
      hdPair.trans (if_pos ⟨hdcin, hlock, by simp [hov]⟩)⟩
  · refine Gives.of_core rfl hon ?_
    rw [Dev.batteryPairFault, if_neg (by simp [hpair]; omega), if_pos rfl]
    exact ⟨Dev.raise_sticky _ _ _ _ (by decide), Dev.raise_still _ _ _ _⟩

end Sys2Proof.Machine
end

section
/-!
PROOFS. VPRE and the HOLD store, brown-out warning, and the entry of SHIP.
-/
namespace Sys2Proof.Machine

/-! ## The capacitance of the HOLD store (R79) -/

section
variable {d : Dev} (htimed : d.path.capTimed = false) (us t : Nat)
include htimed

theorem Dev.holdCapacitance_of_untimed : d.holdCapacitance us t =
    (d.path' fun p => { p with capUf := min (us / 200) 0xFFFF, capTimed := true }).when (decide (min (us / 200) 0xFFFF < 220))
      fun d => d.raise t 57 0 :=
  if_neg (by simp [htimed])

theorem Dev.holdCapacitance_path :
    (d.holdCapacitance us t).path = { d.path with capUf := min (us / 200) 0xFFFF, capTimed := true } := by
  rw [Dev.holdCapacitance_of_untimed htimed]
  exact Dev.when_keeps Dev.path _ _ _ (Dev.raise_path (by decide) _ t 0)

theorem Dev.holdCapacitance_still :
    (d.holdCapacitance us t).still = { d with path := (d.holdCapacitance us t).path }.still := by
  rw [Dev.holdCapacitance_path htimed, Dev.holdCapacitance_of_untimed htimed]
  exact Dev.when_keeps Dev.still _ _ _ (Dev.raise_still _ _ _ _)

theorem Dev.holdCapacitance_sticky (hlow : us / 200 < 220) : (d.holdCapacitance us t).sticky 57 = true := by
  rw [Dev.holdCapacitance_of_untimed htimed, Dev.when, if_pos (by simp; omega)]
  exact Dev.raise_sticky _ _ _ _ (by decide)

end

/-! ## The end of a brown-out warning (R84, R85) -/

theorem Dev.startDeferred_none {d : Dev} (h : d.path.deferred = []) (t : Nat) : d.startDeferred t = d := by
  have hpath : { d.path with deferred := [] } = d.path := by rw [← h]
  unfold Dev.startDeferred
  rw [h]
  exact congrArg (fun p => { d with path := p }) hpath

section
variable (d : Dev) (t us : Nat)

/-- What the end of a warning records: FS056, the duration, and the ends that waited. -/
def Dev.warningRecorded : Dev := ((d.raise t 56 0).logEvent t 0x10 0 0 (bytesLE 4 us)).payEnds

theorem Dev.warningRecorded_recordsOnly : d.RecordsOnly t (d.warningRecorded t us) :=
  ((d.raise_recordsOnly t (by decide) 0).trans (Dev.logEvent_recordsOnly _ t _ _ _ _)).trans (Dev.payEnds_recordsOnly _ t)

theorem Dev.warningRecorded_still : (d.warningRecorded t us).still = d.still := by
  rw [Dev.warningRecorded, Dev.payEnds_still, Dev.logEvent_still, Dev.raise_still]

theorem Dev.warningRecorded_sticky : (d.warningRecorded t us).sticky 56 = true := by
  rw [Dev.warningRecorded, Dev.sticky_of_src (Dev.payEnds_src _), Dev.sticky_of_src (Dev.logEvent_src _ _ _ _ _ _)]
  exact Dev.raise_sticky d t 56 0 (by decide)

end

/-- Beside a change of the power path nothing has changed but what records. -/
theorem Dev.RecordsOnly.rest_path {d d' : Dev} {t : Nat} {f : Path → Path} (h : (d.path' f).RecordsOnly t d') : d' = { d with
    power := d'.power, path := d'.path, grove := d'.grove, faults := d'.faults, nv := d'.nv, jour := d'.jour } :=
  h.rest.trans (congrArg (fun p => { d with
    power := d'.power, path := p, grove := d'.grove, faults := d'.faults, nv := d'.nv, jour := d'.jour }) h.path_eq.symm)

/-- The path as a warning's end leaves it. -/
def Path.warningEnded (mv : Nat) (p : Path) : Path := { p with vpreMv := mv, warning := false, warnings := satInc 16 p.warnings }

section
variable {d : Dev} {mv stable : Nat} (hwarned : d.path.warning = true) (hmv : 4650 < mv) (hstable : 2000 ≤ stable) (dur t : Nat)
include hwarned hmv hstable

theorem Dev.brownOutWarningEnd_of_stable :
    d.brownOutWarningEnd mv dur stable t = ((d.path' (Path.warningEnded mv)).warningRecorded t dur).startDeferred t :=
  if_neg (by simp [hwarned]; omega)

theorem Dev.brownOutWarningEnd_recordsOnly :
    (d.path' fun p => { p.warningEnded mv with deferred := [] }).RecordsOnly t (d.brownOutWarningEnd mv dur stable t) := by
  rw [Dev.brownOutWarningEnd_of_stable hwarned hmv hstable]
  exact (((d.path' (Path.warningEnded mv)).warningRecorded_recordsOnly t dur).afterPath fun p => { p with deferred := [] }).trans
    (Dev.startDeferred_recordsOnly _ t)

end

/-! ## The entry of SHIP (R87, Table 4-4) -/

theorem Dev.shipPointOfNoReturn_still (d : Dev) : d.shipPointOfNoReturn.still = d.still := by
  unfold Dev.shipPointOfNoReturn
  split
  · exact (Dev.path'_still _ _ rfl).trans (foldl_keeps Dev.still _ (fun d i => d.endNow_still i _ _) _ d)
  · rfl

/-- The core domain as the entry of SHIP leaves it: off, with storage, OTP and device records as they were. -/
theorem Dev.shipped_keeps (d : Dev) (t : Nat) : ((d.goState t .ship).unpowered).power.state = .ship ∧
    ((d.goState t .ship).unpowered).path.dcinValid = d.path.dcinValid ∧ ((d.goState t .ship).unpowered).otp.words = d.otp.words ∧
    ((d.goState t .ship).unpowered).nv.log = d.nv.log ∧ ((d.goState t .ship).unpowered).recs = d.recs := by
  have hstill := d.goState_still t .ship
  exact ⟨d.goState_state t .ship, (congrArg Path.dcinValid (d.goState_path t .ship) :),
    (congrArg (fun e : Dev => e.otp.words) hstill :), (congrArg (fun e : Dev => e.nv.log) hstill :),
    (congrArg (fun e : Dev => e.recs) hstill :)⟩

section
variable {b : Body} (hship : b.d.path.ship = .pastReturn)
include hship

theorem shipEntryComplete_left (hdcin : b.d.path.dcinValid = false) : shipEntryComplete b =
    { b with
      hw := { b.hw with shipHold := true, stateBeforeShip := b.d.power.code }
      d := (b.d.goState b.hw.counter .ship).unpowered } := by
  obtain ⟨-, hvalid, -⟩ := b.d.shipped_keeps b.hw.counter
  rw [shipEntryComplete, if_neg (by simp [hship])]
  exact if_neg (by simp [hvalid, hdcin])

theorem shipEntryComplete_ended (hdcin : b.d.path.dcinValid = true) (hlatch : b.hw.thermalLatch = false)
    (hpowered : b.hw.powered = true) : shipEntryComplete b =
      { b with
        hw := { b.hw with shipHold := false, stateBeforeShip := b.d.power.code, wakeTick := b.hw.counter }
        d := (b.d.goState b.hw.counter .ship).unpowered.power' fun p => { p with wakeSource := 2 } } := by
  obtain ⟨hstate, hvalid, -⟩ := b.d.shipped_keeps b.hw.counter
  rw [shipEntryComplete, if_neg (by simp [hship])]
  refine (if_pos (hvalid.trans hdcin)).trans ?_
  exact Body.endShip_held (b := { b with
    hw := { b.hw with shipHold := true, stateBeforeShip := b.d.power.code }, d := (b.d.goState b.hw.counter .ship).unpowered })
    hlatch hpowered hstate rfl 2

end

/-- Settles O3: the readings by their limits, the end of a warning as records before the deferred actions, and the entry of SHIP by
what a loss of the supply leaves. -/
theorem supplyEventsComplete : Obligations.SupplyEventsComplete := by
  intro s hon
  obtain ⟨hstate, -, hwords, hlog, hrecs⟩ := s.b.d.shipped_keeps s.b.hw.counter
  refine ⟨fun mv us hmv hus => ?_, fun mv hmv => ?_, fun mv hmv => ?_, fun us htimed => ?_, fun us hus hseen => ?_,
    fun mv hlo hhi => ?_, fun mv dur stable hwarned hmv hstable => ?_, fun mv dur stable hwarned hnone hmv hstable => ?_,
    fun hship hdone hadmit => ?_, fun hship hdcin => ?_, fun hship hdcin hlatch hpowered => ?_⟩
  · refine Gives.of_core rfl hon ?_
    rw [Dev.vpreOverVoltage, if_pos ⟨hmv, hus⟩]
    exact ⟨Dev.raise_sticky _ _ _ _ (by decide), Dev.raise_still _ _ _ _⟩
  · refine Gives.of_core rfl hon ?_
    simp [Dev.holdIsReady, Dev.path', hmv]
  · refine Gives.of_core rfl hon ?_
    have hnot : ¬ 11400 < mv := by omega
    simp [Dev.holdIsReady, Dev.path', hnot]
  · exact Gives.of_core rfl hon ⟨Dev.holdCapacitance_still htimed _ _, Dev.holdCapacitance_path htimed _ _,
      Dev.holdCapacitance_sticky htimed _ _⟩
  · refine Gives.of_core rfl hon ?_
    rw [Dev.holdChargeTimeout, if_pos (by simp [hus, hseen])]
    exact ⟨Dev.raise_sticky _ _ _ _ (by decide), Dev.raise_still _ _ _ _⟩
  · refine Gives.of_core rfl hon ?_
    exact if_pos ⟨hlo, hhi⟩
  · have hrecords := Dev.brownOutWarningEnd_recordsOnly hwarned hmv hstable dur s.b.hw.counter
    have hpath := hrecords.path_eq
    exact Gives.of_core rfl hon ⟨hrecords.power, hrecords.rest_path, congrArg Path.warning hpath, congrArg Path.vpreMv hpath,
      congrArg Path.deferred hpath, congrArg Path.warnings hpath⟩
  · refine Gives.of_core rfl hon ?_
    rw [Dev.brownOutWarningEnd_of_stable hwarned hmv hstable, Dev.startDeferred_none]
    · exact ⟨Dev.warningRecorded_sticky _ _ _, Dev.warningRecorded_still _ _ _⟩
    · rw [(Dev.warningRecorded_recordsOnly _ _ _).path_eq]
      exact hnone
  · refine Gives.of_core rfl hon ⟨?_, s.b.d.shipPointOfNoReturn_still⟩
    rw [Dev.shipPointOfNoReturn, if_pos ⟨hship, hdone, hadmit⟩]
    rfl
  · refine GivesBody.of_coreBody rfl hon ?_
    rw [shipEntryComplete_left hship hdcin]
    exact ⟨rfl, rfl, hstate, rfl, rfl, rfl, Dev.kept_branchOn _, hwords, hlog, hrecs⟩
  · refine GivesBody.of_coreBody rfl hon ?_
    rw [shipEntryComplete_ended hship hdcin hlatch hpowered]
    exact ⟨rfl, rfl, hstate, rfl, rfl⟩

end Sys2Proof.Machine
end

section
/-!
PROOFS. The phase pool: the samples of a balance update move the local correction of their rail.
-/
namespace Sys2Proof.Machine

/-! ## A balance update whose sample moves the local correction (R190) -/

/-- GR0 regulates at 250 mV on remote sense, in band, with a local correction of 0 µV; none of its last 15 samples had an error. -/
def inBandRail : RailSt :=
  { mode := .regulating
    lp := { vref := 1000, target := 1000, inBand := true
            hist := List.replicate 15 { gap := 0, vref := 1000, e := 0, eow := false, uv := 250000, diff := none } } }

/-- Phase 0 is wired to GR0, which is as `inBandRail` says. -/
def correctedByBalance : State :=
  { State.reset with b.d := (State.reset.b.d.setLive 0x2210 1 0x80).rail' 0 fun _ => inBandRail }

/-- A sample without error whose voltage at the local pin is 1 mV below that of the sense pair. -/
def offsetSample : Sample := { gap := 0, vdiffUv := 250000, lsUv := 249000, edges := [], check := none }

def correctedDev : Dev :=
  correctedByBalance.b.d.balanceUpdate 0 0 [offsetSample] [⟨0, [1200000]⟩] correctedByBalance.b.hw.counter

/-- The local correction becomes the mean of V_diff − V_LS over the last 1 ms. -/
theorem correctedDev_corrUv : correctedDev.grove.rail[(0 : Rail)].still.corrUv = 1000 := by
  decide +kernel

theorem correctedByBalance_corrUv : correctedByBalance.b.d.grove.rail[(0 : Rail)].still.corrUv = 0 := by
  decide +kernel

/-- Refutes O4: a balance update carries the samples since the last command, and in band on remote sense they move the local
correction of the rail (R190), which the frame of its clause keeps. -/
theorem not_placementComplete : ¬ Obligations.PlacementComplete := by
  rintro ⟨-, h⟩
  obtain ⟨-, -, -, -, -, -, -, -, -, hbalance, -⟩ := h correctedByBalance 0 rfl
  obtain ⟨hstill, -⟩ := (hbalance 0 0 [offsetSample] [1200000] 0 (by decide +kernel) (by decide +kernel)).device rfl rfl
  have hframe : correctedDev.still = { correctedByBalance.b.d with free := correctedDev.free }.still := hstill
  have hkept : correctedDev.grove.rail[(0 : Rail)].still.corrUv = correctedByBalance.b.d.grove.rail[(0 : Rail)].still.corrUv :=
    congrArg RailSt.corrUv (Dev.rail_of_still hframe 0)
  rw [correctedDev_corrUv, correctedByBalance_corrUv] at hkept
  exact absurd hkept (by decide)

end Sys2Proof.Machine
end

section
/-!
PROOFS. Trips of a grove rail: what follows a trip leaves the grove as the trip has left it; and the loss of remote sense.
-/
namespace Sys2Proof.Machine

/-! ## The raising of a source that is not fatal, and a failed start, leave the grove alone -/

/-- No transition, order or record of the fault collector is a part of the grove. -/
theorem Dev.grove_faultFree : Dev.FaultFree Dev.grove where
  seq' _ _ := rfl
  judgeAll _ _ := rfl
  casc' _ _ := rfl
  jour' _ _ := rfl
  wdh' _ _ := rfl
  port' := Dev.port'_grove
  test' _ _ := rfl
  out _ _ := rfl
  power' _ _ := rfl
  clk' _ _ := rfl
  path' _ _ := rfl
  chg' _ _ := rfl
  gauge' _ _ := rfl
  th' _ _ := rfl
  conv' _ _ := rfl
  timer' _ _ _ := rfl
  faults' _ _ := rfl
  nv' _ _ := rfl
  life' _ _ := rfl
  setLive _ _ _ _ := rfl

namespace Dev.FaultFree
variable {β : Type} {g : Dev → β} (hg : Dev.FaultFree g)
include hg

/-- Only a fatal source escalates as it is raised. -/
theorem raiseAs {src : Nat} (hclass : sourceClass src ≠ classF) (d : Dev) (t reason : Nat) (started : Bool) :
    g (d.raiseAs t src reason started) = g d := by
  unfold Dev.raiseAs
  split_ifs
  · rfl
  · exact hg.faultWake _ _ _
  · dsimp only
    rw [if_neg hclass]
    exact (hg.faultWake _ _ _).trans (hg.record _ _ _ _ _)

theorem failedOnOrder (d : Dev) (t : Nat) (f : Failure) : g (d.failedOnOrder t f) = g d := by
  unfold Dev.failedOnOrder Dev.abandonEntries
  dsimp only
  split
  · rw [hg.beginOff, hg.issueOrder, hg.seq', hg.seq']
  · rw [hg.beginOff, hg.issueOrder, hg.seq', hg.endAction, hg.endAction, hg.seq', hg.seq']

theorem failedOnSlave (d : Dev) (b reason : Nat) : g (d.failedOnSlave b reason) = g d :=
  (hg.casc' _ _).trans (hg.seq' _ _)

theorem failedGroup (d : Dev) (t : Nat) : g (d.failedGroup t) = g d := by
  unfold Dev.failedGroup
  rw [hg.safeReaction, hg.wdh', hg.seq']

end Dev.FaultFree

theorem Dev.markFailed_grove (d : Dev) (own : Option Branch) : (d.markFailed own).grove = d.grove := by
  unfold Dev.markFailed
  split <;> rfl

theorem Dev.markFailed_branchOn (d : Dev) (own : Option Branch) : (d.markFailed own).branchOn = d.branchOn := by
  unfold Dev.markFailed
  split <;> rfl

/-- A branch that is off is not turned off again. -/
theorem Dev.turnOff_of_off {d : Dev} {b : Branch} (h : d.branchOn b = false) (t : Nat) : d.turnOff t b = d := by
  unfold Dev.turnOff
  obtain ⟨r, rfl⟩ | ⟨c, rfl⟩ | ⟨n, rfl⟩ := branch_cases b
  · rw [Dev.branchOn_railBranch] at h
    rw [byBranch_railBranch, Dev.turnOffRail, h]
    rfl
  · rw [Dev.branchOn_chanCode] at h
    rw [byBranch_chanCode, Dev.turnOffChan, h]
    rfl
  · rw [Dev.branchOn_xeBranch] at h
    rw [byBranch_xeBranch, Dev.turnOffXe, h]
    rfl

/-- The failed start of a branch that is off: orders of the sequencer may follow, but nothing is left to turn off. -/
theorem Dev.failedStartAs_grove {d : Dev} {f : Failure} (hoff : ∀ b ∈ f.own, d.branchOn b = false) (t : Nat) :
    (d.failedStartAs t f).grove = d.grove := by
  have hg := Dev.grove_faultFree
  have hmarked := d.markFailed_grove f.own
  unfold Dev.failedStartAs
  dsimp only
  split
  · split_ifs
    · exact (hg.failedOnSlave _ _ _).trans hmarked
    · exact (hg.failedGroup _ _).trans hmarked
    · exact (hg.failedOnOrder _ _ _).trans hmarked
  · exact (hg.seq' _ _).trans hmarked
  · rw [hg.safeCheck]
    split
    · next b hb =>
      rw [Dev.turnOff_of_off]
      · exact hmarked
      · rw [Dev.markFailed_branchOn]
        exact hoff b hb
    · exact hmarked
  · exact hmarked

theorem Failure.own_failureNow (d : Dev) (t kind reason : Nat) (b : Branch) : (d.failureNow t kind b.val 0 reason).own = some b := by
  have hb : (d.failureNow t kind b.val 0 reason).branch < 30 := b.isLt
  rw [Failure.own, dif_pos hb]
  rfl

/-- What follows the trip of a branch that is off changes nothing in the grove. -/
theorem Dev.tripped_grove {d : Dev} {b : Branch} (hclass : sourceClass (branchSource b) ≠ classF) (hoff : d.branchOn b = false)
    (t reason : Nat) (counts : Bool) : (d.tripped t b reason counts).grove = d.grove := by
  have hg := Dev.grove_faultFree
  have hraised : ((d.loseTargets b).raiseAs t (branchSource b) reason counts).grove = d.grove :=
    (hg.raiseAs hclass _ _ _ _).trans (hg.loseTargets _ _)
  have hstill : ((d.loseTargets b).raiseAs t (branchSource b) reason counts).branchOn b = false := by
    rw [Dev.branchOn_faultFree.raiseAs hclass, Dev.branchOn_faultFree.loseTargets]
    exact hoff
  unfold Dev.tripped
  dsimp only
  rw [hg.seqCheck, hg.settle]
  split
  · refine (Dev.failedStartAs_grove (fun x hx => ?_) t).trans hraised
    rw [Failure.own_failureNow] at hx
    cases hx
    exact hstill
  · exact hraised

/-! ## A trip of a rail (R200) -/

theorem railSource_class : ∀ r : Rail, sourceClass (20 + r.val) = classU := by
  decide

theorem railSource_ne_fatal (r : Rail) : sourceClass (20 + r.val) ≠ classF := by
  rw [railSource_class]
  decide

theorem Dev.rail'_self (d : Dev) (r : Rail) (f : RailSt → RailSt) : (d.rail' r f).grove.rail[r] = f d.grove.rail[r] :=
  upd_self _ _ _

/-- Whatever becomes of the grove, what leaves `still` alone leaves the rest of it alone. -/
theorem Dev.still_withGrove {d d' : Dev} (h : d'.still = d.still) (g : Grove) :
    { d' with grove := g }.still = { d with grove := g }.still :=
  congrArg (fun e : Dev => { e with grove := g.still }) h

/-- A rail that notes its trip. -/
def RailSt.tripNoted (reason t : Nat) (x : RailSt) : RailSt := { x with trip := true, reason := reason, tripTime := t }

section
variable (d : Dev) (t : Nat) (r : Rail) (reason : Nat)

/-- The rail has gone off and notes its trip; orders and records may follow. -/
def Dev.tripNoted : Dev := ((d.abandonInsertions r).fastOffRail t r).rail' r (RailSt.tripNoted reason t)

theorem Dev.tripRail_eq : d.tripRail t r reason =
    (d.tripNoted t r reason).tripped t (railBranch r) reason (d.countsAsStart (railBranch r)) := rfl

theorem Dev.tripNoted_off : (d.tripNoted t r reason).branchOn (railBranch r) = false := by
  unfold Dev.tripNoted
  rw [Dev.rail'_branchOn_of_mode (f := RailSt.tripNoted reason t) fun _ => rfl, Dev.fastOffRail_branchOn]
  simp

theorem Dev.tripRail_grove : (d.tripRail t r reason).grove = (d.tripNoted t r reason).grove := by
  rw [Dev.tripRail_eq]
  exact Dev.tripped_grove (b := railBranch r) (railSource_ne_fatal r) (d.tripNoted_off t r reason) _ _ _

theorem Dev.tripRail_tripped : RailTripped (d.tripRail t r reason) r reason t := by
  have hgrove := d.tripRail_grove t r reason
  have hnoted := Dev.rail'_self ((d.abandonInsertions r).fastOffRail t r) r (RailSt.tripNoted reason t)
  have hrail : (d.tripRail t r reason).grove.rail[r] = _ := (congrArg (fun g : Grove => g.rail[r]) hgrove).trans hnoted
  refine ⟨?_, congrArg RailSt.trip hrail, congrArg RailSt.reason hrail, congrArg RailSt.tripTime hrail, ?_⟩
  · have hoff := d.tripNoted_off t r reason
    rw [Dev.branchOn_railBranch, Dev.railOn_eq, ← hgrove] at hoff
    exact hoff
  · rw [Dev.tripRail_eq]
    exact Dev.tripped_sticky _ t (railBranch r) _ _ (by simp [branchSource, railBranch]; omega)

theorem Dev.tripRail_still : (d.tripRail t r reason).still = { d with grove := (d.tripRail t r reason).grove }.still := by
  rw [Dev.tripRail_grove, Dev.tripRail_eq, Dev.tripped_still]
  refine Dev.still_withGrove (d' := (d.abandonInsertions r).fastOffRail t r) ?_ (d.tripNoted t r reason).grove
  rw [Dev.fastOffRail_still, Dev.abandonInsertions_still]

theorem Dev.tripRail_spec : (d.tripRail t r reason).still = { d with grove := (d.tripRail t r reason).grove }.still ∧
    RailTripped (d.tripRail t r reason) r reason t := ⟨d.tripRail_still t r reason, d.tripRail_tripped t r reason⟩

end

/-! ## The samples that a command carries (R144 to R153, R190) -/

/-- A reading of the device that samples do not change: it looks neither at the grove nor at the open values drawn, nor at the
journal and the records of the log. -/
theorem Dev.runSamples_keeps {β : Type} (g : Dev → β) (hrail : ∀ d r f, g (Dev.rail' d r f) = g d)
    (hph : ∀ d p f, g (Dev.ph' d p f) = g d) (hdraw : ∀ d : Dev, g d.draw.2 = g d)
    (habort : ∀ (d : Dev) t r o, g (d.abortTuning t r o) = g d) (hsettle : ∀ d : Dev, g d.settle = g d)
    (d : Dev) (t : Nat) (r : Rail) (l : List Sample) : g (d.runSamples t r l) = g d := by
  have hlp : ∀ d r f, g (Dev.lp' d r f) = g d := fun d r f => hrail d r _
  have hfire : ∀ d : Dev, g (d.fireOutput r) = g d := fun d => foldl_keeps g _ (fun d p => hph d p _) _ d
  have hfeed : ∀ d : Dev, g (d.updateFeedForward r) = g d := fun d => Dev.updateFeedForward_keeps g hlp hdraw d r
  have hleft : ∀ (d : Dev) (c : Bool), g (if c then d.abortTuning t r 0x15 else d) = g d := fun d c => by
    split
    · exact habort d t r _
    · rfl
  have hsample : ∀ (d : Dev) (x : Sample), g (d.takeSample t r x) = g d := fun d x => by
    unfold Dev.takeSample
    split
    · rfl
    · exact (hleft _ _).trans (by rw [hfire, hlp, hfeed, hlp])
  have hmeans : ∀ d : Dev, g (d.noteMeans r) = g d := fun d => by
    unfold Dev.noteMeans
    dsimp only
    split_ifs
    · rfl
    · exact hrail _ _ _
  unfold Dev.runSamples
  split
  · rfl
  · rw [hsettle, hmeans]
    exact foldl_keeps g _ hsample l d

/-- A device but for its grove and the open values it has drawn. -/
def Dev.unsampled (d : Dev) : Dev := { d with grove := {}, free := 0 }

section
variable (d : Dev) (t : Nat) (r : Rail) (l : List Sample)

theorem Dev.runSamples_unsampled : (d.runSamples t r l).still.unsampled = d.still.unsampled :=
  Dev.runSamples_keeps (fun d => d.still.unsampled) (fun _ _ _ => rfl) (fun _ _ _ => rfl) (fun _ => rfl)
    (fun d t r o => congrArg Dev.unsampled (d.abortTuning_still t r o)) (fun d => congrArg Dev.unsampled d.settle_still) d t r l

theorem Dev.runSamples_dict : (d.runSamples t r l).dict = d.dict :=
  Dev.runSamples_keeps Dev.dict (fun _ _ _ => rfl) (fun _ _ _ => rfl) (fun _ => rfl) Dev.abortTuning_dict Dev.settle_dict d t r l

/-- A setting of the dictionary is what its layers and the node-ID give (R21). -/
theorem Dev.gr_of_dict {d d' : Dev} (h : d'.dict = d.dict) (r : Rail) (sub : Nat) : d'.gr r sub = d.gr r sub := by
  exact congrArg Int.toNat (Dev.int_congr (by rw [h]) (by rw [h]) (by rw [h]) (by rw [h]))

end

/-- What changes only the grove after the samples of a command has changed that and drawn open values since before them. -/
theorem Dev.still_of_sampled {d e d' : Dev} (he : e.still.unsampled = d.still.unsampled)
    (h : d'.still = { e with grove := d'.grove }.still) : d'.still = { d with free := d'.free, grove := d'.grove }.still := by
  have hfree : d'.free = e.free := (congrArg Dev.free h :)
  rw [hfree]
  exact h.trans (congrArg (fun x : Dev => { x with free := e.free, grove := d'.grove.still }) he)

theorem Dev.tripRail_sampled_still (d : Dev) (t : Nat) (r : Rail) (l : List Sample) (reason : Nat) :
    ((d.runSamples t r l).tripRail t r reason).still = { d with
      free := ((d.runSamples t r l).tripRail t r reason).free
      grove := ((d.runSamples t r l).tripRail t r reason).grove }.still :=
  Dev.still_of_sampled (d.runSamples_unsampled t r l) ((d.runSamples t r l).tripRail_still t r reason)

/-! ## What the stages report (R126) -/

theorem Dev.faultFallen_still (d : Dev) (x : Phase × Nat) : (d.faultFallen x).still = d.still := by
  unfold Dev.faultFallen
  split
  · exact Dev.ph'_still _ _ _
  · rfl

/-! ## Loss of remote sense (R188 to R191) -/

/-- A rail that goes on under local sense. -/
def RailSt.onLocalSense (x : RailSt) : RailSt := { x with localSense := true, gsP := 0, gsN := 0, reason := 9 }

section
variable {d : Dev} {r : Rail} (hmode : d.gr r 0x3A ≠ 2) (t : Nat)
include hmode

theorem Dev.senseLost_local : d.senseLost t r = (d.rail' r RailSt.onLocalSense).raise t (20 + r.val) 9 := if_neg hmode

theorem Dev.senseLost_spec : (d.senseLost t r).still = { d with grove := (d.senseLost t r).grove }.still ∧
    (d.senseLost t r).grove.rail[r].localSense = true ∧ (d.senseLost t r).grove.rail[r].reason = 9 ∧
    (d.senseLost t r).sticky (20 + r.val) = true := by
  have hgrove : (d.senseLost t r).grove = (d.rail' r RailSt.onLocalSense).grove := by
    rw [Dev.senseLost_local hmode]
    exact Dev.grove_faultFree.raiseAs (railSource_ne_fatal r) _ _ _ _
  have hrail : (d.senseLost t r).grove.rail[r] = d.grove.rail[r].onLocalSense :=
    (congrArg (fun g : Grove => g.rail[r]) hgrove).trans (Dev.rail'_self _ _ _)
  refine ⟨?_, congrArg RailSt.localSense hrail, congrArg RailSt.reason hrail, ?_⟩
  · rw [hgrove, Dev.senseLost_local hmode, Dev.raise_still]
    rfl
  · rw [Dev.senseLost_local hmode]
    exact Dev.raise_sticky _ _ _ _ (by omega)

end

theorem Dev.senseMismatch_lost {d : Dev} {r : Rail} {diff us : Nat} (hchecked : d.senseChecked r = true)
    (hdiff : d.grove.rail[r].lp.vref * 250 < diff * 20) (hus : 50 ≤ us) (t : Nat) :
    d.senseMismatch r diff us t = d.senseLost t r := if_pos ⟨hchecked, hdiff, hus⟩

theorem railTripsComplete_rails : RailTripsComplete := by
  intro s r hon
  refine ⟨fun l us hmode hvref hus => ?_, fun l n hmode htrack hn => ?_, fun move hlocal hmode hmove => ?_,
    fun uv ns hmode huv hns => ?_, fun uv us hmode harmed huv hus => ?_, fun mA us hmode hmA hus => ?_,
    fun ns reports hns hexplains => ?_, fun diff us hchecked hmode hdiff hus => ?_⟩
  · refine Gives.of_core rfl hon ?_
    have hgr : (sampled s r l).gr r 0x21 ≤ us := (Dev.gr_of_dict (Dev.runSamples_dict _ _ _ _) r 0x21).trans_le hus
    rw [Dev.startSettleTimeout, if_pos ⟨hmode, hvref, hgr⟩]
    exact ⟨Dev.tripRail_sampled_still _ _ _ _ _, Dev.tripRail_tripped _ _ _ _⟩
  · refine Gives.of_core rfl hon ?_
    have htracked : (sampled s r l).grove.rail[r].lp.track.getD 0 ≥ 19200 := by
      rw [htrack]
      exact hn
    rw [Dev.shortInSoftStart, if_pos ⟨hmode, htracked, rfl⟩]
    exact ⟨Dev.tripRail_sampled_still _ _ _ _ _, Dev.tripRail_tripped _ _ _ _⟩
  · refine Gives.of_core rfl hon ?_
    rw [Dev.localSenseCheck, if_pos ⟨hlocal, hmode, hmove⟩]
    exact Dev.tripRail_spec _ _ _ _
  · refine Gives.of_core rfl hon ?_
    rw [Dev.railOverVoltage, if_pos ⟨hmode, huv, hns⟩]
    exact Dev.tripRail_spec _ _ _ _
  · refine Gives.of_core rfl hon ?_
    rw [Dev.railUnderVoltage, if_pos ⟨hmode, harmed, huv, hus⟩]
    exact Dev.tripRail_spec _ _ _ _
  · refine Gives.of_core rfl hon ?_
    have hread := Dev.rail'_self s.b.d r fun x => { x with lp := { x.lp with railMA := mA } }
    have hmode' : (s.b.d.lp' r fun l => { l with railMA := mA }).grove.rail[r].mode ≠ .off := (congrArg RailSt.mode hread).trans_ne hmode
    rw [Dev.railOverCurrent, if_pos ⟨hmode', hmA, hus⟩]
    exact Dev.tripRail_spec _ _ _ _
  · refine Gives.of_core rfl hon ?_
    have hfallen := foldl_keeps Dev.still _ Dev.faultFallen_still reports s.b.d
    rw [Dev.railStageFault, if_neg (by simp [hexplains]; omega)]
    exact ⟨(Dev.tripRail_still _ _ _ _).trans (Dev.still_withGrove hfallen _), Dev.tripRail_tripped _ _ _ _⟩
  · refine Gives.of_core rfl hon ?_
    rw [Dev.senseMismatch_lost hchecked hdiff hus, Dev.senseLost, if_pos hmode]
    exact Dev.tripRail_spec _ _ _ _

/-- What the check of a GS pin counts. -/
def RailSt.pinChecked (pin : SensePin) (moveMv : Nat) (x : RailSt) : RailSt :=
  match pin with
  | .gsP => { x with gsP := if 100 < moveMv then x.gsP + 1 else 0 }
  | .gsN => { x with gsN := if 100 < moveMv then x.gsN + 1 else 0 }

section
variable {d : Dev} {r : Rail} {pin : SensePin} {move : Nat} (hchecked : d.senseChecked r = true) (t : Nat)
include hchecked

theorem Dev.senseCheck_eq : d.senseCheck r pin move t =
    if 2 ≤ (d.grove.rail[r].pinChecked pin move).gsP ∨ 2 ≤ (d.grove.rail[r].pinChecked pin move).gsN then
      (d.rail' r (RailSt.pinChecked pin move)).senseLost t r
    else d.rail' r (RailSt.pinChecked pin move) := by
  rw [← Dev.rail'_self d r (RailSt.pinChecked pin move), Dev.senseCheck, if_neg (by simp [hchecked])]
  cases pin <;> rfl

/-- The second failed check in a row of a GS pin loses remote sense (R189, R191). -/
theorem Dev.senseCheck_lost
    (htwice : 2 ≤ (d.grove.rail[r].pinChecked pin move).gsP ∨ 2 ≤ (d.grove.rail[r].pinChecked pin move).gsN)
    (hmode : d.gr r 0x3A ≠ 2) : (d.senseCheck r pin move t).still = { d with grove := (d.senseCheck r pin move t).grove }.still ∧
      (d.senseCheck r pin move t).grove.rail[r].localSense = true ∧ (d.senseCheck r pin move t).grove.rail[r].reason = 9 ∧
      (d.senseCheck r pin move t).sticky (20 + r.val) = true := by
  rw [Dev.senseCheck_eq hchecked, if_pos htwice]
  exact Dev.senseLost_spec (d := d.rail' r _) hmode t

end

theorem senseLossComplete : SenseLossComplete := by
  intro s r hon hchecked hmode
  refine ⟨fun diff us hdiff hus => ?_, fun move hmove hone => ?_, fun move hmove hone => ?_, fun move hmove hone => ?_⟩
  · refine Gives.of_core rfl hon ?_
    rw [Dev.senseMismatch_lost hchecked hdiff hus]
    exact Dev.senseLost_spec hmode _
  · refine Gives.of_core rfl hon (Dev.senseCheck_lost hchecked _ (.inl ?_) hmode)
    simpa [RailSt.pinChecked, hmove] using hone
  · refine Gives.of_core rfl hon (Dev.senseCheck_lost hchecked _ (.inr ?_) hmode)
    simpa [RailSt.pinChecked, hmove] using hone
  · refine Gives.of_core rfl hon ?_
    have hcleared : RailSt.pinChecked .gsP move = fun x => { x with gsP := 0 } := by
      funext x
      simp [RailSt.pinChecked, Nat.not_lt.2 hmove]
    rw [Dev.senseCheck_eq hchecked, hcleared, if_neg (by simp; omega)]

/-- Settles O5: every protection that trips its rail, and every failed start, is one trip, which turns the rail off and after which
nothing touches the grove again; a loss of remote sense in mode 1 is the raising of its source, which does not. -/
theorem railTripsComplete : Obligations.RailTripsComplete := ⟨railTripsComplete_rails, senseLossComplete⟩

end Sys2Proof.Machine
end

section
/-!
PROOFS. Writes that act on rails, channels, tuning and phases.
-/
namespace Sys2Proof.Machine

/-! ## A write that has been answered -/

theorem Wrote.gives {c : Instr} {s : State} {w : Who} {d : Dev} {P : Dev → Prop} (h : Wrote c s w d) (hP : P (d.ok w)) :
    Gives c s P := by
  obtain ⟨t, hexec, hpending, hhw, hhost, hd⟩ := h
  exact ⟨t, hexec, hpending, hhw, hhost, hd ▸ hP⟩

theorem awake_still (s : State) : (awake s).still = s.b.d.still := Dev.power'_still _ _ (Power.leaveIdle_still _ _)

/-- A device but for what it has sent. -/
def Dev.unsent (d : Dev) : Dev := { d with portA := {}, portB := {}, test := {}, out := [] }

section
variable (d : Dev) (w : Who)

theorem Dev.ok_unsent : (d.ok w).unsent = d.unsent :=
  send_keeps Dev.unsent (fun _ _ _ => rfl) (fun d p => by cases p <;> rfl) (fun _ _ => rfl) d (.ok w)

/-- An answer changes the ports, the injection slots and the outputs, and no more. -/
theorem Dev.ok_rest : d.ok w = { d with
    portA := (d.ok w).portA, portB := (d.ok w).portB, test := (d.ok w).test, out := (d.ok w).out } :=
  congrArg (fun e : Dev => { e with
    portA := (d.ok w).portA, portB := (d.ok w).portB, test := (d.ok w).test, out := (d.ok w).out }) (d.ok_unsent w)

/-- What a frame allows of the ports, the injection slots and the outputs, it allows of an answer. -/
theorem Dev.ok_framed (frame : Dev → Dev)
    (h : ∀ a b x o, frame { d with portA := a, portB := b, test := x, out := o } =
      { d with portA := a, portB := b, test := x, out := o }) :
    d.ok w = frame (d.ok w) :=
  (d.ok_rest w).trans ((h _ _ _ _).symm.trans (congrArg frame (d.ok_rest w).symm))

theorem Dev.ok_grove : (d.ok w).grove = d.grove := (congrArg Dev.grove (d.ok_rest w) :)
theorem Dev.ok_firingIs (p : Phase) (x : Firing) : (d.ok w).firingIs p x = d.firingIs p x :=
  congrArg (fun g : Grove => decide (g.ph[p].role = .available) && decide (g.ph[p].fstate = x)) (d.ok_grove w)
theorem Dev.ok_integ : (d.ok w).integ = d.integ := (congrArg Dev.integ (d.ok_rest w) :)
theorem Dev.ok_path : (d.ok w).path = d.path := (congrArg Dev.path (d.ok_rest w) :)

end

/-- What `still` leaves alone, it leaves alone beside a part that may have changed. -/
theorem Dev.still_beside_grove {d d' : Dev} (h : d'.still = d.still) : d'.still = { d with grove := d'.grove }.still :=
  congrArg (fun e : Dev => { e with grove := d'.grove.still }) h

theorem Dev.still_beside_integ {d d' : Dev} (h : d'.still = d.still) (x : Integ) :
    { d' with integ := x }.still = { d with integ := x }.still :=
  congrArg (fun e : Dev => { e with integ := x.still }) h

theorem Dev.still_beside_pathGrove {d d' : Dev} (h : d'.still = d.still) (q : Path) (g : Grove) :
    { d' with path := q, grove := g }.still = { d with path := q, grove := g }.still :=
  congrArg (fun e : Dev => { e with path := q.still, grove := g.still }) h

theorem Dev.int_of_dict {d d' : Dev} (h : d'.dict = d.dict) (idx sub : Nat) : d'.int idx sub = d.int idx sub :=
  Dev.int_congr (by rw [h]) (by rw [h]) (by rw [h]) (by rw [h])

theorem Dev.int_setLive_self (d : Dev) {idx sub : Nat} (hsub : sub < 256) (v : Int) : (d.setLive idx sub v).int idx sub = v :=
  (settingReadsBack d (idx, sub) (idx, sub) v hsub hsub).trans (if_pos rfl)

/-! ## The effects of objects from 0x2200 to 0x23FF -/

theorem Body.effect_branch {b : Body} {idx sub : Nat} {v : Int} {d : Dev} (hrange : 0x2200 ≤ idx ∧ idx < 0x2400)
    (he : b.d.effectBranch b.hw.counter idx sub v = (d, some 0)) (w : Who) (stamp : Option Nat) (die words : Bool) :
    b.effect w idx sub v stamp die words = ({ b with d := d }, some 0) := by
  unfold Body.effect
  rw [if_neg (by omega), if_neg (by omega), if_pos hrange.2, he]

section
variable (d : Dev) (t : Nat) (v : Int)

theorem Dev.effectBranch_setPoint (r : Rail) : d.effectBranch t (0x2200 + r.val) 1 v =
    ((d.setLive (0x2200 + r.val) 1 v).retargetRail t r, some 0) := by
  have hr : (⟨0x2200 + r.val - 0x2200, by omega⟩ : Rail) = r := Fin.ext (by simp)
  unfold Dev.effectBranch
  rw [if_neg (by omega), if_neg (by omega), if_neg (by omega), if_neg (by omega), if_neg (by omega), dif_pos (by omega), hr]
  rfl

theorem Dev.effectBranch_commit (r : Rail) : d.effectBranch t (0x2200 + r.val) 0x0E 1 = (d.commitCoefficients r, some 0) := by
  have hr : (⟨0x2200 + r.val - 0x2200, by omega⟩ : Rail) = r := Fin.ext (by simp)
  unfold Dev.effectBranch
  rw [if_neg (by omega), if_neg (by omega), if_neg (by omega), if_neg (by omega), if_neg (by omega), dif_pos (by omega), hr]
  rfl

theorem Dev.effectBranch_ib (n : Fin 6) : d.effectBranch t (0x2240 + n.val) 1 v =
    ((d.setLive (0x2240 + n.val) 1 v).retargetChan (.ib n), some 0) := by
  have hn : (⟨0x2240 + n.val - 0x2240, by omega⟩ : Fin 6) = n := Fin.ext (by simp)
  unfold Dev.effectBranch
  rw [if_neg (by omega), if_neg (by omega), if_neg (by omega), if_neg (by omega), if_neg (by omega), dif_neg (by omega),
    dif_pos (by omega), hn]

theorem Dev.effectBranch_ld (n : Fin 8) : d.effectBranch t (0x2248 + n.val) 1 v =
    ((d.setLive (0x2248 + n.val) 1 v).retargetChan (.ld n), some 0) := by
  have hn : (⟨0x2248 + n.val - 0x2248, by omega⟩ : Fin 8) = n := Fin.ext (by simp)
  unfold Dev.effectBranch
  rw [if_neg (by omega), if_neg (by omega), if_neg (by omega), if_neg (by omega), if_neg (by omega), dif_neg (by omega),
    dif_neg (by omega), dif_pos (by omega), hn]

theorem Dev.effectBranch_chan (c : Integrated) :
    d.effectBranch t (chanIndex c) 1 v = ((d.setLive (chanIndex c) 1 v).retargetChan c, some 0) := by
  cases c with
  | ib n => exact d.effectBranch_ib t v n
  | ld n => exact d.effectBranch_ld t v n

theorem chanIndex_range (c : Integrated) : 0x2200 ≤ chanIndex c ∧ chanIndex c < 0x2400 := by
  cases c <;> simp only [chanIndex] <;> omega

variable {d t v} {d' : Dev}

theorem Dev.effectBranch_manualInsert (h : d.manualInsert t v = .ok d') : d.effectBranch t 0x2234 3 v = (d', some 0) := by
  rw [Dev.effectBranch, if_pos ⟨rfl, rfl⟩, h]
  rfl

theorem Dev.effectBranch_reinstate (h : d.reinstate t v = .ok d') : d.effectBranch t 0x2234 4 v = (d', some 0) := by
  rw [Dev.effectBranch, if_neg (by omega), if_pos ⟨rfl, rfl⟩, h]
  rfl

theorem Dev.effectBranch_retire (h : d.retireAction t v = .ok d') : d.effectBranch t 0x2234 6 v = (d', some 0) := by
  rw [Dev.effectBranch, if_neg (by omega), if_neg (by omega), if_pos ⟨rfl, rfl⟩, h]
  rfl

theorem Dev.effectBranch_runNow (h : d.runNowWrite v = .ok d') : d.effectBranch t 0x2238 3 v = (d', some 0) := by
  rw [Dev.effectBranch, if_neg (by omega), if_neg (by omega), if_neg (by omega), if_pos ⟨rfl, rfl⟩, h]
  rfl

end

/-- A client's write of an object of a branch: the device that its effect leaves, with success answered. -/
theorem Wrote.of_effectBranch {c : Instr} {s : State} {w : Who} {idx sub : Nat} {v v' : Int} {d : Dev}
    (hp : Passes s w idx sub (objectSize idx sub) v v') (hc : exec c s = .next (s.coreBody (Body.clientWrite w idx sub v)))
    (hrange : 0x2200 ≤ idx ∧ idx < 0x2400) (he : (awake s).effectBranch s.b.hw.counter idx sub v' = (d, some 0)) : Wrote c s w d :=
  .of_effect hp hc fun die words => Body.effect_branch (b := { s.b with d := awake s }) hrange he w none die words

/-! ## The end of a tuning run (Table 6-5) -/

/-- The grove after the end of a run on a rail: an end in verification restores the set from before the run (R163). -/
def Grove.runEnded (g : Grove) (r : Rail) (run : TuneRun) (outcome t : Nat) : Grove :=
  { g with
    run := none
    result := upd g.result r fun x => { x with outcome := outcome, time := t }
    rail := upd g.rail r fun x => { x with lp := { x.lp with
      tuning := false, active := if run.stage = .verifying then run.before else x.lp.active } } }

theorem Dev.abortTuning_grove_cases (d : Dev) (t : Nat) (r : Rail) (outcome : Nat) :
    ((d.abortTuning t r outcome).grove = d.grove ∧ ∀ run, d.grove.run = some run → run.rail ≠ r.val) ∨
      ∃ run, (d.abortTuning t r outcome).grove = d.grove.runEnded r run outcome t := by
  unfold Dev.abortTuning
  split
  · next hnone => exact .inl ⟨rfl, fun run hrun => by simp [hnone] at hrun⟩
  · next run hrun =>
    split
    · next hne =>
      refine .inl ⟨rfl, fun run' hrun' => ?_⟩
      cases hrun.symm.trans hrun'
      exact hne
    · refine .inr ⟨run, ?_⟩
      have hlog : ∀ c : Bool, (d.when c fun d => d.logRetune t r outcome run.before d.grove.rail[r].lp.active).grove = d.grove :=
        fun c => Dev.when_keeps Dev.grove _ _ _ (Dev.grove_faultFree.logEvent _ _ _ _ _ _)
      dsimp only [Dev.lp'_grove, Dev.grove'_grove]
      rw [hlog]
      unfold Grove.runEnded
      simp

section
variable (d : Dev) (t : Nat) (r : Rail) (outcome : Nat)

theorem Dev.abortTuning_ph : (d.abortTuning t r outcome).grove.ph = d.grove.ph := by
  obtain ⟨h, -⟩ | ⟨run, h⟩ := d.abortTuning_grove_cases t r outcome
  · rw [h]
  · rw [h]
    rfl

/-- The end of a run leaves the other rails alone, and of its own rail all but the loop's mark of the run and the set in force. -/
theorem Dev.abortTuning_rail_ne {q : Rail} (hq : q ≠ r) : (d.abortTuning t r outcome).grove.rail[q] = d.grove.rail[q] := by
  obtain ⟨h, -⟩ | ⟨run, h⟩ := d.abortTuning_grove_cases t r outcome
  · rw [h]
  · rw [h]
    exact (upd_get _ _ _ _).trans (if_neg hq.symm)

theorem Dev.abortTuning_rail : ∃ tuning active, (d.abortTuning t r outcome).grove.rail[r] =
    { d.grove.rail[r] with lp := { d.grove.rail[r].lp with tuning := tuning, active := active } } := by
  obtain ⟨h, -⟩ | ⟨run, h⟩ := d.abortTuning_grove_cases t r outcome <;> rw [h]
  · exact ⟨_, _, rfl⟩
  · exact ⟨_, _, upd_self _ _ _⟩

theorem Dev.abortTuning_run {run : TuneRun} (hrun : d.grove.run = some run) (hrail : run.rail = r.val) :
    (d.abortTuning t r outcome).grove.run = none ∧ (d.abortTuning t r outcome).grove.result[r].outcome = outcome := by
  obtain ⟨-, hnone⟩ | ⟨run', h⟩ := d.abortTuning_grove_cases t r outcome
  · exact absurd hrail (hnone run hrun)
  · rw [h]
    exact ⟨rfl, congrArg TuneResult.outcome (upd_self _ _ _)⟩

end

/-! ## The set-point of a rail (R139, R140) -/

/-- No order of the sequencer, end of a journal entry or sending is a part of the integrated channels. -/
theorem Dev.integ_orderFree : Dev.OrderFree Dev.integ :=
  ⟨fun _ _ => rfl, fun _ _ => rfl, fun _ _ => rfl, fun _ _ => rfl, fun _ _ => rfl, fun _ p _ => by cases p <;> rfl,
    fun _ _ => rfl, fun _ _ => rfl⟩

section
variable (d : Dev) (t : Nat) (r : Rail)

theorem Dev.retargetRail_still : (d.retargetRail t r).still = d.still := by
  unfold Dev.retargetRail
  dsimp only
  split
  · rw [Dev.settle_still, Dev.lp'_still, Dev.abortTuning_still]
  · exact d.abortTuning_still t r _

theorem Dev.retargetRail_dict : (d.retargetRail t r).dict = d.dict := by
  unfold Dev.retargetRail
  dsimp only
  split
  · rw [Dev.settle_dict, Dev.lp'_dict, Dev.abortTuning_dict]
  · exact d.abortTuning_dict t r _

theorem Dev.retargetRail_integ : (d.retargetRail t r).integ = d.integ := by
  have hended : (d.abortTuning t r 0x13).integ = d.integ := (congrArg Dev.integ (d.abortTuning_recordsOnly t r 0x13).rest :)
  unfold Dev.retargetRail
  dsimp only
  split
  · exact (Dev.integ_orderFree.settle _).trans hended
  · exact hended

theorem Dev.railSetCode_of_dict {d d' : Dev} (h : d'.dict = d.dict) (r : Rail) : d'.railSetCode r = d.railSetCode r := by
  simp only [Dev.railSetCode, Dev.railSetUv, Dev.ratio, Dev.nat, Dev.int_of_dict h]

/-- A rail in soft start or regulation takes the new target; any other keeps its own. -/
theorem Dev.retargetRail_grove : (d.retargetRail t r).grove = (d.abortTuning t r 0x13).grove ∧ d.railOn r = false ∨
    (d.retargetRail t r).grove = ((d.abortTuning t r 0x13).lp' r fun l => { l with target := d.railSetCode r }).grove ∧
      d.railOn r = true := by
  obtain ⟨tuning, active, hrail⟩ := d.abortTuning_rail t r 0x13
  have hmode : (d.abortTuning t r 0x13).grove.rail[r].mode = d.grove.rail[r].mode := (congrArg RailSt.mode hrail :)
  unfold Dev.retargetRail Dev.railOn
  dsimp only
  rw [hmode, Dev.railSetCode_of_dict (d.abortTuning_dict t r _)]
  split
  · next h => exact .inr ⟨Dev.grove_faultFree.settle _, by simpa using h.symm⟩
  · next h => exact .inl ⟨rfl, by simpa [not_or, and_comm] using h⟩

theorem Dev.retargetRail_ph : (d.retargetRail t r).grove.ph = d.grove.ph := by
  obtain ⟨h, -⟩ | ⟨h, -⟩ := d.retargetRail_grove t r <;> rw [h] <;> exact d.abortTuning_ph t r _

theorem Dev.retargetRail_rail_ne {q : Rail} (hq : q ≠ r) : (d.retargetRail t r).grove.rail[q] = d.grove.rail[q] := by
  obtain ⟨h, -⟩ | ⟨h, -⟩ := d.retargetRail_grove t r <;> rw [h]
  · exact d.abortTuning_rail_ne t r _ hq
  · exact ((upd_get _ _ _ _).trans (if_neg hq.symm)).trans (d.abortTuning_rail_ne t r _ hq)

theorem Dev.retargetRail_rail : ∃ tuning active, (d.retargetRail t r).grove.rail[r] =
    { d.grove.rail[r] with lp := { d.grove.rail[r].lp with
      tuning := tuning, active := active, target := if d.railOn r then d.railSetCode r else d.grove.rail[r].lp.target } } := by
  obtain ⟨tuning, active, hrail⟩ := d.abortTuning_rail t r 0x13
  refine ⟨tuning, active, ?_⟩
  obtain ⟨h, hoff⟩ | ⟨h, hon⟩ := d.retargetRail_grove t r <;> rw [h]
  · rw [hrail, hoff]
    rfl
  · rw [hon, Dev.lp', Dev.rail'_self, hrail]
    rfl

theorem Dev.retargetRail_run {run : TuneRun} (hrun : d.grove.run = some run) (hrail : run.rail = r.val) :
    (d.retargetRail t r).grove.run = none ∧ (d.retargetRail t r).grove.result[r].outcome = 0x13 := by
  obtain ⟨h, -⟩ | ⟨h, -⟩ := d.retargetRail_grove t r <;> rw [h] <;> exact d.abortTuning_run t r _ hrun hrail

end

theorem Dev.railOn_iff {d : Dev} {r : Rail} :
    d.railOn r = true ↔ d.grove.rail[r].mode = .regulating ∨ d.grove.rail[r].mode = .softStart := by
  simp [Dev.railOn, or_comm]

/-- The code of a set-point that has just been written; the ratio is another object of the record (R137). -/
theorem Dev.railSetCode_setLive (d : Dev) (r : Rail) (v : Int) :
    (d.setLive (0x2200 + r.val) 1 v).railSetCode r = setPointCode v.toNat (d.ratio r) := by
  have hratio : (d.setLive (0x2200 + r.val) 1 v).int (0x2200 + r.val) 2 = d.int (0x2200 + r.val) 2 :=
    (settingReadsBack d (0x2200 + r.val, 1) (0x2200 + r.val, 2) v (by simp) (by simp)).trans (if_neg (by simp))
  unfold Dev.railSetCode Dev.railSetUv Dev.ratio Dev.nat
  rw [hratio, Dev.int_setLive_self d (by decide)]

/-- What a new set-point of a rail makes of a device: a rail in soft start or regulation takes the new target, which its reference
approaches later; a tuning run of the rail ends with 0x13, and no other rail, no phase and no channel changes (R139, R140, R163). -/
structure Dev.Retargets (r : Rail) (v : Int) (d d' : Dev) : Prop where
  still : d'.still = { d with grove := d'.grove }.still
  set : d'.int (0x2200 + r.val) 1 = v
  target : d'.grove.rail[r].lp.target = if d.grove.rail[r].mode = .regulating ∨ d.grove.rail[r].mode = .softStart
    then setPointCode v.toNat (d.ratio r) else d.grove.rail[r].lp.target
  vref : d'.grove.rail[r].lp.vref = d.grove.rail[r].lp.vref
  mode : d'.grove.rail[r].mode = d.grove.rail[r].mode
  run : ∀ run, d.grove.run = some run → run.rail = r.val → d'.grove.run = none ∧ d'.grove.result[r].outcome = 0x13
  ph : d'.grove.ph = d.grove.ph
  integ : d'.integ = d.integ
  others : ∀ q, q ≠ r → d'.grove.rail[q] = d.grove.rail[q]

theorem Dev.setPoint_retargets (d : Dev) (t : Nat) (r : Rail) (v : Int) :
    d.Retargets r v ((d.setLive (0x2200 + r.val) 1 v).retargetRail t r) := by
  let e : Dev := d.setLive (0x2200 + r.val) 1 v
  obtain ⟨tuning, active, hrail⟩ := e.retargetRail_rail t r
  have htarget : (if e.railOn r then e.railSetCode r else e.grove.rail[r].lp.target) =
      if d.grove.rail[r].mode = .regulating ∨ d.grove.rail[r].mode = .softStart
        then setPointCode v.toNat (d.ratio r) else d.grove.rail[r].lp.target :=
    (if_congr e.railOn_iff (d.railSetCode_setLive r v) rfl)
  exact
    { still := Dev.still_beside_grove (e.retargetRail_still t r)
      set := (Dev.int_of_dict (e.retargetRail_dict t r) _ _).trans (d.int_setLive_self (by decide) v)
      target := (congrArg (fun x : RailSt => x.lp.target) hrail).trans htarget
      vref := (congrArg (fun x : RailSt => x.lp.vref) hrail :)
      mode := (congrArg RailSt.mode hrail :)
      run := fun run hrun hr => e.retargetRail_run t r hrun hr
      ph := e.retargetRail_ph t r
      integ := e.retargetRail_integ t r
      others := fun q hq => e.retargetRail_rail_ne t r hq }

/-! ## The set-point of an integrated channel (R208, R209) -/

section
variable (d : Dev) (c : Integrated)

theorem Dev.retargetChan_dict : (d.retargetChan c).dict = d.dict := by
  unfold Dev.retargetChan
  split
  · rw [Dev.settle_dict]
    cases c <;> rfl
  · rfl

theorem Dev.chan_of_integ {d d' : Dev} (h : d'.integ = d.integ) (c : Integrated) : d'.chan c = d.chan c := by
  cases c <;> simp only [Dev.chan, h]

theorem Dev.retargetChan_chan : (d.retargetChan c).chan c =
    if (d.chan c).on = true ∧ (d.chan c).hiccup = false then { d.chan c with targetMv := d.chanSetMv c } else d.chan c := by
  unfold Dev.retargetChan
  simp only [Bool.not_eq_true']
  split
  · rw [Dev.chan_of_integ (Dev.integ_orderFree.settle _), Dev.chan'_chan, if_pos rfl]
  · rfl

theorem Dev.retargetChan_still : (d.retargetChan c).still = { d with integ := (d.retargetChan c).integ }.still := by
  unfold Dev.retargetChan
  split
  · rw [Dev.settle_still, Dev.integ_orderFree.settle]
    cases c <;> rfl
  · rfl

theorem Dev.chanSetMv_setLive (v : Int) : (d.setLive (chanIndex c) 1 v).chanSetMv c = v.toNat :=
  congrArg Int.toNat (d.int_setLive_self (by decide) v)

end

/-! ## Commit of coefficients and the turn of tuning (R154, R157) -/

theorem Dev.commitCoefficients_eq (d : Dev) (r : Rail) : d.commitCoefficients r = d.lp' r fun l =>
    if d.grove.rail[r].mode = .off then { l with committed := some (d.shadowSet r) }
    else { l with active := d.shadowSet r, configured := d.shadowSet r } := by
  unfold Dev.commitCoefficients
  dsimp only
  split_ifs <;> rfl

/-- A checked write has passed step 9: the present state admits it. -/
theorem Dev.step9_of_checkWrite {d : Dev} {idx sub len : Nat} {v v' : Int} (h : d.checkWrite idx sub len v = .ok v') :
    d.step9 idx sub v' = true := by
  unfold Dev.checkWrite at h
  split at h
  · cases h
  · split_ifs at h
    split at h
    · cases h
    · dsimp only at h
      split_ifs at h with hceiling hstate
      split at h
      · cases h
      · cases h
        simpa using (not_or.1 hstate).1

theorem Passes.step9 {s : State} {w : Who} {idx sub len : Nat} {v v' : Int} (h : Passes s w idx sub len v v') :
    (awake s).step9 idx sub v' = true := by
  obtain ⟨-, hcheck, -⟩ := h
  exact Dev.step9_of_checkWrite hcheck

/-- A rail can be placed first in the turn while tuning is enabled and no run is in progress. -/
theorem Dev.runNowWrite_admitted {d : Dev} {v : Int} (h : d.step9 0x2238 3 v = true) :
    d.runNowWrite v = .ok (d.grove' fun g => { g with runNext := v.toNat :: g.runNext.filter (· ≠ v.toNat) }) := by
  have hidle : d.nat 0x2238 1 ≠ 0 ∧ d.grove.run.isNone = true := by simpa [Dev.step9] using h
  exact if_neg (by simp [hidle.1, Option.isNone_iff_eq_none.1 hidle.2])

/-! ## Manual insertion (R127 to R133) -/

/-- The phase that a write names by its number. -/
theorem phase_ofInt (p : Phase) (h : (p.val : Int).toNat < 20) : (⟨(p.val : Int).toNat, h⟩ : Phase) = p :=
  Fin.ext (Int.toNat_natCast _)

/-- What a manual insertion asks for: its sapling at the end of the rotation list. -/
def Owed.manual (p : Phase) : Owed := ⟨none, some p.val, none, 0, true⟩

theorem phasesIn_singleton (p : Phase) : phasesIn [p.val] = [p] := by
  simp [phasesIn]

section
variable {d : Dev} {p : Phase} {r : Rail} {o : Owed} (hsap : d.roleIs p .sapling = true)
include hsap

/-- The sapling that an insertion names takes its turn while it is one. -/
theorem Dev.saplingFor_named (hnamed : o.named = some p.val) : d.saplingFor r o = some p := by
  simp [Dev.saplingFor, hnamed, phasesIn_singleton, hsap]

theorem Dev.manualInsert_sapling (hfree : d.grove.rail[d.phaseRail p].pl.insertion = none) (t : Nat) :
    d.manualInsert t (p.val : Int) = .ok (d.startInsertion t (d.phaseRail p) (.manual p)) := by
  unfold Dev.manualInsert
  rw [dif_pos (by omega)]
  simp only [phase_ofInt]
  rw [hsap, hfree]
  exact if_neg (by simp)

end

/-! ## The ways in which an insertion starts (R129, R131) -/

/-- An insertion that waits for its ramp. -/
def Owed.waiting (o : Owed) (p : Phase) : Insertion := ⟨p.val, o.replaces, o.retiring, o.retireReason, false⟩

/-- An insertion of a rail that is in progress or waits. -/
def Dev.inserting (d : Dev) (r : Rail) (i : Insertion) : Dev := d.pl' r fun s => { s with insertion := some i }

theorem Dev.inserting_rail (d : Dev) (r : Rail) (i : Insertion) : (d.inserting r i).grove.rail[r] =
    { d.grove.rail[r] with pl := { d.grove.rail[r].pl with insertion := some i } } :=
  Dev.rail'_self d r _

theorem Dev.inserting_deferred (d : Dev) (r : Rail) (i : Insertion) :
    (d.inserting r i).insertionDeferred r = d.insertionDeferred r := by
  unfold Dev.insertionDeferred
  rw [d.inserting_rail r i]
  rfl

/-- A brown-out warning lists the insertion of a rail among the actions that it defers (R84). -/
def Path.insertionWaits (r : Rail) (q : Path) : Path :=
  if q.warning then { q with deferred := q.deferred ++ [.insertion r.val] } else q

theorem Path.insertionWaits_eq (r : Rail) (q : Path) :
    q.insertionWaits r = { q with deferred := (q.insertionWaits r).deferred } := by
  unfold Path.insertionWaits
  split <;> rfl

theorem Dev.path'_of_fixed {d : Dev} {f : Path → Path} (h : f d.path = d.path) : d.path' f = d :=
  congrArg (fun q => { d with path := q }) h

section
variable {d : Dev} {p : Phase} {r : Rail} {o : Owed} (hsap : d.roleIs p .sapling = true) (hnamed : o.named = some p.val) (t : Nat)
include hsap hnamed

/-- On a rail that is off the sapling joins the list at once. -/
theorem Dev.startInsertion_off (hoff : d.grove.rail[r].mode = .off) (hruns : d.owedRuns o = true) :
    d.startInsertion t r o = (d.joinList t r p o.replaces .shed).retireAfter t o.retiring o.retireReason := by
  unfold Dev.startInsertion Dev.insertOff
  rw [if_pos hoff, Dev.saplingFor_named hsap hnamed, hruns]

/-- While something defers it the insertion waits. -/
theorem Dev.startInsertion_deferred (hon : d.grove.rail[r].mode ≠ .off) (hdeferred : d.insertionDeferred r = true) :
    d.startInsertion t r o = (d.inserting r (o.waiting p)).path' (Path.insertionWaits r) := by
  unfold Dev.startInsertion
  rw [if_neg hon, Dev.saplingFor_named hsap hnamed]
  by_cases hwarn : d.path.warning = true
  · exact (if_pos hwarn).trans (congrArg (fun q => { d.inserting r (o.waiting p) with path := q }) (if_pos hwarn).symm)
  · have hdeferred' : (d.inserting r (o.waiting p)).insertionDeferred r = true := (Dev.inserting_deferred d r _).trans hdeferred
    exact (if_neg hwarn).trans ((if_pos hdeferred').trans (Dev.path'_of_fixed (if_neg hwarn)).symm)

/-- Nothing defers it: the ramp is loaded, which ends a tuning run of the rail (Table 6-5). -/
theorem Dev.startInsertion_begins (hon : d.grove.rail[r].mode ≠ .off) (hfree : d.insertionDeferred r = false) :
    d.startInsertion t r o = (((d.inserting r (o.waiting p)).abortTuning t r 0x14).joinList t r p
      o.replaces .ramping).inserting r { o.waiting p with begun := true } := by
  have hwarn : ¬ d.path.warning = true := fun h => by simp [Dev.insertionDeferred, h] at hfree
  have hfree' : ¬ (d.inserting r (o.waiting p)).insertionDeferred r = true := by
    rw [Dev.inserting_deferred, hfree]
    decide
  have hinsertion : (d.inserting r (o.waiting p)).grove.rail[r].pl.insertion = some (o.waiting p) :=
    congrArg (fun x : RailSt => x.pl.insertion) (d.inserting_rail r _)
  have hsap' : (d.inserting r (o.waiting p)).roleIs p .sapling = true := hsap
  have hagain : (d.inserting r (o.waiting p)).saplingFor r
      ((o.waiting p).again (o.waiting p).replaces (some (o.waiting p).phase)) = some p := Dev.saplingFor_named hsap' rfl
  unfold Dev.startInsertion
  rw [if_neg hon, Dev.saplingFor_named hsap hnamed]
  refine (if_neg hwarn).trans ((if_neg hfree').trans ?_)
  change Dev.beginRamp (d.inserting r (o.waiting p)) t r = _
  unfold Dev.beginRamp
  rw [hinsertion]
  refine (if_neg Bool.false_ne_true).trans ?_
  rw [hagain]
  rfl

end

/-! ## What a manual insertion leaves -/

section
variable (d : Dev) (t : Nat) (r : Rail) (p : Phase) (replaces : Option Nat) (x : Firing)

theorem Dev.joinList_ph_ne {q : Phase} (hq : q ≠ p) : (d.joinList t r p replaces x).grove.ph[q] = d.grove.ph[q] :=
  (upd_other _ _ _ _ hq.symm).trans (upd_other _ _ _ _ hq.symm)

/-- The sapling that joins the list is AVAILABLE from then on, in the firing state it joins in. -/
theorem Dev.joinList_ph : (d.joinList t r p replaces x).grove.ph[p].role = .available ∧
    (d.joinList t r p replaces x).grove.ph[p].roleTime = t ∧ (d.joinList t r p replaces x).grove.ph[p].fstate = x := by
  have hph : (d.joinList t r p replaces x).grove.ph[p] = { d.grove.ph[p].takesRole .available t with
      trim := 0, balSat := false, fstate := x, stamp := d.grove.nextStamp } :=
    (upd_self _ _ _).trans (congrArg (fun s : PhaseSt => { s with fstate := x, stamp := d.grove.nextStamp }) (upd_self _ _ _))
  rw [hph]
  exact ⟨rfl, rfl, rfl⟩

end

/-- What the manual insertion of a sapling of a rail makes of a device at a heartwood time: it changes the grove and the list of
deferred actions alone, and no other phase (R129, R131). -/
structure Dev.Inserts (t : Nat) (r : Rail) (p : Phase) (d d' : Dev) : Prop where
  still : d'.still = { d with path := d'.path, grove := d'.grove }.still
  path : d'.path = { d.path with deferred := d'.path.deferred }
  joins : d.grove.rail[r].mode = .off →
    d'.grove.ph[p].role = .available ∧ d'.grove.ph[p].roleTime = t ∧ d'.grove.ph[p].fstate = .shed
  ramps : d.grove.rail[r].mode ≠ .off →
    d'.grove.rail[r].pl.insertion = some ⟨p.val, none, none, 0, !d.insertionDeferred r⟩ ∧
      d'.firingIs p .ramping = !d.insertionDeferred r
  others : ∀ q, q ≠ p → d'.grove.ph[q] = d.grove.ph[q]

section
variable {d : Dev} {p : Phase} (hsap : d.roleIs p .sapling = true) (t : Nat) (r : Rail)
include hsap

theorem Dev.firingIs_of_sapling (x : Firing) : d.firingIs p x = false :=
  Bool.and_eq_false_imp.2 fun h => absurd ((of_decide_eq_true h).symm.trans (of_decide_eq_true hsap)) (by decide)

theorem Dev.manual_inserts : d.Inserts t r p (d.startInsertion t r (.manual p)) := by
  have hbeside : ∀ d' : Dev, d'.still = d.still → d'.still = { d with path := d'.path, grove := d'.grove }.still :=
    fun _ h => Dev.still_beside_pathGrove h _ _
  by_cases hoff : d.grove.rail[r].mode = .off
  · rw [Dev.startInsertion_off hsap rfl t hoff rfl]
    exact ⟨hbeside _ (d.joinList_still t r p _ _), rfl, fun _ => d.joinList_ph t r p _ _, fun hon => absurd hoff hon,
      fun q hq => d.joinList_ph_ne t r p _ _ hq⟩
  cases hdeferred : d.insertionDeferred r with
  | true =>
    rw [Dev.startInsertion_deferred hsap rfl t hoff hdeferred]
    refine ⟨rfl, ?_, fun h => absurd h hoff, fun _ => ⟨?_, ?_⟩, fun _ _ => rfl⟩
    · exact d.path.insertionWaits_eq r
    · rw [hdeferred]
      exact congrArg (fun x : RailSt => x.pl.insertion) (d.inserting_rail r _)
    · rw [hdeferred]
      exact Dev.firingIs_of_sapling hsap .ramping
  | false =>
    rw [Dev.startInsertion_begins hsap rfl t hoff hdeferred]
    generalize hbegun : (d.inserting r ((Owed.manual p).waiting p)).abortTuning t r 0x14 = e
    have hpath : e.path = d.path := hbegun ▸ (Dev.abortTuning_recordsOnly _ t r _).path_eq
    have hph : e.grove.ph = d.grove.ph := hbegun ▸ Dev.abortTuning_ph _ t r _
    have hstill : e.still = d.still := hbegun ▸ (Dev.abortTuning_still _ t r _).trans (Dev.pl'_still d r _)
    obtain ⟨hrole, -, hfstate⟩ := e.joinList_ph t r p none .ramping
    have hjoined : (e.joinList t r p none .ramping).still = d.still := (e.joinList_still t r p none .ramping).trans hstill
    refine ⟨hbeside _ ((Dev.pl'_still _ r _).trans hjoined), ?_, fun h => absurd h hoff,
      fun _ => ⟨?_, ?_⟩, fun q hq => ?_⟩
    · exact hpath.trans (congrArg (fun l => { d.path with deferred := l }) (congrArg Path.deferred hpath).symm)
    · rw [hdeferred]
      exact congrArg (fun x : RailSt => x.pl.insertion) (Dev.inserting_rail _ r _)
    · rw [hdeferred]
      exact Bool.and_eq_true_iff.2 ⟨decide_eq_true hrole, decide_eq_true hfstate⟩
    · exact (e.joinList_ph_ne t r p none .ramping hq).trans (congrArg (fun v : Vector PhaseSt 20 => v[q]) hph)

end

/-! ## Reinstatement and retirement (R123 to R126, R133) -/

/-- The role in which a phase comes back: a declared sapling as one (R133). -/
def Dev.reinstatedRole (d : Dev) (p : Phase) : Role := if d.sapDecl p then .sapling else .available

/-- A phase that has come back as new, at the end of the rotation list unless it is a sapling. -/
def Dev.cameBack (d : Dev) (t : Nat) (p : Phase) : Dev :=
  ((d.ph' p fun _ => { ({} : PhaseSt).takesRole (d.reinstatedRole p) t with stamp := d.grove.nextStamp }).grove' fun g =>
    { g with nextStamp := g.nextStamp + 1 }).pl' (d.phaseRail p) fun s => { s with
      order := if d.reinstatedRole p = .available then s.order.filter (· ≠ p.val) ++ [p.val] else s.order.filter (· ≠ p.val) }

theorem Dev.cameBack_ph (d : Dev) (t : Nat) (p : Phase) : (d.cameBack t p).grove.ph[p] =
    { ({} : PhaseSt).takesRole (d.reinstatedRole p) t with stamp := d.grove.nextStamp } :=
  upd_self _ _ _

section
variable {d : Dev} {p : Phase} (t : Nat)

/-- A phase that is RETIRED comes back. -/
theorem Dev.reinstate_retired (hretired : d.roleIs p .retired = true) : d.reinstate t (p.val : Int) = .ok (d.cameBack t p) := by
  unfold Dev.reinstate
  rw [dif_pos (by omega)]
  simp only [phase_ofInt]
  rw [hretired]
  rfl

/-- The record of a source: the collector, the log and the end of IDLE. -/
theorem Dev.recordNew_eq (src reason : Nat) : ∃ q f n, d.recordNew t src reason = { d with power := q, faults := f, nv := n } := by
  unfold Dev.recordNew
  split
  · exact ⟨_, _, _, rfl⟩
  · obtain ⟨f, n, h⟩ := d.record_eq t src reason false
    exact ⟨_, f, n, h⟩

/-- The retirement of a sapling records its source; a sapling counts for no rail's minimum (R132). -/
theorem Dev.retirePhase_sapling (hsap : d.roleIs p .sapling = true) (reason : Nat) : ∃ q g f n,
    d.retirePhase t p reason = { d with power := q, grove := g, faults := f, nv := n } ∧
      g.ph[p].role = .retired ∧ g.ph[p].reason = reason := by
  have hrole : d.grove.ph[p].role = .sapling := of_decide_eq_true hsap
  have hnew : ¬ d.roleIs p .retired = true := fun h => absurd (hrole.symm.trans (of_decide_eq_true h)) (by decide)
  have hcount : ¬ d.grove.ph[p].role = .available := fun h => absurd (hrole.symm.trans h) (by decide)
  let e : Dev := ((d.ph' p fun x => { x.takesRole .retired t with
    reason := reason, markReason := 0, leavingRetires := 0, faultKept := reason = 1 }).grove' fun g =>
      { g with retirements := satInc 32 g.retirements }).pl' (d.phaseRail p) fun x => { x with order := x.order.filter (· ≠ p.val) }
  have hph : e.grove.ph[p] = { d.grove.ph[p].takesRole .retired t with
      reason := reason, markReason := 0, leavingRetires := 0, faultKept := reason = 1 } := upd_self _ _ _
  obtain ⟨q, f, n, hrecord⟩ := e.recordNew_eq t p.val reason
  refine ⟨q, e.grove, f, n, ?_, ?_, ?_⟩
  · unfold Dev.retirePhase Dev.retireKeeping
    rw [if_neg hnew]
    exact (if_neg hcount).trans hrecord
  · rw [hph]
    rfl
  · rw [hph]

theorem Dev.retireAction_sapling (hsap : d.roleIs p .sapling = true) :
    d.retireAction t (p.val : Int) = .ok (d.retirePhase t p 0x20) := by
  have hplan : d.planRetirement t p 0x20 = d.retirePhase t p 0x20 := if_pos hsap
  unfold Dev.retireAction
  rw [dif_pos (by omega)]
  simp only [phase_ofInt]
  rw [if_pos (.inr hsap), hplan]

end

/-- Settles O32: a write that passes leaves the effect of its object, and each effect is read off its own rule: the retargeting of a
rail and of a channel, the commit of coefficients, the turn of tuning, and the insertion, reinstatement and retirement of a phase. -/
theorem branchWritesComplete : Obligations.BranchWritesComplete := by
  intro s w v v'
  refine ⟨fun r hp => ?_, fun c hp => ?_, fun r hp hv => ?_, fun hp => ?_, fun p hp hsap hfree => ?_, fun p hp hretired => ?_,
    fun p hp hsap => ?_⟩
  · refine (Wrote.of_effectBranch hp rfl (by omega) (Dev.effectBranch_setPoint _ _ _ r)).gives ?_
    obtain ⟨hstill, hset, htarget, hvref, hmode, hrun, hph, hinteg, hothers⟩ :=
      (awake s).setPoint_retargets s.b.hw.counter r v'
    rw [Dev.ok_still, Dev.ok_grove, Dev.ok_integ, Dev.int_of_dict (Dev.ok_dict _ w)]
    exact ⟨hstill.trans (Dev.still_withGrove (awake_still s) _), hset, htarget, hvref, hmode, hrun, hph, hinteg, hothers⟩
  · refine (Wrote.of_effectBranch hp rfl (chanIndex_range c) (Dev.effectBranch_chan _ _ _ c)).gives ?_
    have hchan : ((awake s).setLive (chanIndex c) 1 v').chan c = s.b.d.chan c := Dev.chan_of_integ rfl c
    rw [Dev.ok_still, Dev.ok_integ, Dev.int_of_dict (Dev.ok_dict _ w), Dev.chan_of_integ (Dev.ok_integ _ w)]
    refine ⟨?_, ?_, ?_⟩
    · exact (Dev.retargetChan_still _ c).trans (Dev.still_beside_integ (awake_still s) _)
    · exact (Dev.int_of_dict (Dev.retargetChan_dict _ c) _ _).trans (Dev.int_setLive_self _ (by decide) v')
    · rw [Dev.retargetChan_chan, Dev.chanSetMv_setLive, hchan]
  · subst hv
    exact Dev.commitCoefficients_eq (awake s) r ▸
      Wrote.of_effectBranch hp rfl (by omega) (Dev.effectBranch_commit _ _ r)
  · exact Wrote.of_effectBranch hp rfl (by omega) (Dev.effectBranch_runNow (Dev.runNowWrite_admitted (Passes.step9 hp)))
  · have hinsert := Dev.manualInsert_sapling (d := awake s) hsap hfree s.b.hw.counter
    refine (Wrote.of_effectBranch hp rfl (by omega) (Dev.effectBranch_manualInsert hinsert)).gives ?_
    obtain ⟨hstill, hpath, hjoins, hramps, hothers⟩ :=
      Dev.manual_inserts (d := awake s) hsap s.b.hw.counter (s.b.d.phaseRail p)
    rw [Dev.ok_still, Dev.ok_grove, Dev.ok_path, Dev.ok_firingIs]
    exact ⟨hstill.trans (Dev.still_beside_pathGrove (awake_still s) _ _), hpath, hjoins, hramps, hothers⟩
  · have hback := Dev.reinstate_retired (d := awake s) s.b.hw.counter hretired
    refine (Wrote.of_effectBranch hp rfl (by omega) (Dev.effectBranch_reinstate hback)).gives ⟨?_, ?_⟩
    · exact Dev.ok_framed _ w (fun d => { s.b.d with
        power := d.power, grove := d.grove, portA := d.portA, portB := d.portB, test := d.test, out := d.out }) fun _ _ _ _ => rfl
    · rw [Dev.ok_grove, Dev.cameBack_ph]
      exact ⟨rfl, rfl, rfl, rfl⟩
  · obtain ⟨q, g, f, n, hleft, hrole, hreason⟩ := Dev.retirePhase_sapling (d := awake s) s.b.hw.counter hsap 0x20
    have hretire := (Dev.retireAction_sapling (d := awake s) s.b.hw.counter hsap).trans (congrArg Except.ok hleft)
    refine (Wrote.of_effectBranch hp rfl (by omega) (Dev.effectBranch_retire hretire)).gives ⟨?_, ?_⟩
    · exact Dev.ok_framed _ w (fun d => { s.b.d with
        power := d.power, grove := d.grove, faults := d.faults, portA := d.portA, portB := d.portB, nv := d.nv
        test := d.test, out := d.out }) fun _ _ _ _ => rfl
    · rw [Dev.ok_grove]
      exact ⟨hrole, hreason⟩

end Sys2Proof.Machine
end

section
/-!
PROOFS. The samples of a rail: those of a slew move its local correction.
-/
namespace Sys2Proof.Machine

/-! ## A slew whose sample moves the local correction (R190) -/

/-- The device after a slew that carries that sample. -/
def slewedDev : Dev := correctedByBalance.b.d.grSlewComplete 0 [offsetSample] correctedByBalance.b.hw.counter

/-- The local correction becomes the mean of V_diff − V_LS over the last 1 ms. -/
theorem slewedDev_corrUv : slewedDev.grove.rail[(0 : Rail)].still.corrUv = 1000 := by
  decide +kernel

/-- Refutes O6: the samples that a slew carries move, in band on remote sense, the local correction of their rail (R190), which the
frame of its first clause keeps. -/
theorem not_railMovesComplete : ¬ Obligations.RailMovesComplete := by
  rintro ⟨h, -⟩
  obtain ⟨hsamples, -⟩ := h correctedByBalance 0 rfl
  obtain ⟨-, hstill, -⟩ := (hsamples [offsetSample]).device rfl rfl
  have hframe : slewedDev.still = { correctedByBalance.b.d with free := slewedDev.free }.still := hstill
  have hkept : slewedDev.grove.rail[(0 : Rail)].still.corrUv = correctedByBalance.b.d.grove.rail[(0 : Rail)].still.corrUv :=
    congrArg RailSt.corrUv (Dev.rail_of_still hframe 0)
  rw [slewedDev_corrUv, correctedByBalance_corrUv] at hkept
  exact absurd hkept (by decide)

end Sys2Proof.Machine
end

section
/-!
PROOFS. On-line identification and retuning: the start of a run, its tones, and its ends.
-/
namespace Sys2Proof.Machine

/-! ## A reading of the trunk while no run is in progress (R152, R157)

Of the grove it reaches the feed-forward of the rails, and nothing else. -/

/-- A rail but for its feed-forward. -/
def RailSt.unfed (x : RailSt) : RailSt := { x with lp := { x.lp with uff := 0 } }

/-- The feed-forward has no part in the active set and in the reference. -/
theorem RailSt.loop_of_unfed {x y : RailSt} (h : x.unfed = y.unfed) : x.lp.active = y.lp.active ∧ x.lp.vref = y.lp.vref :=
  ⟨(congrArg (fun x : RailSt => x.lp.active) h :), (congrArg (fun x : RailSt => x.lp.vref) h :)⟩

/-- The grove of a device but for the feed-forward of its rails. -/
def Dev.unfed (d : Dev) : Grove := { d.grove with rail := d.grove.rail.map RailSt.unfed }

theorem Dev.updateFeedForward_unfed (d : Dev) (r : Rail) : (d.updateFeedForward r).unfed = d.unfed := by
  have hfed : ∀ (d : Dev) (f : Loop → Nat), (d.lp' r fun l => { l with uff := f l }).unfed = d.unfed := fun d f =>
    congrArg (fun v => { d.grove with rail := v }) (map_upd d.grove.rail r _ RailSt.unfed rfl)
  unfold Dev.updateFeedForward
  split_ifs
  · rfl
  · exact hfed d.draw.2 fun _ => _
  · exact hfed d fun l => _

theorem Dev.chgReading_unfed (d : Dev) : d.chgReading.unfed = d.unfed := by
  unfold Dev.chgReading
  split <;> rfl

theorem Dev.readTrunk_unfed {d : Dev} (hrun : d.grove.run = none) (t mv : Nat) : (d.readTrunk t mv).unfed = d.unfed := by
  have hfold : ∀ l : List Rail,
      (l.foldl Dev.updateFeedForward (d.path' fun p => { p with vsysMv := mv }).chgReading).unfed = d.unfed := fun l =>
    (foldl_keeps Dev.unfed _ Dev.updateFeedForward_unfed l _).trans (Dev.chgReading_unfed _)
  have hnone : ∀ l : List Rail,
      (l.foldl Dev.updateFeedForward (d.path' fun p => { p with vsysMv := mv }).chgReading).grove.run = none := fun l =>
    (congrArg Grove.run (hfold l) :).trans hrun
  unfold Dev.readTrunk
  dsimp only
  rw [hnone]
  exact hfold _

theorem Dev.rail_of_unfed {d d' : Dev} (h : d'.unfed = d.unfed) (r : Rail) : d'.grove.rail[r].unfed = d.grove.rail[r].unfed := by
  have hrails : d'.grove.rail.map RailSt.unfed = d.grove.rail.map RailSt.unfed := congrArg Grove.rail h
  simpa using congrArg (fun v : Vector RailSt 8 => v[r]) hrails

theorem Dev.chgReading_dict (d : Dev) : d.chgReading.dict = d.dict := by
  unfold Dev.chgReading
  split <;> rfl

theorem Dev.readTrunk_dict (d : Dev) (t mv : Nat) : (d.readTrunk t mv).dict = d.dict :=
  Dev.readTrunk_keeps Dev.dict Dev.chgReading_dict (Dev.updateFeedForward_keeps _ (fun _ _ _ => rfl) fun _ => rfl)
    Dev.abortTuning_dict d t mv

/-! ## The start of a run (R157 to R159) -/

theorem Dev.targetCrossover_of_dict {d d' : Dev} (h : d'.dict = d.dict) (r : Rail) : d'.targetCrossover r = d.targetCrossover r := by
  have hnat : d'.nat = d.nat := funext₂ fun idx sub => congrArg Int.toNat (Dev.int_of_dict h idx sub)
  unfold Dev.targetCrossover Dev.sampleRate Dev.gr
  rw [hnat]

/-- The run that starts on a rail: its first tone is injected. -/
def Dev.firstTone (d : Dev) (r : Rail) (railMA : Int) (trunk : Nat) : TuneRun :=
  ⟨r.val, .tones 0, d.grove.rail[r].lp.active, railMA, trunk, toneHz (d.targetCrossover r) 0, d.toneLimitUv r, []⟩

/-- A rail starts its run, and is no longer among those placed first. -/
def Dev.beginRun (d : Dev) (r : Rail) (railMA : Int) (trunk : Nat) : Dev :=
  (d.grove' fun g => { g with
    runNext := g.runNext.filter (· ≠ r.val), lastRun := r.val, run := some (d.firstTone r railMA trunk) }).lp' r fun l =>
      { l with tuning := true, railMA := railMA }

/-- The reading of the trunk that a run starts with leaves what the run is made of. -/
theorem Dev.firstTone_readTrunk {d : Dev} (hrun : d.grove.run = none) (r : Rail) (railMA : Int) (t trunk : Nat) :
    (d.readTrunk t trunk).firstTone r railMA trunk = d.firstTone r railMA trunk := by
  obtain ⟨hactive, hvref⟩ := RailSt.loop_of_unfed (Dev.rail_of_unfed (Dev.readTrunk_unfed hrun t trunk) r)
  rw [Dev.firstTone, Dev.firstTone, hactive, Dev.toneLimitUv, Dev.toneLimitUv, hvref,
    Dev.targetCrossover_of_dict (d.readTrunk_dict t trunk)]

section
variable {d : Dev} {r : Rail} {turn : List TuneCand} {c : TuneCand} (hmode : d.nat 0x2238 1 ≠ 0) (hrun : d.grove.run = none)
  (hchoice : d.tuningChoice turn = some c) (hr : c.rail = r) (railMA : Int) (trunk t : Nat)
include hmode hrun hchoice hr

/-- The rail whose turn it is starts its run, or waits while a brown-out warning lasts (R84). -/
theorem Dev.tuningRunStart_turn : d.tuningRunStart r turn railMA trunk t =
    if d.path.warning then d.path' fun p => { p with deferred := p.deferred ++ [.tuning r.val] }
    else (d.readTrunk t trunk).beginRun r railMA trunk :=
  if_neg (by simp [hmode, hrun, hchoice, hr])

theorem Dev.tuningRunStart_begins (hwarning : d.path.warning = false) :
    d.tuningRunStart r turn railMA trunk t = (d.readTrunk t trunk).beginRun r railMA trunk := by
  rw [Dev.tuningRunStart_turn hmode hrun hchoice hr, if_neg (by simp [hwarning])]

theorem Dev.tuningRunStart_deferred (hwarning : d.path.warning = true) : d.tuningRunStart r turn railMA trunk t =
    d.path' fun p => { p with deferred := p.deferred ++ [.tuning r.val] } := by
  rw [Dev.tuningRunStart_turn hmode hrun hchoice hr, if_pos hwarning]

end

/-- But for the run, what a start changes is the reading of the trunk and what follows it. -/
theorem Dev.beginRun_readTrunk_still (d : Dev) (r : Rail) (railMA : Int) (trunk t : Nat) :
    let d' := (d.readTrunk t trunk).beginRun r railMA trunk
    d'.still = { d with free := d'.free, path := { d.path with vsysMv := trunk }, grove := d'.grove }.still :=
  Dev.still_withGrove (Dev.still_of_undrawn (d.readTrunk_undrawn t trunk)) ((d.readTrunk t trunk).beginRun r railMA trunk).grove

/-! ## The tones (R159) -/

section
variable {d : Dev} {r : Rail} {run : TuneRun} {n : Nat} (hrun : d.runOn r = some run) (hstage : run.stage = .tones n) (p : Phasors)
include hrun hstage

theorem Dev.toneEnd_tones : d.toneEnd r p = d.grove' fun g => { g with run := some { run with
    stage := if n ≥ 7 then .fitting else .tones (n + 1)
    toneHz := if n ≥ 7 then 0 else toneHz (d.targetCrossover r) (n + 1)
    limitUv := if n ≥ 7 then 0 else d.toneLimitUv r
    tones := run.tones ++ [p] } } := by
  simp only [Dev.toneEnd, hrun, hstage, TuneStage.next]

theorem Dev.toneEnd_next (hn : n < 7) : d.toneEnd r p = d.grove' fun g => { g with run := some { run with
    stage := .tones (n + 1), tones := run.tones ++ [p], toneHz := toneHz (d.targetCrossover r) (n + 1)
    limitUv := d.toneLimitUv r } } := by
  rw [Dev.toneEnd_tones hrun hstage]
  simp only [if_neg (Nat.not_le.2 hn)]

theorem Dev.toneEnd_last (hn : 7 ≤ n) : d.toneEnd r p = d.grove' fun g => { g with run := some { run with
    stage := .fitting, tones := run.tones ++ [p], toneHz := 0, limitUv := 0 } } := by
  rw [Dev.toneEnd_tones hrun hstage]
  simp only [if_pos hn]

end

/-! ## The end of a run (Table 6-5) -/

theorem Dev.lp'_self (d : Dev) (r : Rail) (f : Loop → Loop) : (d.lp' r f).grove.rail[r].lp = f d.grove.rail[r].lp :=
  congrArg RailSt.lp (Dev.rail'_self d r _)

theorem Dev.endRun_grove (d : Dev) (t : Nat) (r : Rail) (outcome : Nat) :
    d.endRun t r outcome = { d with grove := (d.endRun t r outcome).grove } := rfl

theorem Dev.endRun_active (d : Dev) (t : Nat) (r : Rail) (outcome : Nat) :
    (d.endRun t r outcome).grove.rail[r].lp.active = d.grove.rail[r].lp.active := by
  unfold Dev.endRun
  dsimp only
  rw [Dev.lp'_self]
  rfl

theorem Dev.endRun_ended (s : State) (d : Dev) (r : Rail) (outcome : Nat) :
    RunEnded s (d.endRun s.b.hw.counter r outcome) r outcome := by
  have hresult : (d.endRun s.b.hw.counter r outcome).grove.result[r] =
      { d.grove.result[r] with outcome := outcome, time := s.b.hw.counter } := upd_self _ _ _
  exact ⟨rfl, congrArg Loop.tuning (Dev.lp'_self _ r _), congrArg TuneResult.outcome hresult,
    congrArg TuneResult.time hresult⟩

/-! ## The fit and the retuning (R160, R161) -/

/-- The fitted plant, from the phasors of the eight tones. -/
def Dev.fittedPlant (d : Dev) (r : Rail) (run : TuneRun) : List Nat :=
  (List.range 5).map (Config.fitPlant (run.tones.map Phasors.list) d.grove.rail[r].lp.active (d.plantGm r))

/-- What a fit reports of a rail (0x223A to 0x223C and 0x223F). -/
def Dev.fitResult (d : Dev) (r : Rail) (run : TuneRun) (x : TuneResult) : TuneResult :=
  let ph := run.tones.map Phasors.list
  let hz := (List.range 8).map (toneHz (d.targetCrossover r))
  let plant := d.fittedPlant r run
  { x with crossover := Config.loopCrossover ph hz, pm := Config.loopPm ph hz, gm := Config.loopGm ph hz
           plant := [plant.getD 0 0, plant.getD 1 0, plant.getD 2 0 + plant.getD 3 0, plant.getD 4 0] }

/-- The device once the fit has reported. -/
def Dev.fitted (d : Dev) (r : Rail) (run : TuneRun) : Dev :=
  d.grove' fun g => { g with result := upd g.result r (d.fitResult r run) }

section
variable {d : Dev} {r : Rail} {run : TuneRun} (hrun : d.runOn r = some run) (hstage : run.stage = .fitting) (t : Nat)
include hrun hstage

theorem Dev.identificationComplete_fitting : d.identificationComplete r t =
    if d.nat 0x2238 1 ≠ 2 then (d.fitted r run).endRun t r 1 else (d.fitted r run).retune t r run (d.fittedPlant r run) := by
  unfold Dev.identificationComplete
  rw [hrun]
  exact if_neg (not_not.2 hstage)

theorem Dev.identificationComplete_ends (hmode : d.nat 0x2238 1 ≠ 2) :
    d.identificationComplete r t = (d.fitted r run).endRun t r 1 := by
  rw [Dev.identificationComplete_fitting hrun hstage, if_pos hmode]

theorem Dev.identificationComplete_retunes (hmode : d.nat 0x2238 1 = 2) :
    d.identificationComplete r t = (d.fitted r run).retune t r run (d.fittedPlant r run) := by
  rw [Dev.identificationComplete_fitting hrun hstage, if_neg (not_not.2 hmode)]

end

/-- A retuning fails, changes too little to apply, or puts the clamped design in force (R161). -/
theorem Dev.retune_cases (d : Dev) (t : Nat) (r : Rail) (run : TuneRun) (plant : List Nat) :
    d.retune t r run plant = d.endRun t r 4 ∨ d.retune t r run plant = d.endRun t r 3 ∨
      ∃ set, d.retune t r run plant = d.applyRetune r run plant (d.clampedSet r set) := by
  unfold Dev.retune
  split
  · exact .inl rfl
  · next set _ =>
    dsimp only
    split_ifs
    · exact .inl rfl
    · exact .inr (.inl rfl)
    · exact .inr (.inr ⟨set, rfl⟩)

theorem Dev.applyRetune_grove (d : Dev) (r : Rail) (run : TuneRun) (plant new : List Nat) :
    d.applyRetune r run plant new = { d with grove := (d.applyRetune r run plant new).grove } := rfl

theorem Dev.applyRetune_active (d : Dev) (r : Rail) (run : TuneRun) (plant new : List Nat) :
    (d.applyRetune r run plant new).grove.rail[r].lp.active = new :=
  congrArg Loop.active (Dev.lp'_self d r fun l => { l with active := new })

/-! ## The verification (R162) -/

/-- A record of the log changes the log, and ends IDLE. -/
theorem Dev.logRetune_groveOnly (s : State) (d : Dev) (r : Rail) (outcome : Nat) (old new : List Nat) :
    GroveOnly s d (d.logRetune s.b.hw.counter r outcome old new) := by
  unfold Dev.logRetune Dev.logEvent Dev.log
  dsimp only
  split <;> exact ⟨.inr rfl, rfl, rfl, rfl⟩

/-- What follows in the grove alone keeps the frame. -/
theorem GroveOnly.withGrove {s : State} {d d' : Dev} (h : GroveOnly s d d') (g : Grove) : GroveOnly s d { d' with grove := g } := by
  obtain ⟨hpower, hrest, hnv, hsrc⟩ := h
  exact ⟨hpower, congrArg (fun e : Dev => { e with grove := g }) hrest, hnv, hsrc⟩

theorem GroveOnly.endRun {s : State} {d d' : Dev} (h : GroveOnly s d d') (t : Nat) (r : Rail) (outcome : Nat) :
    GroveOnly s d (d'.endRun t r outcome) :=
  h.withGrove (d'.endRun t r outcome).grove

theorem Dev.logRetune_active (d : Dev) (t : Nat) (r : Rail) (outcome : Nat) (old new : List Nat) :
    (d.logRetune t r outcome old new).grove.rail[r].lp.active = d.grove.rail[r].lp.active :=
  congrArg (fun g : Grove => g.rail[r].lp.active) (Dev.grove_faultFree.logEvent d t _ _ _ _)

/-- The set goes back to what it was before the retune. -/
def Dev.reverted (d : Dev) (r : Rail) (before : List Nat) : Dev := d.lp' r fun l => { l with active := before }

theorem Dev.reverted_active (d : Dev) (r : Rail) (before : List Nat) : (d.reverted r before).grove.rail[r].lp.active = before :=
  congrArg Loop.active (Dev.lp'_self d r _)

theorem GroveOnly.reverted {s : State} {d d' : Dev} (h : GroveOnly s d d') (r : Rail) (before : List Nat) :
    GroveOnly s d (d'.reverted r before) :=
  h.withGrove (d'.reverted r before).grove

/-- The end of a run stands when its set is reverted. -/
theorem Dev.reverted_ended {s : State} {d : Dev} {r : Rail} {outcome : Nat} (h : RunEnded s d r outcome) (before : List Nat) :
    RunEnded s (d.reverted r before) r outcome := by
  obtain ⟨hrun, htuning, houtcome, htime⟩ := h
  exact ⟨hrun, (congrArg Loop.tuning (Dev.lp'_self d r _)).trans htuning, houtcome, htime⟩

section
variable {d : Dev} {r : Rail} {run : TuneRun} {pm : Int} {hz : Nat} (hrun : d.runOn r = some run) (hstage : run.stage = .verifying)
  (t : Nat)
include hrun hstage

theorem Dev.verificationComplete_verifying : d.verificationComplete r pm hz t =
    if pm ≥ d.nat 0x2238 5 ∧ ((hz : Int) - d.targetCrossover r).natAbs * 4 ≤ d.targetCrossover r then
      (d.logRetune t r 2 run.before d.grove.rail[r].lp.active).endRun t r 2
    else ((d.logRetune t r 0x20 run.before d.grove.rail[r].lp.active).endRun t r 0x20).reverted r run.before := by
  unfold Dev.verificationComplete
  rw [hrun]
  exact if_neg (not_not.2 hstage)

theorem Dev.verificationComplete_kept (hpm : (d.nat 0x2238 5 : Int) ≤ pm)
    (hhz : ((hz : Int) - d.targetCrossover r).natAbs * 4 ≤ d.targetCrossover r) :
    d.verificationComplete r pm hz t = (d.logRetune t r 2 run.before d.grove.rail[r].lp.active).endRun t r 2 := by
  rw [Dev.verificationComplete_verifying hrun hstage, if_pos ⟨hpm, hhz⟩]

theorem Dev.verificationComplete_reverted
    (hoff : pm < (d.nat 0x2238 5 : Int) ∨ d.targetCrossover r < ((hz : Int) - d.targetCrossover r).natAbs * 4) :
    d.verificationComplete r pm hz t =
      ((d.logRetune t r 0x20 run.before d.grove.rail[r].lp.active).endRun t r 0x20).reverted r run.before := by
  rw [Dev.verificationComplete_verifying hrun hstage, if_neg (by omega)]

end

/-- Settles O8: each command of a run takes the branch that its hypotheses choose; a reading of the trunk while no run is in progress
leaves the grove but for the feed-forward, and a record of the log leaves all of it. -/
theorem tuningComplete : Obligations.TuningComplete := by
  intro s r hon
  refine ⟨fun turn c railMA trunk hmode hrun hchoice hr hwarning => ?_,
    fun turn c railMA trunk hmode hrun hchoice hr hwarning => ?_, fun run n p hrun hstage hn => ?_,
    fun run n p hrun hstage hn => ?_, fun run hrun hstage hmode => ?_, fun run hrun hstage hmode => ?_,
    fun run pm hz hrun hstage hpm hhz => ?_, fun run pm hz hrun hstage hoff => ?_⟩
  · refine Gives.of_core rfl hon ?_
    have hunfed := Dev.readTrunk_unfed hrun s.b.hw.counter trunk
    have hnext : (s.b.d.readTrunk s.b.hw.counter trunk).grove.runNext = s.b.d.grove.runNext := (congrArg Grove.runNext hunfed :)
    rw [Dev.tuningRunStart_begins hmode hrun hchoice hr _ _ _ hwarning]
    exact ⟨Dev.beginRun_readTrunk_still _ _ _ _ _, congrArg some (Dev.firstTone_readTrunk hrun r railMA _ trunk), rfl,
      congrArg (List.filter (· ≠ r.val)) hnext, congrArg Loop.tuning (Dev.lp'_self _ r _)⟩
  · exact Gives.of_core rfl hon (Dev.tuningRunStart_deferred hmode hrun hchoice hr railMA trunk _ hwarning)
  · exact Gives.of_core rfl hon (Dev.toneEnd_next hrun hstage p hn)
  · exact Gives.of_core rfl hon (Dev.toneEnd_last hrun hstage p hn)
  · refine Gives.of_core rfl hon ?_
    rw [Dev.identificationComplete_ends hrun hstage _ hmode]
    exact ⟨rfl, Dev.endRun_ended s _ r 1, Dev.endRun_active _ _ r 1⟩
  · refine Gives.of_core rfl hon ?_
    rw [Dev.identificationComplete_retunes hrun hstage _ hmode]
    obtain hends | hends | ⟨set, happlies⟩ := (s.b.d.fitted r run).retune_cases s.b.hw.counter r run (s.b.d.fittedPlant r run)
    · rw [hends]
      exact ⟨rfl, .inl ⟨Dev.endRun_ended s _ r 4, Dev.endRun_active _ _ r 4⟩⟩
    · rw [hends]
      exact ⟨rfl, .inr (.inl ⟨Dev.endRun_ended s _ r 3, Dev.endRun_active _ _ r 3⟩)⟩
    · rw [happlies]
      exact ⟨rfl, .inr (.inr ⟨set, _, Dev.applyRetune_active _ r run _ _, rfl⟩)⟩
  · refine Gives.of_core rfl hon ?_
    rw [Dev.verificationComplete_kept hrun hstage _ hpm hhz]
    exact ⟨(Dev.logRetune_groveOnly s _ r _ _ _).endRun _ r 2, Dev.endRun_ended s _ r 2,
      (Dev.endRun_active _ _ r 2).trans (Dev.logRetune_active _ _ r _ _ _)⟩
  · refine Gives.of_core rfl hon ?_
    rw [Dev.verificationComplete_reverted hrun hstage _ hoff]
    exact ⟨((Dev.logRetune_groveOnly s _ r _ _ _).endRun _ r 0x20).reverted r _,
      Dev.reverted_ended (Dev.endRun_ended s _ r 0x20) _, Dev.reverted_active _ r _⟩

end Sys2Proof.Machine
end

section
/-!
PROOFS. Transients of a rail: step-fire, forecast, braking and pulse skipping, and the cycle-by-cycle current limits.
-/
namespace Sys2Proof.Machine

/-! ## Operations on the grove alone -/

/-- A device but for its grove. -/
def Dev.ungroved (d : Dev) : Dev := { d with grove := {} }

theorem Dev.eq_of_ungroved {d d' : Dev} (h : d'.ungroved = d.ungroved) : d' = { d with grove := d'.grove } :=
  congrArg (fun e : Dev => { e with grove := d'.grove }) h

theorem Dev.eq_of_ungroved_undrawn {d d' : Dev} (h : d'.ungroved.undrawn = d.ungroved.undrawn) :
    d' = { d with free := d'.free, grove := d'.grove } :=
  congrArg (fun e : Dev => { e with free := d'.free, grove := d'.grove }) h

/-- What the change of a rail keeps of that rail, it keeps of every rail. -/
theorem Dev.rail'_rails {β : Type} (g : RailSt → β) (d : Dev) (r : Rail) (f : RailSt → RailSt) (h : ∀ x, g (f x) = g x) :
    (d.rail' r f).grove.rail.map g = d.grove.rail.map g := map_upd _ _ _ _ (h _)

section
variable (d : Dev) (r : Rail)

theorem Dev.fireOutput_ungroved : (d.fireOutput r).ungroved = d.ungroved :=
  foldl_keeps Dev.ungroved _ (by intros; rfl) _ d

theorem Dev.fireOutput_rail : (d.fireOutput r).grove.rail = d.grove.rail :=
  foldl_keeps (fun d => d.grove.rail) _ (by intros; rfl) _ d

theorem Dev.bringShedIn_ungroved : (d.bringShedIn r).ungroved = d.ungroved :=
  foldl_keeps Dev.ungroved _ (by intros; rfl) _ d

theorem Dev.bringShedIn_rail : (d.bringShedIn r).grove.rail = d.grove.rail :=
  foldl_keeps (fun d => d.grove.rail) _ (by intros; rfl) _ d

theorem Dev.bringShedIn_lsf : (d.bringShedIn r).grove.lsf = d.grove.lsf :=
  foldl_keeps (fun d => d.grove.lsf) _ (by intros; rfl) _ d

theorem Dev.advancePointer_ungroved : (d.advancePointer r).ungroved = d.ungroved := by
  unfold Dev.advancePointer
  split <;> rfl

/-- The pointer is a part of the placement of its rail (R109). -/
theorem Dev.advancePointer_rail : ∃ pl, (d.advancePointer r).grove.rail[r] = { d.grove.rail[r] with pl := pl } := by
  unfold Dev.advancePointer
  split
  · exact ⟨_, rfl⟩
  · exact ⟨_, Dev.rail'_self _ _ _⟩

end

/-! ## The firing order (R109, R175) -/

/-- The firing order looks at the phases and at the placement of its rail. -/
theorem Dev.fireOrder_congr {d d' : Dev} {r : Rail} (hph : d'.grove.ph = d.grove.ph) (hpl : d'.grove.rail[r].pl = d.grove.rail[r].pl) :
    d'.fireOrder r = d.fireOrder r := by
  unfold Dev.fireOrder Dev.rotationList Dev.firingIs Dev.roleIs
  rw [hph, hpl]

/-! ## A step-fire event (R175, R176, R180) -/

section
variable (d : Dev) (r : Rail)

theorem Dev.firePulses_ungroved : (d.firePulses r).ungroved = d.ungroved := by
  have hin := d.bringShedIn_ungroved r
  unfold Dev.firePulses
  dsimp only
  split
  · exact hin
  · refine (foldl_keeps Dev.ungroved _ (by intros; rfl) _ _).trans ?_
    exact (Dev.advancePointer_ungroved _ _).trans hin

/-- A step-fire event leaves the rail but for its counts, its pointer and the order it has fired in. -/
theorem Dev.firePulses_rail : ∃ counts fired pl, (d.firePulses r).grove.rail[r] =
      { d.grove.rail[r] with counts := counts, fired := fired, pl := pl } ∧
    (d.grove.rail[r].brake = false → fired = (d.fireOrder r).map fun p => p.val) := by
  have hin : (d.bringShedIn r).grove.rail[r] = d.grove.rail[r] := congrArg (fun v : Vector RailSt 8 => v[r]) (d.bringShedIn_rail r)
  unfold Dev.firePulses
  dsimp only
  rw [hin]
  split
  · next hbrake =>
    refine ⟨_, _, _, (Dev.rail'_self _ _ _).trans (by rw [hin]), fun hnone => ?_⟩
    rw [hnone] at hbrake
    exact absurd hbrake (by decide)
  · obtain ⟨pl, hpl⟩ := Dev.advancePointer_rail
      ((d.bringShedIn r).rail' r fun x => { x with fired := (d.fireOrder r).map fun p => p.val }) r
    refine ⟨d.grove.rail[r].counts, _, pl, ?_, fun _ => rfl⟩
    have hpulsed := foldl_keeps (fun d => d.grove.rail[r]) (fun e p => e.ph' p fun x => { x with high := (d.bringShedIn r).stepTaps r })
      (fun _ _ => rfl) (d.fireOrder r)
      (((d.bringShedIn r).rail' r fun x => { x with fired := (d.fireOrder r).map fun p => p.val }).advancePointer r)
    rw [hpulsed, hpl, Dev.rail'_self, hin]

theorem Dev.stepHold_rail : (d.stepHold r).grove.rail[r] = { d.grove.rail[r].endSkip with hold := true } := Dev.rail'_self _ _ _

/-- The hold of a step-fire event and its pulses: pulse skipping ends, and without braking every phase of the order fires. -/
theorem Dev.stepHold_firePulses : ((d.stepHold r).firePulses r).grove.rail[r].hold = true ∧
    ((d.stepHold r).firePulses r).grove.rail[r].skip = false ∧
    ((d.stepHold r).firePulses r).grove.rail[r].fcPulse = d.grove.rail[r].fcPulse ∧
    (d.grove.rail[r].brake = false →
      ((d.stepHold r).firePulses r).grove.rail[r].fired = (d.fireOrder r).map fun p => p.val) := by
  obtain ⟨counts, fired, pl, hrail, hfired⟩ := (d.stepHold r).firePulses_rail r
  have hheld := d.stepHold_rail r
  have horder : (d.stepHold r).fireOrder r = d.fireOrder r := Dev.fireOrder_congr rfl (congrArg RailSt.pl hheld :)
  rw [hrail, hheld]
  refine ⟨rfl, rfl, rfl, fun hbrake => ?_⟩
  rw [← horder]
  exact hfired ((congrArg RailSt.brake hheld :).trans hbrake)

end

/-! ## What ends a tuning run and goes on in the grove -/

section
variable {s : State} {d d' d'' : Dev}

theorem GroveOnly.refl (s : State) (d : Dev) : GroveOnly s d d := ⟨.inl rfl, rfl, rfl, rfl⟩

/-- What goes on in the grove alone keeps the frame. -/
theorem GroveOnly.then (h : GroveOnly s d d') (h' : d''.ungroved = d'.ungroved) : GroveOnly s d d'' :=
  Dev.eq_of_ungroved h' ▸ h.withGrove _

theorem GroveOnly.of_ungroved (h : d'.ungroved = d.ungroved) : GroveOnly s d d' := (GroveOnly.refl s d).then h

/-- The frame holds beside any count of open values. -/
theorem GroveOnly.withFree (h : GroveOnly s d d') (n : Nat) : GroveOnly s { d with free := n } { d' with free := n } := by
  obtain ⟨hpower, hrest, hnv, hsrc⟩ := h
  exact ⟨hpower, congrArg (fun e : Dev => { e with free := n }) hrest, hnv, hsrc⟩

/-- What was begun in the grove alone keeps the frame. -/
theorem GroveOnly.after (h : GroveOnly s d' d'') (h' : d'.ungroved = d.ungroved) : GroveOnly s d d'' := by
  rw [Dev.eq_of_ungroved h'] at h
  exact h

end

theorem Dev.abortTuning_groveOnly (s : State) (d : Dev) (r : Rail) (outcome : Nat) :
    GroveOnly s d (d.abortTuning s.b.hw.counter r outcome) := by
  unfold Dev.abortTuning
  split
  · exact .refl s d
  split
  · exact .refl s d
  dsimp only [Dev.when]
  split
  · exact (d.logRetune_groveOnly s r outcome _ _).withGrove _
  · exact (GroveOnly.refl s d).withGrove _

theorem Dev.abortTuning_lsf (d : Dev) (t : Nat) (r : Rail) (outcome : Nat) : (d.abortTuning t r outcome).grove.lsf = d.grove.lsf := by
  obtain ⟨h, -⟩ | ⟨run, h⟩ := d.abortTuning_grove_cases t r outcome <;> rw [h]
  rfl

/-! ## Sensed step-fire (R174 to R176) -/

section
variable (d : Dev) (t : Nat) (r : Rail)

/-- The device once a sensed trigger is counted; the trigger has ended a tuning run. -/
def Dev.triggered : Dev := (d.abortTuning t r 0x10).countTransient r 0

theorem Dev.triggered_brake : (d.triggered t r).grove.rail[r].brake = d.grove.rail[r].brake := by
  obtain ⟨tuning, active, hrail⟩ := d.abortTuning_rail t r 0x10
  exact (congrArg RailSt.brake (Dev.rail'_self _ r _) :).trans (congrArg RailSt.brake hrail :)

theorem Dev.triggered_fireOrder : (d.triggered t r).fireOrder r = d.fireOrder r := by
  obtain ⟨tuning, active, hrail⟩ := d.abortTuning_rail t r 0x10
  exact Dev.fireOrder_congr (d.abortTuning_ph t r 0x10)
    ((congrArg RailSt.pl (Dev.rail'_self _ r _) :).trans (congrArg RailSt.pl hrail :))

theorem Dev.triggered_groveOnly (s : State) : GroveOnly s d (d.triggered s.b.hw.counter r) :=
  (d.abortTuning_groveOnly s r 0x10).then rfl

end

/-- A trigger in regulation begins or restarts the hold; it fires outside a hold, and in one when a period has passed. -/
theorem Dev.stepFire_triggered {d : Dev} {r : Rail} {l : List Sample} {t : Nat}
    (hmode : (d.runSamples t r l).grove.rail[r].mode = .regulating) (htrigger : (d.runSamples t r l).stepTrigger r = true)
    (passed : Bool) : d.stepFire r l passed t =
      if !(d.runSamples t r l).grove.rail[r].hold || passed then (((d.runSamples t r l).triggered t r).stepHold r).firePulses r
      else ((d.runSamples t r l).triggered t r).stepHold r :=
  if_neg (not_or.2 ⟨not_not.2 hmode, by rw [htrigger]; decide⟩)

/-! ## The end of a step hold (R113, R176) -/

/-- Which rails hold: what the leaving of a phase does not change. -/
def Dev.holds (d : Dev) : Vector Bool 8 := d.grove.rail.map RailSt.hold

theorem Dev.hold_of_holds {d d' : Dev} (h : d'.holds = d.holds) (r : Rail) : d'.grove.rail[r].hold = d.grove.rail[r].hold := by
  simpa [Dev.holds] using congrArg (fun v : Vector Bool 8 => v[r]) h

section
variable (d : Dev) (t : Nat)

theorem Dev.abortTuning_holds (r : Rail) (outcome : Nat) : (d.abortTuning t r outcome).holds = d.holds := by
  unfold Dev.holds
  obtain ⟨h, -⟩ | ⟨run, h⟩ := d.abortTuning_grove_cases t r outcome <;> rw [h]
  exact map_upd _ _ _ _ rfl

theorem Dev.recordNew_holds (src reason : Nat) : (d.recordNew t src reason).holds = d.holds :=
  congrArg (fun g : Grove => g.rail.map RailSt.hold) (Dev.grove_faultFree.recordNew d t src reason)

theorem Dev.minimumCheck_holds (r : Rail) : (d.minimumCheck t r).holds = d.holds := by
  unfold Dev.minimumCheck
  split
  · have hwake : ∀ d : Dev, d.keepWake.holds = d.holds := fun d =>
      congrArg (fun g : Grove => g.rail.map RailSt.hold) (Dev.grove_faultFree.keepWake d)
    rw [hwake, Dev.recordNew_holds]
    exact Dev.rail'_rails RailSt.hold d r _ fun _ => rfl
  · rfl

theorem Dev.retirePhase_holds (p : Phase) (reason : Nat) : (d.retirePhase t p reason).holds = d.holds := by
  have hplaced : ∀ (d : Dev) r f, (Dev.pl' d r f).holds = d.holds := fun d r f => Dev.rail'_rails RailSt.hold d r _ fun _ => rfl
  unfold Dev.retirePhase Dev.retireKeeping
  split
  · rfl
  · dsimp only
    split
    · rw [Dev.minimumCheck_holds, Dev.recordNew_holds, hplaced]
      rfl
    · rw [Dev.recordNew_holds, hplaced]
      rfl

theorem Dev.proceedLeaving_holds (p : Phase) : (Dev.proceedLeaving t d p).holds = d.holds := by
  unfold Dev.proceedLeaving
  dsimp only
  split_ifs
  · rfl
  · exact d.retirePhase_holds t p _
  · exact d.abortTuning_holds t _ _
  · rfl

theorem Dev.proceedLeaving_still (p : Phase) : (Dev.proceedLeaving t d p).still = d.still := by
  unfold Dev.proceedLeaving
  dsimp only
  split_ifs
  · rfl
  · exact d.retirePhase_still t p _
  · exact (Dev.setFiring_still _ _ _).trans (d.abortTuning_still t _ _)
  · rfl

variable (r : Rail)

theorem Dev.resumeLeaving_holds : (d.resumeLeaving t r).holds = d.holds := foldl_keeps Dev.holds _ (Dev.proceedLeaving_holds · t) _ d
theorem Dev.resumeLeaving_still : (d.resumeLeaving t r).still = d.still := foldl_keeps Dev.still _ (Dev.proceedLeaving_still · t) _ d

variable {d} in
/-- Where no phase waits to leave, nothing goes on. -/
theorem Dev.resumeLeaving_none (hnone : ∀ q : Phase, d.grove.ph[q].leavingRetires = 0) : d.resumeLeaving t r = d :=
  List.foldl_fixed' (f := Dev.proceedLeaving t) (fun p => if_pos (.inl (hnone p))) _

end

/-- The rail leaves its step hold. -/
def RailSt.unheld (x : RailSt) : RailSt := { x with hold := false }

theorem Dev.stepHoldEnd_ends {d : Dev} {r : Rail} {us : Nat} (hhold : d.grove.rail[r].hold = true)
    (hforecast : d.grove.rail[r].forecast = false) (hus : d.gr r 0x31 ≤ us) (t : Nat) :
    d.stepHoldEnd r us t = (d.rail' r RailSt.unheld).resumeLeaving t r := if_pos ⟨hhold, by rw [hforecast]; rfl, hus⟩

/-! ## Forecast (R177 to R180) -/

theorem RailSt.eq_of_unfed {x y : RailSt} (h : x.unfed = y.unfed) : x = { y with lp := { y.lp with uff := x.lp.uff } } :=
  congrArg (fun z : RailSt => { z with lp := { z.lp with uff := x.lp.uff } }) h

section
variable (d : Dev) (r : Rail)

theorem Dev.updateFeedForward_ungroved : (d.updateFeedForward r).ungroved.undrawn = d.ungroved.undrawn :=
  Dev.updateFeedForward_keeps (fun e => e.ungroved.undrawn) (fun _ _ _ => rfl) (fun _ => rfl) d r

theorem Dev.updateFeedForward_rest : d.updateFeedForward r =
    { d with free := (d.updateFeedForward r).free, grove := (d.updateFeedForward r).grove } :=
  Dev.eq_of_ungroved_undrawn (d.updateFeedForward_ungroved r)

theorem Dev.updateFeedForward_rail : ∃ uff, (d.updateFeedForward r).grove.rail[r] =
    { d.grove.rail[r] with lp := { d.grove.rail[r].lp with uff := uff } } :=
  ⟨_, RailSt.eq_of_unfed (Dev.rail_of_unfed (d.updateFeedForward_unfed r) r)⟩

/-- A rail in a forecast: V_ref raised by the offset, and a pulse awaited where one is asked for. -/
def RailSt.forecasting (off cap : Nat) (pulse : Bool) (x : RailSt) : RailSt :=
  { x with forecast := true, fcOff := off, fcPulse := pulse
           lp := { x.lp with vref := max x.lp.vref (min (x.lp.vref + off) cap), rampAcc := 0 } }

/-- The start of a forecast before its rail forecasts: it is counted, the rail holds, and its SHED phases have come in. -/
def Dev.forecastHold (t : Nat) : Dev :=
  ((d.countTransient r 1).stepHold r).when (((d.countTransient r 1).stepHold r).shedOf r ≠ []) fun d =>
    (d.abortTuning t r 0x14).bringShedIn r

theorem Dev.beginForecast_eq (t : Nat) : d.beginForecast t r =
    ((d.forecastHold r t).rail' r
      (RailSt.forecasting (d.gr r 0x33) (d.forecastCap r) ((d.forecastHold r t).fpulse r))).updateFeedForward r := rfl

theorem Dev.forecastHold_groveOnly (s : State) : GroveOnly s d (d.forecastHold r s.b.hw.counter) := by
  have hbegun : GroveOnly s d ((d.countTransient r 1).stepHold r) := .of_ungroved rfl
  unfold Dev.forecastHold Dev.when
  split
  · exact ((Dev.abortTuning_groveOnly s _ r 0x14).then (Dev.bringShedIn_ungroved _ r)).after rfl
  · exact hbegun

theorem Dev.forecastHold_hold (t : Nat) : (d.forecastHold r t).grove.rail[r].hold = true := by
  have hheld : ((d.countTransient r 1).stepHold r).grove.rail[r].hold = true := congrArg RailSt.hold (Dev.stepHold_rail _ r)
  refine (Dev.when_keeps (fun d => d.grove.rail[r].hold) _ _ _ ?_).trans hheld
  rw [Dev.bringShedIn_rail]
  exact Dev.hold_of_holds (Dev.abortTuning_holds _ t r 0x14) r

theorem Dev.forecastHold_lsf (t : Nat) : (d.forecastHold r t).grove.lsf = d.grove.lsf :=
  Dev.when_keeps (fun d => d.grove.lsf) _ _ _ ((Dev.bringShedIn_lsf _ r).trans (Dev.abortTuning_lsf _ t r 0x14))

theorem Dev.beginForecast_groveOnly (s : State) :
    GroveOnly s { d with free := (d.beginForecast s.b.hw.counter r).free } (d.beginForecast s.b.hw.counter r) := by
  rw [Dev.beginForecast_eq]
  have h := ((d.forecastHold_groveOnly r s).withFree (d.beginForecast s.b.hw.counter r).free).withGrove
    (d.beginForecast s.b.hw.counter r).grove
  rw [Dev.beginForecast_eq] at h
  rw [Dev.updateFeedForward_rest]
  exact h

theorem Dev.beginForecast_rail (t : Nat) : (d.beginForecast t r).grove.rail[r].forecast = true ∧
    (d.beginForecast t r).grove.rail[r].hold = true ∧ (d.beginForecast t r).grove.rail[r].fcOff = d.gr r 0x33 := by
  obtain ⟨uff, hrail⟩ := Dev.updateFeedForward_rail ((d.forecastHold r t).rail' r
    (RailSt.forecasting (d.gr r 0x33) (d.forecastCap r) ((d.forecastHold r t).fpulse r))) r
  rw [Dev.beginForecast_eq, hrail, Dev.rail'_self]
  exact ⟨rfl, d.forecastHold_hold r t, rfl⟩

theorem Dev.beginForecast_lsf (t : Nat) : (d.beginForecast t r).grove.lsf = d.grove.lsf :=
  (congrArg Grove.lsf (Dev.updateFeedForward_unfed _ r) :).trans (d.forecastHold_lsf r t)

end

/-- The level of an LSF input is noted. -/
def Dev.lsfHigh (d : Dev) (i : Fin 4) : Dev := d.grove' fun g => { g with lsf := g.lsf ||| 2 ^ i.val }

theorem Dev.forecastStart_begins {d : Dev} {r : Rail} {i : Fin 4} {n : Nat} (hn : 3 ≤ n) (hmode : d.grove.rail[r].mode = .regulating)
    (hmask : (d.lsfMask r).testBit i.val = true) (hignored : d.grove.rail[r].fcIgnored.testBit i.val = false)
    (hforecast : d.grove.rail[r].forecast = false) (passed : Bool) (t : Nat) :
    d.forecastStart r i n passed t = (d.lsfHigh i).beginForecast t r := by
  have hmask' : ((d.lsfHigh i).lsfMask r).testBit i.val = true := hmask
  unfold Dev.forecastStart
  rw [if_neg (Nat.not_lt.2 hn)]
  refine (if_neg ?_).trans (if_neg ?_)
  · rintro (h | h | h)
    · exact h hmode
    · rw [Bool.not_eq_true'] at h
      exact absurd (hmask'.symm.trans h) (by decide)
    · exact absurd (hignored.symm.trans h) (by decide)
  · rw [hforecast]
    decide

/-- The pulse of a forecast is awaited no longer. -/
def RailSt.pulsed (x : RailSt) : RailSt := { x with fcPulse := false }

section
variable (d : Dev) (t : Nat) (r : Rail)

/-- The device once the pulse of a forecast has fallen due; it has ended a tuning run. -/
def Dev.pulseTaken : Dev := (d.rail' r RailSt.pulsed).abortTuning t r 0x10

theorem Dev.pulseTaken_rail : ∃ lp, (d.pulseTaken t r).grove.rail[r] = { d.grove.rail[r].pulsed with lp := lp } := by
  obtain ⟨tuning, active, hended⟩ := (d.rail' r RailSt.pulsed).abortTuning_rail t r 0x10
  rw [Dev.rail'_self] at hended
  exact ⟨_, hended⟩

theorem Dev.pulseTaken_fireOrder : (d.pulseTaken t r).fireOrder r = d.fireOrder r := by
  obtain ⟨lp, hrail⟩ := d.pulseTaken_rail t r
  exact Dev.fireOrder_congr ((d.rail' r RailSt.pulsed).abortTuning_ph t r 0x10) (congrArg RailSt.pl hrail :)

theorem Dev.pulseTaken_groveOnly (s : State) : GroveOnly s d (d.pulseTaken s.b.hw.counter r) :=
  (Dev.abortTuning_groveOnly s (d.rail' r RailSt.pulsed) r 0x10).after rfl

end

section
variable {d : Dev} {r : Rail} {ns : Nat} (hpulse : d.grove.rail[r].fcPulse = true) (hns : d.gr r 0x32 ≤ ns) (t : Nat)
include hpulse hns

theorem Dev.forecastPulse_due : ¬(!d.grove.rail[r].fcPulse ∨ ns < d.gr r 0x32) := by
  rw [hpulse]
  exact not_or.2 ⟨by decide, Nat.not_lt.2 hns⟩

theorem Dev.forecastPulse_merged : d.forecastPulse r ns true t = d.rail' r RailSt.pulsed :=
  (if_neg (Dev.forecastPulse_due hpulse hns)).trans (if_pos rfl)

theorem Dev.forecastPulse_fires : d.forecastPulse r ns false t = ((d.pulseTaken t r).stepHold r).firePulses r :=
  (if_neg (Dev.forecastPulse_due hpulse hns)).trans (if_neg Bool.false_ne_true)

end

theorem Dev.forecastEnd_low {d : Dev} {r : Rail} {levels : Fin 16} (hlow : levels.val &&& d.lsfMask r = 0) :
    d.forecastEnd r levels = (d.grove' fun g => { g with lsf := levels.val }).rail' r fun x =>
      RailSt.forecastOver { x with fcIgnored := x.fcIgnored &&& levels.val, fcStuck := false } := by
  have hlow' : levels.val &&& (d.grove' fun g => { g with lsf := levels.val }).lsfMask r = 0 := hlow
  unfold Dev.forecastEnd
  simp [hlow']

theorem RailSt.forecastOver_forecast (x : RailSt) : x.forecastOver.forecast = false := by
  unfold RailSt.forecastOver
  split
  · rfl
  · next h => simpa using h

theorem RailSt.forecastOver_fcStuck (x : RailSt) : x.forecastOver.fcStuck = x.fcStuck := by
  unfold RailSt.forecastOver
  split <;> rfl

/-- A rail whose forecast is stuck: it is over, and the inputs that are high are ignored. -/
def RailSt.stuck (ignored : Nat) (x : RailSt) : RailSt := { x.forecastOver with fcStuck := true, fcIgnored := ignored }

theorem Dev.forecastStuck_ends {d : Dev} {r : Rail} {us : Nat} (hforecast : d.grove.rail[r].forecast = true) (hus : 10000 < us) :
    d.forecastStuck r us = d.rail' r (RailSt.stuck (d.grove.lsf &&& d.lsfMask r)) := if_pos ⟨hforecast, hus⟩

/-! ## The High that the rail fires next (R148, R149) -/

section
variable (d : Dev) (r : Rail)

theorem Dev.countTransient_rail (i : Nat) :
    (d.countTransient r i).grove.rail[r] = { d.grove.rail[r] with counts := bump32 d.grove.rail[r].counts i } := Dev.rail'_self _ _ _

/-- What a rail becomes, it stays when its phases fire. -/
theorem Dev.rail'_fireOutput (f : RailSt → RailSt) : ((d.rail' r f).fireOutput r).grove.rail[r] = f d.grove.rail[r] :=
  (congrArg (fun v : Vector RailSt 8 => v[r]) (Dev.fireOutput_rail _ r)).trans (Dev.rail'_self _ _ _)

/-- A change of a rail after which its phases fire anew is one of the grove. -/
theorem Dev.rail'_fireOutput_eq (f : RailSt → RailSt) :
    (d.rail' r f).fireOutput r = { d with grove := ((d.rail' r f).fireOutput r).grove } :=
  Dev.eq_of_ungroved (Dev.fireOutput_ungroved (d.rail' r f) r)

end

/-! ## Braking (R181 to R183) -/

/-- With braking on, every phase fires a High of 0: it is in mid. -/
theorem Dev.fireOutput_braking {d : Dev} {r : Rail} (hbrake : d.grove.rail[r].brake = true) {p : Phase} (hp : p ∈ d.firingOf r) :
    (d.fireOutput r).grove.ph[p].high = 0 := by
  have hmid : ∀ (e : Dev) (l : List Phase), p ∈ l ∨ e.grove.ph[p].high = 0 →
      (l.foldl (fun e q => e.ph' q fun x => { x with lowEnded := false, high := 0 }) e).grove.ph[p].high = 0 := fun e l => by
    induction l generalizing e with
    | nil => exact fun h => h.resolve_left (by simp)
    | cons q l ih =>
      intro h
      refine ih _ ?_
      by_cases hq : q = p
      · subst hq
        exact .inr (congrArg PhaseSt.high (upd_self _ _ _))
      · refine h.imp (fun hmem => (List.mem_cons.1 hmem).resolve_left (Ne.symm hq)) fun hzero => ?_
        exact (congrArg PhaseSt.high (upd_other _ _ _ _ hq)).trans hzero
  unfold Dev.fireOutput
  simp only [hbrake, if_true]
  exact hmid d _ (.inl hp)

/-- A rail that brakes. -/
def RailSt.braking (x : RailSt) : RailSt := { x with brake := true, brakeRest := false }

/-- A rail that has braked: no new brake starts for one period. -/
def RailSt.braked (x : RailSt) : RailSt := { x with brake := false, brakeRest := true }

section
variable {d : Dev} {r : Rail} {l : List Sample} {t : Nat}

theorem Dev.brakingStart_begins (hmode : (d.runSamples t r l).grove.rail[r].mode = .regulating) (hset : d.gr r 0x34 ≠ 0)
    (hbrake : (d.runSamples t r l).grove.rail[r].brake = false) (hrest : (d.runSamples t r l).grove.rail[r].brakeRest = false)
    (htrigger : (d.runSamples t r l).brakeTrigger r = true) (passed : Bool) : d.brakingStart r l passed t =
      (((d.runSamples t r l).countTransient r 3).rail' r RailSt.braking).fireOutput r := by
  have hset' : (d.runSamples t r l).gr r 0x34 ≠ 0 := (Dev.gr_of_dict (d.runSamples_dict t r l) r 0x34).trans_ne hset
  refine if_neg ?_
  rw [hbrake, hrest, htrigger]
  simp only [not_or]
  exact ⟨not_not.2 hmode, hset', by decide, by simp, by decide⟩

theorem Dev.brakingEnd_ends {k : Taken} (hbrake : (d.runSamples t r l).grove.rail[r].brake = true)
    (hnewest : (d.runSamples t r l).grove.rail[r].lp.newest = some k) (hk : -(d.gr r 0x35 : Int) ≤ k.e) :
    d.brakingEnd r l t = ((d.runSamples t r l).rail' r RailSt.braked).fireOutput r := by
  have hk' : k.e ≥ -((d.runSamples t r l).gr r 0x35 : Int) := by rwa [Dev.gr_of_dict (d.runSamples_dict t r l)]
  unfold Dev.brakingEnd
  dsimp only
  rw [hnewest]
  exact if_pos ⟨hbrake, hk'⟩

theorem Dev.brakeTimeout_ends {us : Nat} (hbrake : d.grove.rail[r].brake = true) (hus : d.gr r 0x36 ≤ us) :
    d.brakeTimeout r us = ((d.rail' r RailSt.braked).fireOutput r).countTransient r 4 := if_pos ⟨hbrake, hus⟩

end

/-! ## Pulse skipping (R184 to R186) -/

/-- A rail that skips pulses, with a negative limit of 0 A. -/
def RailSt.skipping (x : RailSt) : RailSt := { x with skip := true, negZero := true }

section
variable {d : Dev} {r : Rail} {l : List Sample} {t : Nat}

theorem Dev.pulseSkippingEntry_begins (hflag : d.flag (0x2200 + r.val) 0x37 = true)
    (hmode : (d.runSamples t r l).grove.rail[r].mode = .regulating) (hskip : (d.runSamples t r l).grove.rail[r].skip = false)
    (hleast : ((d.runSamples t r l).firingOf r).length = d.nat 0x2233 (r.val + 1))
    (hhold : (d.runSamples t r l).grove.rail[r].hold = false) (hforecast : (d.runSamples t r l).grove.rail[r].forecast = false)
    (hbrake : (d.runSamples t r l).grove.rail[r].brake = false) (hbelow : d.gr r 0x38 ≤ (d.runSamples t r l).grove.rail[r].lp.below) :
    d.pulseSkippingEntry r l t = (((d.runSamples t r l).countTransient r 5).rail' r RailSt.skipping).fireOutput r := by
  have hint := Dev.int_of_dict (d.runSamples_dict t r l)
  refine if_pos ⟨?_, hmode, by rw [hskip]; rfl, ?_, by rw [hhold]; rfl, by rw [hforecast]; rfl, by rw [hbrake]; rfl, ?_⟩
  · rw [Dev.flag, hint]
    exact hflag
  · rw [Dev.nat, hint]
    exact hleast
  · rw [ge_iff_le, Dev.gr_of_dict (d.runSamples_dict t r l)]
    exact hbelow

theorem Dev.pulseSkippingExit_ends {mA : Int} (hskip : (d.runSamples t r l).grove.rail[r].skip = true)
    (hover : (d.runSamples t r l).skipOver r mA = true) :
    d.pulseSkippingExit r l mA t = ((d.runSamples t r l).rail' r RailSt.endSkip).fireOutput r := if_pos ⟨hskip, hover⟩

theorem RailSt.endSkip_negZero {x : RailSt} (h : x.skip = true) : x.endSkip.negZero = false := if_pos h

end

/-! ## Current limits (R194, R195) -/

theorem currentLimitsComplete : CurrentLimitsComplete := by
  intro s p hon hdriven
  refine ⟨fun mA n hn hmA => Gives.of_core rfl hon (if_pos ⟨hdriven, hn, hmA⟩), fun mA hmA => Gives.of_core rfl hon ?_⟩
  refine if_pos ⟨hdriven, hmA.trans_eq ?_⟩
  split <;> simp

/-! ## The statement, command by command -/

section
variable {s : State} {r : Rail}

/-- A sensed trigger holds and ends pulse skipping; where it fires, every phase of the order does (R174 to R176). -/
theorem stepFire_spec {l : List Sample} (hmode : (sampled s r l).grove.rail[r].mode = .regulating)
    (htrigger : (sampled s r l).stepTrigger r = true) (passed : Bool) :
    let d := s.b.d.stepFire r l passed s.b.hw.counter
    GroveOnly s (sampled s r l) d ∧ d.grove.rail[r].hold = true ∧ d.grove.rail[r].skip = false ∧
      ((sampled s r l).grove.rail[r].hold = false ∨ passed = true → (sampled s r l).grove.rail[r].brake = false →
        d.grove.rail[r].fired = ((sampled s r l).fireOrder r).map fun p => p.val) := by
  have hframe := (sampled s r l).triggered_groveOnly r s
  rw [Dev.stepFire_triggered hmode htrigger]
  split
  · obtain ⟨hhold, hskip, -, hfired⟩ := ((sampled s r l).triggered s.b.hw.counter r).stepHold_firePulses r
    refine ⟨hframe.then (Dev.firePulses_ungroved _ r), hhold, hskip, fun _ hbrake => ?_⟩
    rw [← Dev.triggered_fireOrder]
    exact hfired ((Dev.triggered_brake _ _ r).trans hbrake)
  · next hidle =>
    have hheld := ((sampled s r l).triggered s.b.hw.counter r).stepHold_rail r
    refine ⟨hframe.then rfl, (congrArg RailSt.hold hheld :), (congrArg RailSt.skip hheld :), fun hfires => ?_⟩
    exact absurd (by simpa using hfires) hidle

/-- The pulse of a forecast is a step-fire event with a hold of its own (R178). -/
theorem forecastPulse_spec {ns : Nat} (hpulse : s.b.d.grove.rail[r].fcPulse = true) (hns : s.b.d.gr r 0x32 ≤ ns) :
    let d := s.b.d.forecastPulse r ns false s.b.hw.counter
    GroveOnly s s.b.d d ∧ d.grove.rail[r].fcPulse = false ∧ d.grove.rail[r].hold = true ∧
      (s.b.d.grove.rail[r].brake = false → d.grove.rail[r].fired = (s.b.d.fireOrder r).map fun p => p.val) := by
  obtain ⟨lp, hrail⟩ := s.b.d.pulseTaken_rail s.b.hw.counter r
  obtain ⟨hhold, -, hpulsed, hfired⟩ := (s.b.d.pulseTaken s.b.hw.counter r).stepHold_firePulses r
  rw [Dev.forecastPulse_fires hpulse hns]
  refine ⟨(s.b.d.pulseTaken_groveOnly r s).then (Dev.firePulses_ungroved (Dev.stepHold _ r) r), ?_, hhold, fun hbrake => ?_⟩
  · exact hpulsed.trans (congrArg RailSt.fcPulse hrail :)
  · rw [← Dev.pulseTaken_fireOrder]
    exact hfired ((congrArg RailSt.brake hrail :).trans hbrake)

end

theorem transientsComplete_rails : TransientsComplete := by
  intro s r hon
  refine ⟨fun l passed hmode htrigger => ?_, fun us hhold hforecast hus => ?_,
    fun i n passed hn hmode hmask hignored hforecast => ?_, fun ns hpulse hns => ?_, fun ns hpulse hns => ?_,
    fun levels hlow => ?_, fun us hforecast hus => ?_, fun l passed hmode hset hbrake hrest htrigger => ?_,
    fun l k hbrake hnewest hk => ?_, fun us hbrake hus => ?_,
    fun l hflag hmode hskip hleast hhold hforecast hbrake hbelow => ?_, fun l mA hskip hover => ?_⟩
  · exact Gives.of_core rfl hon (stepFire_spec hmode htrigger passed)
  · refine Gives.of_core rfl hon ?_
    have hunheld : (s.b.d.rail' r RailSt.unheld).still = s.b.d.still := Dev.rail'_still _ _ _ rfl
    rw [Dev.stepHoldEnd_ends hhold hforecast hus]
    refine ⟨Dev.still_beside_grove ((Dev.resumeLeaving_still _ _ r).trans hunheld), ?_, fun hnone => ?_⟩
    · exact (Dev.hold_of_holds (Dev.resumeLeaving_holds _ _ r) r).trans (congrArg RailSt.hold (Dev.rail'_self _ r _))
    · exact Dev.resumeLeaving_none (d := s.b.d.rail' r RailSt.unheld) _ r hnone
  · refine Gives.of_core rfl hon ?_
    obtain ⟨hbegun, hheld, hoff⟩ := (s.b.d.lsfHigh i).beginForecast_rail r s.b.hw.counter
    rw [Dev.forecastStart_begins hn hmode hmask hignored hforecast]
    exact ⟨((s.b.d.lsfHigh i).beginForecast_groveOnly r s).after rfl, hbegun, hheld, hoff, Dev.beginForecast_lsf _ r _⟩
  · exact Gives.of_core rfl hon (forecastPulse_spec hpulse hns)
  · exact Gives.of_core rfl hon (Dev.forecastPulse_merged hpulse hns _)
  · refine Gives.of_core rfl hon ?_
    have hrail := Dev.rail'_self (s.b.d.grove' fun g => { g with lsf := levels.val }) r fun x =>
      RailSt.forecastOver { x with fcIgnored := x.fcIgnored &&& levels.val, fcStuck := false }
    rw [Dev.forecastEnd_low hlow]
    exact ⟨rfl, (congrArg RailSt.forecast hrail).trans (RailSt.forecastOver_forecast _),
      (congrArg RailSt.fcStuck hrail).trans (RailSt.forecastOver_fcStuck _), rfl⟩
  · refine Gives.of_core rfl hon ?_
    have hrail := Dev.rail'_self s.b.d r (RailSt.stuck (s.b.d.grove.lsf &&& s.b.d.lsfMask r))
    rw [Dev.forecastStuck_ends hforecast hus]
    exact ⟨rfl, (congrArg RailSt.forecast hrail).trans (RailSt.forecastOver_forecast _), (congrArg RailSt.fcStuck hrail :),
      (congrArg RailSt.fcIgnored hrail :)⟩
  · refine Gives.of_core rfl hon ?_
    have hrail := ((sampled s r l).countTransient r 3).rail'_fireOutput r RailSt.braking
    have hcounted := (sampled s r l).countTransient_rail r 3
    rw [Dev.brakingStart_begins hmode hset hbrake hrest htrigger]
    exact ⟨Dev.rail'_fireOutput_eq ((sampled s r l).countTransient r 3) r _, (congrArg RailSt.brake hrail :),
      (congrArg RailSt.counts hrail :).trans (congrArg RailSt.counts hcounted :),
      fun p hp => Dev.fireOutput_braking (congrArg RailSt.brake (Dev.rail'_self _ r _)) hp⟩
  · refine Gives.of_core rfl hon ?_
    have hrail := (sampled s r l).rail'_fireOutput r RailSt.braked
    rw [Dev.brakingEnd_ends hbrake hnewest hk]
    exact ⟨Dev.rail'_fireOutput_eq _ r _, (congrArg RailSt.brake hrail :), (congrArg RailSt.brakeRest hrail :)⟩
  · refine Gives.of_core rfl hon ?_
    have hcounted := ((s.b.d.rail' r RailSt.braked).fireOutput r).countTransient_rail r 4
    rw [Dev.rail'_fireOutput] at hcounted
    rw [Dev.brakeTimeout_ends hbrake hus]
    exact ⟨Dev.eq_of_ungroved (Dev.fireOutput_ungroved (s.b.d.rail' r RailSt.braked) r), (congrArg RailSt.brake hcounted :),
      (congrArg RailSt.counts hcounted :)⟩
  · refine Gives.of_core rfl hon ?_
    have hrail := ((sampled s r l).countTransient r 5).rail'_fireOutput r RailSt.skipping
    have hcounted := (sampled s r l).countTransient_rail r 5
    rw [Dev.pulseSkippingEntry_begins hflag hmode hskip hleast hhold hforecast hbrake hbelow]
    exact ⟨Dev.rail'_fireOutput_eq ((sampled s r l).countTransient r 5) r _, (congrArg RailSt.skip hrail :),
      (congrArg RailSt.negZero hrail :), (congrArg RailSt.counts hrail :).trans (congrArg RailSt.counts hcounted :)⟩
  · refine Gives.of_core rfl hon ?_
    have hrail := (sampled s r l).rail'_fireOutput r RailSt.endSkip
    rw [Dev.pulseSkippingExit_ends hskip hover]
    exact ⟨Dev.rail'_fireOutput_eq _ r _, (congrArg RailSt.skip hrail :),
      (congrArg RailSt.negZero hrail).trans (RailSt.endSkip_negZero hskip)⟩

/-- Settles O7: each command of a transient takes the branch that its hypotheses choose, after the samples that it carries; what that
branch does stays in the grove, but for the record with which a tuning run ends. -/
theorem transientsComplete : Obligations.TransientsComplete := ⟨transientsComplete_rails, currentLimitsComplete⟩

end Sys2Proof.Machine
end

section
/-!
PROOFS. Slots of an on order: how a branch of each kind starts, and that nothing else moves on while another slot is still to come.
-/
namespace Sys2Proof.Machine

/-! ## Masks of branches (R227) -/

theorem maskOf_eq_sum (p : Branch → Bool) : maskOf p = (((allBranches.filter p).map Fin.val).map (2 ^ ·)).sum := by
  rw [List.sum_eq_foldl, List.foldl_map, List.foldl_map]
  rfl

@[simp] theorem inMask_maskOf (p : Branch → Bool) (b : Branch) : inMask (maskOf p) b = p b := by
  have hsorted : ((allBranches.filter p).map Fin.val).SortedLT :=
    (((List.pairwise_lt_finRange 30).filter p).map Fin.val fun _ _ h => h).sortedLT
  have hmem : b.val ∈ (maskOf p).bitIndices ↔ p b = true := by
    rw [maskOf_eq_sum, Nat.bitIndices_sum_map_two_pow hsorted]
    simp [allBranches, Fin.val_inj]
  rw [Bool.eq_iff_iff, ← hmem, Nat.mem_bitIndices, inMask]

theorem inMask_and (m n : Nat) (b : Branch) : inMask (m &&& n) b = (inMask m b && inMask n b) := Nat.testBit_and m n b.val

/-- A branch whose slot is still to come waits, and is one of the sequence (R228, R255). -/
theorem Dev.inMask_seqTodo (d : Dev) (b : Branch) : inMask d.seqTodo b = (inMask d.seq.todo b && decide (d.onDelay b ≠ 0xFFFF)) := by
  rw [Dev.seqTodo, inMask_and, Dev.members, inMask_maskOf]

/-! ## What moves on while a slot is still to come (R233) -/

section
variable (d : Dev)

/-- Settling changes the journal and the transaction of the cascade. -/
theorem Dev.settle_keeps {β : Type} (g : Dev → β) (hjour : ∀ d f, g (Dev.jour' d f) = g d)
    (hcasc : ∀ d f, g (Dev.casc' d f) = g d) : g d.settle = g d := by
  have hnow : ∀ (d : Dev) i st detail, g (d.endNow i st detail) = g d := fun d i st detail => by
    unfold Dev.endNow
    split
    · rfl
    · exact hjour _ _
  have hend : ∀ (d : Dev) i st detail, g (d.endEntry i st detail) = g d := fun d i st detail => by
    unfold Dev.endEntry
    split
    · exact hnow _ _ _ _
    · exact hjour _ _
  have hclose : ∀ d : Dev, g d.closeTxn = g d := fun d => by
    unfold Dev.closeTxn
    split
    · split
      · exact hcasc _ _
      · rfl
    · rfl
  have hpay : g d.payEnds = g d := by
    unfold Dev.payEnds
    split
    · rfl
    · refine foldl_keeps g _ (fun d i => ?_) _ d
      split
      · split
        · exact hnow _ _ _ _
        · rfl
      · rfl
  unfold Dev.settle
  rw [hclose]
  refine (foldl_keeps g _ (fun d i => ?_) _ _).trans ((hjour _ _).trans hpay)
  split
  · exact hend _ _ _ _
  · rfl

/-- A device but for its journal and its cascade. -/
def Dev.unjournaled : Dev := { d with casc := {}, jour := {} }

theorem Dev.eq_of_unjournaled {d d' : Dev} (h : d'.unjournaled = d.unjournaled) : d' = { d with casc := d'.casc, jour := d'.jour } :=
  congrArg (fun e : Dev => { e with casc := d'.casc, jour := d'.jour }) h

theorem Dev.settle_rest : d.settle = { d with casc := d.settle.casc, jour := d.settle.jour } :=
  Dev.eq_of_unjournaled (d.settle_keeps Dev.unjournaled (fun _ _ => rfl) fun _ _ => rfl)

theorem Dev.wdhCheck_rest : d.wdhCheck = { d with wdh := d.wdhCheck.wdh } := by
  unfold Dev.wdhCheck
  split <;> rfl

theorem Dev.wdhGroupCheck_rest : d.wdhGroupCheck = { d with wdh := d.wdhGroupCheck.wdh } := by
  unfold Dev.wdhGroupCheck
  split
  · unfold Dev.wdhActionDone
    dsimp only
    split
    · rfl
    · rw [Dev.wdhCheck_rest]
      rfl
  · exact d.wdhCheck_rest

theorem Dev.members_of_dict {d d' : Dev} (h : d'.dict = d.dict) : d'.members = d.members := by
  unfold Dev.members Dev.onDelay Dev.nat
  simp only [Dev.int_of_dict h]

/-- An on order runs, and a slot of it is still to come. -/
def Dev.SlotsRemain : Prop := (d.seq.state = .onOrder ∨ d.seq.state = .safeOn) ∧ d.seqTodo ≠ 0

/-- The journal, the cascade's transaction and the arming of WD-H may have moved on, and nothing else. -/
def Dev.Settles (d d' : Dev) : Prop :=
  d' = { d with casc := d'.casc, jour := d'.jour, wdh := d'.wdh } ∧ d'.still = d.still

variable {d} {d' d'' : Dev}

theorem Dev.SlotsRemain.of_seq (h : d.SlotsRemain) (hseq : d'.seq = d.seq) (hdict : d'.dict = d.dict) : d'.SlotsRemain := by
  unfold Dev.SlotsRemain Dev.seqTodo at h ⊢
  rwa [hseq, Dev.members_of_dict hdict]

theorem Dev.Settles.rest (h : d.Settles d') : d' = { d with casc := d'.casc, jour := d'.jour, wdh := d'.wdh } := h.left
theorem Dev.Settles.still (h : d.Settles d') : d'.still = d.still := h.right

theorem Dev.Settles.trans (h : d.Settles d') (h' : d'.Settles d'') : d.Settles d'' :=
  ⟨h'.rest.trans (congrArg (fun e : Dev => { e with casc := d''.casc, jour := d''.jour, wdh := d''.wdh }) h.rest),
    h'.still.trans h.still⟩

theorem Dev.Settles.seq (h : d.Settles d') : d'.seq = d.seq := (congrArg Dev.seq h.rest :)
theorem Dev.Settles.judge (h : d.Settles d') : d'.judge = d.judge := (congrArg Dev.judge h.rest :)
theorem Dev.Settles.grove (h : d.Settles d') : d'.grove = d.grove := (congrArg Dev.grove h.rest :)
theorem Dev.Settles.integ (h : d.Settles d') : d'.integ = d.integ := (congrArg Dev.integ h.rest :)
theorem Dev.Settles.dict (h : d.Settles d') : d'.dict = d.dict := (congrArg Dev.dict h.rest :)
theorem Dev.Settles.free (h : d.Settles d') : d'.free = d.free := (congrArg Dev.free h.rest :)
theorem Dev.Settles.chan (h : d.Settles d') (c : Integrated) : d'.chan c = d.chan c := Dev.chan_of_integ h.integ c

theorem Dev.seqTodo_of_onOrderDone (h : d.onOrderDone = true) : d.seqTodo = 0 := by
  simp only [Dev.onOrderDone, Bool.and_eq_true, decide_eq_true_eq] at h
  obtain ⟨⟨⟨⟨htodo, -⟩, -⟩, -⟩, -⟩ := h
  exact htodo

theorem Dev.seqTodo_of_safeOnDone (h : d.safeOnDone = true) : d.seqTodo = 0 := by
  simp only [Dev.safeOnDone, Bool.and_eq_true, decide_eq_true_eq] at h
  exact h.left

/-- While a slot is still to come no order of the sequencer moves on; WD-H may arm. -/
theorem Dev.SlotsRemain.seqCheck (h : d.SlotsRemain) (t : Nat) : d.seqCheck t = d.wdhGroupCheck := by
  obtain ⟨hstate, htodo⟩ := h
  have hon : d.onCheck t = d := if_neg fun hdone => htodo (Dev.seqTodo_of_onOrderDone hdone.2)
  have hsafe : d.safeCheck t = d := if_neg fun hdone => htodo (Dev.seqTodo_of_safeOnDone hdone.2)
  have hoff : d.offCheck t = d := if_neg fun hdone => by
    obtain hs | hs := hstate <;> rw [hs] at hdone <;> exact absurd hdone.1 (by decide)
  have hseq : d.wdhGroupCheck.seq = d.seq := (congrArg Dev.seq d.wdhGroupCheck_rest :)
  have hidle : d.wdhGroupCheck.seq.state ≠ .idle := by
    rw [hseq]
    obtain hs | hs := hstate <;> rw [hs] <;> decide
  have hgroup : d.wdhGroupCheck.groupCheck t = d.wdhGroupCheck := if_neg fun hdue => hidle hdue.2
  have hship : d.wdhGroupCheck.shipCheck t = d.wdhGroupCheck := if_neg fun hdue => hidle hdue.2
  rw [Dev.seqCheck, hon, hsafe, hoff, hgroup, hship]

theorem Dev.SlotsRemain.settles (h : d.SlotsRemain) (t : Nat) : d.Settles (d.settle.seqCheck t) := by
  have hsettled : d.settle.SlotsRemain := h.of_seq (congrArg Dev.seq d.settle_rest :) d.settle_dict
  refine ⟨?_, (d.settle.seqCheck_still t).trans d.settle_still⟩
  rw [hsettled.seqCheck, Dev.wdhGroupCheck_rest]
  exact congrArg (fun e : Dev => { e with wdh := d.settle.wdhGroupCheck.wdh }) d.settle_rest

end

/-! ## The slot (R229 to R231) -/

/-- A branch whose slot the timer has reached no longer waits. -/
def Dev.slotReached (d : Dev) (t : Nat) (b : Branch) (timerUs : Nat) : Dev :=
  d.seq' fun s => { s with timerUs := timerUs, timerTick := t, todo := maskDiff s.todo (2 ^ b.val) }

section
variable {d : Dev} {b : Branch} {timerUs : Nat} (hopen : SlotOpen d b timerUs) (m : StartMeas) (t : Nat)
include hopen

theorem Dev.slotReached_slotsRemain : (d.slotReached t b timerUs).SlotsRemain := by
  obtain ⟨hstate, -, -, -, -, -, -, -, hothers⟩ := hopen
  exact ⟨hstate, hothers⟩

theorem Dev.slotTurnOn_open : d.slotTurnOn b timerUs m t =
    (((d.slotReached t b timerUs).reachSlot t b m).settle).seqCheck t := by
  obtain ⟨hstate, hpulse, htap, hwaits, hmember, hdelay, htimer, hholds, -⟩ := hopen
  refine if_neg ?_
  simpa [Dev.inMask_seqTodo, hpulse, htap, hwaits, hholds, hmember, hdelay, htimer] using or_iff_not_imp_left.1 hstate

/-- What reaching a slot does stands, where it leaves the order and the dictionary as they are. -/
theorem Dev.slotTurnOn_settles {x : Dev} (hx : (d.slotReached t b timerUs).reachSlot t b m = x)
    (hseq : x.seq = (d.slotReached t b timerUs).seq) (hdict : x.dict = d.dict) : x.Settles (d.slotTurnOn b timerUs m t) := by
  rw [Dev.slotTurnOn_open hopen, hx]
  exact ((Dev.slotReached_slotsRemain hopen t).of_seq hseq hdict).settles t

end

/-- A branch out of the sequence has no slot. -/
theorem Dev.slotTurnOn_passedOver {d : Dev} {b : Branch} (h : d.onDelay b = 0xFFFF) (timerUs : Nat) (m : StartMeas) (t : Nat) :
    d.slotTurnOn b timerUs m t = d := if_pos (by simp [Dev.inMask_seqTodo, h])

theorem Dev.judge'_self (d : Dev) (b : Branch) (f : BranchJ → BranchJ) : (d.judge' b f).judge[b] = f d.judge[b] := upd_self _ _ _

/-- The judge counts a branch that the order starts. -/
def BranchJ.slotStarted (j : BranchJ) : BranchJ := { j with counted := true }.starting

section
variable {d : Dev} {b : Branch} (m : StartMeas) (t : Nat)

theorem Dev.reachSlot_on (hon : d.branchOn b = true) : 
    d.reachSlot t b m = d.judge' b fun j => { j with counted := !j.good } := if_pos hon

theorem Dev.reachSlot_skip (hoff : d.branchOn b = false) (hcannot : d.cannotStart b = true) :
    d.reachSlot t b m = d.judge' b fun j => { j with skip := true } :=
  (if_neg (Bool.eq_false_iff.1 hoff)).trans (if_pos hcannot)

theorem Dev.reachSlot_start (hoff : d.branchOn b = false) (hcan : d.cannotStart b = false) :
    d.reachSlot t b m = byBranch b (fun r => (d.judge' b BranchJ.slotStarted).startRail t r m)
      (fun c => (d.judge' b BranchJ.slotStarted).startChan t c m) fun n => (d.judge' b BranchJ.slotStarted).startXe t n := by
  have hjudged : (d.judge' b fun j => { j with counted := true }).judge' b BranchJ.starting = d.judge' b BranchJ.slotStarted := by
    simp [Dev.judge', upd, BranchJ.slotStarted]
  refine (if_neg (Bool.eq_false_iff.1 hoff)).trans ((if_neg (Bool.eq_false_iff.1 hcan)).trans ?_)
  unfold Dev.startBranch
  rw [hjudged]

end

/-! ## The start of a rail (R166) -/

theorem Dev.bringAllIn_ungroved (d : Dev) (r : Rail) : (d.bringAllIn r).ungroved = d.ungroved :=
  foldl_keeps Dev.ungroved _ (fun d p => by split <;> rfl) _ d

theorem Dev.bringAllIn_rail (d : Dev) (r : Rail) : (d.bringAllIn r).grove.rail = d.grove.rail :=
  foldl_keeps (fun d => d.grove.rail) _ (fun d p => by split <;> rfl) _ d

/-- A rail that is about to start. -/
def RailSt.readied (preBiasUv : Nat) (x : RailSt) : RailSt :=
  { x with trip := false, preBiasUv := preBiasUv, localSense := false, gsP := 0, gsN := 0 }

/-- A rail in soft start on remote sense. -/
def RailSt.softStarting (mode start target timeUs : Nat) (x : RailSt) : RailSt :=
  { x with mode := .softStart, negZero := mode = 0, uvArmed := false, localSense := false, corrUv := x.corrUv
           lp := x.lp.started start target timeUs }

/-- Every AVAILABLE phase of a rail that is about to start has come in. -/
def Dev.railReadied (d : Dev) (r : Rail) (preBiasUv : Nat) : Dev := (d.rail' r (RailSt.readied preBiasUv)).bringAllIn r

section
variable {d : Dev} {r : Rail} {m : StartMeas} (hcool : r.val ∉ d.th.hotStages)
  (hsense : startSense (d.gr r 0x3A) m.remoteOk m.localOk = .ok false)
  (hbias : m.preBiasUv * 10000 ≤ (10000 + d.gr r 0x27) * d.railSetCode r * 250) (t : Nat)
include hcool hsense hbias

theorem Dev.startRail_begins : d.startRail t r m = ((d.railReadied r m.preBiasUv).rail' r (RailSt.softStarting
    (d.gr r 0x22) (startCode (d.gr r 0x22) m.preBiasUv (d.railSetCode r)) (d.railSetCode r) (d.gr r 0x20))).updateFeedForward r := by
  have hgr := Dev.gr_of_dict (d' := d.railReadied r m.preBiasUv) (d := d)
    (congrArg Dev.dict (Dev.bringAllIn_ungroved (d.rail' r (RailSt.readied m.preBiasUv)) r) :) r
  rw [← hgr 0x22, ← hgr 0x20]
  refine (if_neg hcool).trans ?_
  split
  · next reason herror => exact absurd (hsense.symm.trans herror) (by simp)
  · next onLocal hok =>
    obtain rfl : false = onLocal := Except.ok.inj (hsense.symm.trans hok)
    exact (if_neg (Nat.not_lt.2 hbias)).trans (if_neg Bool.false_ne_true)

theorem Dev.startRail_spec : d.startRail t r m =
      { d with free := (d.startRail t r m).free, grove := (d.startRail t r m).grove } ∧
    (d.startRail t r m).grove.rail[r].mode = .softStart ∧ (d.startRail t r m).grove.rail[r].trip = false ∧
    (d.startRail t r m).grove.rail[r].lp.target = d.railSetCode r ∧
    (d.startRail t r m).grove.rail[r].lp.vref = startCode (d.gr r 0x22) m.preBiasUv (d.railSetCode r) := by
  have hready : (d.railReadied r m.preBiasUv).grove.rail[r] = d.grove.rail[r].readied m.preBiasUv :=
    (congrArg (fun v : Vector RailSt 8 => v[r]) (Dev.bringAllIn_rail _ r)).trans (Dev.rail'_self _ _ _)
  rw [Dev.startRail_begins hcool hsense hbias]
  obtain ⟨uff, hrail⟩ := Dev.updateFeedForward_rail ((d.railReadied r m.preBiasUv).rail' r (RailSt.softStarting (d.gr r 0x22)
    (startCode (d.gr r 0x22) m.preBiasUv (d.railSetCode r)) (d.railSetCode r) (d.gr r 0x20))) r
  rw [Dev.rail'_self, hready] at hrail
  rw [hrail]
  refine ⟨Dev.eq_of_ungroved_undrawn ?_, rfl, rfl, rfl, rfl⟩
  exact (Dev.updateFeedForward_ungroved _ r).trans
    (congrArg Dev.undrawn (Dev.bringAllIn_ungroved (d.rail' r (RailSt.readied m.preBiasUv)) r))

end

/-! ## The start of an integrated channel (R209) -/

section
variable {d : Dev} {c : Integrated} {m : StartMeas}

theorem Dev.chan'_self (d : Dev) (c : Integrated) (f : ChanSt → ChanSt) : (d.chan' c f).chan c = f (d.chan c) :=
  (Dev.chan'_chan d c c f).trans (if_pos rfl)

theorem upd_upd {α : Type} {n : Nat} (v : Vector α n) (i : Fin n) (f g : α → α) : upd (upd v i f) i g = upd v i (g ∘ f) := by
  simp [upd]

theorem Dev.chan'_chan' (d : Dev) (c : Integrated) (f g : ChanSt → ChanSt) : (d.chan' c f).chan' c g = d.chan' c (g ∘ f) := by
  cases c <;> simp [Dev.chan', Dev.ib', Dev.ld', upd_upd]

theorem Dev.chan'_rest (d : Dev) (c : Integrated) (f : ChanSt → ChanSt) : d.chan' c f = { d with integ := (d.chan' c f).integ } := by
  cases c <;> rfl

/-- A channel in soft start from the output that was read before it. -/
def Dev.chanStarting (d : Dev) (c : Integrated) (outMv : Nat) (x : ChanSt) : ChanSt :=
  { x with
    trip := false, outMv := outMv, on := true, sstart := true, hiccup := false, recovery := false, consecutive := 0
    pgood := false, uvArmed := false, disch := false, refMv := outMv, targetMv := d.chanSetMv c
    rampNum := d.chanSetMv c, rampDen := max 1 (d.ch c 4), rampAcc := 0 }

theorem Dev.startChan_begins (hinput : (d.chan c).inLost = false) (hout : m.outMv * 10000 ≤ d.overFraction c * d.chanSetMv c)
    (t : Nat) : d.startChan t c m = d.chan' c (d.chanStarting c m.outMv) := by
  have hover : ∀ f, (d.chan' c f).overFraction c = d.overFraction c := fun f => by cases c <;> rfl
  have hramp : ∀ f x, (d.chan' c f).rampChan c x m.outMv = d.rampChan c x m.outMv := fun f x => by cases c <;> rfl
  unfold Dev.startChan
  dsimp only
  rw [hover, if_neg (Nat.not_lt.2 hout)]
  simp only [hramp, Dev.chan'_chan']
  exact if_neg (Bool.eq_false_iff.1 ((congrArg ChanSt.inLost (Dev.chan'_self _ _ _) :).trans hinput))

end

/-! ## The enabling of an external channel (R222) -/

section
variable {d : Dev} {n : Fin 8} (t : Nat)

/-- An external channel that has been enabled. -/
def XeSt.enabled (pgood : Bool) (x : XeSt) : XeSt := { x with trip := false, en := true, pgood := pgood }

theorem Dev.xe'_self (d : Dev) (n : Fin 8) (f : XeSt → XeSt) : (d.xe' n f).integ.xe[n] = f d.integ.xe[n] := upd_self _ _ _

/-- The enabled channel has become power-good, which is its judgement. -/
def Dev.xeJudgedGood (d : Dev) (n : Fin 8) : Dev :=
  (d.xe' n (XeSt.enabled true)).judge' (xeBranch n) fun j => { j with good := true, counted := false }

theorem Dev.xeJudgedGood_xe (d : Dev) (n : Fin 8) : (d.xeJudgedGood n).integ.xe[n] = d.integ.xe[n].enabled true := d.xe'_self n _

theorem Dev.xeJudgedGood_good (d : Dev) (n : Fin 8) : (d.xeJudgedGood n).judge[xeBranch n].good = true :=
  congrArg BranchJ.good (Dev.judge'_self _ _ _)

theorem Dev.xeJudgedGood_rest (d : Dev) (n : Fin 8) :
    d.xeJudgedGood n = { d with integ := (d.xeJudgedGood n).integ, judge := (d.xeJudgedGood n).judge } := rfl

theorem Dev.startXe_eq : d.startXe t n =
    if d.pgMode n = 0 ∧ d.integ.xe[n].pgIn then (d.xe' n (XeSt.enabled false)).xeGood t n else d.xe' n (XeSt.enabled false) := by
  have hin : (d.xe' n (XeSt.enabled false)).integ.xe[n].pgIn = d.integ.xe[n].pgIn := (congrArg XeSt.pgIn (d.xe'_self n _) :)
  rw [← hin]
  rfl

theorem Dev.startXe_waits (h : d.pgMode n ≠ 0 ∨ d.integ.xe[n].pgIn = false) : d.startXe t n = d.xe' n (XeSt.enabled false) := by
  rw [Dev.startXe_eq, if_neg]
  rintro ⟨hmode, hin⟩
  exact h.elim (· hmode) fun hlow => absurd (hin.symm.trans hlow) (by decide)

theorem Dev.startXe_good (hmode : d.pgMode n = 0) (hin : d.integ.xe[n].pgIn = true) :
    d.startXe t n = ((d.xeJudgedGood n).settle).seqCheck t := by
  have hmerged : (d.xe' n (XeSt.enabled false)).xe' n (fun x => { x with pgood := true }) = d.xe' n (XeSt.enabled true) := by
    rw [Dev.xe', Dev.xe', Dev.xe', upd_upd]
    rfl
  rw [Dev.startXe_eq, if_pos ⟨hmode, hin⟩, Dev.xeGood, hmerged, Dev.xeJudgedGood]

end

/-! ## The statement, kind by kind -/

/-- A branch whose slot starts it, as the judge notes it before its own kind starts it. -/
def Dev.slotStarting (d : Dev) (t : Nat) (b : Branch) (timerUs : Nat) : Dev :=
  (d.slotReached t b timerUs).judge' b BranchJ.slotStarted

theorem Dev.slotStarting_counted (d : Dev) (t : Nat) (b : Branch) (timerUs : Nat) :
    (d.slotStarting t b timerUs).judge[b].counted = true := congrArg BranchJ.counted (Dev.judge'_self _ _ _)

section
variable {s : State} {timerUs : Nat} (m : StartMeas)

/-- A rail starts its soft start on remote sense (R166). -/
theorem slotTurnOn_rail {r : Rail} (hopen : SlotOpen s.b.d (railBranch r) timerUs) (hoff : s.b.d.branchOn (railBranch r) = false)
    (hcan : s.b.d.cannotStart (railBranch r) = false) (hcool : r.val ∉ s.b.d.th.hotStages)
    (hsense : startSense (s.b.d.gr r 0x3A) m.remoteOk m.localOk = .ok false)
    (hbias : m.preBiasUv * 10000 ≤ (10000 + s.b.d.gr r 0x27) * s.b.d.railSetCode r * 250) :
    let d := s.b.d.slotTurnOn (railBranch r) timerUs m s.b.hw.counter
    d.still = { s.b.d with grove := d.grove, free := d.free }.still ∧ SlotPassed s d (railBranch r) timerUs ∧
      d.judge[railBranch r].counted = true ∧ d.grove.rail[r].mode = .softStart ∧ d.grove.rail[r].trip = false ∧
      d.grove.rail[r].lp.target = s.b.d.railSetCode r ∧
      d.grove.rail[r].lp.vref = startCode (s.b.d.gr r 0x22) m.preBiasUv (s.b.d.railSetCode r) := by
  obtain ⟨hrest, hspec⟩ := Dev.startRail_spec (d := s.b.d.slotStarting s.b.hw.counter (railBranch r) timerUs) hcool hsense hbias
    s.b.hw.counter
  have hx := (Dev.reachSlot_start (d := s.b.d.slotReached s.b.hw.counter (railBranch r) timerUs) m s.b.hw.counter hoff hcan).trans
    (byBranch_railBranch _ _ _ r)
  have h := Dev.slotTurnOn_settles hopen m s.b.hw.counter hx (congrArg Dev.seq hrest :) (congrArg Dev.dict hrest :)
  have hjudge := h.judge.trans (congrArg Dev.judge hrest)
  dsimp only
  rw [h.grove, h.free, hjudge]
  exact ⟨h.still.trans (congrArg Dev.still hrest :), h.seq.trans (congrArg Dev.seq hrest :),
    Dev.slotStarting_counted _ _ _ _, hspec⟩

/-- An integrated channel ramps from the output read before it (R209). -/
theorem slotTurnOn_chan {c : Integrated} (hopen : SlotOpen s.b.d (chanCode c) timerUs) (hoff : s.b.d.branchOn (chanCode c) = false)
    (hset : s.b.d.chanSetMv c ≠ 0) (hinput : (s.b.d.chan c).inLost = false)
    (hout : m.outMv * 10000 ≤ s.b.d.overFraction c * s.b.d.chanSetMv c) :
    let d := s.b.d.slotTurnOn (chanCode c) timerUs m s.b.hw.counter
    d.still = { s.b.d with integ := d.integ }.still ∧ SlotPassed s d (chanCode c) timerUs ∧
      d.judge[chanCode c].counted = true ∧ d.chan c = s.b.d.chanStarting c m.outMv (s.b.d.chan c) := by
  have hcan : s.b.d.cannotStart (chanCode c) = false := (byBranch_chanCode _ _ _ c).trans (decide_eq_false hset)
  have hbegins := Dev.startChan_begins (d := s.b.d.slotStarting s.b.hw.counter (chanCode c) timerUs) hinput hout s.b.hw.counter
  have hx := (Dev.reachSlot_start (d := s.b.d.slotReached s.b.hw.counter (chanCode c) timerUs) m s.b.hw.counter hoff hcan).trans
    ((byBranch_chanCode _ _ _ c).trans hbegins)
  have hrest := Dev.chan'_rest (s.b.d.slotStarting s.b.hw.counter (chanCode c) timerUs) c (s.b.d.chanStarting c m.outMv)
  have h := Dev.slotTurnOn_settles hopen m s.b.hw.counter hx (congrArg Dev.seq hrest :) (congrArg Dev.dict hrest :)
  have hjudge := h.judge.trans (congrArg Dev.judge hrest)
  dsimp only
  rw [h.integ, hjudge, h.chan]
  exact ⟨h.still.trans (congrArg Dev.still hrest :), h.seq.trans (congrArg Dev.seq hrest :), Dev.slotStarting_counted _ _ _ _,
    Dev.chan'_self _ _ _⟩

section
variable {n : Fin 8} (hopen : SlotOpen s.b.d (xeBranch n) timerUs) (hoff : s.b.d.branchOn (xeBranch n) = false)
include hopen hoff

/-- An external enable starts a channel that its judge then waits for (R222). -/
theorem slotTurnOn_xe (hwaits : s.b.d.pgMode n ≠ 0 ∨ s.b.d.integ.xe[n].pgIn = false) :
    let d := s.b.d.slotTurnOn (xeBranch n) timerUs m s.b.hw.counter
    d.still = { s.b.d with integ := d.integ }.still ∧ SlotPassed s d (xeBranch n) timerUs ∧
      d.judge[xeBranch n].counted = true ∧ d.integ.xe[n] = s.b.d.integ.xe[n].enabled false := by
  have hcan : s.b.d.cannotStart (xeBranch n) = false := byBranch_xeBranch _ _ _ n
  have hx := (Dev.reachSlot_start (d := s.b.d.slotReached s.b.hw.counter (xeBranch n) timerUs) m s.b.hw.counter hoff hcan).trans
    ((byBranch_xeBranch _ _ _ n).trans (Dev.startXe_waits (d := s.b.d.slotStarting s.b.hw.counter (xeBranch n) timerUs) _ hwaits))
  have h := Dev.slotTurnOn_settles hopen m s.b.hw.counter hx rfl rfl
  dsimp only
  rw [h.integ, h.judge]
  exact ⟨h.still, h.seq, Dev.slotStarting_counted _ _ _ _, Dev.xe'_self _ _ _⟩

/-- A deglitched high that stands already makes the channel good at once (R222). -/
theorem slotTurnOn_xeGood (hmode : s.b.d.pgMode n = 0) (hin : s.b.d.integ.xe[n].pgIn = true) :
    let d := s.b.d.slotTurnOn (xeBranch n) timerUs m s.b.hw.counter
    d.still = { s.b.d with integ := d.integ }.still ∧ SlotPassed s d (xeBranch n) timerUs ∧
      d.judge[xeBranch n].good = true ∧ d.integ.xe[n] = s.b.d.integ.xe[n].enabled true := by
  let y : Dev := s.b.d.slotStarting s.b.hw.counter (xeBranch n) timerUs
  have hcan : s.b.d.cannotStart (xeBranch n) = false := byBranch_xeBranch _ _ _ n
  have hx := (Dev.reachSlot_start (d := s.b.d.slotReached s.b.hw.counter (xeBranch n) timerUs) m s.b.hw.counter hoff hcan).trans
    ((byBranch_xeBranch _ _ _ n).trans (Dev.startXe_good (d := y) _ hmode hin))
  have hrest := y.xeJudgedGood_rest n
  have hremain : (y.xeJudgedGood n).SlotsRemain :=
    (Dev.slotReached_slotsRemain hopen s.b.hw.counter).of_seq (congrArg Dev.seq hrest :) (congrArg Dev.dict hrest :)
  have hgood := hremain.settles s.b.hw.counter
  have h := hgood.trans (Dev.slotTurnOn_settles hopen m s.b.hw.counter hx hgood.seq hgood.dict)
  dsimp only
  rw [h.integ, h.judge]
  exact ⟨h.still.trans (congrArg Dev.still hrest :), h.seq.trans (congrArg Dev.seq hrest :),
    y.xeJudgedGood_good n, y.xeJudgedGood_xe n⟩

end

section
variable {b : Branch} (hopen : SlotOpen s.b.d b timerUs)
include hopen

/-- A slot that does no more than change the judge's record of its branch. -/
theorem slotTurnOn_judged {f : BranchJ → BranchJ} (hx : (s.b.d.slotReached s.b.hw.counter b timerUs).reachSlot s.b.hw.counter b m =
      (s.b.d.slotReached s.b.hw.counter b timerUs).judge' b f) :
    let d := s.b.d.slotTurnOn b timerUs m s.b.hw.counter
    SlotPassed s d b timerUs ∧ d.judge[b] = f s.b.d.judge[b] ∧ d.grove = s.b.d.grove ∧ d.integ = s.b.d.integ ∧
      d.still = s.b.d.still := by
  have h := Dev.slotTurnOn_settles hopen m s.b.hw.counter hx rfl rfl
  dsimp only
  rw [h.judge]
  exact ⟨h.seq, Dev.judge'_self _ _ _, h.grove, h.integ, h.still⟩

end

end

/-- Settles O11: reaching a slot starts its branch by its kind, or changes the judge's record of it and no more; as another slot is
still to come, the order itself does not move on after it. -/
theorem slotsComplete : Obligations.SlotsComplete := by
  intro s timerUs m hon
  refine ⟨fun r hopen hoff hcan hcool hsense hbias => ?_, fun c hopen hoff hset hinput hout => ?_, fun n hopen hoff hwaits => ?_,
    fun n hopen hoff hmode hin => ?_, fun b hopen hoff hcannot => ?_, fun b hopen hbranch => ?_, fun b hdelay => ?_⟩
  · exact Gives.of_core rfl hon (slotTurnOn_rail m hopen hoff hcan hcool hsense hbias)
  · exact Gives.of_core rfl hon (slotTurnOn_chan m hopen hoff hset hinput hout)
  · exact Gives.of_core rfl hon (slotTurnOn_xe m hopen hoff hwaits)
  · exact Gives.of_core rfl hon (slotTurnOn_xeGood m hopen hoff hmode hin)
  · obtain ⟨hpassed, hjudge, hparts⟩ := slotTurnOn_judged m hopen (Dev.reachSlot_skip m s.b.hw.counter hoff hcannot)
    exact Gives.of_core rfl hon ⟨hpassed, congrArg BranchJ.skip hjudge, hparts⟩
  · obtain ⟨hpassed, hjudge, hparts⟩ := slotTurnOn_judged m hopen (Dev.reachSlot_on m s.b.hw.counter hbranch)
    exact Gives.of_core rfl hon ⟨hpassed, congrArg BranchJ.counted hjudge, hparts⟩
  · exact Gives.of_core rfl hon (Dev.slotTurnOn_passedOver hdelay timerUs m s.b.hw.counter)

end Sys2Proof.Machine
end

section
/-!
PROOFS. What the check of the sequencer leaves alone: the integrated channels and the external enables, and what the judge has found of
a branch; and what records of the log leave alone.
-/
namespace Sys2Proof.Machine

/-! ## What an order changes of the judge's records (Table 9-3) -/

/-- What the judge has found of a branch: that it is good, and that it has discharged since its last turn-off. -/
def BranchJ.found (j : BranchJ) : Bool × Bool := (j.good, j.discharged)

theorem BranchJ.good_of_found {j j' : BranchJ} (h : j'.found = j.found) : j'.good = j.good := congrArg Prod.fst h
theorem BranchJ.discharged_of_found {j j' : BranchJ} (h : j'.found = j.found) : j'.discharged = j.discharged := congrArg Prod.snd h

theorem Dev.found_of_judge {d d' : Dev} (h : d'.judge.map BranchJ.found = d.judge.map BranchJ.found) (b : Branch) :
    d'.judge[b].found = d.judge[b].found := by
  simpa using congrArg (fun v : Vector (Bool × Bool) 30 => v[b]) h

theorem Dev.judgeAll_found {f : BranchJ → BranchJ} (h : ∀ j, (f j).found = j.found) (d : Dev) :
    (d.judgeAll f).judge.map BranchJ.found = d.judge.map BranchJ.found := by
  simp [Function.comp_def, h]

section
variable (d : Dev) (t : Nat)

theorem Dev.endNow_judge (i : Nat) (st : EntryState) (detail : Nat) : (d.endNow i st detail).judge = d.judge := by
  unfold Dev.endNow
  split <;> rfl

theorem Dev.endEntry_judge (i : Nat) (st : EntryState) (detail : Nat) : (d.endEntry i st detail).judge = d.judge := by
  unfold Dev.endEntry
  split
  · exact d.endNow_judge i st detail
  · rfl

@[simp] theorem Dev.endAction_judge (action : Nat) (st : EntryState) (detail : Nat) : (d.endAction action st detail).judge = d.judge :=
  foldl_keeps Dev.judge _ (fun d i => d.endEntry_judge i st detail) _ d

@[simp] theorem Dev.settle_judge : d.settle.judge = d.judge := d.settle_keeps Dev.judge (fun _ _ => rfl) fun _ _ => rfl

@[simp] theorem Dev.issueOrder_judge (order : Nat) : (d.issueOrder order).judge = d.judge := by
  have habort : (d.abortTxn 0x0B).judge = d.judge := by
    unfold Dev.abortTxn
    split
    · rfl
    · split_ifs
      · rfl
      · dsimp only
        split
        · exact Dev.endEntry_judge _ _ _ _
        · rfl
  unfold Dev.issueOrder
  split_ifs
  · exact habort
  · rfl
  · rfl

@[simp] theorem Dev.wdhOrderDone_judge : d.wdhOrderDone.judge = d.judge := by
  unfold Dev.wdhOrderDone
  split <;> rfl

@[simp] theorem Dev.wdhActionDone_judge : d.wdhActionDone.judge = d.judge := by
  unfold Dev.wdhActionDone
  dsimp only
  split
  · rfl
  · rw [Dev.wdhCheck_rest]
    rfl

@[simp] theorem Dev.onCheck_judge : (d.onCheck t).judge = d.judge := by
  unfold Dev.onCheck
  split <;> simp

@[simp] theorem Dev.seqBegin_judge (st : SeqState) : (d.seqBegin t st).judge = d.judge := rfl

@[simp] theorem Dev.send_judge (o : Out) : (d.send o).judge = d.judge :=
  send_keeps Dev.judge (fun _ _ _ => rfl) (fun d p => by cases p <;> rfl) (fun _ _ => rfl) d o

@[simp] theorem Dev.logEvent_judge (kind subject reason : Nat) (data : List Nat) :
    (d.logEvent t kind subject reason data).judge = d.judge := by
  rw [(d.logEvent_recordsOnly t kind subject reason data).rest]

@[simp] theorem Dev.firstFail_judge (f : Failure) : (d.firstFail t f).judge = d.judge := by
  unfold Dev.firstFail
  split <;> simp

@[simp] theorem Dev.endTest_judge : d.endTest.judge = d.judge := by
  unfold Dev.endTest
  dsimp only
  split_ifs <;> rfl

@[simp] theorem Dev.chgClear_judge (reason : Nat) : (d.chgClear t reason).judge = d.judge :=
  Dev.chgClear_keeps Dev.judge (fun _ _ => rfl) (fun _ _ _ => rfl) d t reason

@[simp] theorem Dev.endShipEntry_judge : d.endShipEntry.judge = d.judge := by
  unfold Dev.endShipEntry
  split <;> simp

/-! ## What the judge has found stays through every order -/

@[simp] theorem Dev.goState_found (p : PState) : (d.goState t p).judge.map BranchJ.found = d.judge.map BranchJ.found := by
  have hwoken : ∀ (x : Dev) (c : Bool), (x.when c fun d => d.judgeAll BranchJ.filtersCleared).judge.map BranchJ.found =
      x.judge.map BranchJ.found := fun x c =>
    Dev.when_keeps (fun d => d.judge.map BranchJ.found) x c _ (Dev.judgeAll_found (by exact fun _ => rfl) x)
  have hhalted : ∀ (x : Dev) (c : Bool), (x.when c fun d => (d.conv' Hkadc.halted).gauge' fun g => { g with meas := none }).judge =
      x.judge := fun x c => Dev.when_keeps Dev.judge x c _ rfl
  unfold Dev.goState
  dsimp only
  split
  · rw [Dev.chgClear_judge, Dev.endTest_judge, hhalted, hwoken]
  · rw [hhalted, hwoken]

@[simp] theorem Dev.commonStart_found (m : Nat) (st : SeqState) :
    (d.commonStart t m st).judge.map BranchJ.found = d.judge.map BranchJ.found :=
  Dev.judgeAll_found (by exact fun _ => rfl) ((d.seqBegin t st).seq' _)

@[simp] theorem Dev.startFull_found : (d.startFull t).judge.map BranchJ.found = d.judge.map BranchJ.found := by
  unfold Dev.startFull
  split_ifs <;> simp

@[simp] theorem Dev.newRun_found : (d.newRun t).judge.map BranchJ.found = d.judge.map BranchJ.found :=
  (Dev.startFull_found _ t).trans (Dev.judgeAll_found (by exact fun _ => rfl) (d.seq' _))

@[simp] theorem Dev.wakeRun_found : (d.wakeRun t).judge.map BranchJ.found = d.judge.map BranchJ.found := by
  unfold Dev.wakeRun
  dsimp only
  split_ifs <;> simp

@[simp] theorem Dev.safeCheck_found : (d.safeCheck t).judge.map BranchJ.found = d.judge.map BranchJ.found := by
  unfold Dev.safeCheck
  dsimp only
  split_ifs <;> simp

@[simp] theorem Dev.enterSafeOn_found : (d.enterSafeOn t).judge.map BranchJ.found = d.judge.map BranchJ.found := by
  unfold Dev.enterSafeOn
  dsimp only
  rw [Dev.safeCheck_found, Dev.commonStart_found, Dev.seq'_judge]
  split <;> split_ifs <;> simp

@[simp] theorem Dev.wake_found (source : Nat) : (d.wake t source).judge.map BranchJ.found = d.judge.map BranchJ.found := by
  unfold Dev.wake
  split_ifs <;> simp

@[simp] theorem Dev.offDone_found : (d.offDone t).judge.map BranchJ.found = d.judge.map BranchJ.found := by
  unfold Dev.offDone
  dsimp only
  split
  · rfl
  · simp
  · split_ifs <;> simp
  · simp
  · split_ifs <;> simp
  · simp
  · rfl

@[simp] theorem Dev.offCheck_found : (d.offCheck t).judge.map BranchJ.found = d.judge.map BranchJ.found := by
  unfold Dev.offCheck
  split <;> simp

@[simp] theorem Dev.beginOff_found (mask : Nat) (st : SeqState) (after : AfterOff) :
    (d.beginOff t mask st after).judge.map BranchJ.found = d.judge.map BranchJ.found := by
  unfold Dev.beginOff
  dsimp only
  rw [Dev.offCheck_found]
  split
  · rfl
  · exact Dev.judgeAll_found (by exact fun _ => rfl) ((d.seqBegin t st).seq' _)

theorem Dev.startShip_found : (d.startShip t).judge.map BranchJ.found = d.judge.map BranchJ.found := by
  unfold Dev.startShip
  split <;> simp

/-- Wherever a check moves the sequencer on, what the judge has found of the branches stays. -/
@[simp] theorem Dev.seqCheck_found : (d.seqCheck t).judge.map BranchJ.found = d.judge.map BranchJ.found := by
  have hgroup : ∀ x : Dev, (x.groupCheck t).judge.map BranchJ.found = x.judge.map BranchJ.found := fun x => by
    unfold Dev.groupCheck
    split <;> simp
  have hship : ∀ x : Dev, (x.shipCheck t).judge.map BranchJ.found = x.judge.map BranchJ.found := fun x => by
    unfold Dev.shipCheck
    split
    · exact Dev.startShip_found _ t
    · rfl
  unfold Dev.seqCheck
  rw [hship, hgroup, Dev.wdhGroupCheck_rest, Dev.offCheck_found, Dev.safeCheck_found, Dev.onCheck_judge]

end

/-! ## A settling and the check that follows it -/

/-- No transition, order or record of the fault collector is a part of the integrated channels. -/
theorem Dev.integ_faultFree : Dev.FaultFree Dev.integ where
  toOrderFree := Dev.integ_orderFree
  power' _ _ := rfl
  clk' _ _ := rfl
  path' _ _ := rfl
  chg' _ _ := rfl
  gauge' _ _ := rfl
  th' _ _ := rfl
  conv' _ _ := rfl
  timer' _ _ _ := rfl
  faults' _ _ := rfl
  nv' _ _ := rfl
  life' _ _ := rfl
  setLive _ _ _ _ := rfl

section
variable (d : Dev) (t : Nat)

theorem Dev.settledCheck_integ : (d.settle.seqCheck t).integ = d.integ := by
  rw [Dev.integ_faultFree.seqCheck, Dev.integ_faultFree.settle]

theorem Dev.settledCheck_still : (d.settle.seqCheck t).still = d.still :=
  (d.settle.seqCheck_still t).trans d.settle_still

theorem Dev.settledCheck_found (b : Branch) : (d.settle.seqCheck t).judge[b].found = d.judge[b].found := by
  refine Dev.found_of_judge ?_ b
  rw [Dev.seqCheck_found, Dev.settle_judge]

theorem Dev.settledCheck_good (b : Branch) : (d.settle.seqCheck t).judge[b].good = d.judge[b].good :=
  BranchJ.good_of_found (d.settledCheck_found t b)

theorem Dev.settledCheck_discharged (b : Branch) : (d.settle.seqCheck t).judge[b].discharged = d.judge[b].discharged :=
  BranchJ.discharged_of_found (d.settledCheck_found t b)

end

/-! ## Records of the log (Table 2-2) -/

/-- From `d` to `d'` nothing has changed but what records of the log, at heartwood time `t`, leave: they end IDLE, and are queued or
counted as dropped. -/
structure Dev.Logs (t : Nat) (d d' : Dev) : Prop where
  rest : d' = { d with power := d'.power, nv := d'.nv, faults := d'.faults }
  power : d'.power = d.power ∨ d'.power = d.power.leaveIdle t

theorem Dev.Logs.trans {t : Nat} {d d' d'' : Dev} (h : d.Logs t d') (h' : d'.Logs t d'') : d.Logs t d'' := by
  refine ⟨h'.rest.trans (congrArg (fun x : Dev => { x with power := d''.power, nv := d''.nv, faults := d''.faults }) h.rest), ?_⟩
  obtain hp | hp := h.power <;> obtain hp' | hp' := h'.power <;> simp [hp, hp', Power.leaveIdle_leaveIdle]

section
variable (d : Dev) (t kind subject reason : Nat) (data : List Nat)

theorem Dev.logEvent_logs : d.Logs t (d.logEvent t kind subject reason data) := by
  unfold Dev.logEvent Dev.log
  dsimp only
  split <;> exact ⟨rfl, .inr rfl⟩

theorem Dev.when_logEvent_logs (c : Bool) : d.Logs t (d.when c fun d => d.logEvent t kind subject reason data) := by
  cases c
  · exact ⟨rfl, .inl rfl⟩
  · exact d.logEvent_logs t kind subject reason data

end

end Sys2Proof.Machine
end

section
/-!
PROOFS. Trips of integrated channels and of external enables: what follows a trip leaves the channels as the trip has left them; and
power-good of the external enables.
-/
namespace Sys2Proof.Machine

/-! ## What follows a trip leaves the integrated channels alone (R216, R223) -/

theorem branchSource_ne_fatal : ∀ b : Branch, sourceClass (branchSource b) ≠ classF := by
  decide

namespace Dev.FaultFree
variable {β : Type} {g : Dev → β} (hg : Dev.FaultFree g) (hjudge : ∀ d b f, g (Dev.judge' d b f) = g d)
include hg hjudge

/-- The failed start of a branch that is off: orders of the sequencer may follow, but nothing is left to turn off. -/
theorem failedStartAs {d : Dev} {f : Failure} (hoff : ∀ b ∈ f.own, d.branchOn b = false) (t : Nat) :
    g (d.failedStartAs t f) = g d := by
  have hmarked : g (d.markFailed f.own) = g d := by
    unfold Dev.markFailed
    split
    · exact (hjudge _ _ _).trans (hg.seq' _ _)
    · rfl
  unfold Dev.failedStartAs
  dsimp only
  split
  · split_ifs
    · exact (hg.failedOnSlave _ _ _).trans hmarked
    · exact (hg.failedGroup _ _).trans hmarked
    · exact (hg.failedOnOrder _ _ _).trans hmarked
  · exact (hg.seq' _ _).trans hmarked
  · rw [hg.safeCheck]
    split
    · next b hb =>
      rw [Dev.turnOff_of_off ((congrFun (Dev.markFailed_branchOn _ _) b).trans (hoff b hb))]
      exact hmarked
    · exact hmarked
  · exact hmarked

/-- What follows the trip of a branch that is off. -/
theorem tripped {d : Dev} {b : Branch} (hoff : d.branchOn b = false) (t reason : Nat) (counts : Bool) :
    g (d.tripped t b reason counts) = g d := by
  have hclass := branchSource_ne_fatal b
  have hraised : g ((d.loseTargets b).raiseAs t (branchSource b) reason counts) = g d :=
    (hg.raiseAs hclass _ _ _ _).trans (hg.loseTargets _ _)
  have hstill : ((d.loseTargets b).raiseAs t (branchSource b) reason counts).branchOn b = false := by
    rw [Dev.branchOn_faultFree.raiseAs hclass, Dev.branchOn_faultFree.loseTargets]
    exact hoff
  unfold Dev.tripped
  dsimp only
  rw [hg.seqCheck, hg.settle]
  split
  · refine (hg.failedStartAs hjudge (fun x hx => ?_) t).trans hraised
    rw [Failure.own_failureNow] at hx
    cases hx
    exact hstill
  · exact (hjudge _ _ _).trans hraised

end Dev.FaultFree

theorem Dev.tripped_integ {d : Dev} {b : Branch} (hoff : d.branchOn b = false) (t reason : Nat) (counts : Bool) :
    (d.tripped t b reason counts).integ = d.integ := Dev.integ_faultFree.tripped (fun _ _ _ => rfl) hoff t reason counts

theorem Dev.tripped_source (d : Dev) (t : Nat) (b : Branch) (reason : Nat) (counts : Bool) :
    (d.tripped t b reason counts).sticky (branchSource b) = true :=
  Dev.tripped_sticky d t b reason counts (by unfold branchSource; omega)

/-! ## A trip of an integrated channel (R216) -/

/-- A channel that notes its trip. -/
def ChanSt.tripNoted (reason t : Nat) (discharge : Bool) (x : ChanSt) : ChanSt :=
  { x with trip := true, reason := reason, tripTime := t, disch := discharge }

section
variable (d : Dev) (t : Nat) (c : Integrated) (reason : Nat)

/-- The channel has gone off and notes its trip; orders and records may follow. -/
def Dev.chanTripNoted : Dev := (d.turnOffChan c).chan' c (ChanSt.tripNoted reason t ((d.turnOffChan c).dischargeEnabled c))

theorem Dev.tripChan_eq : d.tripChan t c reason =
    (d.chanTripNoted t c reason).tripped t (chanCode c) reason (d.countsAsStart (chanCode c)) := rfl

theorem Dev.chanTripNoted_chan : (d.chanTripNoted t c reason).chan c =
    ((d.turnOffChan c).chan c).tripNoted reason t ((d.turnOffChan c).dischargeEnabled c) := Dev.chan'_self _ _ _

theorem Dev.chanTripNoted_off : (d.chanTripNoted t c reason).branchOn (chanCode c) = false := by
  have hoff := d.turnOffChan_branchOn c (chanCode c)
  rw [Dev.branchOn_chanCode] at hoff
  rw [Dev.branchOn_chanCode, Dev.chanTripNoted_chan]
  exact hoff.trans (by simp)

theorem Dev.tripChan_integ : (d.tripChan t c reason).integ = (d.chanTripNoted t c reason).integ :=
  Dev.tripped_integ (d.chanTripNoted_off t c reason) _ _ _

theorem Dev.tripChan_still : (d.tripChan t c reason).still = { d with integ := (d.tripChan t c reason).integ }.still := by
  rw [Dev.tripChan_integ, Dev.tripChan_eq, Dev.tripped_still, Dev.chanTripNoted, Dev.chan'_rest]
  exact Dev.still_beside_integ (d.turnOffChan_still c) _

theorem Dev.tripChan_tripped : ChanTripped (d.tripChan t c reason) c reason t := by
  have hchan := (Dev.chan_of_integ (d.tripChan_integ t c reason) c).trans (d.chanTripNoted_chan t c reason)
  have hoff := d.chanTripNoted_off t c reason
  rw [Dev.branchOn_chanCode, ← Dev.chan_of_integ (d.tripChan_integ t c reason) c] at hoff
  exact ⟨hoff, congrArg ChanSt.trip hchan, congrArg ChanSt.reason hchan, congrArg ChanSt.tripTime hchan,
    Dev.tripped_source _ t (chanCode c) _ _⟩

end

/-- A command that trips a channel, perhaps after a measurement or a count of it. -/
theorem Gives.of_tripChan {i : Instr} {s : State} {f : Nat → Dev → Dev} {e : Dev} {c : Integrated} {reason : Nat}
    (hi : exec i s = .next (s.core f)) (hcore : s.b.d.power.coreOn = true)
    (htrip : f s.b.hw.counter s.b.d = e.tripChan s.b.hw.counter c reason) (he : e = { s.b.d with integ := e.integ }) :
    Gives i s fun d => d.still = { s.b.d with integ := d.integ }.still ∧ ChanTripped d c reason s.b.hw.counter := by
  refine Gives.of_core hi hcore ?_
  rw [htrip]
  refine ⟨(e.tripChan_still _ c reason).trans ?_, e.tripChan_tripped _ c reason⟩
  exact congrArg (fun x : Dev => { x with integ := (e.tripChan s.b.hw.counter c reason).integ }.still) he

/-! ## Hiccups that trip (R210) -/

/-- A hiccup is counted. -/
def ChanSt.hiccupCounted (x : ChanSt) : ChanSt := { x with consecutive := x.consecutive + 1, hiccups := satInc 32 x.hiccups }

/-- Off in a hiccup. -/
def ChanSt.hiccuping (x : ChanSt) : ChanSt :=
  { x with hiccup := true, sstart := false, recovery := false, uvArmed := false, pgood := false, refMv := 0 }

theorem Dev.ib'_self (d : Dev) (n : Fin 6) (f : ChanSt → ChanSt) : (d.ib' n f).integ.ib[n] = f d.integ.ib[n] := upd_self _ _ _

theorem Dev.hiccupEvent_eq (d : Dev) (t : Nat) (n : Fin 6) : d.hiccupEvent t n =
    if d.ch (.ib n) 7 < d.integ.ib[n].consecutive + 1 then (d.ib' n ChanSt.hiccupCounted).tripChan t (.ib n) 4
    else (d.ib' n ChanSt.hiccupCounted).ib' n ChanSt.hiccuping := by
  have hcount : (d.ib' n ChanSt.hiccupCounted).integ.ib[n].consecutive = d.integ.ib[n].consecutive + 1 :=
    congrArg ChanSt.consecutive (d.ib'_self n _)
  rw [← hcount]
  rfl

theorem Dev.hiccup_inRegulation {d : Dev} {n : Fin 6} {cycles : Nat} (hcycles : 16 ≤ cycles) (hon : d.integ.ib[n].on = true)
    (hhiccup : d.integ.ib[n].hiccup = false) (hstart : d.integ.ib[n].sstart = false) (t : Nat) :
    d.hiccup n cycles t = d.hiccupEvent t n :=
  (if_neg (by simpa [hcycles] using ⟨hon, hhiccup⟩)).trans (if_neg fun h => Bool.eq_false_iff.1 hstart h.1)

theorem Dev.hiccup_inStart {d : Dev} {n : Fin 6} {cycles : Nat} (hcycles : 16 ≤ cycles) (hon : d.integ.ib[n].on = true)
    (hhiccup : d.integ.ib[n].hiccup = false) (hstart : d.integ.ib[n].sstart = true) (hfirst : d.integ.ib[n].recovery = false)
    (t : Nat) : d.hiccup n cycles t = d.tripChan t (.ib n) 6 :=
  (if_neg (by simpa [hcycles] using ⟨hon, hhiccup⟩)).trans (if_pos ⟨hstart, congrArg not hfirst⟩)

theorem Dev.ibLdStartTimeout_first {d : Dev} {c : Integrated} {us : Nat} (hon : (d.chan c).on = true)
    (hstart : (d.chan c).sstart = true) (hfirst : (d.chan c).recovery = false) (hus : d.ch c 4 + 1000 ≤ us) (t : Nat) :
    d.ibLdStartTimeout c us t = d.tripChan t c 7 := by
  unfold Dev.ibLdStartTimeout
  dsimp only
  rw [if_neg (by simp [hon, hstart, hus]), hfirst]
  cases c <;> rfl

theorem channelTripsComplete_channels : ChannelTripsComplete := by
  intro s hcore
  refine ⟨fun c us hon hstart hfirst hus => ?_, fun n cycles hcycles hon hhiccup hstart hfirst => ?_,
    fun n cycles hcycles hon hhiccup hstart hlimit => ?_,
    fun n hon => ⟨fun mv us hmv hus => ?_, fun mv us harmed hmv hus => ?_, fun mv hmv => ?_⟩,
    fun n hon => ⟨fun us hus => ?_, fun mv us harmed hmv hus => ?_, fun mv us hmv hus => ?_, fun mv hmv => ?_⟩⟩
  · exact Gives.of_tripChan rfl hcore (Dev.ibLdStartTimeout_first hon hstart hfirst hus _) rfl
  · exact Gives.of_tripChan rfl hcore (Dev.hiccup_inStart hcycles hon hhiccup hstart hfirst _) rfl
  · have htrip := (Dev.hiccup_inRegulation hcycles hon hhiccup hstart s.b.hw.counter).trans
      ((s.b.d.hiccupEvent_eq s.b.hw.counter n).trans (if_pos (Nat.lt_succ_of_le hlimit)))
    exact Gives.of_tripChan rfl hcore htrip rfl
  · exact Gives.of_tripChan rfl hcore (if_pos ⟨hon, hmv, hus⟩) rfl
  · exact Gives.of_tripChan rfl hcore (if_pos ⟨hon, harmed, hmv, hus⟩) rfl
  · exact Gives.of_tripChan rfl hcore (if_pos ⟨hon, by simp [hmv]⟩) rfl
  · exact Gives.of_tripChan rfl hcore (if_pos ⟨hon, hus⟩) rfl
  · exact Gives.of_tripChan rfl hcore (if_pos ⟨hon, harmed, hmv, hus⟩) rfl
  · exact Gives.of_tripChan rfl hcore (if_pos ⟨hon, hmv, hus⟩) rfl
  · exact Gives.of_tripChan rfl hcore (if_pos ⟨hon, hmv⟩) rfl

/-! ## A trip of an external enable (R223) -/

/-- An external channel that notes its trip. -/
def XeSt.tripNoted (reason t : Nat) (x : XeSt) : XeSt := { x with trip := true, reason := reason, tripTime := t }

section
variable (d : Dev) (t : Nat) (n : Fin 8) (reason : Nat)

/-- The channel is no longer enabled and notes its trip; orders and records may follow. -/
def Dev.xeTripNoted : Dev := (d.turnOffXe n).xe' n (XeSt.tripNoted reason t)

theorem Dev.tripXe_eq : d.tripXe t n reason =
    (d.xeTripNoted t n reason).tripped t (xeBranch n) reason (d.countsAsStart (xeBranch n)) := rfl

theorem Dev.xeTripNoted_xe : (d.xeTripNoted t n reason).integ.xe[n] = (d.turnOffXe n).integ.xe[n].tripNoted reason t :=
  Dev.xe'_self _ _ _

theorem Dev.xeTripNoted_off : (d.xeTripNoted t n reason).branchOn (xeBranch n) = false := by
  have hoff := d.turnOffXe_branchOn n (xeBranch n)
  rw [Dev.branchOn_xeBranch] at hoff
  rw [Dev.branchOn_xeBranch, Dev.xeTripNoted_xe]
  exact hoff.trans (by simp)

theorem Dev.tripXe_integ : (d.tripXe t n reason).integ = (d.xeTripNoted t n reason).integ :=
  Dev.tripped_integ (d.xeTripNoted_off t n reason) _ _ _

theorem Dev.tripXe_still : (d.tripXe t n reason).still = { d with integ := (d.tripXe t n reason).integ }.still := by
  rw [Dev.tripXe_integ, Dev.tripXe_eq, Dev.tripped_still]
  exact Dev.still_beside_integ (d.turnOffXe_still n) (d.xeTripNoted t n reason).integ

theorem Dev.tripXe_tripped : XeTripped (d.tripXe t n reason) n reason t := by
  have hinteg := d.tripXe_integ t n reason
  have hxe : (d.tripXe t n reason).integ.xe[n] = _ :=
    (congrArg (fun x : Integ => x.xe[n]) hinteg).trans (d.xeTripNoted_xe t n reason)
  have hoff := d.xeTripNoted_off t n reason
  rw [Dev.branchOn_xeBranch, ← hinteg] at hoff
  exact ⟨hoff, congrArg XeSt.trip hxe, congrArg XeSt.reason hxe, congrArg XeSt.tripTime hxe,
    Dev.tripped_source _ t (xeBranch n) _ _⟩

theorem Dev.tripXe_spec : (d.tripXe t n reason).still = { d with integ := (d.tripXe t n reason).integ }.still ∧
    XeTripped (d.tripXe t n reason) n reason t := ⟨d.tripXe_still t n reason, d.tripXe_tripped t n reason⟩

end

/-! ## What an external channel is judged by (R222) -/

/-- A channel that is power-good. -/
def XeSt.becomesGood (x : XeSt) : XeSt := { x with pgood := true }

/-- A channel becomes power-good, which is its judgement. -/
def Dev.xeFoundGood (d : Dev) (n : Fin 8) : Dev :=
  (d.xe' n XeSt.becomesGood).judge' (xeBranch n) fun j => { j with good := true, counted := false }

section
variable (d : Dev) (t : Nat) (n : Fin 8)

theorem Dev.xeGood_eq : d.xeGood t n = ((d.xeFoundGood n).settle).seqCheck t := rfl

theorem Dev.xeGood_spec : (d.xeGood t n).still = (d.xe' n XeSt.becomesGood).still ∧
    (d.xeGood t n).integ = (d.xe' n XeSt.becomesGood).integ ∧ (d.xeGood t n).judge[xeBranch n].good = true := by
  rw [Dev.xeGood_eq, Dev.settledCheck_still, Dev.settledCheck_integ, Dev.settledCheck_good]
  exact ⟨rfl, rfl, congrArg BranchJ.good (Dev.judge'_self _ _ _)⟩

/-- The off order no longer waits for a channel that its judge finds discharged. -/
def Dev.xeFoundDischarged : Dev :=
  (d.judge' (xeBranch n) fun j => { j with discharged := true }).seq' fun q =>
    { q with offWait := maskDiff q.offWait (2 ^ (22 + n.val)) }

/-- A mode 1 channel that is off counts as discharged at its PG timeout (R223). -/
theorem Dev.xePgTimeout_discharged {d : Dev} {n : Fin 8} {ms : Nat} (hms : d.nat (0x2250 + n.val) 3 ≤ ms)
    (hen : d.integ.xe[n].en = false) (hmode : d.pgMode n = 1) (t : Nat) :
    d.xePgTimeout n ms t = ((d.xeFoundDischarged n).settle).seqCheck t :=
  (if_neg (Nat.not_lt.2 hms)).trans ((if_neg (Bool.eq_false_iff.1 hen)).trans (if_pos hmode))

end

theorem enablesComplete : EnablesComplete := by
  intro s n hcore
  refine ⟨fun us hmode hus hen => ?_, fun ms hms hen hbad hmode => ?_, fun ms hms hen hbad hmode => ?_, fun ms hms hen hmode => ?_,
    fun us hmode hus hen hgood => ?_, fun us hmode hus hen => ?_⟩
  · refine Gives.of_core rfl hcore ?_
    obtain ⟨hstill, hinteg, hgood⟩ := (s.b.d.xe' n fun x => { x with pgIn := true }).xeGood_spec s.b.hw.counter n
    rw [Dev.xePowerGood, if_pos ⟨hmode, hus, hen⟩, hinteg]
    exact ⟨(Dev.xe'_self _ _ _).trans (congrArg XeSt.becomesGood (Dev.xe'_self _ _ _)), hgood, hstill⟩
  · refine Gives.of_core rfl hcore ?_
    rw [Dev.xePgTimeout, if_neg (Nat.not_lt.2 hms), if_pos hen, if_neg (Bool.eq_false_iff.1 hbad), if_pos hmode]
    exact Dev.tripXe_spec _ _ _ _
  · refine Gives.of_core rfl hcore ?_
    obtain ⟨hstill, hinteg, hgood⟩ := s.b.d.xeGood_spec s.b.hw.counter n
    rw [Dev.xePgTimeout, if_neg (Nat.not_lt.2 hms), if_pos hen, if_neg (Bool.eq_false_iff.1 hbad), if_neg hmode, hinteg]
    exact ⟨hstill.trans (Dev.xe'_still _ _ _ rfl), congrArg XeSt.pgood (Dev.xe'_self _ _ _), hgood⟩
  · refine Gives.of_core rfl hcore ?_
    rw [Dev.xePgTimeout_discharged hms hen hmode, Dev.settledCheck_still, Dev.settledCheck_integ, Dev.settledCheck_discharged]
    exact ⟨rfl, congrArg BranchJ.discharged (Dev.judge'_self _ _ _), rfl⟩
  · refine Gives.of_core rfl hcore ?_
    have hxe := s.b.d.xe'_self n fun x => { x with pgIn := false }
    rw [Dev.xePowerGoodLost, if_neg (by simp [hmode, hus])]
    dsimp only
    rw [if_pos ((congrArg XeSt.en hxe).trans hen), if_pos ((congrArg XeSt.pgood hxe).trans hgood)]
    exact Dev.tripXe_spec _ _ _ _
  · refine Gives.of_core rfl hcore ?_
    obtain ⟨hrest, hpower⟩ := (s.b.d.xe' n fun x => { x with pgIn := true, early := true, reason := 0x12 }).logEvent_logs
      s.b.hw.counter 0x33 (22 + n.val) 0x12 []
    rw [Dev.xePgBeforeEnable, if_pos ⟨hmode, hus, congrArg not hen⟩, hrest]
    exact ⟨Dev.xe'_self _ _ _, hpower, rfl⟩

/-- Settles O10: each protection and each failed start is one trip of its channel, after which nothing touches the channels again; a
power-good is a judgement, which the check of the sequencer that follows it leaves as it is. -/
theorem channelTripsComplete : Obligations.ChannelTripsComplete := ⟨channelTripsComplete_channels, enablesComplete⟩

end Sys2Proof.Machine
end

section
/-!
PROOFS. Integrated channels that run: their references, the end of a soft start, hiccups, the discharge switch, and the measurement
of the budgets with the light load.
-/
namespace Sys2Proof.Machine

/-! ## References (R208) -/

section
variable {x : ChanSt} (hon : x.on = true) (hhiccup : x.hiccup = false) (href : x.refMv ≠ x.targetMv) (us : Nat)
include hon hhiccup href

/-- In regulation a slew moves in steps of 5 mV at 1 mV/µs. -/
theorem ChanSt.moved_slewing (hstart : x.sstart = false) : x.moved us =
    { x with refMv := moveToward x.refMv x.targetMv ((x.rampAcc + us) / 5 * 5), rampAcc := (x.rampAcc + us) % 5 } := by
  simp [ChanSt.moved, hon, hhiccup, href, hstart]

/-- A soft start keeps its own rate. -/
theorem ChanSt.moved_starting (hstart : x.sstart = true) : x.moved us = { x with
    refMv := moveToward x.refMv x.targetMv ((x.rampAcc + us * x.rampNum) / x.rampDen)
    rampAcc := (x.rampAcc + us * x.rampNum) % x.rampDen } := by
  simp [ChanSt.moved, hon, hhiccup, href, hstart]

end

/-- Only the reference moves, and the time toward its next step. -/
theorem ChanSt.moved_rest (x : ChanSt) (us : Nat) :
    x.moved us = { x with refMv := (x.moved us).refMv, rampAcc := (x.moved us).rampAcc } := by
  unfold ChanSt.moved
  split_ifs <;> rfl

theorem Dev.ibLdSlewComplete_spec {d : Dev} {c : Integrated} (hon : (d.chan c).on = true) (us : Nat) :
    let d' := d.ibLdSlewComplete c us
    d' = { d with integ := d'.integ, jour := d'.jour, casc := d'.casc } ∧ d'.chan c = (d.chan c).moved us := by
  have heq : d.ibLdSlewComplete c us = (d.chan' c fun x => x.moved us).settle := if_pos hon
  dsimp only
  rw [heq]
  refine ⟨?_, (Dev.chan_of_integ (Dev.integ_orderFree.settle _) c).trans (Dev.chan'_self d c _)⟩
  rw [Dev.integ_orderFree.settle, Dev.settle_rest, Dev.chan'_rest]

/-! ## The end of a soft start (R209) -/

/-- A channel whose soft start is complete, its output and its input measured. -/
def ChanSt.startCompleted (us mv : Nat) (x : ChanSt) : ChanSt :=
  { (x.moved us).measured mv x.inMv with sstart := false, recovery := false, uvArmed := true, rampAcc := 0 }

theorem ChanSt.startCompleted_eq {x : ChanSt} {mv : Nat} (hon : x.on = true) (hnear : near2 mv x.targetMv = true) (us : Nat) :
    x.startCompleted us mv = { x with
      refMv := (x.moved us).refMv, rampAcc := 0, sstart := false, recovery := false, uvArmed := true, pgood := true, outMv := mv
      dropout := decide (x.inMv ≠ 0) && decide (x.inMv < mv + 200) } := by
  unfold ChanSt.startCompleted
  rw [ChanSt.moved_rest]
  simp [ChanSt.measured, hon, hnear]

theorem Dev.ibLdSoftStartComplete_spec {d : Dev} {c : Integrated} {mv held : Nat} (hon : (d.chan c).on = true)
    (hstart : (d.chan c).sstart = true) (hnear : near2 mv (d.chan c).targetMv = true) (hheld : 50 ≤ held) (us t : Nat) :
    let d' := d.ibLdSoftStartComplete c us mv held t
    d'.still = { d with integ := d'.integ }.still ∧ d'.chan c = (d.chan c).startCompleted us mv := by
  have heq : d.ibLdSoftStartComplete c us mv held t = (d.chan' c (ChanSt.startCompleted us mv)).settle.seqCheck t :=
    if_pos ⟨hon, hstart, hnear, hheld⟩
  dsimp only
  rw [heq, Dev.settledCheck_still, Dev.settledCheck_integ, Dev.chan_of_integ (Dev.settledCheck_integ _ t)]
  exact ⟨congrArg Dev.still (d.chan'_rest c _), d.chan'_self c _⟩

/-! ## The measurement of the budgets (R212, R221) -/

/-- The overrun bits of the integrated bucks and of the LDOs. -/
theorem overrunBits (a b : Bool) : (bit 0 a + bit 1 b).testBit 0 = a ∧ (bit 0 a + bit 1 b).testBit 1 = b := by
  cases a <;> cases b <;> decide

/-- The loads and the power of the channels have been noted; records of the log may follow. -/
def Dev.budgetNoted (d : Dev) (ib ld : Nat) (l : List ChanMeas) : Dev :=
  (l.foldl Dev.noteLoad d).integ' fun x => { x with ibMw := ib, ldMw := ld, overrun := bit 0 (ib > 16000) + bit 1 (ld > 400) }

section
variable (d : Dev) (ib ld : Nat) (m : ChanMeas) (t : Nat)

theorem Dev.budgetMeasurement_logs (l : List ChanMeas) : (d.budgetNoted ib ld l).Logs t (d.budgetMeasurement ib ld l t) :=
  (Dev.when_logEvent_logs _ t _ _ _ _ _).trans (Dev.when_logEvent_logs _ t _ _ _ _ _)

theorem Dev.budgetMeasurement_integ (l : List ChanMeas) : (d.budgetMeasurement ib ld l t).integ = (d.budgetNoted ib ld l).integ :=
  (congrArg Dev.integ (d.budgetMeasurement_logs ib ld t l).rest :)

/-- The load that a measurement notes of its channel. -/
def Dev.loadNoted (m : ChanMeas) (x : ChanSt) : ChanSt :=
  { x with
    outMA := m.mA
    skip := x.on && !x.hiccup && (match m.chan with | .ib n => decide (d.ch (.ib n) 5 = 0) | .ld _ => false) && m.peakMA ≤ 250 &&
      (x.skip || m.zeroCycles ≥ 8) }

theorem Dev.noteLoad_eq : d.noteLoad m = d.chan' m.chan (d.loadNoted m) := rfl

theorem Dev.budgetNoted_chan : (d.budgetNoted ib ld [m]).chan m.chan = d.loadNoted m (d.chan m.chan) := by
  have hchan : (d.budgetNoted ib ld [m]).chan m.chan = (d.noteLoad m).chan m.chan := by cases m.chan <;> rfl
  rw [hchan, Dev.noteLoad_eq, Dev.chan'_self]

theorem Dev.budgetNoted_rest : d.budgetNoted ib ld [m] = { d with integ := (d.budgetNoted ib ld [m]).integ } := by
  unfold Dev.budgetNoted
  rw [List.foldl_cons, Dev.noteLoad_eq, Dev.chan'_rest]
  rfl

theorem Dev.budgetMeasurement_power : (d.budgetMeasurement ib ld [m] t).power = d.power ∨
    (d.budgetMeasurement ib ld [m] t).power = d.power.leaveIdle t := by
  have hpower := (d.budgetMeasurement_logs ib ld t [m]).power
  rwa [Dev.budgetNoted_rest] at hpower

theorem Dev.budgetMeasurement_chan : (d.budgetMeasurement ib ld [m] t).chan m.chan = d.loadNoted m (d.chan m.chan) :=
  (Dev.chan_of_integ (d.budgetMeasurement_integ ib ld t [m]) _).trans (d.budgetNoted_chan ib ld m)

theorem Dev.budgetMeasurement_rest : d.budgetMeasurement ib ld [m] t = { d with
    power := (d.budgetMeasurement ib ld [m] t).power, integ := (d.budgetMeasurement ib ld [m] t).integ
    nv := (d.budgetMeasurement ib ld [m] t).nv, faults := (d.budgetMeasurement ib ld [m] t).faults } := by
  rw [Dev.budgetMeasurement_integ]
  refine (d.budgetMeasurement_logs ib ld t [m]).rest.trans ?_
  exact congrArg (fun x : Dev => { x with
    power := (d.budgetMeasurement ib ld [m] t).power, nv := (d.budgetMeasurement ib ld [m] t).nv
    faults := (d.budgetMeasurement ib ld [m] t).faults }) (d.budgetNoted_rest ib ld m)

end

section
variable (d : Dev) (n : Fin 6) (mA : Int) {zeros peak : Nat} {x : ChanSt} (hon : x.on = true) (hhiccup : x.hiccup = false)

include hon hhiccup in
/-- In mode 0, eight cycles with the inductor current at zero begin pulse skipping (R212). -/
theorem Dev.loadNoted_skips (hzeros : 8 ≤ zeros) (hpeak : peak ≤ 250) (hmode : d.ch (.ib n) 5 = 0) :
    (d.loadNoted ⟨.ib n, mA, zeros, peak⟩ x).skip = true := by
  simp [Dev.loadNoted, hon, hhiccup, hzeros, hpeak, hmode]

/-- A cycle that needs more than 250 mA ends it, and in any other mode there is none (R212). -/
theorem Dev.loadNoted_switches (h : 250 < peak ∨ d.ch (.ib n) 5 ≠ 0) : (d.loadNoted ⟨.ib n, mA, zeros, peak⟩ x).skip = false := by
  obtain hpeak | hmode := h
  · simp [Dev.loadNoted, hpeak]
  · simp [Dev.loadNoted, hmode]

end

/-- Settles O9: a reference, a start, a hiccup or the discharge switch changes its channel alone, and what is settled after it leaves
the channels; a measurement notes its loads, and its records of the log leave the channels too. -/
theorem channelMovesComplete : Obligations.ChannelMovesComplete := by
  intro s hcore
  refine ⟨fun c us hon hstart hhiccup href => ?_, fun c us hon hstart hhiccup href => ?_,
    fun c elapsed mv us hon hstart hnear hus => ?_, fun n cycles hcycles hon hhiccup hstart hlimit => ?_,
    fun n us mv hhiccup hus => ?_, fun n mv us hon hhiccup hnear hus => ?_, fun c mv us hdisch hlow => ?_, fun ib ld m => ?_,
    fun ib ld n mA zeros peak hon hhiccup => ?_⟩
  · refine Gives.of_core rfl hcore ?_
    obtain ⟨hrest, hchan⟩ := Dev.ibLdSlewComplete_spec hon us
    exact ⟨hrest, hchan.trans (ChanSt.moved_slewing hon hhiccup href us hstart)⟩
  · refine Gives.of_core rfl hcore ?_
    obtain ⟨hrest, hchan⟩ := Dev.ibLdSlewComplete_spec hon us
    exact ⟨hrest, hchan.trans (ChanSt.moved_starting hon hhiccup href us hstart)⟩
  · refine Gives.of_core rfl hcore ?_
    obtain ⟨hstill, hchan⟩ := Dev.ibLdSoftStartComplete_spec hon hstart hnear hus elapsed s.b.hw.counter
    exact ⟨hstill, hchan.trans (ChanSt.startCompleted_eq hon hnear elapsed)⟩
  · refine Gives.of_core rfl hcore ?_
    have hib := (Dev.ib'_self (s.b.d.ib' n ChanSt.hiccupCounted) n ChanSt.hiccuping).trans
      (congrArg ChanSt.hiccuping (s.b.d.ib'_self n ChanSt.hiccupCounted))
    rw [Dev.hiccup_inRegulation hcycles hon hhiccup hstart, Dev.hiccupEvent_eq, if_neg (Nat.not_lt.2 hlimit), hib]
    exact ⟨rfl, rfl, rfl, rfl⟩
  · exact Gives.of_core rfl hcore (if_pos ⟨hhiccup, hus⟩)
  · exact Gives.of_core rfl hcore (if_pos ⟨hon, congrArg not hhiccup, hnear, hus⟩)
  · exact Gives.of_core rfl hcore (if_pos ⟨hdisch, hlow⟩)
  · refine Gives.of_core rfl hcore ?_
    obtain ⟨hib, hld⟩ := overrunBits (decide (16000 < ib)) (decide (400 < ld))
    have hload := s.b.d.budgetMeasurement_chan ib ld m s.b.hw.counter
    have hinteg := s.b.d.budgetMeasurement_integ ib ld s.b.hw.counter [m]
    refine ⟨congrArg Integ.ibMw hinteg, congrArg Integ.ldMw hinteg, congrArg ChanSt.outMA hload, ?_, ?_,
      s.b.d.budgetMeasurement_power ib ld m s.b.hw.counter, s.b.d.budgetMeasurement_rest ib ld m s.b.hw.counter⟩
    · exact (congrArg (fun x : Integ => x.overrun.testBit 0) hinteg).trans hib
    · exact (congrArg (fun x : Integ => x.overrun.testBit 1) hinteg).trans hld
  · refine Gives.of_core rfl hcore ?_
    have hskip := congrArg ChanSt.skip (s.b.d.budgetMeasurement_chan ib ld ⟨.ib n, mA, zeros, peak⟩ s.b.hw.counter)
    exact ⟨fun hzeros hpeak hmode => hskip.trans (Dev.loadNoted_skips _ n mA hon hhiccup hzeros hpeak hmode),
      fun hends => hskip.trans (Dev.loadNoted_switches _ n mA hends)⟩

end Sys2Proof.Machine
end

section
/-!
PROOFS. A common start that reads the trunk: the feed-forward of a rail at 0 V draws a free value.
-/
namespace Sys2Proof.Machine

/-! ## A common start held up by the test port, with a trunk that reads 0 V (R152, R552) -/

/-- GR0 regulates with its feed-forward enabled (0x2200:0F), and a common start whose slot of GR0 is still to come waits for the test
port, which holds it no longer. -/
def heldStart : State :=
  { State.reset with
    b.d := (((State.reset.b.d.setLive 0x2301 1 10).setLive 0x2200 0x0F 1).rail' 0 fun x => { x with mode := .regulating }).seq' fun q =>
      { q with tapWait := true, state := .onOrder, members := 1, todo := 1 } }

/-- The device after a common start that reads the trunk at 0 V. -/
def heldStartDev : Dev := heldStart.b.d.firstStart 0 heldStart.b.hw.counter

/-- A trunk of 0 V leaves the feed-forward quotient of the rail open: a free value is drawn. -/
theorem heldStartDev_free : heldStartDev.free ≠ heldStart.b.d.free := by
  decide +kernel

/-- A frame that leaves out the power path alone keeps the count of free values. -/
theorem Dev.free_of_still_path {d d' : Dev} {p : Path} (h : d'.still = { d with path := p }.still) : d'.free = d.free :=
  (congrArg Dev.free h :)

/-- Refutes O12: the reading of the trunk that a common start carries updates the feed-forward of every rail that is on (R152), and at
0 V that draws a free value, which the frame of the first clause keeps. -/
theorem not_startsAndOffOrdersComplete : ¬ Obligations.StartsAndOffOrdersComplete := by
  rintro ⟨hstarts, -⟩
  obtain ⟨hheld, -⟩ := hstarts heldStart rfl rfl rfl (by decide +kernel) (by decide +kernel)
  obtain ⟨hstill, -⟩ := (hheld 0 rfl rfl (by decide +kernel)).device rfl rfl
  have hframe : heldStartDev.still = { heldStart.b.d with path := heldStartDev.path }.still := hstill
  exact heldStartDev_free (Dev.free_of_still_path hframe)

end Sys2Proof.Machine
end

section
/-!
PROOFS. What an order changes of the judge's records: nothing of what stands of a judgement, wherever a check moves the sequencer on.
-/
namespace Sys2Proof.Machine

/-! ## Readings of the judge's records that the orders leave alone

An order counts starts, marks failures and notes timeouts of discharge (Table 9-3), and leaving STANDBY clears the windows' filters
(R241); nothing else of the records changes as the sequencer moves on. -/

/-- A reading of a judge's record at nothing that an order of the sequencer changes. -/
structure BranchJ.OrderFree {β : Type} (g : BranchJ → β) : Prop where
  slot : ∀ j : BranchJ, g { j with skip := false, counted := false } = g j
  run : ∀ j : BranchJ, g { j with failed := false } = g j
  dto : ∀ j : BranchJ, g { j with dto := false } = g j

/-- What a reading gives of the judge's record of every branch. -/
def Dev.records {β : Type} (g : BranchJ → β) (d : Dev) : Vector β 30 := d.judge.map g

/-- The filters of the windows are no part of a reading. -/
def BranchJ.FilterFree {β : Type} (g : BranchJ → β) : Prop := ∀ j : BranchJ, g j.filtersCleared = g j

section
variable {β : Type} {g : BranchJ → β} {d d' : Dev} (t : Nat)

theorem Dev.records_of_judge (h : d'.judge = d.judge) : d'.records g = d.records g := congrArg (Vector.map g) h

theorem Dev.records_get (h : d'.records g = d.records g) (b : Branch) : g d'.judge[b] = g d.judge[b] := by
  simpa [Dev.records] using congrArg (fun v : Vector β 30 => v[b]) h

theorem Dev.judgeAll_records {f : BranchJ → BranchJ} (h : ∀ j, g (f j) = g j) (d : Dev) : (d.judgeAll f).records g = d.records g := by
  simp [Dev.records, Function.comp_def, h]

/-- Leaving STANDBY clears the filters; no other transition touches the records. -/
theorem Dev.goState_records (hfilter : d.power.state = .standby → BranchJ.FilterFree g) (p : PState) :
    (d.goState t p).records g = d.records g := by
  have hwoken : ∀ x : Dev, (x.when (d.power.state = PState.standby && p ≠ PState.standby) fun y =>
      y.judgeAll BranchJ.filtersCleared).records g = x.records g := fun x => by
    by_cases hstandby : d.power.state = .standby
    · exact Dev.when_keeps (Dev.records g) x _ _ (Dev.judgeAll_records (hfilter hstandby) x)
    · simp [Dev.when, hstandby]
  have hhalted : ∀ x : Dev, (x.when (p = PState.standby) fun y =>
      (y.conv' Hkadc.halted).gauge' fun q => { q with meas := none }).records g = x.records g := fun x =>
    Dev.when_keeps (Dev.records g) x _ _ rfl
  unfold Dev.goState
  dsimp only
  split
  · rw [Dev.records_of_judge (Dev.chgClear_judge _ _ _), Dev.records_of_judge (Dev.endTest_judge _), hhalted, hwoken]
    rfl
  · rw [hhalted, hwoken]
    rfl

end

/-! ## The end of an off order, and WAKE_DUE (R33, Table 9-4) -/

section
variable (d : Dev) (t : Nat)

theorem Dev.issueOrder_seq (order : Nat) : (d.issueOrder order).seq = d.seq := by
  have hend : ∀ (x : Dev) i st detail, (x.endEntry i st detail).seq = x.seq := fun x i st detail => by
    unfold Dev.endEntry Dev.endNow
    split
    · split <;> rfl
    · rfl
  have habort : (d.abortTxn 0x0B).seq = d.seq := by
    unfold Dev.abortTxn
    split
    · rfl
    · split
      · rfl
      · dsimp only
        split
        · exact hend _ _ _ _
        · rfl
  unfold Dev.issueOrder
  split_ifs
  · exact habort
  · rfl
  · rfl

theorem Dev.endTest_seq : d.endTest.seq = d.seq := by
  unfold Dev.endTest
  dsimp only
  split_ifs <;> rfl

theorem Dev.goState_seq (p : PState) : (d.goState t p).seq = d.seq := by
  unfold Dev.goState
  dsimp only
  split
  · rw [Dev.chgClear_keeps Dev.seq (fun _ _ => rfl) (fun _ _ _ => rfl), Dev.endTest_seq, Dev.when_keeps Dev.seq,
      Dev.when_keeps Dev.seq] <;> rfl
  · rw [Dev.when_keeps Dev.seq, Dev.when_keeps Dev.seq] <;> rfl

theorem Dev.wdhCheck_seq : d.wdhCheck.seq = d.seq := (congrArg Dev.seq d.wdhCheck_rest :)

theorem Dev.wdhActionDone_seq : d.wdhActionDone.seq = d.seq := by
  unfold Dev.wdhActionDone
  dsimp only
  split
  · rfl
  · exact Dev.wdhCheck_seq _

theorem Dev.wdhOrderDone_seq : d.wdhOrderDone.seq = d.seq := by
  unfold Dev.wdhOrderDone
  split <;> rfl

theorem Dev.seqBegin_wakeDue (st : SeqState) : (d.seqBegin t st).seq.wakeDue = d.seq.wakeDue := by
  unfold Dev.seqBegin
  dsimp only [Dev.seq'_seq]
  split <;> rfl

theorem Dev.onCheck_wakeDue : (d.onCheck t).seq.wakeDue = d.seq.wakeDue := by
  unfold Dev.onCheck
  split
  · rw [Dev.endAction_seq, Dev.wdhOrderDone_seq]
    rfl
  · rfl

theorem Dev.commonStart_wakeDue (m : Nat) (st : SeqState) : (d.commonStart t m st).seq.wakeDue = d.seq.wakeDue :=
  d.seqBegin_wakeDue t st

theorem Dev.startFull_wakeDue : (d.startFull t).seq.wakeDue = d.seq.wakeDue := by
  unfold Dev.startFull
  split_ifs
  · rw [Dev.onCheck_wakeDue, Dev.commonStart_wakeDue]
  · rw [Dev.issueOrder_seq]
    exact d.seqBegin_wakeDue t _
  · rfl

theorem Dev.newRun_wakeDue : (d.newRun t).seq.wakeDue = d.seq.wakeDue := Dev.startFull_wakeDue _ t

/-- The check of SAFE_ON, where it has an effect, ends the order and the failure action that it served, and may begin the run of a
resume. -/
theorem Dev.safeCheck_cases : ∃ x : Dev, x.power = d.power ∧ x.judge = d.judge ∧ x.seq.wakeDue = d.seq.wakeDue ∧
    (d.safeCheck t = x ∨ d.safeCheck t = (x.goState t .run).newRun t) := by
  have haction : ∀ x : Dev, ∃ y, (if x.wdh.action = some 2 then x.wdhActionDone else x.wdhOrderDone) = y ∧
      y.power = x.power ∧ y.judge = x.judge ∧ y.seq = x.seq := fun x => by
    split
    · exact ⟨_, rfl, Dev.power_orderFree.wdhActionDone x, x.wdhActionDone_judge, x.wdhActionDone_seq⟩
    · exact ⟨_, rfl, Dev.power_orderFree.wdhOrderDone x, x.wdhOrderDone_judge, x.wdhOrderDone_seq⟩
  unfold Dev.safeCheck
  split
  · dsimp only
    generalize he : (d.seq' _) = e
    obtain ⟨y, hy, hpower, hjudge, hseq⟩ := haction e
    have hwake : y.seq.wakeDue = d.seq.wakeDue := by
      rw [hseq, ← he]
      rfl
    rw [← he] at hpower hjudge
    rw [hy]
    split
    · exact ⟨y.seq' fun s => { s with resumeDue := false }, hpower, hjudge, hwake, .inr rfl⟩
    · exact ⟨y, hpower, hjudge, hwake, .inl rfl⟩
  · exact ⟨d, rfl, rfl, rfl, .inl rfl⟩

theorem Dev.safeCheck_wakeDue : (d.safeCheck t).seq.wakeDue = d.seq.wakeDue := by
  obtain ⟨x, -, -, hwake, h | h⟩ := d.safeCheck_cases t <;> rw [h]
  · exact hwake
  · rw [Dev.newRun_wakeDue, Dev.goState_seq, hwake]

/-- The check of SAFE_ON does not lead to STANDBY. -/
theorem Dev.safeCheck_standby (hstandby : (d.safeCheck t).power.state = .standby) : d.power.state = .standby := by
  obtain ⟨x, hpower, -, -, h | h⟩ := d.safeCheck_cases t <;> rw [h] at hstandby
  · rw [← hpower, hstandby]
  · rw [Dev.power_orderFree.newRun, Dev.goState_state] at hstandby
    cases hstandby

/-- A first-fail record ends IDLE, and leaves every other power state (R253, Table 2-2). -/
theorem Dev.firstFail_power {d : Dev} (hidle : d.power.state ≠ .idle) (t : Nat) (f : Failure) : (d.firstFail t f).power = d.power := by
  unfold Dev.firstFail
  split
  · rfl
  · obtain h | h := (Dev.logEvent_logs (d.seq' fun s => { s with events := satInc 16 s.events }) t 0x32 f.branch f.reason f.bytes).power
    · exact h
    · exact h.trans (if_neg hidle)

end

/-! ## The orders -/

section
variable {β : Type} {g : BranchJ → β} (hg : BranchJ.OrderFree g) {d : Dev} (t : Nat)
include hg

theorem Dev.commonStart_records (m : Nat) (st : SeqState) : (d.commonStart t m st).records g = d.records g :=
  Dev.judgeAll_records hg.slot _

theorem Dev.startFull_records : (d.startFull t).records g = d.records g := by
  unfold Dev.startFull
  split_ifs
  · rw [Dev.records_of_judge (Dev.onCheck_judge _ t), Dev.commonStart_records hg]
  · rw [Dev.records_of_judge (Dev.issueOrder_judge _ _)]
    rfl
  · rfl

theorem Dev.newRun_records : (d.newRun t).records g = d.records g :=
  (Dev.startFull_records hg t).trans (Dev.judgeAll_records hg.run _)

theorem Dev.wakeRun_records : (d.wakeRun t).records g = d.records g := by
  unfold Dev.wakeRun
  split
  · exact Dev.newRun_records hg t
  · dsimp only
    split <;> exact Dev.records_of_judge (Dev.send_judge d _)

theorem Dev.wake_records (hfilter : d.power.state = .standby → BranchJ.FilterFree g) (source : Nat) :
    (d.wake t source).records g = d.records g := by
  unfold Dev.wake
  split_ifs
  · rw [Dev.wakeRun_records hg, Dev.goState_records t (by exact hfilter)]
    rfl
  · rfl
  · rfl

theorem Dev.safeCheck_records (hfilter : d.power.state = .standby → BranchJ.FilterFree g) :
    (d.safeCheck t).records g = d.records g := by
  obtain ⟨x, hpower, hjudge, -, h | h⟩ := d.safeCheck_cases t <;> rw [h]
  · exact Dev.records_of_judge hjudge
  · rw [Dev.newRun_records hg, Dev.goState_records t (hpower ▸ hfilter)]
    exact Dev.records_of_judge hjudge

/-- SAFE_ON starts from SAFE, so nothing wakes after it is entered. -/
theorem Dev.enterSafeOn_records (hfilter : d.power.state = .standby → BranchJ.FilterFree g) :
    (d.enterSafeOn t).records g = d.records g := by
  obtain ⟨x, hx, hstate, hrecords⟩ : ∃ x, (if d.power.state = .safe then d else d.goState t .safe) = x ∧ x.power.state = .safe ∧
      x.records g = d.records g := by
    split
    · exact ⟨d, rfl, ‹_›, rfl⟩
    · exact ⟨_, rfl, d.goState_state t .safe, Dev.goState_records t hfilter _⟩
  obtain ⟨y, hy, hpower, hjudge⟩ : ∃ y, (if x.seq.finalFail ∧ !x.seq.resumeDue then x.endAction 4 .failed 9 else x) = y ∧
      y.power = x.power ∧ y.judge = x.judge := by
    split
    · exact ⟨_, rfl, Dev.power_orderFree.endAction x _ _ _, x.endAction_judge _ _ _⟩
    · exact ⟨x, rfl, rfl, rfl⟩
  have hsafe : y.power.state = .safe := (congrArg Power.state hpower).trans hstate
  have hstart : ∀ z : Dev, z.power.state = .safe → z.judge = y.judge →
      (((z.seq' fun s => { s with cause := none }).commonStart t
        ((z.seq' fun s => { s with cause := none }).safeSet &&& (z.seq' fun s => { s with cause := none }).members)
          .safeOn).safeCheck t).records g = d.records g := fun z hz hjudged => by
    rw [Dev.safeCheck_records hg, Dev.commonStart_records hg]
    · exact (Dev.records_of_judge (hjudged.trans hjudge)).trans hrecords
    · intro hstandby
      rw [Dev.power_orderFree.commonStart, Dev.seq'_power, hz] at hstandby
      cases hstandby
  unfold Dev.enterSafeOn
  dsimp only
  rw [hx, hy]
  split
  · exact hstart _ ((congrArg Power.state (Dev.firstFail_power (by simp [hsafe]) t _)).trans hsafe) (y.firstFail_judge t _)
  · exact hstart y hsafe rfl

/-- An off order that ends in RUN or SAFE leaves the records; one that ends in STANDBY with a wake kept clears the filters at once. -/
theorem Dev.offDone_records (hfilter : (d.power.state = .standby ∨ d.seq.wakeDue = true) →
    d.seq.after ≠ .group → d.seq.after ≠ .ship → BranchJ.FilterFree g) : (d.offDone t).records g = d.records g := by
  unfold Dev.offDone
  cases hafter : d.seq.after with
  | retry => rfl
  | safe =>
    exact Dev.enterSafeOn_records hg t fun h => hfilter (.inl h) (by simp [hafter]) (by simp [hafter])
  | standby =>
    have hstay := fun h => hfilter h (by simp [hafter]) (by simp [hafter])
    generalize hx : ((d.endAction 2 .applied 0).seq' fun s => { s with state := .idle, after := .idle }) = x
    have hpower : x.power = d.power := hx ▸ Dev.power_orderFree.endAction d _ _ _
    have hwake : x.seq.wakeDue = d.seq.wakeDue := hx ▸ (congrArg Seq.wakeDue (d.endAction_seq 2 .applied 0) :)
    have hrecords : (x.goState t .standby).records g = d.records g := by
      rw [Dev.goState_records t fun h => hstay (.inl (hpower ▸ h))]
      exact Dev.records_of_judge (hx ▸ d.endAction_judge 2 .applied 0)
    dsimp only
    split
    · next hdue =>
      rw [Dev.wake_records hg t fun _ => hstay (.inr ?_)]
      · exact hrecords
      · rw [← hwake, ← x.goState_seq t .standby]
        exact hdue
    · exact hrecords
  | ship => rfl
  | full =>
    generalize hx : (d.seq' fun s => { s with state := .idle, after := .idle }).endShipEntry = x
    have hrecords : x.records g = d.records g := Dev.records_of_judge (hx ▸ Dev.endShipEntry_judge _)
    dsimp only
    rw [Dev.newRun_records hg]
    split
    · next hsafe =>
      rw [Dev.goState_records t fun h => absurd (hsafe.symm.trans h) (by decide), hrecords]
    · exact hrecords
  | group =>
    dsimp only
    rw [Dev.records_of_judge (Dev.onCheck_judge _ t), Dev.commonStart_records hg]
    rfl
  | idle => rfl

theorem Dev.offCheck_records (hfilter : (d.power.state = .standby ∨ d.seq.wakeDue = true) →
    d.seq.after ≠ .group → d.seq.after ≠ .ship → BranchJ.FilterFree g) : (d.offCheck t).records g = d.records g := by
  unfold Dev.offCheck
  split
  · exact Dev.offDone_records hg (d := d.seq' fun s => s.sync t) t hfilter
  · rfl

/-- The off orders that the check begins do not end in STANDBY. -/
theorem Dev.beginOff_records {after : AfterOff} (hafter : after = .group ∨ after = .ship) (mask : Nat) (st : SeqState) :
    (d.beginOff t mask st after).records g = d.records g := by
  unfold Dev.beginOff
  dsimp only
  split
  · rw [Dev.offCheck_records hg t fun _ hgroup hship => absurd hafter (not_or.2 ⟨hgroup, hship⟩)]
    rfl
  · rw [Dev.offCheck_records hg t fun _ hgroup hship => absurd hafter (not_or.2 ⟨hgroup, hship⟩)]
    exact Dev.judgeAll_records hg.dto _

theorem Dev.groupCheck_records : (d.groupCheck t).records g = d.records g := by
  unfold Dev.groupCheck
  split
  · exact Dev.beginOff_records hg t (.inl rfl) _ _
  · rfl

theorem Dev.startShip_records : (d.startShip t).records g = d.records g := by
  unfold Dev.startShip
  split
  · rfl
  · dsimp only
    rw [Dev.beginOff_records hg t (.inr rfl)]
    refine Dev.records_of_judge ?_
    simp

theorem Dev.shipCheck_records : (d.shipCheck t).records g = d.records g := by
  unfold Dev.shipCheck
  split
  · exact Dev.startShip_records hg t
  · rfl

/-- Wherever a check moves the sequencer on, the records stay but for what the orders change; and the filters stay too, unless the
unit is in STANDBY or a wake is kept. -/
theorem Dev.seqCheck_records (hfilter : d.power.state = .standby ∨ d.seq.wakeDue = true → BranchJ.FilterFree g) :
    (d.seqCheck t).records g = d.records g := by
  have hon : (d.onCheck t).power = d.power := Dev.power_orderFree.onCheck d t
  have hwdh : ∀ x : Dev, x.wdhGroupCheck.judge = x.judge := fun x => (congrArg Dev.judge x.wdhGroupCheck_rest :)
  unfold Dev.seqCheck
  rw [Dev.shipCheck_records hg, Dev.groupCheck_records hg, Dev.records_of_judge (hwdh _),
    Dev.offCheck_records hg, Dev.safeCheck_records hg, Dev.records_of_judge (d.onCheck_judge t)]
  · rw [hon]
    exact fun h => hfilter (.inl h)
  · rw [Dev.safeCheck_wakeDue, Dev.onCheck_wakeDue]
    exact fun h _ _ => hfilter (h.imp_left fun hs => hon ▸ Dev.safeCheck_standby _ t hs)

theorem Dev.settledCheck_records (hfilter : d.power.state = .standby ∨ d.seq.wakeDue = true → BranchJ.FilterFree g) :
    (d.settle.seqCheck t).records g = d.records g := by
  rw [Dev.seqCheck_records hg, Dev.records_of_judge d.settle_judge]
  rw [Dev.power_orderFree.settle, d.settle_keeps Dev.seq (fun _ _ => rfl) fun _ _ => rfl]
  exact hfilter

end

end Sys2Proof.Machine
end

section
/-!
PROOFS. Judgement: one conversion of a branch, and the judge deadline of a branch that no order starts.
-/
namespace Sys2Proof.Machine

/-! ## One conversion of a branch (R238 to R240) -/

theorem Dev.nat_of_dict {d d' : Dev} (h : d'.dict = d.dict) : d'.nat = d.nat :=
  funext₂ fun idx sub => congrArg Int.toNat (Dev.int_of_dict h idx sub)

theorem Dev.chan'_branchOn_of_on {d : Dev} {c : Integrated} {f : ChanSt → ChanSt} (h : ∀ x, (f x).on = x.on) :
    (d.chan' c f).branchOn = d.branchOn := by
  funext b
  obtain ⟨r, rfl⟩ | ⟨e, rfl⟩ | ⟨n, rfl⟩ := branch_cases b
  · cases c <;> simp [Dev.railOn, Dev.chan', Dev.ib', Dev.ld']
  · rw [Dev.branchOn_chanCode, Dev.branchOn_chanCode, Dev.chan'_chan]
    split
    · exact h _
    · rfl
  · cases c <;> simp [Dev.chan', Dev.ib', Dev.ld']

/-- A device whose judge has noted the converted output of a branch. -/
def Dev.noted (d : Dev) (b : Branch) (mv : Nat) : Dev := (d.noteOutput b mv).judge' b fun j => { j with outMv := mv }

section
variable (d : Dev) (b : Branch) (mv : Nat)

theorem Dev.noteOutput_rest :
    d.noteOutput b mv = { d with grove := (d.noteOutput b mv).grove, integ := (d.noteOutput b mv).integ } := by
  obtain ⟨r, rfl⟩ | ⟨c, rfl⟩ | ⟨n, rfl⟩ := branch_cases b
  · simp only [Dev.noteOutput, byBranch_railBranch]
    rfl
  · simp only [Dev.noteOutput, byBranch_chanCode]
    cases c <;> rfl
  · simp only [Dev.noteOutput, byBranch_xeBranch]

theorem Dev.noteOutput_still : (d.noteOutput b mv).still = { d with integ := (d.noteOutput b mv).integ }.still := by
  obtain ⟨r, rfl⟩ | ⟨c, rfl⟩ | ⟨n, rfl⟩ := branch_cases b
  · simp only [Dev.noteOutput, byBranch_railBranch]
    exact Dev.lp'_still d r _
  · simp only [Dev.noteOutput, byBranch_chanCode]
    exact congrArg Dev.still (d.chan'_rest c _)
  · simp only [Dev.noteOutput, byBranch_xeBranch]

/-- A reading of an output does not turn its branch on or off, and has no part in its reference and in its soft start. -/
theorem Dev.noteOutput_branchOn : (d.noteOutput b mv).branchOn = d.branchOn := by
  obtain ⟨r, rfl⟩ | ⟨c, rfl⟩ | ⟨n, rfl⟩ := branch_cases b
  · simp only [Dev.noteOutput, byBranch_railBranch]
    exact Dev.lp'_branchOn d r _
  · simp only [Dev.noteOutput, byBranch_chanCode]
    exact Dev.chan'_branchOn_of_on fun _ => rfl
  · simp only [Dev.noteOutput, byBranch_xeBranch]

theorem Dev.noteOutput_refMv : (d.noteOutput b mv).refMv b = d.refMv b := by
  obtain ⟨r, rfl⟩ | ⟨c, rfl⟩ | ⟨n, rfl⟩ := branch_cases b
  · simp only [Dev.noteOutput, Dev.refMv, byBranch_railBranch, Dev.railRefMv, Dev.lp'_self]
    split <;> rfl
  · simp only [Dev.noteOutput, Dev.refMv, byBranch_chanCode, Dev.chan'_self]
    rfl
  · simp only [Dev.noteOutput, Dev.refMv, byBranch_xeBranch]

theorem Dev.noteOutput_softDone : (d.noteOutput b mv).softDone b = d.softDone b := by
  obtain ⟨r, rfl⟩ | ⟨c, rfl⟩ | ⟨n, rfl⟩ := branch_cases b
  · simp only [Dev.noteOutput, Dev.softDone, byBranch_railBranch, Dev.lp', Dev.rail'_self]
  · simp only [Dev.noteOutput, Dev.softDone, byBranch_chanCode, Dev.chan'_self]
    rfl
  · simp only [Dev.noteOutput, Dev.softDone, byBranch_xeBranch]

theorem Dev.noted_judge : (d.noted b mv).judge[b] = { d.judge[b] with outMv := mv } :=
  (Dev.judge'_self _ b _).trans (congrArg (fun x : Dev => { x.judge[b] with outMv := mv }) (d.noteOutput_rest b mv))

theorem Dev.noted_dict : (d.noted b mv).dict = d.dict := (congrArg Dev.dict (d.noteOutput_rest b mv) :)

theorem Dev.noted_inWindow (idx : Nat) : (d.noted b mv).inWindow idx b mv = d.inWindow idx b mv := by
  have href : (d.noted b mv).refMv b = d.refMv b := d.noteOutput_refMv b mv
  unfold Dev.inWindow
  rw [href, Dev.nat_of_dict (d.noted_dict b mv)]

theorem Dev.noted_belowThreshold : (d.noted b mv).belowThreshold b mv = d.belowThreshold b mv := by
  unfold Dev.belowThreshold
  rw [Dev.noted_judge, Dev.nat_of_dict (d.noted_dict b mv)]

theorem Dev.noted_frame (x : Dev) (hstill : x.still = (d.noted b mv).still) (hinteg : x.integ = (d.noted b mv).integ) :
    x.still = { d with integ := x.integ }.still := by
  rw [hinteg]
  exact hstill.trans (d.noteOutput_still b mv)

end

section
variable {d : Dev} {b : Branch} (hconverts : b.val < 22) (hsighted : (d.conv.a.excluded && d.conv.b.excluded) = false) (mv : Nat)
include hconverts hsighted

theorem Dev.judgeReading_sighted : d.judgeReading (b, mv) =
    if d.branchOn b then
      if d.judge[b].good then
        (d.noted b mv).judge' b fun j => j.windows (d.inWindow 0x2341 b mv) (d.inWindow 0x2342 b mv)
      else if d.softDone b then (d.noted b mv).judge' b fun j => j.towardGood (d.inWindow 0x2342 b mv)
      else d.noted b mv
    else if !d.judge[b].discharged && d.belowThreshold b mv then (d.noted b mv).discharge b
    else d.noted b mv := by
  have hon : (d.noted b mv).branchOn b = d.branchOn b := congrFun (d.noteOutput_branchOn b mv) b
  have hdone : (d.noted b mv).softDone b = d.softDone b := d.noteOutput_softDone b mv
  have hgood : (d.noted b mv).judge[b].good = d.judge[b].good := (congrArg BranchJ.good (d.noted_judge b mv) :)
  have hdischarged : (d.noted b mv).judge[b].discharged = d.judge[b].discharged :=
    (congrArg BranchJ.discharged (d.noted_judge b mv) :)
  rw [← hon, ← hdone, ← hgood, ← hdischarged, ← d.noted_inWindow, ← d.noted_inWindow, ← d.noted_belowThreshold]
  refine (if_neg (Nat.not_le.2 hconverts)).trans ?_
  dsimp only
  rw [hsighted, if_neg Bool.false_ne_true]
  rfl

/-- A conversion of a branch that is not good yet, inside the fault window (R239). -/
theorem Dev.judgeReading_inside (hon : d.branchOn b = true) (hgood : d.judge[b].good = false) (hdone : d.softDone b = true)
    (hinside : d.inWindow 0x2342 b mv = true) : d.judgeReading (b, mv) = (d.noted b mv).judge' b fun j => j.towardGood true := by
  rw [Dev.judgeReading_sighted hconverts hsighted, if_pos hon, hgood, if_neg Bool.false_ne_true, if_pos hdone, hinside]

/-- A conversion of a good branch outside both windows (R240). -/
theorem Dev.judgeReading_outside (hon : d.branchOn b = true) (hgood : d.judge[b].good = true) (hwarning : d.inWindow 0x2341 b mv = false)
    (hfault : d.inWindow 0x2342 b mv = false) : d.judgeReading (b, mv) = (d.noted b mv).judge' b fun j => j.windows false false := by
  rw [Dev.judgeReading_sighted hconverts hsighted, if_pos hon, if_pos hgood, hwarning, hfault]

/-- A branch that is off is found discharged below its threshold (R248). -/
theorem Dev.judgeReading_below (hoff : d.branchOn b = false) (hbelow : d.belowThreshold b mv = true) :
    d.judgeReading (b, mv) = if d.judge[b].discharged then d.noted b mv else (d.noted b mv).discharge b := by
  rw [Dev.judgeReading_sighted hconverts hsighted, hoff, if_neg Bool.false_ne_true, hbelow]
  cases d.judge[b].discharged <;> rfl

end

/-- What the judge has converted last, and what stands of its judgement. -/
def BranchJ.verdict (j : BranchJ) : Bool × Bool × Nat := (j.good, j.fwin, j.outMv)

/-- How long the conversions have been outside the windows. -/
def BranchJ.outside (j : BranchJ) : Nat × Nat := (j.wOut, j.fOut)

theorem BranchJ.verdict_orderFree : BranchJ.OrderFree BranchJ.verdict := ⟨fun _ => rfl, fun _ => rfl, fun _ => rfl⟩
theorem BranchJ.verdict_filterFree : BranchJ.FilterFree BranchJ.verdict := fun _ => rfl
theorem BranchJ.outside_orderFree : BranchJ.OrderFree BranchJ.outside := ⟨fun _ => rfl, fun _ => rfl, fun _ => rfl⟩

/-- The third conversion in a row inside the fault window makes a branch good (R239). -/
theorem BranchJ.towardGood_third {j : BranchJ} (h : 2 ≤ j.inWindow) :
    (j.towardGood true).verdict = (true, j.fwin, j.outMv) := by
  unfold BranchJ.towardGood
  rw [if_neg (by decide), if_pos h]
  rfl

section
variable {d : Dev} {b : Branch} {mv : Nat} (hstate : d.power.state ≠ .standby) (t : Nat)
include hstate

theorem Dev.judgementConversion_one : d.judgementConversion [(b, mv)] t = (d.judgeReading (b, mv)).settle.seqCheck t := if_neg hstate

/-- A conversion that changes the judge's record of its branch: the check that follows it leaves what was found. -/
theorem Dev.judgementConversion_spec {f : BranchJ → BranchJ} (hreading : d.judgeReading (b, mv) = (d.noted b mv).judge' b f) :
    let d' := d.judgementConversion [(b, mv)] t
    d'.still = { d with integ := d'.integ }.still ∧ d'.judge[b].verdict = (f { d.judge[b] with outMv := mv }).verdict ∧
      (d.seq.wakeDue = false → d'.judge[b].outside = (f { d.judge[b] with outMv := mv }).outside) := by
  dsimp only
  rw [Dev.judgementConversion_one hstate, hreading]
  generalize hx : (d.noted b mv).judge' b f = x
  have hjudge : x.judge[b] = f { d.judge[b] with outMv := mv } := by
    rw [← hx, Dev.judge'_self, Dev.noted_judge]
  have hpower : x.power = d.power := hx ▸ (congrArg Dev.power (d.noteOutput_rest b mv) :)
  have hseq : x.seq = d.seq := hx ▸ (congrArg Dev.seq (d.noteOutput_rest b mv) :)
  rw [← hjudge]
  refine ⟨?_, ?_, fun hwake => ?_⟩
  · refine d.noted_frame b mv _ ((x.settledCheck_still t).trans ?_) ((x.settledCheck_integ t).trans ?_) <;> rw [← hx] <;> rfl
  · exact Dev.records_get (Dev.settledCheck_records BranchJ.verdict_orderFree t fun _ => BranchJ.verdict_filterFree) b
  · refine Dev.records_get (Dev.settledCheck_records BranchJ.outside_orderFree t fun h => ?_) b
    rw [hpower, hseq, hwake] at h
    exact absurd h (by simp [hstate])

theorem Dev.judgementConversion_discharged (hconverts : b.val < 22) (hsighted : (d.conv.a.excluded && d.conv.b.excluded) = false)
    (hoff : d.branchOn b = false) (hbelow : d.belowThreshold b mv = true) :
    let d' := d.judgementConversion [(b, mv)] t
    d'.still = { d with integ := d'.integ }.still ∧ d'.judge[b].discharged = true := by
  dsimp only
  rw [Dev.judgementConversion_one hstate, Dev.judgeReading_below hconverts hsighted mv hoff hbelow]
  generalize hx : (if d.judge[b].discharged = true then d.noted b mv else (d.noted b mv).discharge b) = x
  have hspec : x.still = (d.noted b mv).still ∧ x.integ = (d.noted b mv).integ ∧ x.judge[b].discharged = true := by
    rw [← hx]
    split
    · next hdone => exact ⟨rfl, rfl, (congrArg BranchJ.discharged (d.noted_judge b mv) :).trans hdone⟩
    · exact ⟨rfl, rfl, congrArg BranchJ.discharged (Dev.judge'_self (d.noted b mv) b _)⟩
  obtain ⟨hstill, hinteg, hdischarged⟩ := hspec
  refine ⟨d.noted_frame b mv _ ((x.settledCheck_still t).trans hstill) ((x.settledCheck_integ t).trans hinteg), ?_⟩
  rw [Dev.settledCheck_discharged, hdischarged]

end

/-! ## The judge deadline (R239, R244) -/

section
variable {d : Dev} {b : Branch} {ms : Nat} (hon : d.branchOn b = true) (hgood : d.judge[b].good = false)
  (hms : d.nat 0x2345 (b.val + 1) ≤ ms) (t : Nat)
include hon hgood hms

theorem Dev.judgeDeadline_due : d.judgeDeadline b ms false t =
    if d.countsAsStart b then (d.failedStart t b.val 0 0x20).seqCheck t
    else (((((d.loseTargets b).turnOff t b).judge' b fun j => { j with counted := false }).when d.judge[b].counted fun x =>
      x.raise t (branchSource b) 0x20).settle).seqCheck t :=
  if_neg (by simpa [hon, hms] using hgood)

/-- A branch whose failure is no failed start is turned off. -/
theorem Dev.judgeDeadline_turnsOff (hcounts : d.countsAsStart b = false) :
    (d.judgeDeadline b ms false t).branchOn b = false ∧ (d.judgeDeadline b ms false t).still = d.still := by
  have hg := Dev.branchOn_faultFree
  have hraise : ∀ (x : Dev) (c : Bool), (x.when c fun y => y.raise t (branchSource b) 0x20).branchOn = x.branchOn := fun x c =>
    Dev.when_keeps Dev.branchOn x c _ (hg.raiseAs (branchSource_ne_fatal b) x t 0x20 false)
  have hstill : ∀ (x : Dev) (c : Bool), (x.when c fun y => y.raise t (branchSource b) 0x20).still = x.still := fun x c =>
    Dev.when_keeps Dev.still x c _ (x.raise_still t _ _)
  rw [Dev.judgeDeadline_due hon hgood hms, hcounts, if_neg Bool.false_ne_true]
  constructor
  · rw [hg.seqCheck, hg.settle, hraise,
      Dev.judge'_branchOn, Dev.turnOff_branchOn]
    simp
  · rw [Dev.settledCheck_still, hstill]
    simp

end

end Sys2Proof.Machine
end

section
/-!
PROOFS. An off order that begins, and the failed start of a branch that leads to a retry.
-/
namespace Sys2Proof.Machine

/-! ## An off order that begins (R247, R248, R250) -/

/-- The branches of a mask that an off order waits for: those that are on, and those not yet discharged. -/
def Dev.offMask (d : Dev) (mask : Nat) : Nat := maskOf fun b => inMask mask b && (d.branchOn b || !d.judge[b].discharged)

/-- The sequencer once an off order has begun, or merged with the one in progress. -/
def Dev.offSeq (d : Dev) (t mask : Nat) (st : SeqState) (after : AfterOff) : Seq :=
  let s := (d.seqBegin t st).seq
  let merged := d.seq.order.isOff
  { s with
    after := after, todo := 0, awaitPulse := false, tapWait := false
    offUs := if merged then s.offUs else 0
    offTodo := if merged then s.offTodo ||| maskDiff (d.offMask mask) s.offWait else d.offMask mask
    offWait := if merged then s.offWait else 0
    dto := if merged then s.dto else false }

/-- The device once an off order has begun, before its end is looked for. -/
def Dev.offBegun (d : Dev) (t mask : Nat) (st : SeqState) (after : AfterOff) : Dev :=
  (d.seq' fun _ => d.offSeq t mask st after).when (!d.seq.order.isOff) fun x => x.judgeAll fun j => { j with dto := false }

section
variable (d : Dev) (t mask : Nat) (st : SeqState) (after : AfterOff)

theorem Dev.beginOff_eq : d.beginOff t mask st after = (d.offBegun t mask st after).offCheck t := by
  unfold Dev.beginOff Dev.offBegun
  cases hmerged : d.seq.order.isOff <;> simp only [Dev.when, Dev.offSeq, hmerged] <;> rfl

theorem Dev.offBegun_seq : (d.offBegun t mask st after).seq = d.offSeq t mask st after := Dev.when_keeps Dev.seq _ _ _ rfl

theorem Dev.offBegun_power : (d.offBegun t mask st after).power = d.power := Dev.when_keeps Dev.power _ _ _ rfl

theorem Dev.offBegun_records {β : Type} {g : BranchJ → β} (hdto : ∀ j : BranchJ, g { j with dto := false } = g j) :
    (d.offBegun t mask st after).records g = d.records g :=
  Dev.when_keeps (Dev.records g) _ _ _ (Dev.judgeAll_records hdto _)

theorem Dev.seqBegin_seq (h : d.power.nrstLow = false) : (d.seqBegin t st).seq = { d.seq.sync t with state := st } := by
  unfold Dev.seqBegin
  simp [h]

end

/-- The check of the sequencer waits for an off order whose groups are not all due yet; WD-H may arm. -/
theorem Dev.seqCheck_offWaits {d : Dev} (hstate : d.seq.state.isOff = true) (htodo : d.seq.offTodo ≠ 0) (t : Nat) :
    d.seqCheck t = d.wdhGroupCheck := by
  have hne : ∀ st : SeqState, st.isOff = false → d.seq.state ≠ st := fun st hst h => by
    rw [h, hst] at hstate
    cases hstate
  have hon : d.onCheck t = d := if_neg fun h => hne .onOrder rfl h.1
  have hsafe : d.safeCheck t = d := if_neg fun h => hne .safeOn rfl h.1
  have hoff : d.offCheck t = d := if_neg fun h => htodo h.2.1
  have hseq : d.wdhGroupCheck.seq = d.seq := (congrArg Dev.seq d.wdhGroupCheck_rest :)
  have hgroup : d.wdhGroupCheck.groupCheck t = d.wdhGroupCheck := if_neg fun h => hne .idle rfl (hseq ▸ h.2)
  have hship : d.wdhGroupCheck.shipCheck t = d.wdhGroupCheck := if_neg fun h => hne .idle rfl (hseq ▸ h.2)
  rw [Dev.seqCheck, hon, hsafe, hoff, hgroup, hship]

/-- An off order that has a branch to turn off waits for its group. -/
theorem Dev.beginOff_waits {d : Dev} {b : Branch} {mask : Nat} (hmask : inMask mask b = true) (hon : d.branchOn b = true)
    (hfirst : d.seq.order.isOff = false) (t : Nat) (st : SeqState) (after : AfterOff) :
    d.beginOff t mask st after = d.offBegun t mask st after ∧ (d.offBegun t mask st after).seq.offTodo ≠ 0 := by
  have htodo : (d.offBegun t mask st after).seq.offTodo = d.offMask mask := by
    simp [Dev.offBegun_seq, Dev.offSeq, hfirst]
  have hsome : d.offMask mask ≠ 0 := fun hnone => by
    have hb : inMask (d.offMask mask) b = true := by simp [Dev.offMask, hmask, hon]
    simp [hnone, inMask] at hb
  rw [htodo, Dev.beginOff_eq]
  exact ⟨if_neg fun h => hsome (htodo ▸ h.2.1), hsome⟩

theorem inMask_allMask : ∀ b : Branch, inMask allMask b = true := by decide

/-! ## A failed start in an on order of a unit that stands alone (R244, Table 9-3) -/

/-- The first failure of the run is held, with the failed mask and the starts so far. -/
def Seq.holding (f : Failure) (s : Seq) : Seq :=
  { s with held := (match s.held with | none => some f | x => x).map fun x : Failure => { x with mask := s.failed, starts := s.starts } }

theorem Seq.holding_held (f : Failure) (s : Seq) : (s.holding f).held.isSome = true := by
  unfold Seq.holding
  cases s.held <;> rfl

theorem Dev.issueOrder_alone {d : Dev} (h : d.casc.role = 0) (order : Nat) : d.issueOrder order = d := if_neg (by simp [h])

section
variable {d : Dev} (hrole : d.casc.role = 0) (hattempt : d.seq.attempt < d.nat 0x2300 1) (t : Nat) (f : Failure)
include hrole hattempt

/-- While attempts are left the order is aborted for a retry. -/
theorem Dev.failedOnOrder_retries : d.failedOnOrder t f =
    (d.seq' (Seq.holding (d.blamed f))).beginOff t (maskDiff allMask d.standbySet) .abort .retry := by
  refine (if_pos hattempt).trans ?_
  rw [Dev.issueOrder_alone (by exact hrole)]
  rfl

end

/-- A branch of this unit whose start has failed: it is in the failed mask, and no start of it is awaited. -/
def Dev.markedFailed (d : Dev) (b : Branch) : Dev :=
  (d.seq' fun s => { s with failed := s.failed ||| 2 ^ b.val }).judge' b fun j => { j with failed := true, counted := false }

section
variable {d : Dev} {b : Branch} (hstate : d.seq.state = .onOrder) (hrole : d.casc.role = 0) (hgroup : d.seq.groupRun = false)
  (hattempt : d.seq.attempt < d.nat 0x2300 1) (t reason : Nat)
include hstate hrole hgroup hattempt

theorem Dev.failedStart_retries : ∃ f, d.failedStart t b.val 0 reason =
    ((d.markedFailed b).seq' (Seq.holding f)).beginOff t (maskDiff allMask d.standbySet) .abort .retry := by
  have hmarked : d.markFailed (d.failureNow t 1 b.val 0 reason).own = d.markedFailed b := by
    rw [Failure.own_failureNow]
    rfl
  have hstate' : (d.markedFailed b).seq.state = .onOrder := hstate
  have hslave : ¬ (d.markedFailed b).casc.role = 2 := fun h => absurd (hrole.symm.trans h) (by decide)
  have hgroup' : ¬ (d.markedFailed b).seq.groupRun = true := fun h => by
    have hrun : d.seq.groupRun = true := h
    rw [hgroup] at hrun
    cases hrun
  unfold Dev.failedStart Dev.failedStartAs
  rw [hmarked]
  dsimp only
  rw [hstate']
  exact ⟨_, (if_neg hslave).trans ((if_neg hgroup').trans
    (Dev.failedOnOrder_retries (d := d.markedFailed b) hrole hattempt t (d.failureNow t 1 b.val 0 reason)))⟩

/-- The branch is still on, so that the order of the retry has something to turn off, and ABORT lasts. -/
theorem Dev.failedStart_aborts (hon : d.branchOn b = true) (hnrst : d.power.nrstLow = false)
    (hset : inMask d.standbySet b = false) :
    let d' := (d.failedStart t b.val 0 reason).seqCheck t
    d'.seq.state = .abort ∧ d'.seq.after = .retry ∧ d'.seq.failed = d.seq.failed ||| 2 ^ b.val ∧ d'.judge[b].failed = true ∧
      d'.seq.held.isSome = true ∧ d'.seq.attempt = d.seq.attempt := by
  obtain ⟨f, hfailed⟩ := Dev.failedStart_retries (b := b) hstate hrole hgroup hattempt t reason
  let y : Dev := (d.markedFailed b).seq' (Seq.holding f)
  let mask := maskDiff allMask d.standbySet
  have hmask : inMask mask b = true := by simp [mask, maskDiff, inMask_allMask, hset]
  have hfirst : y.seq.order.isOff = false := by
    have hstate' : y.seq.state = .onOrder := hstate
    simp [Seq.order, hstate', SeqState.isOff]
  obtain ⟨hbegun, htodo⟩ := Dev.beginOff_waits (d := y) hmask hon hfirst t .abort .retry
  have hbegin := y.seqBegin_seq t .abort hnrst
  have hseq := y.offBegun_seq t mask .abort .retry
  have habort : (y.offBegun t mask .abort .retry).seq.state = .abort := by
    rw [hseq]
    exact congrArg Seq.state hbegin
  dsimp only
  rw [hfailed, hbegun, Dev.seqCheck_offWaits (by rw [habort]; rfl) htodo]
  have hrest := Dev.wdhGroupCheck_rest (y.offBegun t mask .abort .retry)
  have hseq' := (congrArg Dev.seq hrest :).trans hseq
  have hfailed' : (y.offBegun t mask .abort .retry).judge[b].failed = y.judge[b].failed :=
    Dev.records_get (Dev.offBegun_records (g := BranchJ.failed) y t mask .abort .retry fun _ => rfl) b
  have hjudge : y.judge[b].failed = true := congrArg BranchJ.failed (Dev.judge'_self _ b _)
  refine ⟨?_, ?_, ?_, ?_, ?_, ?_⟩
  · exact (congrArg Seq.state hseq' :).trans (congrArg Seq.state hbegin :)
  · exact (congrArg Seq.after hseq' :)
  · exact (congrArg Seq.failed hseq' :).trans (congrArg Seq.failed hbegin :)
  · exact (congrArg (fun x : Dev => x.judge[b].failed) hrest :).trans (hfailed'.trans hjudge)
  · exact (congrArg (fun x : Seq => x.held.isSome) hseq' :).trans
      ((congrArg (fun x : Seq => x.held.isSome) hbegin :).trans (Seq.holding_held f _))
  · exact (congrArg Seq.attempt hseq' :).trans (congrArg Seq.attempt hbegin :)

end

end Sys2Proof.Machine
end

section
/-!
PROOFS. The windows of a good branch, and the statement about judgement.
-/
namespace Sys2Proof.Machine

/-! ## The windows (R240) -/

section
variable {d : Dev} {b : Branch} (hconverts : b.val < 22) (hstate : d.power.state ≠ .standby) (hon : d.branchOn b = true)
  (hgood : d.judge[b].good = true) (mv t : Nat)
include hconverts hstate hon hgood

theorem Dev.warningWindow_due (hflag : d.judge[b].wwin = false) (htime : d.nat 0x2343 (b.val + 1) ≤ d.judge[b].wOut) :
    d.warningWindow b mv t = (d.judge' b fun j => { j with wwin := true, wIn := 0 }).logEvent t 0x30 b.val 0 (bytesLE 2 mv) :=
  if_neg (by simpa [hconverts, hstate, hon] using And.intro hgood (And.intro hflag htime))

theorem Dev.faultWindow_due (hflag : d.judge[b].fwin = false) (htime : d.nat 0x2344 (b.val + 1) ≤ d.judge[b].fOut) :
    d.faultWindow b mv t =
      ((d.judge' b fun j => { j with fwin := true, fIn := 0, outMv := mv }).raise t (branchSource b) 0).seqCheck t :=
  if_neg (by simpa [hconverts, hstate, hon] using And.intro hgood (And.intro hflag htime))

end

/-- A record in the log after the judge's records have changed. -/
theorem Dev.Logs.judged {t : Nat} {d d' : Dev} {judge : Vector BranchJ 30} (h : { d with judge := judge }.Logs t d')
    (hjudge : d'.judge = judge) :
    (d'.power = d.power ∨ d'.power = d.power.leaveIdle t) ∧
      d' = { d with power := d'.power, judge := d'.judge, nv := d'.nv, faults := d'.faults } := by
  subst hjudge
  exact ⟨h.power, h.rest⟩

/-- A raise that does not escalate at once leaves the judge's records but for what the orders change. -/
theorem Dev.raise_records {β : Type} {g : BranchJ → β} (hg : BranchJ.OrderFree g) (hfilter : BranchJ.FilterFree g) {src : Nat}
    (hclass : sourceClass src ≠ classF) (d : Dev) (t reason : Nat) : (d.raise t src reason).records g = d.records g := by
  have hwake : ∀ x : Dev, (x.faultWake t src).records g = x.records g := fun x =>
    Dev.when_keeps (Dev.records g) x _ _ (Dev.wake_records hg t (fun _ => hfilter) 6)
  obtain ⟨f, n, hrecord⟩ := d.record_eq t src reason false
  unfold Dev.raise Dev.raiseAs
  split_ifs
  · rfl
  · exact hwake d
  · dsimp only
    rw [if_neg hclass, hwake, hrecord]
    rfl

theorem branchSource_lt : ∀ b : Branch, branchSource b < 120 := by decide

/-- Settles O13: each clause is what the command does once its guards are known to hold; the check of the sequencer that follows it
leaves the judge's records but for what an order changes. -/
theorem judgementComplete : Obligations.JudgementComplete := by
  intro s b hcore
  refine ⟨fun mv hconverts hstate hsighted hon hgood hdone hinside hcount => ?_,
    fun mv hconverts hstate hsighted hon hgood hwarning hfault => ?_,
    fun mv hconverts hstate hsighted hoff hbelow => ?_, fun readings hstandby => ?_, fun ms hon hgood hms hcounts => ?_,
    fun ms hon hgood hms hcounted hstate hrole hgroup hnrst hattempt hset => ?_, fun ms => ?_,
    fun mv hconverts hstate hon hgood hflag htime => ?_, fun mv hconverts hstate hon hgood hflag htime => ?_⟩ <;>
    refine Gives.of_core rfl hcore ?_
  · obtain ⟨hstill, hverdict, -⟩ := Dev.judgementConversion_spec hstate s.b.hw.counter
      (Dev.judgeReading_inside hconverts hsighted mv hon hgood hdone hinside)
    rw [BranchJ.towardGood_third (by exact hcount)] at hverdict
    exact ⟨hstill, (congrArg Prod.fst hverdict :), (congrArg (fun v => v.2.2) hverdict :)⟩
  · obtain ⟨hstill, hverdict, houtside⟩ := Dev.judgementConversion_spec hstate s.b.hw.counter
      (Dev.judgeReading_outside hconverts hsighted mv hon hgood hwarning hfault)
    refine ⟨hstill, (congrArg Prod.fst hverdict :).trans hgood, (congrArg (fun v => v.2.2) hverdict :), fun hwake => ?_⟩
    exact ⟨(congrArg Prod.fst (houtside hwake) :), (congrArg Prod.snd (houtside hwake) :)⟩
  · exact Dev.judgementConversion_discharged hstate s.b.hw.counter hconverts hsighted hoff hbelow
  · exact if_pos hstandby
  · exact Dev.judgeDeadline_turnsOff hon hgood hms s.b.hw.counter hcounts
  · have hcounts : s.b.d.countsAsStart b = true := by
      rw [Dev.countsAsStart, hcounted, hgood]
      simp [Seq.order, hstate]
    refine ⟨?_, ?_⟩ <;> rw [Dev.judgeDeadline_due hon hgood hms, hcounts, if_pos rfl]
    · rw [Dev.seqCheck_still, Dev.failedStart_still]
    · exact Dev.failedStart_aborts hstate hrole hgroup hattempt s.b.hw.counter 0x20 hon hnrst hset
  · exact if_pos rfl
  · rw [Dev.warningWindow_due hconverts hstate hon hgood mv s.b.hw.counter hflag htime]
    have hjudge := Dev.logEvent_judge (s.b.d.judge' b fun j => { j with wwin := true, wIn := 0 }) s.b.hw.counter 0x30 b.val 0
      (bytesLE 2 mv)
    obtain ⟨hpower, hrest⟩ := Dev.Logs.judged (d := s.b.d) (Dev.logEvent_logs _ s.b.hw.counter 0x30 b.val 0 (bytesLE 2 mv)) hjudge
    exact ⟨(congrArg (fun v => v[b]) hjudge :).trans (Dev.judge'_self s.b.d b _), hpower, hrest, Dev.logEvent_src ..⟩
  · rw [Dev.faultWindow_due hconverts hstate hon hgood mv s.b.hw.counter hflag htime]
    generalize hx : Dev.judge' s.b.d b _ = x
    have hself : x.judge[b].fwin = true := hx ▸ congrArg BranchJ.fwin (Dev.judge'_self s.b.d b _)
    refine ⟨?_, ?_, ?_⟩
    · have hrecords := (Dev.seqCheck_records BranchJ.verdict_orderFree s.b.hw.counter fun _ => BranchJ.verdict_filterFree).trans
        (Dev.raise_records BranchJ.verdict_orderFree BranchJ.verdict_filterFree (branchSource_ne_fatal b) x s.b.hw.counter 0)
      exact (congrArg (fun v => v.2.1) (Dev.records_get hrecords b) :).trans hself
    · rw [Dev.seqCheck_sticky]
      exact Dev.raise_sticky _ _ _ _ (branchSource_lt b)
    · rw [Dev.seqCheck_still, Dev.raise_still, ← hx, Dev.judge'_still]

end Sys2Proof.Machine
end

section
/-!
PROOFS. The entry that the journal prepares: it is the next one, and a refused one ends at once.
-/
namespace Sys2Proof.Machine

/-! ## The entries of the journal (R498, R499) -/

theorem updList_congr {α : Type} {f g : α → α} :
    ∀ {l : List α} {i : Nat}, (∀ x, l[i]? = some x → f x = g x) → updList l i f = updList l i g
  | [], _, _ => rfl
  | x :: r, 0, h => congrArg (· :: r) (h x rfl)
  | x :: _, _ + 1, h => congrArg (x :: ·) (updList_congr fun y hy => h y hy)

section
variable {d : Dev}

/-- Where no end is pending none is paid. -/
theorem Dev.payEnds_none (h : ∀ x ∈ d.jour.entries, x.pend = none) : d.payEnds = d := by
  unfold Dev.payEnds
  split
  · rfl
  · refine List.foldl_fixed' (fun i => ?_) _
    split
    · next e he => rw [h e (List.mem_of_getElem? he)]
    · rfl

/-- An admitted end takes place at once. -/
theorem Dev.endEntry_ends {i : Nat} {e : Entry} (hadmitted : d.commitAdmitted entryUs = true) (he : d.jour.entries[i]? = some e)
    (hpend : e.pend = none) (st : EntryState) (detail : Nat) :
    (d.endEntry i st detail).jour.entries =
        updList d.jour.entries i (fun x => { x with state := st, detail := detail, endNo := d.jour.ends + 1 }) ∧
      d.endEntry i st detail = { d with jour := (d.endEntry i st detail).jour } := by
  unfold Dev.endEntry Dev.endNow
  rw [if_pos hadmitted, he]
  refine ⟨updList_congr fun x hx => ?_, rfl⟩
  rw [show x = e from Option.some.inj (hx.symm.trans he), hpend]

theorem Dev.nextEntry_getElem? {i : Nat} {e : Entry} (h : d.nextEntry = some (i, e)) : d.jour.entries[i]? = some e := by
  unfold Dev.nextEntry at h
  split at h
  · cases h
  split at h
  · cases h
  · next hentry =>
    dsimp only at h
    split_ifs at h
    cases h
    exact hentry

end

theorem Body.commitPoint_none {b : Body} (h : b.d.casc.txn = none) (starts : Vector StartMeas 30) : b.commitPoint starts = b := by
  unfold Body.commitPoint
  rw [h]

/-! ## The entry that the journal prepares -/

section
variable {s : State} {i : Nat} {e : Entry} (hp : Preparing s i e) (starts : Vector StartMeas 30)
include hp

theorem Preparing.coreOn : s.b.d.power.coreOn = true := hp.1

theorem Preparing.entry : s.b.d.jour.entries[i]? = some e := by
  obtain ⟨-, -, -, hnext, -, -⟩ := hp
  exact Dev.nextEntry_getElem? hnext

theorem Preparing.pend : e.pend = none := by
  obtain ⟨-, -, -, -, -, hpend⟩ := id hp
  exact hpend e (List.mem_of_getElem? hp.entry)

theorem Preparing.admitted : s.b.d.commitAdmitted entryUs = true := by
  obtain ⟨-, -, hruns, -, -, -⟩ := hp
  simp only [Dev.journalRuns, Bool.and_eq_true] at hruns
  exact hruns.1.2

theorem Preparing.nrst : s.b.d.power.nrstLow = false := by
  obtain ⟨-, -, hruns, -, -, -⟩ := hp
  simp only [Dev.journalRuns, Dev.coresRun, Bool.and_eq_true, Bool.not_eq_true'] at hruns
  exact hruns.1.1.1.1.2

theorem Preparing.prepares : s.b.prepareEntry starts =
    if e.action = 1 then
      match s.b.prepareTargets (s.b.d.entryWho e) e.targets false with
      | some (detail, d) => { s.b with d := d.endEntry i .failed detail }
      | none => Body.applyEntry { s.b with d := s.b.d.preparedEntry i } starts i
    else
      match s.b.d.actionRefused e.action with
      | some detail => { s.b with d := s.b.d.endEntry i .failed detail }
      | none => { s.b with d := (s.b.d.preparedEntry i).beginAction s.b.hw.counter e.action } := by
  obtain ⟨-, htxn, hruns, hnext, htag, hpend⟩ := hp
  have hpaid : ({ s.b with d := s.b.d.payEnds } : Body) = s.b := by rw [Dev.payEnds_none hpend]
  have halone : e.isCascade = false := by simp [Entry.isCascade, htag]
  unfold Body.prepareEntry
  rw [hpaid, Body.commitPoint_none htxn]
  dsimp only
  rw [hruns, hnext]
  dsimp only
  rw [halone]
  rfl

/-- An entry that is refused ends, FAILED, at once. -/
theorem Preparing.fails {d : Dev} {integ : Integ} (hd : d = { s.b.d with integ := integ }) (detail : Nat) :
    let d' := d.endEntry i .failed detail
    d'.jour.entries = updList s.b.d.jour.entries i (fun x =>
        { x with state := .failed, detail := detail, endNo := s.b.d.jour.ends + 1 }) ∧
      d' = { s.b.d with jour := d'.jour, integ := integ } := by
  subst hd
  exact Dev.endEntry_ends (d := { s.b.d with integ := integ }) hp.admitted hp.entry hp.pend .failed detail

end

end Sys2Proof.Machine
end

section
/-!
PROOFS. Validation of the targets of an entry: what a refusal leaves, and what passing says.
-/
namespace Sys2Proof.Machine

/-! ## What a refused submission leaves (R219, R500) -/

/-- The abort of the integrated-power budget (step 11) is none of the rules' of step 10. -/
theorem crossRules_code : ∀ r ∈ feedRule :: crossRules, r.code ≠ 0x0F000002 := by
  have hall : ((feedRule :: crossRules).all fun r => r.code != 0x0F000002) = true := by decide
  simpa using hall

section
variable (d : Dev)

theorem Dev.step10_code {idx sub c : Nat} (h : d.step10 idx sub = some c) : c ≠ 0x0F000002 := by
  unfold Dev.step10 at h
  split at h
  · next r hr =>
    cases h
    exact crossRules_code r (List.mem_of_find?_eq_some hr)
  · split_ifs at h
    cases h
    decide

theorem Dev.mappingRule_code {idx sub c : Nat} {v : Int} (h : d.mappingRule idx sub v = some c) : c ≠ 0x0F000002 := by
  unfold Dev.mappingRule Dev.mappingCheck at h
  dsimp only at h
  split_ifs at h <;> cases h <;> decide

/-- A submission notes the cause of a refusal by the budget, and changes nothing else. -/
theorem Dev.submission_spec (w : List (Nat × Nat × Int)) :
    (d.submission w).2 = { d with integ := (d.submission w).2.integ } ∧
      ((d.submission w).1 = some 0x0F000002 → (d.submission w).2.integ.refusal ≠ 0) := by
  unfold Dev.submission
  dsimp only
  generalize w.foldl (fun d x => d.setLive x.1 x.2.1 x.2.2) d = new
  split
  · next c hten =>
    obtain ⟨x, -, hx⟩ := List.exists_of_findSome?_eq_some hten
    refine ⟨by split <;> rfl, fun h => ?_⟩
    cases h
    split at hx
    · next hstep => exact absurd (Option.some.inj hx) (new.step10_code hstep)
    · exact absurd rfl (d.mappingRule_code hx)
  · split
    · next c heleven =>
      obtain ⟨x, -, hx⟩ := List.exists_of_findSome?_eq_some heleven
      refine ⟨rfl, fun _ => ?_⟩
      unfold Dev.step11 at hx
      split at hx
      · next hbudget => exact of_decide_eq_true ((Bool.and_eq_true_iff.1 hbudget).2)
      · cases hx
    · exact ⟨rfl, nofun⟩

theorem Dev.submissionDetail_spec {w : List (Nat × Nat × Int)} {detail : Nat} {d' : Dev}
    (h : d.submissionDetail w = some (detail, d')) : d' = { d with integ := d'.integ } ∧ (detail = 2 → d'.integ.refusal ≠ 0) := by
  obtain ⟨hrest, hcause⟩ := d.submission_spec w
  unfold Dev.submissionDetail at h
  dsimp only at h
  split at h
  · cases h
    exact ⟨hrest, nofun⟩
  · split at h
    · cases h
    · next hbudget =>
      cases h
      exact ⟨hrest, fun _ => hcause hbudget⟩
    · cases h
      exact ⟨hrest, nofun⟩

end

/-- The validation of targets that refuses them changes nothing but the cause of a refusal by the budget. -/
theorem Body.prepareTargets_refused {b : Body} {w : Who} {l : List Target} {detail : Nat} {d : Dev}
    (h : b.prepareTargets w l false = some (detail, d)) : d = { b.d with integ := d.integ } ∧ (detail = 2 → d.integ.refusal ≠ 0) := by
  unfold Body.prepareTargets at h
  dsimp only at h
  rw [if_neg Bool.false_ne_true] at h
  split_ifs at h
  · cases h
    exact ⟨rfl, nofun⟩
  · cases h
    exact ⟨rfl, nofun⟩
  · cases h
    exact ⟨rfl, nofun⟩
  · exact b.d.submissionDetail_spec h

/-- Targets that pass are admitted in SAFE, and a branch that they turn on can start. -/
theorem Body.prepareTargets_passed {b : Body} {w : Who} {l : List Target} (h : b.prepareTargets w l false = none) :
    b.d.prepareRange l (targetWrites l) = false ∧ b.d.safeAdmits l = true := by
  unfold Body.prepareTargets at h
  dsimp only at h
  split_ifs at h with hrange hceiling hstate
  simp only [Bool.or_eq_true, not_or] at hstate
  exact ⟨by simpa using hrange, by simpa using hstate.1.1⟩

end Sys2Proof.Machine
end

section
/-!
PROOFS. Application of the one target of an entry.
-/
namespace Sys2Proof.Machine

/-! ## The application of one target (R501, R234) -/

theorem updList_getElem? {α : Type} (f : α → α) : ∀ (l : List α) (i : Nat), (updList l i f)[i]? = l[i]?.map f
  | [], _ => rfl
  | _ :: _, 0 => rfl
  | _ :: r, i + 1 => updList_getElem? f r i

/-- A device whose PREPARED entry has its targets applied next. -/
def Dev.applying (d : Dev) (i : Nat) : Dev := (d.preparedEntry i).entry' i fun e => { e with going := false }

theorem Dev.applying_rest (d : Dev) (i : Nat) : d.applying i = { d with jour := (d.applying i).jour } := rfl

theorem Dev.applying_still (d : Dev) (i : Nat) : (d.applying i).still = d.still := rfl

/-- In SAFE the limits of a submission are the limits of each of its targets. -/
theorem Dev.safeAdmits_of_jour {d d' : Dev} (h : d' = { d with jour := d'.jour }) (l : List Target) : d'.safeAdmits l = d.safeAdmits l := by
  rw [h]
  rfl

section
variable {s : State} {i : Nat} {e : Entry} (hp : Preparing s i e) (starts : Vector StartMeas 30) {x : Target}
  (haction : e.action = 1) (hpass : s.b.prepareTargets (s.b.d.entryWho e) e.targets false = none) (htarget : e.targets = [x])
include hp haction hpass htarget

/-- An entry with one target that passes: it is applied, what it reached is noted, and the sequencer is moved on. -/
theorem Preparing.applies : ∃ w note, s.b.prepareEntry starts =
    let b := Body.applyTarget starts w { s.b with d := s.b.d.applying i } x
    { b with d := ((b.d.entry' i note).settle).seqCheck b.hw.counter } := by
  have hentry : (s.b.d.preparedEntry i).jour.entries[i]? = some { e with state := .prepared, going := true } :=
    (updList_getElem? _ _ i).trans (congrArg (Option.map _) hp.entry)
  have hsafe : (s.b.d.applying i).safeAdmits [x] = true := by
    rw [Dev.safeAdmits_of_jour (s.b.d.applying_rest i), ← htarget]
    exact (Body.prepareTargets_passed hpass).2
  rw [hp.prepares, if_pos haction, hpass]
  dsimp only
  unfold Body.applyEntry
  rw [hentry]
  dsimp only
  have hbarred : ([x].filter fun y => !(s.b.d.applying i).safeAdmits [y]) = [] := by simp [hsafe]
  rw [htarget, show ((s.b.d.preparedEntry i).entry' i fun e => { e with going := false }) = s.b.d.applying i from rfl, hbarred]
  exact ⟨_, _, rfl⟩

end

end Sys2Proof.Machine
end

section
/-!
PROOFS. The kinds of a target of this unit, and what follows a target that has been applied.
-/
namespace Sys2Proof.Machine

/-! ## What follows a target that has been applied -/

section
variable (d : Dev) (i : Nat) (note : Entry → Entry) (t : Nat)

theorem Dev.targetNoted_still : (((d.entry' i note).settle).seqCheck t).still = d.still :=
  (Dev.settledCheck_still (d.entry' i note) t).trans rfl

theorem Dev.targetNoted_faultFree {β : Type} {g : Dev → β} (hg : Dev.FaultFree g) :
    g (((d.entry' i note).settle).seqCheck t) = g d :=
  (hg.seqCheck _ t).trans ((hg.settle _).trans (hg.jour' d _))

theorem Dev.targetNoted_int (idx sub : Nat) : (((d.entry' i note).settle).seqCheck t).int idx sub = d.int idx sub :=
  Dev.int_of_dict ((Dev.seqCheck_dict _ t).trans ((Dev.settle_dict _).trans rfl)) idx sub

end

/-! ## The kinds of a target of this unit (Table 19-1) -/

theorem Target.branch_code (kind idx : Nat) (b : Branch) (rsv v : Nat) (h : kind ≠ 1) :
    Target.branch ⟨0, kind, idx, b.val, rsv, v⟩ = some b := by
  unfold Target.branch
  rw [if_neg h, dif_pos b.isLt]

section
variable (starts : Vector StartMeas 30) (w : Who) (b : Body)

theorem Body.applyTarget_turnsOff (k : Branch) : Body.applyTarget starts w b ⟨0, 3, 0, k.val, 0, 0⟩ =
    { b with d := (b.d.loseTargets k).turnOff b.hw.counter k } := by
  unfold Body.applyTarget
  rw [Target.branch_code 3 0 k 0 0 (by decide)]
  rfl

theorem Body.applyTarget_turnsOn (k : Branch) : Body.applyTarget starts w b ⟨0, 2, 0, k.val, 0, 0⟩ =
    { b with d := b.d.actionOn b.hw.counter k starts[k] } := by
  unfold Body.applyTarget
  rw [Target.branch_code 2 0 k 0 0 (by decide)]
  rfl

/-- The set-point of a rail is a word of 32 bits. -/
theorem row_railSetPoint : ∀ r : Rail, (row (0x2200 + r.val) 1).map (fun x => (x.ty, x.size)) = some (.u, 4) := by
  decide +kernel

theorem targetWrites_railSetPoint (r : Rail) (v : Nat) :
    targetWrites [⟨0, 1, 0x2200 + r.val, 1, 0, v⟩] = [(0x2200 + r.val, 1, ((v % 2 ^ 32 : Nat) : Int))] := by
  obtain ⟨x, hrow, hx⟩ := Option.map_eq_some_iff.1 (row_railSetPoint r)
  obtain ⟨hty, hsize⟩ := Prod.mk.inj hx
  have hvalue : targetValue x v = ((v % 2 ^ 32 : Nat) : Int) := by
    unfold targetValue
    rw [hty, hsize]
    rfl
  have hmask : ∀ y : Int, maskReserved (0x2200 + r.val) 1 y = y := fun y => by
    have hr := r.isLt
    unfold maskReserved
    repeat rw [if_neg (by omega)]
  simp only [targetWrites, List.filterMap_cons, List.filterMap_nil, hrow, Option.map_some, hvalue, hmask]
  rfl

/-- A target that names the set-point of a rail writes it. -/
theorem Body.applyTarget_railSetPoint (r : Rail) (v : Nat) : Body.applyTarget starts w b ⟨0, 1, 0x2200 + r.val, 1, 0, v⟩ =
    { b with d := (b.d.setLive (0x2200 + r.val) 1 ((v % 2 ^ 32 : Nat) : Int)).retargetRail b.hw.counter r } := by
  have heffect := Body.effect_branch (b := b) (by omega) (b.d.effectBranch_setPoint b.hw.counter ((v % 2 ^ 32 : Nat) : Int) r) w none
    b.d.dieForOtp (b.d.otp.boardCause ≠ 1)
  unfold Body.applyTarget
  dsimp only
  rw [targetWrites_railSetPoint]
  exact congrArg Prod.fst heffect

end

end Sys2Proof.Machine
end

section
/-!
PROOFS. Prepare of an entry that turns a branch off, turns an external channel on, or sets a rail.
-/
namespace Sys2Proof.Machine

/-! ## An external channel that a target turns on (R234) -/

section
variable {d : Dev} {n : Fin 8} (t : Nat) (m : StartMeas)

/-- Nothing of the integrated channels but the one enable, which is set. -/
structure Dev.XeTurnsOn (n : Fin 8) (d d' : Dev) : Prop where
  still : d'.still = { d with integ := d'.integ }.still
  ib : d'.integ.ib = d.integ.ib
  ld : d'.integ.ld = d.integ.ld
  en : d'.integ.xe[n].en = true

theorem Dev.XeTurnsOn.of_same {d' d'' : Dev} (h : d.XeTurnsOn n d') (hstill : d''.still = d'.still) (hinteg : d''.integ = d'.integ) :
    d.XeTurnsOn n d'' where
  still := hinteg ▸ hstill.trans h.still
  ib := hinteg ▸ h.ib
  ld := hinteg ▸ h.ld
  en := hinteg ▸ h.en

/-- The entries of the journal have no part in it. -/
theorem Dev.XeTurnsOn.of_jour {d₀ d' : Dev} (h : d.XeTurnsOn n d') (hrest : d = { d₀ with jour := d.jour })
    (hjour : d.jour.still = d₀.jour.still) : d₀.XeTurnsOn n d' := by
  have hinteg : d.integ = d₀.integ := (congrArg Dev.integ hrest :)
  have hframe : { d with integ := d'.integ }.still = { d₀ with integ := d'.integ }.still :=
    (congrArg (fun x : Dev => { x with integ := d'.integ }.still) hrest).trans
      (Dev.jour'_still { d₀ with integ := d'.integ } (fun _ => d.jour) hjour)
  exact ⟨h.still.trans hframe, hinteg ▸ h.ib, hinteg ▸ h.ld, h.en⟩

theorem Dev.startXe_turnsOn (d : Dev) (n : Fin 8) (t : Nat) : d.XeTurnsOn n (d.startXe t n) := by
  have henabled : ∀ pgood, d.XeTurnsOn n (d.xe' n (XeSt.enabled pgood)) := fun pgood =>
    ⟨rfl, rfl, rfl, congrArg XeSt.en (d.xe'_self n (XeSt.enabled pgood))⟩
  rcases Decidable.em (d.pgMode n = 0 ∧ d.integ.xe[n].pgIn = true) with ⟨hmode, hin⟩ | hwaits
  · rw [Dev.startXe_good t hmode hin]
    exact (henabled true).of_same (Dev.settledCheck_still _ t) (Dev.settledCheck_integ _ t)
  · rw [Dev.startXe_waits t ((not_and_or.1 hwaits).imp_right eq_false_of_ne_true)]
    exact henabled false

/-- A channel whose enable is set already stays as it is. -/
theorem Dev.actionOn_xe (hholds : d.tapHolds = false) : d.XeTurnsOn n (d.actionOn t (xeBranch n) m) := by
  unfold Dev.actionOn
  rw [hholds, show d.cannotStart (xeBranch n) = false from byBranch_xeBranch ..]
  cases hon : d.branchOn (xeBranch n) with
  | true => exact ⟨rfl, rfl, rfl, (d.branchOn_xeBranch n).symm.trans hon⟩
  | false =>
    have hstart : d.startBranch t (xeBranch n) m = (d.judge' (xeBranch n) BranchJ.starting).startXe t n := by
      unfold Dev.startBranch
      exact byBranch_xeBranch ..
    obtain ⟨hstill, hib, hld, hen⟩ := (d.judge' (xeBranch n) BranchJ.starting).startXe_turnsOn n t
    exact hstart ▸ ⟨hstill, hib, hld, hen⟩

end

/-! ## Prepare of one target that passes -/

section
variable {s : State} {i : Nat} {e : Entry} (hp : Preparing s i e) (starts : Vector StartMeas 30) (haction : e.action = 1)
  (hpass : s.b.prepareTargets (s.b.d.entryWho e) e.targets false = none)
include hp haction hpass

theorem Preparing.turnsOff {b : Branch} (htarget : e.targets = [⟨0, 3, 0, b.val, 0, 0⟩]) :
    let x := s.b.prepareEntry starts
    x.hw = s.b.hw ∧ x.d.branchOn b = false ∧ x.d.still = s.b.d.still := by
  obtain ⟨w, note, h⟩ := hp.applies starts haction hpass htarget
  rw [Body.applyTarget_turnsOff] at h
  dsimp only at h ⊢
  rw [h]
  refine ⟨rfl, ?_, ?_⟩
  · rw [Dev.targetNoted_faultFree _ _ _ _ Dev.branchOn_faultFree, Dev.turnOff_branchOn]
    simp
  · rw [Dev.targetNoted_still]
    exact (Dev.turnOff_still _ _ _).trans ((Dev.loseTargets_still _ _).trans (s.b.d.applying_still i))

theorem Preparing.turnsOnXe {n : Fin 8} (htarget : e.targets = [⟨0, 2, 0, 22 + n.val, 0, 0⟩]) (hholds : s.b.d.tapHolds = false) :
    let x := s.b.prepareEntry starts
    x.hw = s.b.hw ∧ s.b.d.XeTurnsOn n x.d := by
  obtain ⟨w, note, h⟩ := hp.applies starts haction hpass htarget
  have hkind := Body.applyTarget_turnsOn starts w { s.b with d := s.b.d.applying i } (xeBranch n)
  have hon : s.b.d.XeTurnsOn n ((s.b.d.applying i).actionOn s.b.hw.counter (xeBranch n) starts[xeBranch n]) :=
    (Dev.actionOn_xe (d := s.b.d.applying i) s.b.hw.counter starts[xeBranch n] hholds).of_jour (s.b.d.applying_rest i) rfl
  rw [show (⟨0, 2, 0, 22 + n.val, 0, 0⟩ : Target) = ⟨0, 2, 0, (xeBranch n).val, 0, 0⟩ from rfl, hkind] at h
  dsimp only at h ⊢
  rw [h]
  dsimp only
  exact ⟨rfl, hon.of_same (Dev.targetNoted_still _ i note s.b.hw.counter)
    (Dev.targetNoted_faultFree _ i note s.b.hw.counter Dev.integ_faultFree)⟩

theorem Preparing.setsRail {r : Rail} {v : Nat} (htarget : e.targets = [⟨0, 1, 0x2200 + r.val, 1, 0, v⟩]) :
    let x := s.b.prepareEntry starts
    x.hw = s.b.hw ∧ x.d.still = s.b.d.still ∧ x.d.int (0x2200 + r.val) 1 = v % 2 ^ 32 := by
  obtain ⟨w, note, h⟩ := hp.applies starts haction hpass htarget
  rw [Body.applyTarget_railSetPoint] at h
  dsimp only at h ⊢
  rw [h]
  refine ⟨rfl, ?_, ?_⟩
  · rw [Dev.targetNoted_still, Dev.retargetRail_still]
    exact (Dev.setLive_still _ _ _ _).trans (s.b.d.applying_still i)
  · rw [Dev.targetNoted_int, (Dev.setPoint_retargets _ _ r _).set]
    simp

end

end Sys2Proof.Machine
end

section
/-!
PROOFS. The standby and the ship action: their off orders begin, and may be done at once.
-/
namespace Sys2Proof.Machine

/-! ## Where an off order has nothing to wait for (Table 9-3) -/

section
variable (d : Dev) (t mask : Nat) (st : SeqState) (after : AfterOff)

theorem Dev.offBegun_path : (d.offBegun t mask st after).path = d.path := Dev.when_keeps Dev.path _ _ _ rfl

/-- An off order that begins waits for its branches, or is done at once. -/
theorem Dev.beginOff_cases : d.beginOff t mask st after = d.offBegun t mask st after ∨
    ∃ x : Dev, d.beginOff t mask st after = x.offDone t ∧ x.power = d.power ∧ x.path = d.path ∧ x.seq.after = after ∧
      x.seq.wakeDue = d.seq.wakeDue := by
  rw [Dev.beginOff_eq, Dev.offCheck]
  split
  · have hseq := d.offBegun_seq t mask st after
    refine .inr ⟨_, rfl, d.offBegun_power t mask st after, d.offBegun_path t mask st after, (congrArg Seq.after hseq :), ?_⟩
    exact (congrArg Seq.wakeDue hseq :).trans (d.seqBegin_wakeDue t st)
  · exact .inl rfl

end

section
variable {d : Dev} (t : Nat)

theorem Dev.offDone_standby (hafter : d.seq.after = .standby) (hwake : d.seq.wakeDue = false) :
    (d.offDone t).power.state = .standby := by
  unfold Dev.offDone
  rw [hafter]
  dsimp only
  generalize hx : (d.endAction 2 .applied 0).seq' _ = x
  have hdue : x.seq.wakeDue = false := hx ▸ (congrArg Seq.wakeDue (d.endAction_seq 2 .applied 0) :).trans hwake
  rw [if_neg]
  · exact x.goState_state t .standby
  · exact fun h => Bool.false_ne_true (hdue.symm.trans ((congrArg Seq.wakeDue (x.goState_seq t .standby) :).symm.trans h))

theorem Dev.offDone_ship (hafter : d.seq.after = .ship) :
    (d.offDone t).path.ship = .committing ∧ (d.offDone t).power = d.power := by
  unfold Dev.offDone
  rw [hafter]
  exact ⟨rfl, rfl⟩

theorem Dev.offDone_group (hafter : d.seq.after = .group) : (d.offDone t).power = d.power := by
  unfold Dev.offDone
  rw [hafter]
  dsimp only
  rw [Dev.power_orderFree.onCheck, Dev.power_orderFree.commonStart]
  rfl

end

/-! ## The standby and the ship action (R31, R502) -/

section
variable {d : Dev} (t : Nat)

theorem Dev.startStandby_enters (hnrst : d.power.nrstLow = false) (hwake : d.seq.wakeDue = false) :
    ((d.startStandby t).seq.state = .offOrder ∧ (d.startStandby t).seq.after = .standby) ∨
      (d.startStandby t).power.state = .standby := by
  unfold Dev.startStandby
  obtain h | ⟨x, h, -, -, hafter, hdue⟩ := d.beginOff_cases t (maskDiff allMask d.standbySet) .offOrder .standby <;> rw [h]
  · have hseq := d.offBegun_seq t (maskDiff allMask d.standbySet) .offOrder .standby
    exact .inl ⟨(congrArg Seq.state hseq :).trans (congrArg Seq.state (d.seqBegin_seq t .offOrder hnrst) :),
      (congrArg Seq.after hseq :)⟩
  · exact .inr (Dev.offDone_standby t hafter (hdue.trans hwake))

/-- A ship entry that nothing blocks begins: its off order waits, or is done and its commits follow. -/
theorem Dev.startShip_enters (hdcin : d.path.dcinValid = false) (hsafe : d.enteringSafe = false) (hship : d.path.ship = .none)
    (hon : d.inRun = true ∨ d.power.state = .safe) :
    (d.startShip t).path.ship = .offOrder ∨ (d.startShip t).path.ship = .committing := by
  unfold Dev.startShip
  rw [if_neg (by simpa [hdcin, hsafe, hship] using fun h => hon.resolve_left (by simp [h]))]
  dsimp only
  generalize hx : Dev.path' _ _ = x
  have hship' : x.path.ship = .offOrder := hx ▸ rfl
  obtain h | ⟨y, h, -, -, hafter, -⟩ := x.beginOff_cases t allMask .offOrder .ship <;> rw [h]
  · exact .inl ((congrArg Path.ship (x.offBegun_path t allMask .offOrder .ship) :).trans hship')
  · exact .inr (Dev.offDone_ship t hafter).1

end

end Sys2Proof.Machine
end

section
/-!
PROOFS. The resume action, and the statement about prepare.
-/
namespace Sys2Proof.Machine

/-! ## The power state while a run goes on (R36, R246) -/

/-- The sequencer is in no state of an off order and not in SAFE_ON. -/
def SeqState.runs (st : SeqState) : Prop := st.isOff = false ∧ st ≠ .safeOn

section
variable {d : Dev} (t : Nat)

theorem Dev.onCheck_runs (h : d.seq.state.runs) : (d.onCheck t).seq.state.runs := by
  unfold Dev.onCheck
  split
  · rw [Dev.endAction_seq, Dev.wdhOrderDone_seq]
    exact ⟨rfl, nofun⟩
  · exact h

theorem Dev.seqBegin_runs {st : SeqState} (h : st.runs) : (d.seqBegin t st).seq.state.runs := by
  unfold Dev.seqBegin
  dsimp only [Dev.seq'_seq]
  split
  · exact ⟨rfl, nofun⟩
  · exact h

theorem Dev.newRun_runs (h : d.seq.state.runs) : (d.newRun t).seq.state.runs := by
  unfold Dev.newRun Dev.startFull
  dsimp only
  split_ifs
  · exact Dev.onCheck_runs t (Dev.seqBegin_runs t (st := .onOrder) ⟨rfl, nofun⟩)
  · rw [Dev.issueOrder_seq]
    exact Dev.seqBegin_runs t (st := .onOrder) ⟨rfl, nofun⟩
  · exact h

theorem Dev.groupCheck_power (d : Dev) : (d.groupCheck t).power = d.power := by
  unfold Dev.groupCheck
  split
  · generalize hx : d.seq' _ = x
    have hpower : x.power = d.power := hx ▸ rfl
    obtain h | ⟨y, h, hy, -, hafter, -⟩ := x.beginOff_cases t d.hostGroup .offOrder .group <;> rw [h]
    · exact (x.offBegun_power t _ _ _).trans hpower
    · exact (Dev.offDone_group t hafter).trans (hy.trans hpower)
  · rfl

theorem Dev.startShip_power (d : Dev) : (d.startShip t).power = d.power := by
  unfold Dev.startShip
  split
  · rfl
  · dsimp only
    generalize hx : Dev.path' _ _ = x
    have hpower : x.power = d.power := by
      rw [← hx, Dev.path'_power, Dev.life'_power, Dev.gauge'_power, Dev.seq'_power, Dev.power_orderFree.endAction,
        Dev.power_orderFree.endAction]
    obtain h | ⟨y, h, hy, -, hafter, -⟩ := x.beginOff_cases t allMask .offOrder .ship <;> rw [h]
    · exact (x.offBegun_power t _ _ _).trans hpower
    · exact (Dev.offDone_ship t hafter).2.trans (hy.trans hpower)

theorem Dev.shipCheck_power (d : Dev) : (d.shipCheck t).power = d.power := by
  unfold Dev.shipCheck
  split
  · exact Dev.startShip_power t _
  · rfl

/-- The check changes no power state but at the end of an off order or of SAFE_ON. -/
theorem Dev.seqCheck_power (h : d.seq.state.runs) : (d.seqCheck t).power = d.power := by
  obtain ⟨hoff, hsafe⟩ := Dev.onCheck_runs t h
  have hsafe' : (d.onCheck t).safeCheck t = d.onCheck t := if_neg fun h => hsafe h.1
  have hoff' : (d.onCheck t).offCheck t = d.onCheck t := if_neg fun h => Bool.false_ne_true (hoff.symm.trans h.1)
  rw [Dev.seqCheck, hsafe', hoff', Dev.shipCheck_power, Dev.groupCheck_power, Dev.power_orderFree.wdhGroupCheck,
    Dev.power_orderFree.onCheck]

/-- A resume of an idle unit puts it in RUN and begins a new run. -/
theorem Dev.beginAction_resumes (hidle : d.seq.state = .idle) : d.beginAction t 4 = ((d.goState t .run).newRun t).seqCheck t :=
  if_neg (by simp [hidle])

theorem Dev.resume_runs (hidle : d.seq.state = .idle) : (d.beginAction t 4).power.state = .run := by
  have hstate : (d.goState t .run).seq.state.runs := by
    rw [Dev.goState_seq, hidle]
    exact ⟨rfl, nofun⟩
  rw [Dev.beginAction_resumes t hidle, Dev.seqCheck_power t (Dev.newRun_runs t hstate), Dev.power_orderFree.newRun, Dev.goState_state]

end

/-! ## What an action needs to begin (R31, R502) -/

section
variable {d : Dev}

theorem Dev.shipAdmitted (h : d.actionRefused 3 = none) :
    d.path.dcinValid = false ∧ (d.inRun = true ∨ d.power.state = .safe) ∧ d.seq.state ≠ .safeOff ∧ d.path.ship = .none := by
  have h' : (if d.path.dcinValid || !(d.inRun || d.power.state = .safe) then some 3
    else if d.seq.state = .safeOff || d.path.ship ≠ .none then some 0x0B else none) = none := h
  split_ifs at h' with hon hleaving
  simp only [Bool.or_eq_true, not_or, Bool.not_eq_true', Bool.not_eq_true, Bool.not_eq_false, decide_eq_true_eq] at hon hleaving
  exact ⟨hon.1, hon.2, hleaving.1, by simpa using hleaving.2⟩

/-- A standby action that is not refused begins its off order, or the unit is in STANDBY. -/
theorem Dev.beginAction_standby (hnrst : d.power.nrstLow = false) (hwake : d.seq.wakeDue = false) (t : Nat) :
    let d' := d.beginAction t 2
    d'.still = d.still ∧ ((d'.seq.state = .offOrder ∧ d'.seq.after = .standby) ∨ d'.power.state = .standby) := by
  have hpower : (d.issueOrder 4).power = d.power := Dev.power_orderFree.issueOrder d 4
  have hseq : (d.issueOrder 4).seq = d.seq := d.issueOrder_seq 4
  refine ⟨(Dev.startStandby_still _ t).trans (d.issueOrder_still 4), Dev.startStandby_enters t ?_ ?_⟩
  · rw [hpower, hnrst]
  · rw [hseq, hwake]

/-- A ship action that is not refused begins a ship entry. -/
theorem Dev.beginAction_ships (hadmitted : d.actionRefused 3 = none) (hheld : d.seq.state ≠ .held) (t : Nat) :
    let d' := d.beginAction t 3
    d'.still = d.still ∧ (d'.path.ship = .offOrder ∨ d'.path.ship = .committing) := by
  obtain ⟨hdcin, hon, hsafe, hship⟩ := Dev.shipAdmitted hadmitted
  generalize hx : (d.endAction 2 .failed 0x0B).issueOrder 5 = x
  have hpower : x.power = d.power := hx ▸ (Dev.power_orderFree.issueOrder _ 5).trans (Dev.power_orderFree.endAction d 2 .failed 0x0B)
  have hpath : x.path = d.path := hx ▸ (Dev.path_orderFree.issueOrder _ 5).trans (Dev.path_orderFree.endAction d 2 .failed 0x0B)
  have hseq : x.seq = d.seq := hx ▸ (Dev.issueOrder_seq _ 5).trans (d.endAction_seq 2 .failed 0x0B)
  have hstill : x.still = d.still := hx ▸ (Dev.issueOrder_still _ 5).trans (d.endAction_still 2 .failed 0x0B)
  have hbegins : d.beginAction t 3 = x.startShip t := congrArg (fun y : Dev => y.startShip t) hx
  dsimp only
  rw [hbegins]
  refine ⟨(x.startShip_still t).trans hstill, Dev.startShip_enters t ?_ ?_ ?_ ?_⟩
  · rw [hpath, hdcin]
  · simp [Dev.enteringSafe, Seq.order, hseq, hheld, hsafe]
  · rw [hpath, hship]
  · rw [Dev.inRun, hpower]
    exact hon

/-- A resume of an idle unit puts it in RUN. -/
theorem Dev.beginAction_runs (hidle : d.seq.state = .idle) (t : Nat) :
    (d.beginAction t 4).still = d.still ∧ (d.beginAction t 4).power.state = .run := by
  refine ⟨?_, Dev.resume_runs t hidle⟩
  rw [Dev.beginAction_resumes t hidle, Dev.seqCheck_still, Dev.newRun_still, Dev.goState_still]

end

section
variable {s : State} {i : Nat} {e : Entry} (hp : Preparing s i e) (starts : Vector StartMeas 30)
include hp

/-- An action that is not refused begins. -/
theorem Preparing.begins {action : Nat} (haction : e.action = action) (h1 : action ≠ 1) (hadmitted : s.b.d.actionRefused action = none) :
    s.b.prepareEntry starts = { s.b with d := (s.b.d.preparedEntry i).beginAction s.b.hw.counter action } := by
  subst haction
  rw [hp.prepares, if_neg h1, hadmitted]

end

/-- Settles O37: the entry that is prepared is refused with its detail, applied, or begins its action; for each kind of target and of
action what it leaves is a lemma of its own. -/
theorem prepareComplete : Obligations.PrepareComplete := by
  intro s i e starts hp
  refine ⟨fun detail d1 haction hrefused => ?_, fun b haction hpass htarget => ?_, fun n haction hpass htarget hholds => ?_,
    fun r v haction hpass htarget => ?_, fun detail haction hrefused => ?_, fun haction hadmitted hwake => ?_,
    fun haction hadmitted hheld => ?_, fun haction hadmitted hidle => ?_⟩
  · obtain ⟨hrest, hcause⟩ := Body.prepareTargets_refused hrefused
    have hprepares := hp.prepares starts
    rw [if_pos haction, hrefused] at hprepares
    obtain ⟨hentries, hfails⟩ := hp.fails hrest detail
    refine Gives.of_coreBody rfl hp.coreOn hprepares ⟨hentries, hfails, fun h => ?_⟩
    exact (congrArg (fun x : Dev => x.integ.refusal) hfails :) ▸ hcause h
  · obtain ⟨hhw, hoff, hstill⟩ := hp.turnsOff starts haction hpass htarget
    exact GivesBody.of_coreBody rfl hp.coreOn ⟨hhw, hoff, hstill⟩
  · obtain ⟨hhw, hstill, hib, hld, hen⟩ := hp.turnsOnXe starts haction hpass htarget hholds
    exact GivesBody.of_coreBody rfl hp.coreOn ⟨hstill, hib, hld, hhw, hen⟩
  · obtain ⟨hhw, hstill, hset⟩ := hp.setsRail starts haction hpass htarget
    exact GivesBody.of_coreBody rfl hp.coreOn ⟨hstill, hhw, hset⟩
  · have hprepares := hp.prepares starts
    rw [if_neg haction, hrefused] at hprepares
    exact Gives.of_coreBody rfl hp.coreOn hprepares (Dev.endEntry_ends hp.admitted hp.entry hp.pend .failed detail)
  · refine Gives.of_coreBody rfl hp.coreOn (hp.begins starts haction (by decide) hadmitted) ?_
    exact Dev.beginAction_standby (d := s.b.d.preparedEntry i) hp.nrst hwake s.b.hw.counter
  · refine Gives.of_coreBody rfl hp.coreOn (hp.begins starts haction (by decide) hadmitted) ?_
    exact Dev.beginAction_ships (d := s.b.d.preparedEntry i) hadmitted hheld s.b.hw.counter
  · refine Gives.of_coreBody rfl hp.coreOn (hp.begins starts haction (by decide) hadmitted) ?_
    exact Dev.beginAction_runs (d := s.b.d.preparedEntry i) hidle s.b.hw.counter

end Sys2Proof.Machine
end

section
/-!
PROOFS. Safe, Abort, Standby and Ship orders: what the end of their off orders, and the check of the sequencer after them, leave of
the cascade and of the power state.
-/
namespace Sys2Proof.Machine

/-! ## Readings that no order of the sequencer changes

Of the operations that move the sequencer on, only the issue of an order to the cascade touches the cascade. -/

/-- A reading of the device that looks neither at the sequencer, the judge's records and the journal, nor at WD-H. -/
structure Dev.CheckFree {β : Type} (g : Dev → β) : Prop where
  seq' : ∀ d f, g (Dev.seq' d f) = g d
  judgeAll : ∀ d f, g (Dev.judgeAll d f) = g d
  jour' : ∀ d f, g (Dev.jour' d f) = g d
  wdh' : ∀ d f, g (Dev.wdh' d f) = g d

theorem Dev.casc_checkFree : Dev.CheckFree Dev.casc := ⟨fun _ _ => rfl, fun _ _ => rfl, fun _ _ => rfl, fun _ _ => rfl⟩
theorem Dev.power_checkFree : Dev.CheckFree Dev.power := ⟨fun _ _ => rfl, fun _ _ => rfl, fun _ _ => rfl, fun _ _ => rfl⟩
theorem Dev.path_checkFree : Dev.CheckFree Dev.path := ⟨fun _ _ => rfl, fun _ _ => rfl, fun _ _ => rfl, fun _ _ => rfl⟩

namespace Dev.CheckFree
variable {β : Type} {g : Dev → β} (hg : Dev.CheckFree g) (d : Dev) (t : Nat)
include hg

theorem endEntry (i : Nat) (st : EntryState) (detail : Nat) : g (d.endEntry i st detail) = g d := by
  unfold Dev.endEntry Dev.endNow
  split
  · split
    · rfl
    · exact hg.jour' _ _
  · exact hg.jour' _ _

theorem endAction (action : Nat) (st : EntryState) (detail : Nat) : g (d.endAction action st detail) = g d :=
  foldl_keeps g _ (fun d i => hg.endEntry d i st detail) _ d

theorem wdhGroupCheck : g d.wdhGroupCheck = g d := by
  rw [d.wdhGroupCheck_rest]
  exact hg.wdh' d fun _ => d.wdhGroupCheck.wdh

theorem wdhOrderDone : g d.wdhOrderDone = g d := by
  unfold Dev.wdhOrderDone
  split
  · exact hg.wdh' _ _
  · rfl

theorem wdhActionDone : g d.wdhActionDone = g d := by
  unfold Dev.wdhActionDone
  dsimp only
  split
  · exact (hg.wdh' _ _).trans (hg.wdh' d _)
  · rw [Dev.wdhCheck_rest]
    exact (hg.wdh' _ fun _ => _).trans (hg.wdh' d _)

theorem onCheck : g (d.onCheck t) = g d := by
  unfold Dev.onCheck
  split
  · rw [hg.endAction, hg.wdhOrderDone, hg.seq']
  · rfl

theorem commonStart (m : Nat) (st : SeqState) : g (d.commonStart t m st) = g d :=
  (hg.judgeAll _ _).trans ((hg.seq' _ _).trans (hg.seq' d _))

theorem offBegun (mask : Nat) (st : SeqState) (after : AfterOff) : g (d.offBegun t mask st after) = g d :=
  (Dev.when_keeps g _ _ _ (hg.judgeAll _ _)).trans (hg.seq' d _)

/-- SAFE_ON that is over leads nowhere but to IDLE where no resume is due. -/
theorem safeCheck (h : d.seq.resumeDue = false) : g (d.safeCheck t) = g d := by
  unfold Dev.safeCheck
  split
  · generalize hx : d.seq' _ = x
    have hkept : g x = g d := hx ▸ hg.seq' d _
    have hdue : x.seq.resumeDue = false := hx ▸ h
    dsimp only
    split <;> rw [if_neg]
    · exact (hg.wdhActionDone x).trans hkept
    · rw [Dev.wdhActionDone_seq, hdue]
      decide
    · exact (hg.wdhOrderDone x).trans hkept
    · rw [Dev.wdhOrderDone_seq, hdue]
      decide
  · rfl

/-- The restart of the host group, at once or after its off order. -/
theorem groupCheck : g (d.groupCheck t) = g d := by
  have hdone : ∀ x : Dev, x.seq.after = .group → g (x.offDone t) = g x := fun x hafter => by
    unfold Dev.offDone
    rw [hafter]
    dsimp only
    rw [hg.onCheck, hg.commonStart, hg.wdh', hg.seq']
  unfold Dev.groupCheck
  split
  · rw [Dev.beginOff_eq, Dev.offCheck]
    split
    · rw [hdone, hg.seq', hg.offBegun, hg.seq']
      exact (congrArg Seq.after (Dev.offBegun_seq _ t _ _ _) :)
    · rw [hg.offBegun, hg.seq']
  · rfl

end Dev.CheckFree

/-! ## The cascade and the power state beside a ship entry -/

theorem Dev.startShip_casc (d : Dev) (t : Nat) : (d.startShip t).casc = d.casc := by
  have hg := Dev.casc_checkFree
  have hdone : ∀ x : Dev, x.seq.after = .ship → (x.offDone t).casc = x.casc := fun x hafter => by
    unfold Dev.offDone
    rw [hafter]
    rfl
  unfold Dev.startShip
  split
  · rfl
  · dsimp only
    generalize hx : Dev.path' _ _ = x
    have hcasc : x.casc = d.casc := by
      rw [← hx, Dev.path'_casc, Dev.life'_casc, Dev.gauge'_casc, Dev.seq'_casc, hg.endAction, hg.endAction]
    rw [Dev.beginOff_eq, Dev.offCheck]
    split
    · rw [hdone, hg.seq', hg.offBegun, hcasc]
      exact (congrArg Seq.after (Dev.offBegun_seq _ t _ _ _) :)
    · rw [hg.offBegun, hcasc]

theorem Dev.shipCheck_casc (d : Dev) (t : Nat) : (d.shipCheck t).casc = d.casc := by
  unfold Dev.shipCheck
  split
  · exact Dev.startShip_casc _ t
  · rfl

/-! ## A Safe order (R245, Table 9-3) -/

/-- A unit that has been ordered into SAFE: its off order runs, or is HELD, with SAFE to follow; or it is in SAFE, with no off order
in progress. No resume is due. -/
structure Dev.SafeOrdered (d : Dev) : Prop where
  resume : d.seq.resumeDue = false
  stage : (d.seq.order = .safeOff ∧ d.seq.after = .safe) ∨ (d.power.state = .safe ∧ d.seq.state.isOff = false)

theorem Dev.SafeOrdered.of_eq {d d' : Dev} (h : d.SafeOrdered) (hseq : d'.seq = d.seq) (hpower : d'.power = d.power) :
    d'.SafeOrdered := ⟨hseq ▸ h.resume, hseq ▸ hpower ▸ h.stage⟩

theorem Seq.order_of_not_held {s : Seq} (h : s.state ≠ .held) : s.order = s.state := if_neg h

theorem Dev.goState_casc (d : Dev) (t : Nat) (p : PState) : (d.goState t p).casc = d.casc := by
  have htest : ∀ x : Dev, x.endTest.casc = x.casc := fun x => by
    unfold Dev.endTest
    dsimp only
    split_ifs <;> rfl
  unfold Dev.goState
  dsimp only
  split
  · rw [Dev.chgClear_keeps Dev.casc (fun _ _ => rfl) (fun _ _ _ => rfl), htest, Dev.when_keeps Dev.casc, Dev.when_keeps Dev.casc] <;>
      rfl
  · rw [Dev.when_keeps Dev.casc, Dev.when_keeps Dev.casc] <;> rfl

theorem Dev.firstFail_casc (d : Dev) (t : Nat) (f : Failure) : (d.firstFail t f).casc = d.casc := by
  unfold Dev.firstFail
  split
  · rfl
  · rw [(Dev.logEvent_logs _ t _ _ _ _).rest]
    rfl

theorem Dev.firstFail_resumeDue (d : Dev) (t : Nat) (f : Failure) : (d.firstFail t f).seq.resumeDue = d.seq.resumeDue := by
  unfold Dev.firstFail
  split
  · rfl
  · rw [(Dev.logEvent_logs _ t _ _ _ _).rest]
    rfl

/-- SAFE_ON begins with the common start of the safe set on a device that is in SAFE. -/
theorem Dev.enterSafeOn_starts (d : Dev) (t : Nat) : ∃ (x : Dev) (m : Nat), d.enterSafeOn t = (x.commonStart t m .safeOn).safeCheck t ∧
    x.power.state = .safe ∧ x.seq.resumeDue = d.seq.resumeDue ∧ x.casc = d.casc := by
  have hentered : ∀ x : Dev, ∃ y, (if x.power.state = .safe then x else x.goState t .safe) = y ∧ y.power.state = .safe ∧
      y.seq = x.seq ∧ y.casc = x.casc := fun x => by
    split_ifs with h
    · exact ⟨x, rfl, h, rfl, rfl⟩
    · exact ⟨_, rfl, x.goState_state t .safe, x.goState_seq t .safe, x.goState_casc t .safe⟩
  have hended : ∀ x : Dev, ∃ y, (if x.seq.finalFail ∧ !x.seq.resumeDue then x.endAction 4 .failed 9 else x) = y ∧
      y.power = x.power ∧ y.seq = x.seq ∧ y.casc = x.casc := fun x => by
    split
    · exact ⟨_, rfl, Dev.power_checkFree.endAction x _ _ _, x.endAction_seq _ _ _, Dev.casc_checkFree.endAction x _ _ _⟩
    · exact ⟨x, rfl, rfl, rfl, rfl⟩
  obtain ⟨d1, h1, hp1, hs1, hc1⟩ := hentered d
  obtain ⟨d2, h2, hp2, hs2, hc2⟩ := hended d1
  unfold Dev.enterSafeOn
  rw [h1]
  dsimp only
  rw [h2]
  have hstate : d2.power.state = .safe := (congrArg Power.state hp2 :).trans hp1
  have hresume : d2.seq.resumeDue = d.seq.resumeDue := (congrArg Seq.resumeDue (hs2.trans hs1) :)
  split
  · next f _ =>
    refine ⟨_, _, rfl, ?_, (d2.firstFail_resumeDue t f).trans hresume, (d2.firstFail_casc t f).trans (hc2.trans hc1)⟩
    exact (congrArg Power.state (Dev.firstFail_power (d := d2) (by simp [hstate]) t f) :).trans hstate
  · exact ⟨_, _, rfl, hstate, hresume, hc2.trans hc1⟩

section
variable {d : Dev} (t : Nat)

theorem Dev.SafeOrdered.onCheck (h : d.SafeOrdered) : (d.onCheck t).SafeOrdered := by
  by_cases hdone : d.seq.state = .onOrder ∧ d.onOrderDone
  · have hseq : (d.onCheck t).seq.resumeDue = d.seq.resumeDue ∧ (d.onCheck t).seq.state = .idle := by
      rw [Dev.onCheck, if_pos hdone, Dev.endAction_seq, Dev.wdhOrderDone_seq]
      exact ⟨rfl, rfl⟩
    refine ⟨hseq.1.trans h.resume, .inr ⟨?_, by rw [hseq.2]; rfl⟩⟩
    rw [Dev.power_checkFree.onCheck]
    refine (h.stage.resolve_left fun hoff => ?_).1
    rw [Seq.order_of_not_held (by simp [hdone.1]), hdone.1] at hoff
    cases hoff.1
  · rwa [Dev.onCheck, if_neg hdone]

theorem Dev.SafeOrdered.safeCheck (h : d.SafeOrdered) : (d.safeCheck t).SafeOrdered := by
  by_cases hdone : d.seq.state = .safeOn ∧ d.safeOnDone
  · have hseq : (d.safeCheck t).seq.resumeDue = false ∧ (d.safeCheck t).seq.state = .idle := by
      unfold Dev.safeCheck
      rw [if_pos hdone]
      generalize hx : d.seq' _ = x
      have hdue : x.seq.resumeDue = false ∧ x.seq.state = .idle := hx ▸ ⟨h.resume, rfl⟩
      have haction : (if x.wdh.action = some 2 then x.wdhActionDone else x.wdhOrderDone).seq = x.seq := by
        split
        · exact x.wdhActionDone_seq
        · exact x.wdhOrderDone_seq
      dsimp only
      rw [if_neg, haction]
      · exact hdue
      · rw [haction, hdue.1]
        decide
    refine ⟨hseq.1, .inr ⟨?_, by rw [hseq.2]; rfl⟩⟩
    rw [Dev.power_checkFree.safeCheck _ _ h.resume]
    refine (h.stage.resolve_left fun hoff => ?_).1
    rw [Seq.order_of_not_held (by simp [hdone.1]), hdone.1] at hoff
    cases hoff.1
  · rwa [Dev.safeCheck, if_neg hdone]

/-- The off order that ends leads to SAFE, and leaves the cascade alone. -/
theorem Dev.SafeOrdered.offCheck (h : d.SafeOrdered) : (d.offCheck t).SafeOrdered ∧ (d.offCheck t).casc = d.casc := by
  by_cases hdone : d.seq.state.isOff ∧ d.seq.offTodo = 0 ∧ d.seq.offWait = 0
  · have hafter : (d.seq' fun s => s.sync t).seq.after = .safe := by
      refine (h.stage.resolve_right fun hsafe => ?_).2
      exact Bool.false_ne_true (hsafe.2.symm.trans hdone.1)
    obtain ⟨x, m, hstarts, hstate, hresume, hcasc⟩ :=
      Dev.enterSafeOn_starts ((d.seq' fun s => s.sync t).seq' fun s => { s with after := .idle }) t
    have hdue : (x.commonStart t m .safeOn).seq.resumeDue = false := by
      refine Eq.trans ?_ (hresume.trans h.resume)
      simp only [Dev.commonStart, Dev.seqBegin, Dev.judgeAll, Dev.seq', Seq.sync]
      split <;> rfl
    have hon : (x.commonStart t m .safeOn).SafeOrdered := by
      refine ⟨hdue, .inr ⟨?_, ?_⟩⟩
      · rw [Dev.power_checkFree.commonStart, hstate]
      · simp only [Dev.commonStart, Dev.seqBegin, Dev.judgeAll, Dev.seq', Seq.sync]
        split <;> rfl
    rw [Dev.offCheck, if_pos hdone]
    unfold Dev.offDone
    rw [hafter]
    dsimp only
    rw [hstarts]
    exact ⟨hon.safeCheck t, by rw [Dev.casc_checkFree.safeCheck _ _ hdue, Dev.casc_checkFree.commonStart, hcasc]; rfl⟩
  · rw [Dev.offCheck, if_neg hdone]
    exact ⟨h, rfl⟩

/-- The check of the sequencer lets a unit that has been ordered into SAFE go there, and leaves the cascade alone. -/
theorem Dev.SafeOrdered.seqCheck (h : d.SafeOrdered) :
    ((d.seqCheck t).seq.order = .safeOff ∨ (d.seqCheck t).power.state = .safe) ∧ (d.seqCheck t).casc = d.casc := by
  have hsafe := (h.onCheck t).safeCheck t
  obtain ⟨hoff, hcasc⟩ := hsafe.offCheck t
  unfold Dev.seqCheck
  generalize ((d.onCheck t).safeCheck t).offCheck t = x at hoff hcasc ⊢
  have hkept : x.wdhGroupCheck.SafeOrdered :=
    hoff.of_eq (congrArg Dev.seq x.wdhGroupCheck_rest :) (Dev.power_checkFree.wdhGroupCheck x)
  refine ⟨?_, ?_⟩
  · obtain ⟨horder, -⟩ | ⟨hstate, -⟩ := hkept.stage
    · have hbusy : x.wdhGroupCheck.seq.state ≠ .idle := fun hidle => by
        rw [Seq.order_of_not_held (by simp [hidle]), hidle] at horder
        cases horder
      have hgroup : x.wdhGroupCheck.groupCheck t = x.wdhGroupCheck := if_neg fun h => hbusy h.2
      rw [hgroup, Dev.shipCheck, if_neg fun h => hbusy h.2]
      exact .inl horder
    · rw [Dev.shipCheck_power, Dev.groupCheck_power]
      exact .inr hstate
  · rw [Dev.shipCheck_casc, Dev.casc_checkFree.groupCheck, Dev.casc_checkFree.wdhGroupCheck, hcasc,
      Dev.casc_checkFree.safeCheck _ _ (h.onCheck t).resume, Dev.casc_checkFree.onCheck]

end

/-! ## Off orders that begin (Table 9-3) -/

section
variable (d : Dev) (t mask : Nat) {st : SeqState} (after : AfterOff)

theorem Dev.offBegun_state : (d.offBegun t mask st after).seq.state = .held ∧ (d.offBegun t mask st after).seq.before = st ∨
    (d.offBegun t mask st after).seq.state = st := by
  rw [Dev.offBegun_seq]
  unfold Dev.offSeq Dev.seqBegin
  dsimp only [Dev.seq'_seq]
  split
  · exact .inl ⟨rfl, rfl⟩
  · exact .inr rfl

/-- An off order that has begun is the order in progress, also while nRST holds it. -/
theorem Dev.offBegun_order (hst : st ≠ .held) : (d.offBegun t mask st after).seq.order = st := by
  obtain ⟨hstate, hbefore⟩ | hstate := d.offBegun_state t mask (st := st) after
  · rw [Seq.order, if_pos hstate, hbefore]
  · rw [Seq.order_of_not_held (by rwa [hstate]), hstate]

theorem Dev.offBegun_after : (d.offBegun t mask st after).seq.after = after := (congrArg Seq.after (d.offBegun_seq t mask st after) :)

theorem Dev.offBegun_resumeDue : (d.offBegun t mask st after).seq.resumeDue = d.seq.resumeDue := by
  rw [Dev.offBegun_seq]
  unfold Dev.offSeq Dev.seqBegin
  dsimp only [Dev.seq'_seq]
  split <;> rfl

/-- An off order of SAFE that begins, or is done at once. -/
theorem Dev.beginOff_safeOrdered (h : d.seq.resumeDue = false) : (d.beginOff t mask .safeOff .safe).SafeOrdered ∧
    (d.beginOff t mask .safeOff .safe).casc = d.casc := by
  have hbegun : (d.offBegun t mask .safeOff .safe).SafeOrdered :=
    ⟨(d.offBegun_resumeDue t mask .safe).trans h, .inl ⟨d.offBegun_order t mask .safe (by decide), d.offBegun_after t mask .safe⟩⟩
  obtain ⟨hoff, hcasc⟩ := hbegun.offCheck t
  rw [Dev.beginOff_eq]
  exact ⟨hoff, hcasc.trans (Dev.casc_checkFree.offBegun d t mask _ _)⟩

/-- A sequencer that is not IDLE, and has nothing to move on, waits; WD-H may arm. -/
theorem Dev.seqCheck_waits {d : Dev} {t : Nat} (hidle : d.seq.state ≠ .idle) (hon : d.onCheck t = d) (hsafe : d.safeCheck t = d)
    (hoff : d.offCheck t = d) : d.seqCheck t = d.wdhGroupCheck := by
  have hseq : d.wdhGroupCheck.seq = d.seq := (congrArg Dev.seq d.wdhGroupCheck_rest :)
  have hgroup : d.wdhGroupCheck.groupCheck t = d.wdhGroupCheck := if_neg fun h => hidle (hseq ▸ h.2)
  have hship : d.wdhGroupCheck.shipCheck t = d.wdhGroupCheck := if_neg fun h => hidle (hseq ▸ h.2)
  rw [Dev.seqCheck, hon, hsafe, hoff, hgroup, hship]

/-- An off order that begins, and the check after it: it waits, or is done and what follows it is checked. -/
theorem Dev.beginOff_checked (hst : st.isOff = true) :
    (d.beginOff t mask st after).seqCheck t = (d.offBegun t mask st after).wdhGroupCheck ∨
    ∃ x : Dev, (d.beginOff t mask st after).seqCheck t = (x.offDone t).seqCheck t ∧ x.power = d.power ∧ x.path = d.path ∧
      x.seq.after = after ∧ x.seq.wakeDue = d.seq.wakeDue := by
  obtain h | ⟨x, h, hx⟩ := d.beginOff_cases t mask st after
  · have hne : ∀ {q : SeqState}, q ≠ .held → q.isOff = false → (d.offBegun t mask st after).seq.state ≠ q := fun hq hoff he => by
      obtain ⟨hstate, -⟩ | hstate := d.offBegun_state t mask (st := st) after
      · exact hq (he.symm.trans hstate)
      · rw [← hstate, he, hoff] at hst
        cases hst
    refine .inl ?_
    rw [h]
    exact Dev.seqCheck_waits (hne (by decide) rfl) (if_neg fun hdone => hne (by decide) rfl hdone.1)
      (if_neg fun hdone => hne (by decide) rfl hdone.1) ((d.beginOff_eq t mask st after).symm.trans h)
  · exact .inr ⟨x, by rw [h], hx⟩

end

/-! ## Abort, Standby and Ship (Table 9-3, R31) -/

section
variable (d : Dev) (t mask : Nat)

/-- The off order of ABORT runs, or the unit is in PAUSE. -/
theorem Dev.abort_checked : let d' := (d.beginOff t mask .abort .retry).seqCheck t
    d'.seq.order = .abort ∨ d'.seq.state = .pause := by
  dsimp only
  obtain h | ⟨x, h, -, -, hafter, -⟩ := d.beginOff_checked t mask (st := .abort) .retry rfl <;> rw [h]
  · rw [Dev.wdhGroupCheck_rest]
    exact .inl (d.offBegun_order t mask .retry (by decide))
  · have hpause : (x.offDone t).seq.state = .pause := by
      unfold Dev.offDone
      rw [hafter]
      rfl
    rw [Dev.seqCheck_waits (by simp [hpause]) (if_neg (by simp [hpause])) (if_neg (by simp [hpause]))
      (if_neg (by simp [hpause, SeqState.isOff])), Dev.wdhGroupCheck_rest]
    exact .inr hpause

/-- The end of the off order of a STANDBY entry leaves the sequencer idle where no wake is due. -/
theorem Dev.offDone_standby_state {d : Dev} (hafter : d.seq.after = .standby) (hwake : d.seq.wakeDue = false) :
    (d.offDone t).seq.state = .idle := by
  unfold Dev.offDone
  rw [hafter]
  dsimp only
  generalize hx : (d.endAction 2 .applied 0).seq' _ = x
  have hdue : x.seq.wakeDue = false ∧ x.seq.state = .idle :=
    hx ▸ ⟨(congrArg Seq.wakeDue (d.endAction_seq 2 .applied 0) :).trans hwake, rfl⟩
  rw [if_neg]
  · exact (congrArg Seq.state (x.goState_seq t .standby) :).trans hdue.2
  · exact fun h => Bool.false_ne_true (hdue.1.symm.trans ((congrArg Seq.wakeDue (x.goState_seq t .standby) :).symm.trans h))

/-- A STANDBY entry that begins: its off order runs, or the unit is in STANDBY. -/
theorem Dev.standby_checked (hwake : d.seq.wakeDue = false) : let d' := (d.startStandby t).seqCheck t
    (d'.seq.order = .offOrder ∧ d'.seq.after = .standby) ∨ d'.power.state = .standby := by
  unfold Dev.startStandby
  dsimp only
  obtain h | ⟨x, h, -, -, hafter, hdue⟩ := d.beginOff_checked t (maskDiff allMask d.standbySet) (st := .offOrder) .standby rfl <;> rw [h]
  · rw [Dev.wdhGroupCheck_rest]
    exact .inl ⟨d.offBegun_order t _ .standby (by decide), d.offBegun_after t _ .standby⟩
  · have hidle := Dev.offDone_standby_state t hafter (hdue.trans hwake)
    rw [Dev.seqCheck_power t (by rw [hidle]; exact ⟨rfl, nofun⟩)]
    exact .inr (Dev.offDone_standby t hafter (hdue.trans hwake))

/-- The check of an idle sequencer begins no second ship entry. -/
theorem Dev.seqCheck_path {d : Dev} (hidle : d.seq.state = .idle) (hship : d.path.ship ≠ .none) : (d.seqCheck t).path = d.path := by
  have hg := Dev.path_checkFree
  have hon : d.onCheck t = d := if_neg (by simp [hidle])
  have hsafe : d.safeCheck t = d := if_neg (by simp [hidle])
  have hoff : d.offCheck t = d := if_neg (by simp [hidle, SeqState.isOff])
  have hkept : ∀ x : Dev, x.path.ship ≠ .none → (x.shipCheck t).path = x.path := fun x h => by
    unfold Dev.shipCheck
    split
    · rw [Dev.startShip, if_pos (.inr (.inr (.inl h)))]
      rfl
    · rfl
  have hpath : (d.wdhGroupCheck.groupCheck t).path = d.path := (hg.groupCheck _ t).trans (hg.wdhGroupCheck d)
  rw [Dev.seqCheck, hon, hsafe, hoff, hkept _ (hpath ▸ hship), hpath]

/-- A ship entry that nothing blocks: its off order runs, or its commits follow. -/
theorem Dev.ship_checked {d : Dev} (hdcin : d.path.dcinValid = false) (hsafe : d.enteringSafe = false) (hship : d.path.ship = .none)
    (hon : d.inRun = true ∨ d.power.state = .safe) : let d' := (d.startShip t).seqCheck t
    d'.path.ship = .offOrder ∨ d'.path.ship = .committing := by
  unfold Dev.startShip
  rw [if_neg (by simpa [hdcin, hsafe, hship] using fun h => hon.resolve_left (by simp [h]))]
  dsimp only
  generalize hx : Dev.path' _ _ = x
  have hship' : x.path.ship = .offOrder := hx ▸ rfl
  obtain h | ⟨y, h, -, -, hafter, -⟩ := x.beginOff_checked t allMask (st := .offOrder) .ship rfl <;> rw [h]
  · rw [Dev.path_checkFree.wdhGroupCheck, Dev.offBegun_path]
    exact .inl hship'
  · have hcommits := (Dev.offDone_ship t hafter).1
    have hidle : (y.offDone t).seq.state = .idle := by
      unfold Dev.offDone
      rw [hafter]
      rfl
    rw [Dev.seqCheck_path t hidle (by simp [hcommits])]
    exact .inr hcommits

end

end Sys2Proof.Machine
end

section
/-!
PROOFS. The master's orders at a slave (R268, R271, Table 10-7).
-/
namespace Sys2Proof.Machine

/-! ## What the cascade keeps -/

/-- Beside a change of the cascade, `still` says what is left alone. -/
theorem Dev.still_but_casc {d d' : Dev} {k : Cascade} (h : d'.still = { d with casc := k }.still) :
    d'.still = { d with casc := d'.casc }.still := congrArg (fun x : Dev => { x with casc := d'.casc.still }) h

theorem Dev.lastTag_of_still {d d' : Dev} (h : d'.still = d.still) : d'.casc.lastTag = d.casc.lastTag :=
  (congrArg (fun x : Dev => x.casc.lastTag) h :)

theorem Dev.slaves_of_still {d d' : Dev} (h : d'.still = d.still) : d'.casc.slaves = d.casc.slaves :=
  (congrArg (fun x : Dev => x.casc.slaves) h :)

/-! ## Each order (Table 10-7) -/

section
variable {d : Dev} {tag : Nat} (t : Nat)

/-- An order that has been carried out, or is not this unit's, changes nothing. -/
theorem Dev.orders_untaken (h : d.takesOrder tag = false) : d.startOrder tag = d ∧ d.abortOrder tag t = d ∧ d.safeOrder tag t = d ∧
    d.standbyOrder tag t = d ∧ d.shipOrder tag t = d := by
  have hno : ¬ d.takesOrder tag = true := by simp [h]
  have hnot : (!d.takesOrder tag) = true := by simp [h]
  exact ⟨if_neg hno, if_pos hnot, if_pos hnot, if_pos hnot, if_pos hnot⟩

variable (htakes : d.takesOrder tag = true)
include htakes

theorem Dev.startOrder_taken : d.startOrder tag = (d.orderTaken tag).casc' fun c =>
    { c with startArmed := true, lastFail := (0xFF, 0) } := if_pos htakes

theorem Dev.abortOrder_onOrder (hstate : d.seq.state = .onOrder) : d.abortOrder tag t =
    ((d.orderTaken tag).beginOff t (maskDiff allMask (d.orderTaken tag).standbySet) .abort .retry).seqCheck t := by
  unfold Dev.abortOrder
  rw [if_neg (by simp [htakes])]
  exact if_pos (.inl hstate)

theorem Dev.abortOrder_pause (hstate : d.seq.state = .pause) : d.abortOrder tag t = d.orderTaken tag := by
  have hother : ¬((d.orderTaken tag).seq.state = .onOrder ∨ (d.orderTaken tag).seq.state = .idle) := by
    rw [show (d.orderTaken tag).seq = d.seq from rfl, hstate]
    decide
  unfold Dev.abortOrder
  rw [if_neg (by simp [htakes])]
  exact if_neg hother

/-- Safe abandons the actions in progress and begins SAFE_OFF. -/
theorem Dev.safeOrder_begins (hstate : d.power.state ≠ .safe) (hseq : d.seq.state = .idle) : ∃ (x : Dev) (m : Nat),
    d.safeOrder tag t = (x.beginOff t m .safeOff .safe).seqCheck t ∧ x.seq.resumeDue = false ∧ x.still = (d.orderTaken tag).still := by
  unfold Dev.safeOrder
  rw [if_neg (by simp [htakes])]
  dsimp only
  generalize hx : Dev.seq' (Dev.casc' (d.orderTaken tag) _) _ = x
  have hkept : x.power = d.power ∧ x.seq.state = d.seq.state ∧ x.still = (d.orderTaken tag).still := hx ▸ ⟨rfl, rfl, rfl⟩
  obtain ⟨hpower, hsame, hstill⟩ := hkept
  rw [if_neg (by simp [hpower, hstate, hsame, hseq])]
  refine ⟨_, _, rfl, ?_, (x.abandonActions.seq'_still _).trans (x.abandonActions_still.trans hstill)⟩
  rw [Dev.seq'_seq, Dev.abandonActions_seq]

theorem Dev.standbyOrder_begins (hadmitted : d.actionRefused 2 = none) :
    d.standbyOrder tag t = ((d.orderTaken tag).startStandby t).seqCheck t := by
  have hadmitted' : (d.orderTaken tag).actionRefused 2 = none := hadmitted
  unfold Dev.standbyOrder
  rw [if_neg (by simp [htakes])]
  exact if_neg (by simp [hadmitted'])

theorem Dev.shipOrder_begins (hadmitted : d.actionRefused 3 = none) :
    d.shipOrder tag t = ((d.orderTaken tag).startShip t).seqCheck t := by
  have hadmitted' : (d.orderTaken tag).actionRefused 3 = none := hadmitted
  unfold Dev.shipOrder
  rw [if_neg (by simp [htakes])]
  exact if_neg (by simp [hadmitted'])

end

/-- Settles O46: an order whose tag is the last one carried out does nothing; another is noted and begins the off order of
Table 10-7, which waits, is held, or is done at once. -/
theorem ordersComplete : Obligations.OrdersComplete := by
  intro s tag hon
  have hframe : ∀ d : Dev, d.still = (s.b.d.orderTaken tag).still →
      d.still = { s.b.d with casc := { s.b.d.casc with lastTag := tag % 256 } }.still ∧ d.casc.lastTag = tag % 256 :=
    fun d h => ⟨h, Dev.lastTag_of_still h⟩
  refine ⟨fun hno c hc => ?_, fun htakes => ⟨?_, fun hstate => ?_, fun hstate => ?_, fun hrun hidle => ?_, fun hadmitted hwake => ?_,
    fun hadmitted horder => ?_⟩⟩
  · obtain ⟨hstart, habort, hsafe, hstandby, hship⟩ := Dev.orders_untaken s.b.hw.counter hno
    simp only [List.mem_cons, List.not_mem_nil, or_false] at hc
    obtain rfl | rfl | rfl | rfl | rfl := hc
    · exact Gives.of_core rfl hon hstart
    · exact Gives.of_core rfl hon habort
    · exact Gives.of_core rfl hon hsafe
    · exact Gives.of_core rfl hon hstandby
    · exact Gives.of_core rfl hon hship
  · refine Gives.of_core rfl hon ?_
    exact Dev.startOrder_taken htakes
  · refine Gives.of_core rfl hon ?_
    rw [Dev.abortOrder_onOrder s.b.hw.counter htakes hstate]
    obtain ⟨hstill, htag⟩ := hframe _ ((Dev.seqCheck_still _ _).trans (Dev.beginOff_still _ _ _ _ _))
    refine ⟨htag, ?_, hstill⟩
    obtain h | h := Dev.abort_checked (s.b.d.orderTaken tag) s.b.hw.counter _
    · exact .inl h
    · exact .inr ((Seq.order_of_not_held (by simp [h])).trans h)
  · refine Gives.of_core rfl hon ?_
    exact Dev.abortOrder_pause s.b.hw.counter htakes hstate
  · refine Gives.of_core rfl hon ?_
    obtain ⟨x, m, h, hresume, hstill⟩ := Dev.safeOrder_begins s.b.hw.counter htakes (by simp [hrun]) hidle
    rw [h]
    obtain ⟨hstill', htag⟩ := hframe _ ((Dev.seqCheck_still _ _).trans ((Dev.beginOff_still _ _ _ _ _).trans hstill))
    exact ⟨htag, ((x.beginOff_safeOrdered s.b.hw.counter m hresume).1.seqCheck s.b.hw.counter).1, hstill'⟩
  · refine Gives.of_core rfl hon ?_
    rw [Dev.standbyOrder_begins s.b.hw.counter htakes hadmitted]
    obtain ⟨hstill, htag⟩ := hframe _ ((Dev.seqCheck_still _ _).trans (Dev.startStandby_still _ _))
    exact ⟨Dev.still_but_casc hstill, htag, Dev.standby_checked (s.b.d.orderTaken tag) s.b.hw.counter hwake⟩
  · refine Gives.of_core rfl hon ?_
    obtain ⟨hdcin, hrun, -, hship⟩ := Dev.shipAdmitted hadmitted
    rw [Dev.shipOrder_begins s.b.hw.counter htakes hadmitted]
    obtain ⟨hstill, htag⟩ := hframe _ ((Dev.seqCheck_still _ _).trans (Dev.startShip_still _ _))
    exact ⟨Dev.still_but_casc hstill, htag,
      Dev.ship_checked (d := s.b.d.orderTaken tag) s.b.hw.counter hdcin (decide_eq_false horder) hship hrun⟩

end Sys2Proof.Machine
end

section
/-!
PROOFS. CSYNC and the supervision of the cascade link (R262, R269, R273, R274, R276 to R279, R287).
-/
namespace Sys2Proof.Machine

/-! ## A quiet sequencer

It stands idle with nothing due, and the device is not in STANDBY: a source that does not escalate at once is only recorded. -/

namespace Quiet
variable {d d' : Dev} (h : Quiet d)
include h

theorem of_eq (hseq : d'.seq = d.seq) (hpower : d'.power = d.power) : Quiet d' := by
  rwa [Quiet, hseq, hpower]

theorem of_logs {t : Nat} (hlogs : d.Logs t d') : Quiet d' := by
  obtain ⟨hidle, hgroup, hship, hstate⟩ := h
  have hseq : d'.seq = d.seq := (congrArg Dev.seq hlogs.rest :)
  refine ⟨by rw [hseq, hidle], by rw [hseq, hgroup], by rw [hseq, hship], ?_⟩
  obtain hp | hp := hlogs.power <;> rw [hp]
  · exact hstate
  · unfold Power.leaveIdle
    split
    · exact (nofun : PState.run ≠ .standby)
    · exact hstate

theorem wake (t source : Nat) : d.wake t source = d := by
  obtain ⟨hidle, -, -, hstate⟩ := h
  simp [Dev.wake, hstate, Seq.order, hidle]

theorem faultWake (t src : Nat) : d.faultWake t src = d := by
  unfold Dev.faultWake Dev.when
  split
  · exact h.wake t 6
  · rfl

theorem raise {src : Nat} (hclass : sourceClass src ≠ classF) (t reason : Nat) : d.Logs t (d.raise t src reason) := by
  unfold Dev.raise Dev.raiseAs
  split_ifs
  · exact ⟨rfl, .inl rfl⟩
  · rw [h.faultWake]
    exact ⟨rfl, .inl rfl⟩
  · obtain ⟨f, n, hrecord⟩ := d.record_eq t src reason false
    have hlogs : d.Logs t (d.record t src reason false) := by
      rw [hrecord]
      exact ⟨rfl, .inr rfl⟩
    dsimp only
    rw [if_neg hclass, (h.of_logs hlogs).faultWake]
    exact hlogs

/-- The check of the sequencer finds nothing to move on; WD-H may arm. -/
theorem seqCheck (t : Nat) : d.seqCheck t = d.wdhGroupCheck := by
  obtain ⟨hidle, hgroup, hship, -⟩ := h
  have hon : d.onCheck t = d := if_neg (by simp [hidle])
  have hsafe : d.safeCheck t = d := if_neg (by simp [hidle])
  have hoff : d.offCheck t = d := if_neg (by simp [hidle, SeqState.isOff])
  have hseq : d.wdhGroupCheck.seq = d.seq := (congrArg Dev.seq d.wdhGroupCheck_rest :)
  have hgroup' : d.wdhGroupCheck.groupCheck t = d.wdhGroupCheck := if_neg (by simp [hseq, hgroup])
  have hship' : d.wdhGroupCheck.shipCheck t = d.wdhGroupCheck := if_neg (by simp [hseq, hship])
  rw [Dev.seqCheck, hon, hsafe, hoff, hgroup', hship']

end Quiet

/-! ## A fault of the link (R287) -/

section
variable (d : Dev) (t reason : Nat)

theorem Dev.linkFault_sticky : (d.linkFault t reason).sticky 112 = true :=
  (Dev.seqCheck_sticky _ _ _).trans (Dev.raise_sticky _ _ _ _ (by decide))

theorem Dev.linkFault_still : (d.linkFault t reason).still = { d with casc := { d.casc with linkReason := reason } }.still :=
  (Dev.seqCheck_still _ _).trans (Dev.raise_still _ _ _ _)

/-- FS112 of a quiet unit is recorded with its reason, and WD-H may arm. -/
theorem Quiet.linkFault_rest {d : Dev} (h : Quiet d) : let d' := d.linkFault t reason
    (d'.power = d.power ∨ d'.power = d.power.leaveIdle t) ∧ d' = { d with
      power := d'.power, casc := { d.casc with linkReason := reason }, wdh := d'.wdh, faults := d'.faults, nv := d'.nv } := by
  have hnoted : Quiet (d.casc' fun c => { c with linkReason := reason }) := h
  have hlogs := hnoted.raise (src := 112) (by decide) t reason
  have hcheck : d.linkFault t reason = Dev.wdhGroupCheck _ := (hnoted.of_logs hlogs).seqCheck t
  dsimp only
  rw [hcheck, Dev.wdhGroupCheck_rest]
  refine ⟨hlogs.power, ?_⟩
  exact congrArg (fun x : Dev => { x with wdh := ((d.casc' fun c => { c with linkReason := reason }).raise t 112 reason).wdhGroupCheck.wdh })
    hlogs.rest

end

/-! ## A reaction of SAFE (R245, R279, R439) -/

/-- The end of a prepare in progress leaves the order that the beacon carries. -/
theorem Dev.abortTxn_order (d : Dev) (detail : Nat) :
    (d.abortTxn detail).casc.order = d.casc.order ∧ (d.abortTxn detail).casc.orderTag = d.casc.orderTag := by
  unfold Dev.abortTxn
  split
  · exact ⟨rfl, rfl⟩
  · split
    · exact ⟨rfl, rfl⟩
    · dsimp only
      split
      · rw [Dev.casc_checkFree.endEntry]
        exact ⟨rfl, rfl⟩
      · exact ⟨rfl, rfl⟩

/-- A master's order has a new tag, and the beacon repeats it (R266). -/
theorem Dev.issueOrder_master {d : Dev} (h : d.casc.role = 1) (order : Nat) :
    (d.issueOrder order).casc.order = order ∧ (d.issueOrder order).casc.orderTag = (d.casc.orderTag + 1) % 256 := by
  have htag : (if 3 ≤ order then d.abortTxn 0x0B else d).casc.orderTag = d.casc.orderTag := by
    split
    · exact (d.abortTxn_order 0x0B).2
    · rfl
  rw [Dev.issueOrder, if_pos h]
  generalize (if 3 ≤ order then d.abortTxn 0x0B else d) = x at htag ⊢
  exact ⟨rfl, congrArg (fun n => (n + 1) % 256) htag⟩

theorem Dev.abandonActions_casc (d : Dev) : d.abandonActions.casc = d.casc := by
  have hg := Dev.casc_checkFree
  unfold Dev.abandonActions
  rw [Dev.seq'_casc, Dev.path'_casc, hg.endAction, hg.endAction, hg.endAction]

/-- On a unit in RUN with an idle sequencer, and no link to ask the master by, a reaction of SAFE begins SAFE_OFF; a master issues
the order to every unit. -/
theorem Dev.safeReaction_safeOrdered {d : Dev} (hship : d.path.ship ≠ .pastReturn) (hslave : d.slaveJoined = false)
    (hrun : d.power.state = .run) (hidle : d.seq.state = .idle) (t : Nat) (cause : Failure) :
    (d.safeReaction t cause).SafeOrdered ∧ (d.casc.role = 1 → (d.safeReaction t cause).casc.order = 3 ∧
      (d.safeReaction t cause).casc.orderTag = (d.casc.orderTag + 1) % 256) := by
  unfold Dev.safeReaction
  rw [if_neg hship, if_neg (by simp [hslave]), if_neg (by simp [hrun, Dev.enteringSafe, Seq.order, hidle])]
  dsimp only
  generalize hx : d.abandonActions.seq' _ = x
  have hcasc : x.casc = d.casc := by rw [← hx, Dev.seq'_casc, Dev.abandonActions_casc]
  have hresume : (x.issueOrder 3).seq.resumeDue = false := by
    rw [Dev.issueOrder_seq, ← hx, Dev.seq'_seq, Dev.abandonActions_seq]
  obtain ⟨hordered, hkept⟩ := (x.issueOrder 3).beginOff_safeOrdered t
    (maskDiff allMask (x.standbySet ||| x.safeSet)) hresume
  refine ⟨hordered, fun hrole => ?_⟩
  rw [hkept, ← hcasc]
  exact Dev.issueOrder_master (hcasc ▸ hrole) 3

/-! ## The start pulse (R269) -/

/-- A slave with a new run: no attempt, no start and no failure counted. -/
def Dev.newPulse (d : Dev) : Dev :=
  (d.seq' fun s => { s with startDue := false, attempt := 0, starts := 0, failed := 0, held := none }).judgeAll fun j =>
    { j with failed := false }

section
variable {d : Dev} {ns : Nat} (t : Nat)

theorem Dev.startPulse_ignored (h : ns < 2000 ∨ 8000 < ns ∨ d.casc.announced = false) : d.startPulse ns t = d :=
  if_pos (by simpa [or_assoc] using h)

/-- A common start with a member begins with every slot to come. -/
theorem Dev.commonStart_slotsRemain (hmembers : d.members ≠ 0) (hnrst : d.power.nrstLow = false) :
    (d.commonStart t d.members .onOrder).SlotsRemain := by
  refine ⟨.inl (congrArg Seq.state (d.seqBegin_seq t .onOrder hnrst) :), ?_⟩
  have htodo : (d.commonStart t d.members .onOrder).seqTodo = d.members &&& (d.commonStart t d.members .onOrder).members := rfl
  rw [htodo, Dev.members_of_dict (Dev.commonStart_dict _ _ _ _), Nat.and_self]
  exact hmembers

theorem Dev.commonStart_seq (hnrst : d.power.nrstLow = false) (hholds : d.tapHolds = false) (m : Nat) :
    (d.commonStart t m .onOrder).seq = { d.seq.sync t with
      state := .onOrder, members := m, todo := m, timerUs := 0, awaitPulse := false, tapWait := false, starts := d.seq.starts + 1 } := by
  have hstart : (d.commonStart t m .onOrder).seq = { (d.seqBegin t .onOrder).seq with
      members := m, todo := m, timerUs := 0, awaitPulse := false, tapWait := d.tapHolds
      starts := (d.seqBegin t .onOrder).seq.starts + 1 } := rfl
  rw [hstart, d.seqBegin_seq t .onOrder hnrst, hholds]
  rfl

/-- The common start at the pulse: its members wait for their slots, and WD-H may arm. -/
theorem Dev.pulsed_spec (f : Cascade → Cascade) (hmembers : d.members ≠ 0) (hnrst : d.power.nrstLow = false)
    (hholds : d.tapHolds = false) :
    let d' := (((d.commonStart t d.members .onOrder).casc' f).seq' fun s => { s with cascade := true }).seqCheck t
    d'.still = { d with casc := f d.casc }.still ∧ d'.casc = f d.casc ∧ d'.grove = d.grove ∧ d'.integ = d.integ ∧
      d'.seq = { d.seq.sync t with
        state := .onOrder, members := d.members, todo := d.members, timerUs := 0, awaitPulse := false, tapWait := false
        starts := d.seq.starts + 1, cascade := true } := by
  have hg : Dev.CheckFree fun d => (d.casc, d.grove, d.integ) :=
    ⟨fun _ _ => rfl, fun _ _ => rfl, fun _ _ => rfl, fun _ _ => rfl⟩
  have hkept := hg.commonStart d t d.members .onOrder
  have hstill := d.commonStart_still t d.members .onOrder
  have hslots := Dev.commonStart_slotsRemain t hmembers hnrst
  have hseq := Dev.commonStart_seq t hnrst hholds d.members
  dsimp only
  generalize d.commonStart t d.members .onOrder = x at hkept hstill hslots hseq ⊢
  simp only [Prod.mk.injEq] at hkept
  obtain ⟨hcasc, hgrove, hinteg⟩ := hkept
  have hslots' : ((x.casc' f).seq' fun s => { s with cascade := true }).SlotsRemain := hslots
  refine ⟨?_, ?_⟩
  · rw [Dev.seqCheck_still, ← hcasc]
    exact congrArg (fun y : Dev => { y with casc := (f x.casc).still }) hstill
  · rw [hslots'.seqCheck, Dev.wdhGroupCheck_rest, ← hcasc, ← hgrove, ← hinteg]
    exact ⟨rfl, rfl, rfl, congrArg (fun s : Seq => { s with cascade := true }) hseq⟩

variable (hlong : 2000 ≤ ns) (hshort : ns ≤ 8000) (hannounced : d.casc.announced = true)
include hlong hshort hannounced

theorem Dev.startPulse_master (hrole : d.casc.role = 1) (hawait : d.seq.awaitPulse = true) (hmissing : d.missingSlaves = []) :
    d.startPulse ns t = (((d.commonStart t d.members .onOrder).casc' fun c => { c with
      announced := false, starts := satInc 32 c.starts, slaves := c.slaves.map fun x => { x with idle := false } }).seq' fun s =>
        { s with cascade := true }).seqCheck t := by
  have hpresent : ∀ (x : Dev), x.missingSlaves = d.missingSlaves →
      (x.missingSlaves.foldl (Dev.silentUnit t) x).seqCheck t = x.seqCheck t := fun x hx => by
    rw [hx, hmissing]
    rfl
  unfold Dev.startPulse
  rw [if_neg (by simp [hlong, hshort, hannounced]), if_pos hrole, if_neg (by simp [hawait])]
  refine hpresent _ ?_
  unfold Dev.missingSlaves
  refine congrArg (fun p => List.filter p (List.finRange 8)) (funext fun u => ?_)
  simp [Dev.commonStart, Dev.seqBegin, Dev.judgeAll, Dev.seq', Dev.casc']

/-- A slave in RUN that has nothing to retry begins a new run. -/
theorem Dev.startPulse_slave (hrole : d.casc.role = 2) (harmed : d.casc.startArmed = true) (hrun : d.power.state = .run)
    (hidle : d.seq.state = .idle) : d.startPulse ns t = (((d.newPulse.commonStart t d.newPulse.members .onOrder).casc' fun c => { c with
      announced := false, startArmed := false, starts := satInc 32 c.starts }).seq' fun s => { s with cascade := true }).seqCheck t := by
  have hbegins : d.slaveStart t = d.newPulse.commonStart t d.newPulse.members .onOrder := by
    unfold Dev.slaveStart
    simp only [hrun, hidle, reduceCtorEq, if_false]
    rfl
  unfold Dev.startPulse
  rw [if_neg (by simp [hlong, hshort, hannounced]), if_neg (by simp [hrole]), if_pos (by simp [hrole, harmed, hidle, hrun, Dev.inRun]), hbegins]

end

end Sys2Proof.Machine
end

section
/-!
PROOFS. The loss of a slave, the join timeout, and the statement about supervision (R262, R276 to R279, R287).
-/
namespace Sys2Proof.Machine

/-! ## A slave that is lost (R243, R277, R284) -/

section
variable (d : Dev)

theorem Dev.unitOutcome_keeps {β : Type} (g : Dev → β) (hentry : ∀ d i f, g (Dev.entry' d i f) = g d) (hsettle : ∀ d : Dev, g d.settle = g d)
    (htxn : ∀ (d : Dev) (f : Cascade → Option Txn), g (d.casc' fun c => { c with txn := f c }) = g d) (u tag mask : Nat) :
    g (d.unitOutcome u tag mask) = g d := by
  unfold Dev.unitOutcome
  split
  · rfl
  · exact (hsettle _).trans ((htxn _ _).trans (hentry d _ _))

theorem Dev.txnLost_keeps {β : Type} (g : Dev → β) (hentry : ∀ d i f, g (Dev.entry' d i f) = g d) (hsettle : ∀ d : Dev, g d.settle = g d)
    (htxn : ∀ (d : Dev) (f : Cascade → Option Txn), g (d.casc' fun c => { c with txn := f c }) = g d) (u : Nat) : g (d.txnLost u) = g d := by
  unfold Dev.txnLost
  split
  · split
    · split
      · exact (Dev.unitOutcome_keeps _ g hentry hsettle htxn _ _ _).trans (hentry d _ _)
      · rfl
    · rfl
  · rfl

/-- A unit that is lost changes the journal, and the master's transaction. -/
theorem Dev.txnLost_src (u : Nat) : (d.txnLost u).faults.src = d.faults.src :=
  d.txnLost_keeps (fun d => d.faults.src) (fun _ _ _ => rfl) Dev.settle_src (fun _ _ => rfl) u

theorem Dev.silentUnit_still (t : Nat) (u : Unit8) : (Dev.silentUnit t d u).still = d.still := by
  unfold Dev.silentUnit
  split
  · exact d.failedStart_still t _ _ _
  · rfl

theorem Dev.silentUnit_kept (t : Nat) (u : Unit8) : d.Kept (Dev.silentUnit t d u) := by
  unfold Dev.silentUnit
  split
  · exact d.failedStartAs_kept t _
  · exact .refl d

theorem Dev.txnLost_still (u : Nat) : (d.txnLost u).still = d.still :=
  d.txnLost_keeps Dev.still (fun _ _ _ => rfl) Dev.settle_still (fun _ _ => rfl) u

/-- The view of a slave that is lost, and the messages without those for it. -/
def Cascade.without (c : Cascade) (u : Unit8) : Cascade :=
  { c with
    slaves := upd c.slaves u fun x => { x with present := false, lost := true, valid := 0, safeReq := false, fstart := false }
    messages := c.messages.filter fun m => m.addr ≠ u.val }

variable {d}

theorem Dev.slaveLost_spec {u : Unit8} {n : Nat} (hmaster : d.isMaster = true) (hpresent : d.casc.slaves[u].present = true) (hn : 3 ≤ n)
    (t : Nat) : (d.slaveLost u n t).still = { d with casc := d.casc.without u }.still ∧ (d.slaveLost u n t).sticky 113 = true := by
  have hsilent : ∀ (x : Dev) (c : Prop) [Decidable c], (if c then x else Dev.silentUnit t x u).still = x.still ∧
      x.Kept (if c then x else Dev.silentUnit t x u) := fun x c _ => by
    split
    · exact ⟨rfl, .refl x⟩
    · exact ⟨x.silentUnit_still t u, x.silentUnit_kept t u⟩
  unfold Dev.slaveLost
  rw [if_neg (by rw [hmaster, hpresent]; simpa using hn)]
  dsimp only
  obtain ⟨hstill, hkept⟩ := hsilent ((Dev.raise { d with casc := d.casc.without u } t 113 0).txnLost u.val) (d.casc.slaves[u].members = 0)
  refine ⟨(Dev.seqCheck_still _ t).trans (hstill.trans ((Dev.txnLost_still _ _).trans (Dev.raise_still _ _ _ _))), ?_⟩
  rw [Dev.seqCheck_sticky]
  refine hkept.sticky ?_
  rw [Dev.sticky_of_src (Dev.txnLost_src _ _)]
  exact Dev.raise_sticky _ _ _ _ (by decide)

theorem Cascade.without_slaves (c : Cascade) (u v : Unit8) : (c.without u).slaves[v] = if u = v then
    { c.slaves[v] with present := false, lost := true, valid := 0, safeReq := false, fstart := false } else c.slaves[v] :=
  upd_get _ _ _ _

end

/-! ## A reading of the trunk that is not new (R152) -/

section
variable (d : Dev) (t : Nat)

/-- The free values drawn, while the trunk is up. -/
def Dev.drawnAlive : Nat := if d.path.vsysMv = 0 then 0 else d.free

theorem Dev.readTrunk_drawnAlive (mv : Nat) : (d.readTrunk t mv).drawnAlive = (d.path' fun p => { p with vsysMv := mv }).drawnAlive := by
  refine Dev.readTrunk_keeps Dev.drawnAlive (fun d => ?_) (fun d r => ?_) (fun d t r o => ?_) d t mv
  · unfold Dev.chgReading
    split <;> rfl
  · unfold Dev.updateFeedForward
    split_ifs with _ hdead
    · rfl
    · rw [Dev.drawnAlive, Dev.drawnAlive, if_pos hdead]
      exact if_pos hdead
    · rfl
  · unfold Dev.drawnAlive
    rw [(d.abortTuning_recordsOnly t r o).rest]

/-- The trunk at its last reading, which is not 0 V, leaves everything but the feed-forward and the tuning run. -/
theorem Dev.readTrunk_still (h : d.path.vsysMv ≠ 0) : (d.readTrunk t d.path.vsysMv).still = d.still := by
  have hfree : (d.readTrunk t d.path.vsysMv).free = d.free := by
    have hdrawn := d.readTrunk_drawnAlive t d.path.vsysMv
    unfold Dev.drawnAlive at hdrawn
    rwa [Dev.readTrunk_path, if_neg h, Dev.path'_path, if_neg h] at hdrawn
  have hstill := Dev.still_of_undrawn (d.readTrunk_undrawn t d.path.vsysMv)
  rw [hfree] at hstill
  exact hstill

/-- What decides whether a common start begins, but for the power state. -/
def Dev.startReads : Seq × Cascade × Otp × Tap := (d.seq, d.casc, d.otp, d.tap)

theorem Dev.readTrunk_startReads (mv : Nat) : (d.readTrunk t mv).startReads = d.startReads := by
  refine Dev.readTrunk_keeps Dev.startReads (fun d => ?_) (Dev.updateFeedForward_keeps _ (fun _ _ _ => rfl) fun _ => rfl)
    (fun d t r o => ?_) d t mv
  · unfold Dev.chgReading
    split <;> rfl
  · unfold Dev.startReads
    rw [(d.abortTuning_recordsOnly t r o).rest]

theorem Power.leaveIdle_runs (p : Power) : ((p.leaveIdle t).state = .run ∨ (p.leaveIdle t).state = .idle) =
    (p.state = .run ∨ p.state = .idle) := by
  unfold Power.leaveIdle
  split <;> simp_all

theorem Dev.readTrunk_inRun (mv : Nat) : (d.readTrunk t mv).inRun = d.inRun := by
  refine Dev.readTrunk_keeps Dev.inRun (fun d => ?_) (Dev.updateFeedForward_keeps _ (fun _ _ _ => rfl) fun _ => rfl)
    (fun d t r o => ?_) d t mv
  · unfold Dev.chgReading
    split <;> rfl
  · unfold Dev.inRun
    obtain h | h := (d.abortTuning_recordsOnly t r o).power <;> rw [h]
    simp [← Bool.decide_or, Power.leaveIdle_runs]

theorem Dev.readTrunk_nrst (mv : Nat) : (d.readTrunk t mv).power.nrstLow = d.power.nrstLow := by
  refine Dev.readTrunk_keeps (fun d => d.power.nrstLow) (fun d => ?_)
    (Dev.updateFeedForward_keeps (fun d => d.power.nrstLow) (fun _ _ _ => rfl) fun _ => rfl) (fun d t r o => ?_) d t mv
  · unfold Dev.chgReading
    split <;> rfl
  · obtain h | h := (d.abortTuning_recordsOnly t r o).power <;> rw [h]
    unfold Power.leaveIdle
    split <;> rfl

end

/-! ## The join timeout (R269) -/

section
variable {d : Dev} (t : Nat)

/-- A master that begins a new run announces a Start, and waits for its pulse. -/
theorem Dev.newRun_announces (hrole : d.casc.role = 1) (hnrst : d.power.nrstLow = false) : let d' := (d.newRun t).seqCheck t
    d'.casc.joinDone = d.casc.joinDone ∧ d'.casc.order = 1 ∧ d'.casc.orderTag = (d.casc.orderTag + 1) % 256 ∧
      d'.seq.awaitPulse = true ∧ d'.seq.startDue = d.seq.startDue ∧ d'.seq.state = .onOrder := by
  unfold Dev.newRun Dev.startFull
  dsimp only
  rw [if_neg (by simp [hrole]), if_pos (by simp [hrole])]
  generalize hx : Dev.seq' (Dev.seqBegin _ _ _) _ = x
  have hcasc : x.casc = d.casc := hx ▸ rfl
  have hseq : x.seq.state = .onOrder ∧ x.seq.awaitPulse = true ∧ x.seq.startDue = d.seq.startDue := by
    rw [← hx]
    simp [Dev.seqBegin, hnrst, Seq.sync]
  obtain ⟨hstate, hawait, hdue⟩ := hseq
  have hissued : x.issueOrder 1 = x.casc' fun c => { c with order := 1, orderTag := (c.orderTag + 1) % 256 } :=
    if_pos (hcasc ▸ hrole)
  have hwaits : (x.issueOrder 1).seqCheck t = (x.issueOrder 1).wdhGroupCheck := by
    rw [hissued]
    exact Dev.seqCheck_waits (by simp [hstate]) (if_neg fun h => by simp [Dev.onOrderDone, hawait] at h)
      (if_neg (by simp [hstate])) (if_neg (by simp [hstate, SeqState.isOff]))
  rw [hwaits, Dev.wdhGroupCheck_rest, hissued, ← hcasc]
  exact ⟨rfl, rfl, rfl, hawait, hdue, hstate⟩

theorem Dev.joinTimeout_starts {ms : Nat} (hrole : d.casc.role = 1) (hdue : d.seq.startDue = true) (hms : d.nat 0x2380 2 ≤ ms)
    (hboard : d.otp.boardOk = true) (htrunk : 17000 ≤ d.path.vsysMv) (hrun : d.inRun = true) (hidle : d.seq.state = .idle)
    (htap : d.seq.tapWait = false) (hholds : d.tapHolds = false) (hnrst : d.power.nrstLow = false) : let d' := d.joinTimeout ms t
    d'.still = d.still ∧ d'.casc.joinDone = true ∧ d'.casc.order = 1 ∧ d'.casc.orderTag = (d.casc.orderTag + 1) % 256 ∧
      d'.seq.awaitPulse = true ∧ d'.seq.startDue = false ∧ d'.seq.state = .onOrder := by
  unfold Dev.joinTimeout Dev.firstStart
  rw [if_neg (by simpa [hrole, hdue] using hms)]
  generalize he : (d.casc' fun c => { c with joinDone := true }) = e
  have hreads : (e.readTrunk t d.path.vsysMv).startReads = e.startReads := e.readTrunk_startReads t _
  have hstill : (e.readTrunk t d.path.vsysMv).still = d.still := by
    rw [← he]
    exact Dev.readTrunk_still (d.casc' fun c => { c with joinDone := true }) t (by simp only [Dev.casc'_path]; omega)
  have hinRun : (e.readTrunk t d.path.vsysMv).inRun = true := by
    rw [Dev.readTrunk_inRun, ← he]
    exact hrun
  have hlow : (e.readTrunk t d.path.vsysMv).power.nrstLow = false := by
    rw [Dev.readTrunk_nrst, ← he]
    exact hnrst
  dsimp only
  generalize e.readTrunk t d.path.vsysMv = x at hreads hstill hinRun hlow ⊢
  subst he
  simp only [Dev.startReads, Prod.mk.injEq] at hreads
  obtain ⟨hseq, hcasc, hotp, htapx⟩ := hreads
  have hholdsx : x.tapHolds = false := by
    unfold Dev.tapHolds
    rw [htapx]
    exact hholds
  rw [if_neg (by simp [hseq, htap]), if_neg (by simp [hseq, hcasc, hotp, hdue, hboard, htrunk, hinRun, hidle, hholdsx])]
  generalize hy : Dev.casc' _ _ = y
  have hyrole : y.casc.role = 1 := by
    rw [← hy, Dev.casc'_casc, Dev.seq'_casc, hcasc]
    exact hrole
  have hylow : y.power.nrstLow = false := hy ▸ hlow
  obtain ⟨hjoin, horder, htag, hawait, hdue', hstate⟩ := Dev.newRun_announces t hyrole hylow
  refine ⟨?_, hjoin.trans (hy ▸ rfl), horder, htag.trans ?_, hawait, hdue'.trans (hy ▸ rfl), hstate⟩
  · rw [Dev.seqCheck_still, Dev.newRun_still, ← hstill, ← hy]
    rfl
  · rw [← hy, Dev.casc'_casc, Dev.seq'_casc, hcasc]
    rfl

end

/-! ## What a unit does on its own (R262, R273, R274, R276, R279) -/

section
variable {d : Dev} (t : Nat)

theorem Dev.faultBroadcast_unannounced {ns : Nat} (hrole : d.casc.role ≠ 0) (hlong : 20000 ≤ ns) (hannounced : d.casc.announced = false) :
    d.faultBroadcast ns t = if d.casc.csyncLow then d.casc' fun c => { c with csyncLow := false }
      else ((d.casc' fun c => { c with broadcasts := satInc 16 c.broadcasts }).raise t 114 0).seqCheck t := by
  have habandon : d.abandonStart = d := if_pos (by simp [hannounced])
  unfold Dev.faultBroadcast
  rw [if_neg (by simpa [hrole] using hlong), habandon]

theorem Dev.linkLost_searches {n : Nat} (hrole : d.casc.role = 2) (hlink : d.casc.link = .joined) (hn : 3 ≤ n)
    (hsafe : d.casc.safeReq = false) (hq : Quiet d) : d.linkLost n t =
    ((d.casc' fun c => { c with link := .lost, validBeacons := 0, announced := false }).raise t 113 0).seqCheck t := by
  have hlogs := Quiet.raise (d := d.casc' fun c => { c with link := .lost, validBeacons := 0, announced := false }) hq (src := 113)
    (by decide) t 0
  have hreq : ((d.casc' fun c => { c with link := .lost, validBeacons := 0, announced := false }).raise t 113 0).casc.safeReq = false := by
    rw [hlogs.rest]
    exact hsafe
  obtain ⟨-, -, -, hstate⟩ := hq
  unfold Dev.linkLost
  rw [if_neg (by simpa [hrole, hlink, hstate] using hn)]
  dsimp only
  rw [hreq]

theorem Dev.linkHoldExpiry_reacts {ms : Nat} (hrole : d.casc.role = 2) (hlink : d.casc.link = .lost) (hms : d.nat 0x2380 4 ≤ ms)
    (hholds : d.nat 0x2380 3 ≠ 0) (hrun : d.power.state = .run) (hidle : d.seq.state = .idle) :
    d.linkHoldExpiry ms t = (d.safeReaction t (d.failureNow t 2 0xFD 0 0)).seqCheck t :=
  if_neg (by simpa [hrole, hlink, hholds, Dev.inRun, hrun, hidle] using hms)

end

/-- Settles O47: a fault of the link and the loss of a slave are raised sources, beside which `still` names what changes; a pulse begins a
common start whose slots are all to come, and the join timeout a run that waits for its pulse. -/
theorem supervisionComplete : Obligations.SupervisionComplete := by
  intro s hon
  refine ⟨fun ns h => ?_, fun ns hlong hshort hannounced hmembers hrole hawait hmissing hnrst hholds => ?_,
    fun ns hlong hshort hannounced hmembers hrole harmed hrun hidle hnrst hholds => ?_, fun ns hrole hlong hannounced hlow => ?_,
    fun ns hrole hlong hannounced hlow => ?_, fun us hrole hus => ?_, fun n hruns hn hq => ?_, fun n hrole hlink hn hq hsafe => ?_,
    fun u n hmaster hpresent hn => ?_, fun n hrole hn => ?_,
    fun ms hrole hdue hms hboard htrunk hrun hidle htap hholds hnrst => ?_, fun ms hrole hlink hms hhold hrun hidle hship => ?_⟩
  · refine Gives.of_core rfl hon ?_
    exact Dev.startPulse_ignored _ h
  · refine Gives.of_core rfl hon ?_
    obtain ⟨hstill, hcasc, hgrove, hinteg, hseq⟩ := Dev.pulsed_spec s.b.hw.counter (fun c => { c with
      announced := false, starts := satInc 32 c.starts, slaves := c.slaves.map fun x => { x with idle := false } }) hmembers hnrst hholds
    rw [Dev.startPulse_master _ hlong hshort hannounced hrole hawait hmissing]
    exact ⟨Dev.still_but_casc hstill, congrArg Cascade.announced hcasc, congrArg Cascade.starts hcasc, hgrove, hinteg, hseq⟩
  · refine Gives.of_core rfl hon ?_
    obtain ⟨hstill, hcasc, hgrove, hinteg, hseq⟩ := Dev.pulsed_spec (d := s.b.d.newPulse) s.b.hw.counter (fun c => { c with
      announced := false, startArmed := false, starts := satInc 32 c.starts }) hmembers hnrst hholds
    rw [Dev.startPulse_slave _ hlong hshort hannounced hrole harmed hrun hidle]
    exact ⟨Dev.still_but_casc hstill, congrArg Cascade.announced hcasc, congrArg Cascade.startArmed hcasc,
      congrArg Cascade.starts hcasc, hgrove, hinteg, hseq⟩
  · refine Gives.of_core rfl hon ?_
    rw [Dev.faultBroadcast_unannounced _ hrole hlong hannounced, if_pos hlow]
    rfl
  · refine Gives.of_core rfl hon ?_
    rw [Dev.faultBroadcast_unannounced _ hrole hlong hannounced, if_neg (by simp [hlow])]
    exact ⟨(Dev.seqCheck_sticky _ _ _).trans (Dev.raise_sticky _ _ _ _ (by decide)),
      (Dev.seqCheck_still _ _).trans (Dev.raise_still _ _ _ _)⟩
  · refine Gives.of_core rfl hon ?_
    rw [Dev.csyncStuck, if_neg (by simpa [hrole] using hus)]
    exact ⟨Dev.linkFault_sticky _ _ _, Dev.linkFault_still _ _ _⟩
  · refine Gives.of_core rfl hon ?_
    rw [Dev.readbackConflict, if_neg (by simpa [hruns] using hn)]
    have hconflict : Quiet (s.b.d.casc' fun c => { c with link := .conflict }) := hq
    refine ⟨?_, Dev.linkFault_sticky _ _ _, Dev.linkFault_still _ _ _⟩
    rw [(hconflict.linkFault_rest s.b.hw.counter 2).2]
    rfl
  · refine Gives.of_core rfl hon ?_
    have hlost : Quiet (s.b.d.casc' fun c => { c with link := .lost, validBeacons := 0, announced := false }) := hq
    have hlogs := hlost.raise (src := 113) (by decide) s.b.hw.counter 0
    rw [Dev.linkLost_searches _ hrole hlink hn hsafe hq]
    refine ⟨?_, (Dev.seqCheck_sticky _ _ _).trans (Dev.raise_sticky _ _ _ _ (by decide)),
      (Dev.seqCheck_still _ _).trans (Dev.raise_still _ _ _ _)⟩
    rw [(hlost.of_logs hlogs).seqCheck, Dev.casc_checkFree.wdhGroupCheck, hlogs.rest]
    rfl
  · refine Gives.of_core rfl hon ?_
    obtain ⟨hstill, hsticky⟩ := Dev.slaveLost_spec hmaster hpresent hn s.b.hw.counter
    have hslaves : ∀ v : Unit8, (s.b.d.slaveLost u n s.b.hw.counter).casc.slaves[v] = (s.b.d.casc.without u).slaves[v] := fun v =>
      congrArg (fun x : Vector SlaveView 8 => x[v]) (Dev.slaves_of_still hstill)
    refine ⟨Dev.still_but_casc hstill, ?_, ?_, hsticky, fun v hv => ?_⟩
    · rw [hslaves, Cascade.without_slaves, if_pos rfl]
    · rw [hslaves, Cascade.without_slaves, if_pos rfl]
    · rw [hslaves, Cascade.without_slaves, if_neg hv.symm]
  · refine Gives.of_core rfl hon ?_
    rw [Dev.discardThreshold, if_neg (by simpa [hrole] using hn)]
    exact ⟨Dev.linkFault_sticky _ _ _, Dev.linkFault_still _ _ _⟩
  · refine Gives.of_core rfl hon ?_
    exact Dev.joinTimeout_starts _ hrole hdue hms hboard htrunk hrun hidle htap hholds hnrst
  · refine Gives.of_core rfl hon ?_
    have hslave : s.b.d.slaveJoined = false := by simp [Dev.slaveJoined, hlink]
    rw [Dev.linkHoldExpiry_reacts _ hrole hlink hms hhold hrun hidle]
    exact ⟨((Dev.safeReaction_safeOrdered hship hslave hrun hidle _ _).1.seqCheck _).1,
      (Dev.seqCheck_still _ _).trans (Dev.safeReaction_still _ _ _)⟩

end Sys2Proof.Machine
end

section
/-!
PROOFS. The frames of the cascade link (R262, R264 to R267, R270, R271, R275, R277).
-/
namespace Sys2Proof.Machine

/-! ## Own frames (R265, R267) -/

section
variable {d : Dev}

/-- Outside a test session no injection takes a frame: it leaves as it is. -/
theorem Dev.ownFrame_untested (htest : d.power.test = false) (type : Nat) (payload : List Nat) : d.ownFrame type payload =
    { d with out := .copak (copakFrame type (if d.casc.role = 1 then 0 else d.straps.addr) payload) :: d.out } := by
  have hinject : ∀ k n ok, d.inject k n ok = (none, d) := fun k n ok => if_pos (by simp [htest])
  unfold Dev.ownFrame
  rw [hinject]
  rfl

theorem Dev.ownFrame_slave {f : Cascade → Cascade} (hrole : (f d.casc).role = 2) (htest : d.power.test = false) (type : Nat)
    (payload : List Nat) : (d.casc' f).ownFrame type payload =
      { d with casc := f d.casc, out := .copak (copakFrame type d.straps.addr payload) :: d.out } := by
  have hother : (d.casc' f).casc.role ≠ 1 := by
    rw [Dev.casc'_casc, hrole]
    decide
  rw [Dev.ownFrame_untested (d := d.casc' f) htest, if_neg hother]
  rfl

theorem Dev.isMaster_role (h : d.isMaster = true) : d.casc.role = 1 := by
  unfold Dev.isMaster at h
  exact of_decide_eq_true (Bool.and_eq_true_iff.mp h).1

theorem Dev.isSlave_joined (h : d.isSlave = true) : d.casc.role = 2 ∧ d.casc.link = .joined := by
  unfold Dev.isSlave at h
  obtain ⟨⟨hrole, hlink⟩, -⟩ := by simpa using h
  exact ⟨hrole, hlink⟩

end

/-! ## The master's beacon (R265, R266) -/

/-- A cycle of the master begins: its next message, its number, and its announcement. -/
def Dev.cycleBegun (d : Dev) : Dev :=
  d.casc' fun c => { c.nextMessage with
    cycle := (c.cycle + 1) % 256, slaves := c.slaves.map SlaveView.newCycle, announced := d.seq.awaitPulse && c.order = 1 }

theorem Dev.sendBeacon_untested {d : Dev} (hmaster : d.isMaster = true) (htest : d.power.test = false) (t : Nat) :
    d.sendBeacon t = { d.cycleBegun with
      out := (if (d.cycleBegun.beaconOf t).cstart then [Out.startPulse] else []) ++
        .copak (copakFrame 1 0 (d.cycleBegun.beaconOf t).bytes) :: d.out } := by
  have hrole : d.cycleBegun.casc.role = 1 := by
    refine Eq.trans ?_ (Dev.isMaster_role hmaster)
    show d.casc.nextMessage.role = d.casc.role
    unfold Cascade.nextMessage
    split <;> rfl
  have htest' : d.cycleBegun.power.test = false := by
    rw [Dev.cycleBegun, Dev.casc'_power, htest]
  have hsent := Dev.ownFrame_untested htest' 1 (d.cycleBegun.beaconOf t).bytes
  rw [if_pos hrole] at hsent
  unfold Dev.sendBeacon
  rw [if_neg (by simp [hmaster])]
  refine (congrArg (fun x : Dev => if x.casc.announced = true then x.send .startPulse else x) hsent).trans ?_
  show (if d.cycleBegun.casc.announced = true then _ else _) = _
  have hstart : (d.cycleBegun.beaconOf t).cstart = d.cycleBegun.casc.announced := rfl
  rw [hstart]
  split <;> rfl

namespace Cascade
variable (c : Cascade)

theorem nextMessage_nil (h : c.messages = []) : c.nextMessage.sent = none ∧ c.nextMessage.messages = [] := by
  unfold nextMessage
  split
  · exact ⟨rfl, h⟩
  · next hcons => cases h.symm.trans hcons

theorem nextMessage_cons {x : Msg} {r : List Msg} (h : c.messages = x :: r) :
    c.nextMessage.sent = some x ∧ c.nextMessage.messages = r ++ [x] := by
  unfold nextMessage
  rw [h]
  exact ⟨rfl, rfl⟩

theorem nextMessage_rest : c.nextMessage =
    { c with sent := c.nextMessage.sent, messages := c.nextMessage.messages, txn := c.nextMessage.txn } := by
  unfold nextMessage
  split <;> rfl

end Cascade

/-! ## Beacons at a slave (R264, R275) -/

section
variable {b : Body} {c : RxCheck} {m : Beacon}

theorem Body.lateMessage_none (h : b.d.test.lateMsg = none) : b.lateMessage = b := by
  unfold Body.lateMessage
  rw [h]

/-- What a valid beacon notes of the cycle that it begins. -/
def Cascade.heard (c : Cascade) (m : Beacon) (t : Nat) : Cascade :=
  { c with
    offset := (m.time : Int) - t, announced := m.cstart, summary := m.summary, cycle := m.cycle % 256, statusDue := true
    replyDue := false }

theorem Body.beaconReceived_invalid (hrole : b.d.casc.role = 2) (hlink : b.d.casc.link ≠ .conflict) (hbad : RxOk c 1 32 = false) :
    b.beaconReceived c m = { b with d := b.d.casc' fun k => { k with
      discarded := satInc 32 k.discarded, announced := false, statusDue := false, replyDue := false
      validBeacons := if k.link = .joined then k.validBeacons else 0 } } := by
  unfold Body.beaconReceived
  rw [if_neg (by simp [hrole, hlink]), if_pos (by simp [hbad])]
  rfl

/-- A valid beacon that carries no message, at a slave that then either hears none or has none held back. -/
theorem Body.beaconReceived_plain {d : Dev} (hrole : b.d.casc.role = 2) (hlink : b.d.casc.link ≠ .conflict) (hok : RxOk c 1 32 = true)
    (hplain : m.msgType = 0) (hd : (b.d.casc' fun k => k.heard m b.hw.counter).beaconLink b.hw.counter m.nslv = d)
    (hlate : d.isSlave = false ∨ d.test.lateMsg = none) : b.beaconReceived c m = { b with d := d } := by
  unfold Body.beaconReceived
  rw [if_neg (by simp [hrole, hlink]), if_neg (by simp [hok])]
  unfold Cascade.heard at hd
  dsimp only
  rw [hd, if_neg (by simp [hplain])]
  obtain h | h := hlate
  · rw [if_neg (by simp [h])]
  · split
    · exact Body.lateMessage_none h
    · rfl

end

section
variable {d : Dev} {t nslv : Nat}

theorem Dev.beaconLink_joins (haddr : d.straps.addr ≤ nslv) (hlink : d.casc.link = .search ∨ d.casc.link = .lost)
    (hcount : 2 ≤ d.casc.validBeacons) : d.beaconLink t nslv = d.casc' fun c => { c with
      link := .joined, validBeacons := 3, rejoin := c.rejoin || decide (c.link = .lost) } := by
  unfold Dev.beaconLink
  rw [if_neg (Nat.not_lt.mpr haddr)]
  obtain h | h := hlink <;> simp [h, Dev.casc', hcount]

/-- A beacon with no slot for this unit: FS112 with reason 3 (R275). -/
theorem Dev.beaconLink_noSlot (haddr : nslv < d.straps.addr) (hlink : d.casc.link ≠ .noSlot) :
    d.beaconLink t nslv = (d.casc' fun c => { c with link := .noSlot, validBeacons := 0 }).linkFault t 3 := by
  unfold Dev.beaconLink
  rw [if_pos haddr, if_neg hlink]

end

/-! ## Status frames at the master (R270, R271, R277) -/

section
variable {d : Dev} {u : Unit8} {c : RxCheck} {s : Status}

/-- What a valid status frame makes of the view of its slave. -/
def SlaveView.heard (x : SlaveView) (s : Status) : SlaveView := { x.noted s with valid := min 3 (x.valid + 1), missed := 0 }

variable (t : Nat) (hmaster : d.isMaster = true) (hu : u.val ≠ 0) (hunits : u.val < d.casc.units)
include hmaster hu hunits

theorem Dev.statusReceived_invalid
    (hbad : RxOk c (if 5 ≤ d.casc.units then 3 else 2) (if 5 ≤ d.casc.units then 4 else 16) = false) :
    d.statusReceived u c s t = d.casc' fun k => { k with
      discarded := satInc 32 k.discarded, slaves := upd k.slaves u fun x => { x with valid := 0 } } := by
  unfold Dev.statusReceived
  rw [if_neg (by simpa [hmaster, hu] using hunits)]
  dsimp only
  rw [if_pos (by simp [hbad])]
  rfl

/-- The full status frame of a slave that is present: it is noted, and a request that is new is followed. -/
theorem Dev.statusReceived_present {a f r on good fw : Nat} {b : Nat} (hfull : d.casc.units < 5) (hok : RxOk c 2 16 = true)
    (hs : s = .full a f b r on good fw) (hpresent : d.casc.slaves[u].present = true) : let d' := d.slave' u fun x => x.heard s
    d.statusReceived u c s t = (if f.testBit 6 && !d.casc.slaves[u].safeReq then d'.slaveSafe t u.val s
      else if f.testBit 5 && !d.casc.slaves[u].fstart then d'.slaveFailed t u.val s else d').seqCheck t := by
  have hview : (d.slave' u fun x => x.heard s).casc.slaves[u] = d.casc.slaves[u].heard s := (upd_get _ _ _ _).trans (if_pos rfl)
  have hpresent' : (d.casc.slaves[u].heard s).present = true := hs ▸ hpresent
  have hsafe : (d.casc.slaves[u].heard s).safeReq = f.testBit 6 := hs ▸ rfl
  have hstart : (d.casc.slaves[u].heard s).fstart = f.testBit 5 := hs ▸ rfl
  have hkept : (d.slave' u fun x => x.heard s).slavePresent u = d.slave' u fun x => x.heard s :=
    if_pos (.inl (hview ▸ hpresent'))
  subst hs
  unfold Dev.statusReceived
  rw [if_neg (by simpa [hmaster, hu] using hunits), if_neg (by simp [hok, Nat.not_le.mpr hfull])]
  unfold SlaveView.heard at *
  dsimp only at *
  rw [hkept, hview, hsafe, hstart, if_neg (by rw [hpresent']; decide)]

end

/-- A request for SAFE at a master in RUN whose sequencer stands idle: the order is issued to every unit (R271). -/
theorem Dev.slaveSafe_orders {d : Dev} (hrole : d.casc.role = 1) (hrun : d.power.state = .run) (hidle : d.seq.state = .idle)
    (hship : d.path.ship ≠ .pastReturn) (t u : Nat) (s : Status) : let d' := d.slaveSafe t u s
    d'.SafeOrdered ∧ d'.casc.order = 3 ∧ d'.casc.orderTag = (d.casc.orderTag + 1) % 256 ∧ d'.still = { d with casc := d'.casc }.still := by
  have hslave : d.slaveJoined = false := by simp [Dev.slaveJoined, hrole]
  obtain ⟨hordered, hissued⟩ := Dev.safeReaction_safeOrdered hship hslave hrun hidle t (d.failureNow t 2 s.failure.1 u s.failure.2)
  obtain ⟨horder, htag⟩ := hissued hrole
  have hstill := d.safeReaction_still t (d.failureNow t 2 s.failure.1 u s.failure.2)
  unfold Dev.slaveSafe
  dsimp only
  generalize d.safeReaction t _ = x at hordered horder htag hstill
  have hkept : x.still = { d with casc := x.casc }.still := Dev.still_but_casc hstill
  unfold Dev.post
  split
  · exact ⟨hordered, horder, htag, hkept⟩
  · exact ⟨hordered.of_eq rfl rfl, horder, htag, Dev.still_but_casc hkept⟩

/-- Settles O43: outside a test session a frame leaves as it is; a beacon moves the link of Table 10-10 on; a status frame is noted
in the master's view, and its new request for SAFE becomes an order to every unit. -/
theorem linkComplete : Obligations.LinkComplete := by
  intro s hon
  refine ⟨fun hmaster htest => ?_, fun c m hrole hlink hbad => ?_, fun c m hrole hlink hcount hok haddr hplain hlate => ?_,
    fun c m hrole hconflict hslot hok haddr hplain hq => ?_, fun hslave hdue htest => ?_, fun hnone => ?_,
    fun u c st hmaster hu hunits hbad => ?_, fun u c a f b r on good fw hmaster hu hunits hfull hok hq hpresent hsafe hstart => ?_,
    fun u c a f b r on good fw hmaster hu hunits hfull hok hq hrun hship hpresent hbefore hsafe => ?_,
    fun hslave hcores hdue htest => ?_⟩
  · refine Gives.of_core rfl hon ?_
    rw [Dev.sendBeacon_untested hmaster htest]
    have hkept : s.b.d.cycleBegun = { s.b.d with casc := s.b.d.cycleBegun.casc } := rfl
    have hrest := s.b.d.casc.nextMessage_rest
    have horder : s.b.d.cycleBegun.casc.order = s.b.d.casc.order := (congrArg Cascade.order hrest :)
    have htag : s.b.d.cycleBegun.casc.orderTag = s.b.d.casc.orderTag := (congrArg Cascade.orderTag hrest :)
    have hunits : s.b.d.cycleBegun.casc.units = s.b.d.casc.units := (congrArg Cascade.units hrest :)
    refine ⟨rfl, rfl, s.b.d.cycleBegun.beaconOf s.b.hw.counter, rfl, rfl, rfl, rfl, horder, htag, congrArg (· - 1) hunits,
      congrArg (fun n => decide (5 ≤ n)) hunits, rfl, rfl, fun hnil => ?_, fun x r hcons => ?_⟩
    · obtain ⟨hsent, hmessages⟩ := s.b.d.casc.nextMessage_nil hnil
      have hmsg : s.b.d.cycleBegun.casc.sent.getD ⟨0, 0, 0xFFFF, []⟩ = ⟨0, 0, 0xFFFF, []⟩ :=
        congrArg (Option.getD · _) hsent
      exact ⟨congrArg Msg.type hmsg, congrArg Msg.tag hmsg, hmessages⟩
    · obtain ⟨hsent, hmessages⟩ := s.b.d.casc.nextMessage_cons hcons
      have hmsg : s.b.d.cycleBegun.casc.sent.getD ⟨0, 0, 0xFFFF, []⟩ = x := congrArg (Option.getD · _) hsent
      exact ⟨congrArg Msg.addr hmsg, congrArg Msg.type hmsg, congrArg Msg.tag hmsg, congrArg Msg.data hmsg, hmessages, hsent⟩
  · refine Gives.of_coreBody rfl hon (Body.beaconReceived_invalid hrole hlink hbad) ?_
    rfl
  · refine Gives.of_coreBody rfl hon (Body.beaconReceived_plain hrole ?_ hok hplain
      (Dev.beaconLink_joins (d := s.b.d.casc' fun k => k.heard m s.b.hw.counter) haddr hlink hcount) (.inr hlate)) rfl
    obtain h | h := hlink <;> simp [h]
  · have hlink := Dev.beaconLink_noSlot (d := s.b.d.casc' fun k => k.heard m s.b.hw.counter) (t := s.b.hw.counter) haddr hslot
    have hq' : Quiet ((s.b.d.casc' fun k => k.heard m s.b.hw.counter).casc' fun c => { c with link := .noSlot, validBeacons := 0 }) := hq
    obtain ⟨hpower, hrest⟩ := hq'.linkFault_rest s.b.hw.counter 3
    have hsticky := Dev.linkFault_sticky ((s.b.d.casc' fun k => k.heard m s.b.hw.counter).casc' fun c =>
      { c with link := .noSlot, validBeacons := 0 }) s.b.hw.counter 3
    rw [← hlink] at hpower hrest hsticky
    have hstands : ((s.b.d.casc' fun k => k.heard m s.b.hw.counter).beaconLink s.b.hw.counter m.nslv).casc.link = .noSlot := by
      rw [hrest]
      rfl
    refine Gives.of_coreBody rfl hon (Body.beaconReceived_plain hrole hconflict hok hplain rfl (.inl ?_)) ?_
    · simp [Dev.isSlave, hstands]
    · refine ⟨hpower, ?_, hstands, hsticky, ?_⟩
      · rw [hrest]
        rfl
      · rw [hrest]
  · refine Gives.of_core rfl hon ?_
    obtain ⟨hrole, -⟩ := Dev.isSlave_joined hslave
    unfold Dev.sendStatus
    rw [if_neg (by simp [hslave, hdue]), Dev.ownFrame_slave (by exact hrole) htest]
  · refine Gives.of_core rfl hon ?_
    exact if_pos (by simpa using hnone)
  · refine Gives.of_core rfl hon ?_
    exact Dev.statusReceived_invalid _ hmaster hu hunits hbad
  · refine Gives.of_core rfl hon ?_
    rw [Dev.statusReceived_present _ hmaster hu hunits hfull hok rfl hpresent, if_neg (by simpa using hsafe),
      if_neg (by simpa using hstart)]
    have hq' : Quiet (s.b.d.slave' u fun x => x.heard (.full a f b r on good fw)) := hq
    rw [hq'.seqCheck, Dev.wdhGroupCheck_rest]
    exact ⟨rfl, rfl⟩
  · refine Gives.of_core rfl hon ?_
    rw [Dev.statusReceived_present _ hmaster hu hunits hfull hok rfl hpresent, if_pos (by rw [hsafe, hbefore]; decide)]
    obtain ⟨hordered, horder, htag, hstill⟩ := Dev.slaveSafe_orders (d := s.b.d.slave' u fun x => x.heard (.full a f b r on good fw))
      (Dev.isMaster_role hmaster) hrun hq.1 hship s.b.hw.counter u.val (.full a f b r on good fw)
    have hcasc := (hordered.seqCheck s.b.hw.counter).2
    refine ⟨?_, ?_, ?_⟩
    · rw [Dev.seqCheck_still, hstill, hcasc]
      rfl
    · rw [hcasc, horder]
    · rw [hcasc, htag]
      rfl
  · refine Gives.of_core rfl hon ?_
    obtain ⟨hrole, -⟩ := Dev.isSlave_joined hslave
    unfold Dev.sendReply
    rw [if_neg (by simp [hslave, hcores, hdue]), Dev.ownFrame_slave (by exact hrole) htest]

end Sys2Proof.Machine
end

section
/-!
PROOFS. Cascade messages at a slave (R281 to R285, Table 10-8).
-/
namespace Sys2Proof.Machine

/-! ## A slave that hears a message -/

/-- A slave on the link whose cores run, and that holds no message back (Table 21-2). -/
structure Body.Hears (b : Body) : Prop where
  slave : b.d.isSlave = true
  cores : b.d.coresRun = true
  due : b.d.test.lateDue = false
  held : b.d.test.lateMsg = none

section
variable {s : State} {b : Body} {m : CMsg}

theorem Body.Hears.deliver {d : Dev} (h : b.Hears) (hm : b.message m = { b with d := d })
    (hheld : d.test.lateMsg = b.d.test.lateMsg) : b.deliver m = { b with d := d } := by
  have hnone : d.test.lateMsg = none := hheld.trans h.held
  unfold Body.deliver
  rw [if_neg (by simp [h.slave, h.cores]), if_neg (by simp [h.due]), hm]
  dsimp only
  rw [hnone]

theorem Gives.of_message {c : Instr} {d : Dev} {P : Dev → Prop} (hc : exec c s = .next (s.coreBody (Body.deliver m)))
    (hon : s.b.d.power.coreOn = true) (h : s.b.Hears) (hm : s.b.message m = { s.b with d := d })
    (hheld : d.test.lateMsg = s.b.d.test.lateMsg) (hP : P d) : Gives c s P :=
  Gives.of_coreBody hc hon (h.deliver hm hheld) hP

/-- A message whose answer is all that changes. -/
theorem Gives.of_answer {c : Instr} {d₀ d : Dev} {r : ReplyMsg} (hc : exec c s = .next (s.coreBody (Body.deliver m)))
    (hon : s.b.d.power.coreOn = true) (h : s.b.Hears) (hm : s.b.message m = { s.b with d := d₀ }) (hd : d₀ = Answering d r)
    (hheld : d.test.lateMsg = s.b.d.test.lateMsg) : Gives c s fun d' => d' = Answering d r :=
  Gives.of_message (d := Answering d r) hc hon h (hm.trans (congrArg (fun x : Dev => { s.b with d := x }) hd)) hheld rfl

end

/-! ## The entry of a tag -/

section
variable {d : Dev} {tag : Nat}

theorem Dev.tagEntry_getElem? {x : Nat × Entry} (h : d.tagEntry tag = some x) : d.jour.entries[x.1]? = some x.2 := by
  obtain ⟨y, hfind, rfl⟩ := Option.map_eq_some_iff.1 h
  have hmem : y ∈ d.jour.entries.zipIdx := List.mem_reverse.1 (List.mem_of_find?_eq_some hfind)
  exact List.mem_zipIdx_iff_getElem?.1 hmem

theorem Dev.pollVote_known {x : Nat × Entry} (h : d.tagEntry tag = some x) : d.pollVote tag = Answering d ⟨0x02, 0, tag, 0⟩ :=
  if_pos (by simp [h])

theorem Dev.pollVote_unknown (h : d.tagEntry tag = none) : d.pollVote tag = Answering d (if d.casc.voteTag ≠ tag then ⟨0x0F, 0, tag, 0⟩
    else if d.casc.vote = 3 then ⟨0x03, d.casc.voteDetail, tag, 0⟩ else ⟨0x00, 0, tag, 0⟩) := by
  unfold Dev.pollVote
  rw [if_neg (by simp [h])]
  split
  · rfl
  · split <;> rfl

theorem Dev.pollOutcome_known {x : Nat × Entry} (h : d.tagEntry tag = some x) :
    d.pollOutcome tag = Answering d (match x.2.state with
      | .applied => ⟨0x05, 0, tag, x.2.missedBranches⟩
      | .partially => ⟨0x06, 0, tag, x.2.missedBranches⟩
      | .failed => ⟨0x07, 0, tag, x.2.missedBranches⟩
      | _ => ⟨0x00, 0, tag, 0⟩) := by
  unfold Dev.pollOutcome
  rw [h]
  dsimp only
  cases x.2.state <;> rfl

theorem Dev.pollOutcome_unknown (h : d.tagEntry tag = none) : d.pollOutcome tag = Answering d ⟨0x0F, 0, tag, 0⟩ := by
  unfold Dev.pollOutcome
  rw [h]
  rfl

theorem Dev.abortSlave_known {x : Nat × Entry} (h : d.tagEntry tag = some x) : d.abortSlave tag =
    Answering (if x.2.state.ended then d else d.endEntry x.1 .failed 0x0A) ⟨0x08, 0, tag, 0⟩ := by
  unfold Dev.abortSlave
  rw [h]
  rfl

theorem Dev.abortSlave_unknown (h : d.tagEntry tag = none) : d.abortSlave tag = if d.casc.voteTag = tag
    then Answering { d with casc := { d.casc with voteTag := 0xFFFF, vote := 0, segments := [], segGot := 0 } } ⟨0x08, 0, tag, 0⟩
    else Answering d ⟨0x0F, 0, tag, 0⟩ := by
  unfold Dev.abortSlave
  rw [h]
  rfl

/-- The end of an entry that stands in the journal: at once, or pending until its commit is admitted. -/
theorem Dev.endEntry_entries {i : Nat} {e : Entry} (he : d.jour.entries[i]? = some e) (st : EntryState) (detail : Nat) :
    (d.endEntry i st detail).jour.entries = updList d.jour.entries i fun e =>
        if d.commitAdmitted entryUs then { e with state := st, detail := detail, endNo := d.jour.ends + 1, pend := none }
        else { e with pend := some (e.pend.getD (st, detail)) } := by
  unfold Dev.endEntry Dev.endNow
  rw [he]
  split <;> rfl

theorem Dev.endEntry_rest (i : Nat) (st : EntryState) (detail : Nat) :
    d.endEntry i st detail = { d with jour := (d.endEntry i st detail).jour } := by
  unfold Dev.endEntry Dev.endNow
  split
  · split <;> rfl
  · rfl

end

/-! ## PREPARE (R281) -/

section
variable {b : Body} {tag : Nat} {l : List CTarget} {count : Nat}

/-- The first segment of a PREPARE is held for the vote. -/
def Dev.segmentsBegun (d : Dev) (tag count : Nat) (l : List CTarget) : Dev :=
  { d with casc := { d.casc with segments := l.take 3, segGot := 1, segCount := count, voteTag := tag, vote := 0, voteDetail := 0 } }

/-- The validation of targets that refuses them changes at most the cause of a refusal by the budget. -/
theorem Body.prepareTargets_rest {w : Who} {l : List Target} {reserved : Bool} {detail : Nat} {d : Dev}
    (h : b.prepareTargets w l reserved = some (detail, d)) : d = { b.d with integ := d.integ } := by
  cases reserved with
  | false => exact (Body.prepareTargets_refused h).1
  | true =>
    unfold Body.prepareTargets at h
    dsimp only at h
    rw [if_pos rfl] at h
    split_ifs at h <;> cases h <;> rfl

theorem Body.voteOn_rest {l : List Target} {detail : Nat} {d : Dev} (h : b.voteOn l = some (detail, d)) :
    d = { b.d with integ := d.integ } := by
  unfold Body.voteOn at h
  dsimp only at h
  generalize hprepare : b.prepareTargets _ _ _ = r at h
  split_ifs at h
  · cases h
    rfl
  · cases h
    rfl
  · cases h
    rfl
  · cases r with
    | some refused => exact Body.prepareTargets_rest (hprepare.trans h)
    | none =>
      cases h
      rfl
  · cases r with
    | some refused => exact Body.prepareTargets_rest (hprepare.trans h)
    | none => cases h

variable (hnew : b.d.tagEntry tag = none) (hvote : b.d.casc.voteTag ≠ tag)
include hnew hvote

theorem Body.prepareSegment_first : b.prepareSegment tag 0 count l =
    let b' := if 1 ≥ count then Body.castVote { b with d := b.d.segmentsBegun tag count l }
      else { b with d := b.d.segmentsBegun tag count l }
    { b' with d := Answering b'.d ⟨0x01, 0, tag, 0⟩ } := by
  unfold Body.prepareSegment
  rw [hnew]
  dsimp only
  rw [if_neg (by simp [hvote])]
  rfl

theorem Body.prepareSegment_later {index : Nat} (hindex : index ≠ 0) :
    b.prepareSegment tag index count l = { b with d := Answering b.d ⟨0x0C, 0, tag, 0⟩ } := by
  unfold Body.prepareSegment
  rw [hnew]
  dsimp only
  rw [if_neg (by simp [hvote]), if_neg (by simp [hvote, hindex])]
  rfl

end

/-! ## COMMIT (R283) -/

section
variable {b : Body} {i : Nat} {e : Entry} (starts : Vector StartMeas 30)

/-- An entry with one target that the state admits: it is applied, what it reached is noted, and the sequencer is moved on. -/
theorem Body.applyEntry_single {x : Target} (he : b.d.jour.entries[i]? = some e) (htarget : e.targets = [x])
    (hsafe : b.d.safeAdmits [x] = true) : ∃ w note, b.applyEntry starts i =
      let b' := Body.applyTarget starts w { b with d := b.d.entry' i fun e => { e with going := false } } x
      { b' with d := ((b'.d.entry' i note).settle).seqCheck b'.hw.counter } := by
  have hsafe' : (b.d.entry' i fun e => { e with going := false }).safeAdmits [x] = true := hsafe
  have hbarred : ([x].filter fun y => !(b.d.entry' i fun e => { e with going := false }).safeAdmits [y]) = [] := by simp [hsafe']
  unfold Body.applyEntry
  rw [he]
  dsimp only
  rw [htarget, hbarred]
  exact ⟨_, _, rfl⟩

/-- An entry that turns one branch off, outside SAFE: the branch is off, and the sequencer's check leaves the rest. -/
theorem Body.applyEntry_turnsOff {k : Branch} (he : b.d.jour.entries[i]? = some e) (htarget : e.targets = [⟨0, 3, 0, k.val, 0, 0⟩])
    (hstate : b.d.power.state ≠ .safe) : ∃ d, b.applyEntry starts i = { b with d := d } ∧ d.branchOn k = false ∧ d.still = b.d.still := by
  obtain ⟨w, note, h⟩ := Body.applyEntry_single starts he htarget (by simp [Dev.safeAdmits, hstate])
  rw [Body.applyTarget_turnsOff] at h
  refine ⟨_, h, ?_, ?_⟩
  · rw [Dev.targetNoted_faultFree _ _ _ _ Dev.branchOn_faultFree, Dev.turnOff_branchOn]
    simp
  · rw [Dev.targetNoted_still]
    exact (Dev.turnOff_still _ _ _).trans ((Dev.loseTargets_still _ _).trans rfl)

variable {tag : Nat}

theorem Body.commitSlave_unknown (h : b.d.tagEntry tag = none) :
    b.commitSlave tag starts = { b with d := Answering b.d ⟨0x0F, 0, tag, 0⟩ } := by
  unfold Body.commitSlave
  rw [h]
  rfl

theorem Body.commitSlave_known {x : Nat × Entry} (h : b.d.tagEntry tag = some x) : b.commitSlave tag starts =
    let b' := if x.2.state = .prepared && !x.2.going then b.applyEntry starts x.1 else b
    { b' with d := Answering b'.d ⟨0x04, 0, tag, 0⟩ } := by
  unfold Body.commitSlave
  rw [h]
  rfl

end

/-! ## INQUIRE and GET_FAIL (R284, R270) -/

section
variable {d : Dev}

theorem Dev.inquired_eq {tag : Nat} (h : (match d.jour.entries.find? fun e => e.cascade && e.state = .prepared with
    | some e => e.tag
    | none => 0xFFFF) = tag) : d.inquired = Answering { d with casc := { d.casc with rejoin := false } } ⟨0x09, 0, tag, 0⟩ := by
  rw [← h]
  rfl

theorem Dev.getFail_eq (h : d.casc.safeReq = false) : d.getFail = Answering d ⟨0x0A, 0, 0xFFFF, d.casc.lastFail.1 % 256 +
    d.casc.lastFail.2 % 256 * 2 ^ 8 + d.stateCode * 2 ^ 16 + d.seq.attempt % 256 * 2 ^ 24⟩ := by
  have hwords : d.failWords = d.casc.lastFail := if_neg (by simp [h])
  unfold Dev.getFail
  rw [hwords]
  rfl

end

/-- Settles O44: a message that is heard is handled at once; each answer follows from the newest entry of its tag, or from the vote. -/
theorem messagesComplete : Obligations.MessagesComplete := by
  intro s tag hon hslave hcores hdue hheld
  have hears : s.b.Hears := ⟨hslave, hcores, hdue, hheld⟩
  refine ⟨fun l count hnew hvote hcount => ?_, fun l index count hnew hvote hindex => ?_, fun l d1 hnew hvote hd1 => ?_, fun x hx => ?_,
    fun hnone => ?_, fun e he => ?_, fun hnone => ?_, fun hsafe => ?_, ?_⟩
  · refine Gives.of_message rfl hon hears (d := Answering (s.b.d.segmentsBegun tag count l) ⟨0x01, 0, tag, 0⟩) ?_ rfl rfl
    refine (Body.prepareSegment_first hnew hvote).trans ?_
    rw [if_neg (Nat.not_le.mpr hcount)]
  · exact Gives.of_message rfl hon hears (Body.prepareSegment_later hnew hvote hindex) rfl rfl
  · have hbegun : s.b.d.segmentsBegun tag 1 l = d1 := hd1.symm
    have hfirst := Body.prepareSegment_first (l := l) (count := 1) hnew hvote
    rw [if_pos (Nat.le_refl 1), hbegun] at hfirst
    have hsegments : d1.casc.segments = l.take 3 := hd1 ▸ rfl
    refine ⟨fun detail d2 hno => ?_, fun hyes => ?_⟩
    · have hcast : Body.castVote { s.b with d := d1 } = { s.b with d := d2.casc' fun c => { c with vote := 3, voteDetail := detail } } := by
        unfold Body.castVote
        dsimp only
        rw [hsegments, hno]
      rw [hcast] at hfirst
      have hrest : d2 = { d1 with integ := d2.integ } := Body.voteOn_rest hno
      refine Gives.of_message rfl hon hears hfirst ?_ ?_
      · dsimp only
        rw [hrest, hd1]
        rfl
      · dsimp only
        rw [hrest]
        rfl
    · have hcast : Body.castVote { s.b with d := d1 } = { s.b with
          d := (d1.prepareSlave tag ((l.take 3).filterMap ofCTarget)).casc' fun c => { c with vote := 2, voteDetail := 0 } } := by
        have htag : d1.casc.voteTag = tag := hd1 ▸ rfl
        unfold Body.castVote
        dsimp only
        rw [hsegments, hyes, htag]
      rw [hcast] at hfirst
      refine Gives.of_message rfl hon hears hfirst ?_ ⟨rfl, rfl, ⟨_, List.getLast?_concat, rfl, rfl, rfl, rfl, rfl⟩, ?_⟩
      · rw [hd1]
        rfl
      · rw [hd1]
        rfl
  · have hentry := Dev.tagEntry_getElem? hx
    refine ⟨?_, fun starts hdone => ?_, fun starts b hstate hgoing hrun htarget => ?_, ?_, ?_, fun type => ?_⟩
    · exact Gives.of_answer rfl hon hears rfl (Dev.pollVote_known hx) rfl
    · refine Gives.of_message rfl hon hears (d := Answering s.b.d _) ((Body.commitSlave_known starts hx).trans ?_) rfl rfl
      rw [if_neg (by simpa [or_iff_not_imp_left] using hdone)]
    · have hsafe : s.b.d.power.state ≠ .safe := fun h => by simp [Dev.inRun, h] at hrun
      obtain ⟨d, happlied, hoff, hstill⟩ := Body.applyEntry_turnsOff starts hentry htarget hsafe
      refine Gives.of_message rfl hon hears (d := Answering d ⟨0x04, 0, tag, 0⟩) ((Body.commitSlave_known starts hx).trans ?_)
        (congrArg (fun d : Dev => d.test.lateMsg) hstill :) ⟨rfl, rfl, hoff, hstill⟩
      rw [if_pos (by simp [hstate, hgoing]), happlied]
    · exact Gives.of_answer rfl hon hears rfl (Dev.pollOutcome_known hx) rfl
    · refine Gives.of_message rfl hon hears (congrArg (fun d => { s.b with d := d }) (Dev.abortSlave_known hx)) ?_ ?_
      · split
        · rfl
        · rw [Dev.endEntry_rest]
          rfl
      · split
        · next hended => exact ⟨rfl, rfl, fun _ => rfl, fun h => absurd (hended.symm.trans h) nofun⟩
        · next hended =>
          rw [Dev.endEntry_rest]
          exact ⟨rfl, rfl, fun h => absurd h hended, fun _ => Dev.endEntry_entries hentry _ _⟩
    · refine Gives.of_message rfl hon hears (if_pos ?_) rfl rfl
      simp [Dev.knowsTag, hx]
  · refine ⟨?_, fun starts => ?_, ?_, ?_, fun type hvote => ?_⟩
    · exact Gives.of_answer rfl hon hears rfl (Dev.pollVote_unknown hnone) rfl
    · exact Gives.of_answer rfl hon hears (Body.commitSlave_unknown starts hnone) rfl rfl
    · exact Gives.of_answer rfl hon hears rfl (Dev.pollOutcome_unknown hnone) rfl
    · refine Gives.of_message rfl hon hears (congrArg (fun d => { s.b with d := d }) (Dev.abortSlave_unknown hnone)) ?_ rfl
      split <;> rfl
    · refine Gives.of_answer rfl hon hears (if_neg ?_) rfl rfl
      simp [Dev.knowsTag, hnone, hvote]
  · exact Gives.of_answer rfl hon hears rfl (Dev.inquired_eq (by rw [he])) rfl
  · exact Gives.of_answer rfl hon hears rfl (Dev.inquired_eq (by rw [hnone])) rfl
  · exact Gives.of_answer rfl hon hears rfl (Dev.getFail_eq hsafe) rfl
  · exact Gives.of_answer rfl hon hears rfl rfl rfl

end Sys2Proof.Machine
end

section
/-!
PROOFS. The cascade master's transactions (R270, R272, R280 to R284).
-/
namespace Sys2Proof.Machine

/-! ## The prepare of a transaction, and its abort (R280 to R282) -/

section
variable {d : Dev}

theorem Dev.journalRuns_admits (h : d.journalRuns = true) : d.commitAdmitted entryUs = true := by
  simp only [Dev.journalRuns, Bool.and_eq_true] at h
  exact h.1.2

/-- The master drops a transaction before its commit point: each unit that was sent PREPARE is sent ABORT, and its entry ends. -/
theorem Dev.abortTxn_spec {x : Txn} (htxn : d.casc.txn = some x) (hopen : x.committed = false) (detail : Nat) :
    let d' := d.abortTxn detail
    d' = { d with casc := d'.casc, jour := d'.jour } ∧ d'.casc.txn = none ∧
      ∀ v : Unit8, x.prepared.testBit v.val = true → ⟨v.val, 5, x.tag, []⟩ ∈ d'.casc.messages := by
  have hsent : ∀ v : Unit8, x.prepared.testBit v.val = true →
      (⟨v.val, 5, x.tag, []⟩ : Msg) ∈ (d.casc.messages.filter fun m => m.tag ≠ x.tag) ++
        ((List.range 8).filter fun u => x.prepared.testBit u).map fun u => ⟨u, 5, x.tag, []⟩ := fun v hv =>
    List.mem_append_right _ (List.mem_map_of_mem (List.mem_filter.2 ⟨List.mem_range.2 v.isLt, hv⟩))
  unfold Dev.abortTxn
  rw [htxn]
  dsimp only
  rw [if_neg (by simp [hopen])]
  split
  · rw [Dev.endEntry_rest]
    exact ⟨rfl, rfl, hsent⟩
  · exact ⟨rfl, rfl, hsent⟩

section
variable {b : Body} {i : Nat} {e : Entry} (hrole : b.d.casc.role = 1) (htxn : b.d.casc.txn = none) (hruns : b.d.journalRuns = true)
  (hnext : b.d.nextEntry = some (i, e)) (htag : e.tag ≠ 0xFFFF)
include hrole htxn hruns hnext htag

theorem Body.cascadePrepareStart_refused {detail : Nat} {d : Dev}
    (hrefused : b.prepareTargets (b.d.entryWho e) (e.targets.filter fun t => t.unit = 0) false = some (detail, d)) :
    b.cascadePrepareStart = { b with d := d.endEntry i .failed detail } := by
  unfold Body.cascadePrepareStart
  rw [if_neg (by simp [hrole, htxn, hruns]), hnext]
  dsimp only
  rw [if_neg (by simp [Entry.isCascade, htag]), hrefused]

theorem Body.cascadePrepareStart_passed
    (hpassed : b.prepareTargets (b.d.entryWho e) (e.targets.filter fun t => t.unit = 0) false = none) :
    b.cascadePrepareStart = { b with d := b.d.casc' fun c => { c with
      txn := some { tag := e.tag, committed := false, units := e.units, prepared := 0, voted := 0, confirmed := 0, ended := 0 }
      messages := c.messages ++ ((List.range 8).filter fun u => e.units.testBit u).flatMap e.segments } } := by
  unfold Body.cascadePrepareStart
  rw [if_neg (by simp [hrole, htxn, hruns]), hnext]
  dsimp only
  rw [if_neg (by simp [Entry.isCascade, htag]), hpassed]

end

theorem Dev.prepareDeadline_passed {u : Unit8} {us : Nat} {x : Txn} (htxn : d.casc.txn = some x) (hcores : d.coresRun = true)
    (hopen : x.committed = false) (hprepared : x.prepared.testBit u.val = true) (hvoted : x.voted.testBit u.val = false)
    (hus : d.nat 0x2380 5 ≤ us) : d.prepareDeadline u us = d.abortTxn 0x0A := by
  unfold Dev.prepareDeadline
  rw [htxn]
  exact if_neg (by simpa [hcores, hopen, hprepared, hvoted] using hus)

theorem Dev.prepareDeadline_idle {u : Unit8} {us : Nat} (htxn : d.casc.txn = none) : d.prepareDeadline u us = d := by
  unfold Dev.prepareDeadline
  rw [htxn]

end

/-! ## The replies (R270, R272, R282 to R284) -/

section
variable {b : Body} {u : Unit8} {c : RxCheck} {r : ReplyMsg} {m : Msg} (starts : Vector StartMeas 30)

theorem Body.replyReceived_invalid (hmaster : b.d.isMaster = true) (hbad : RxOk c 4 8 = false) :
    b.replyReceived u c r starts = { b with d := b.d.casc' fun c => { c with discarded := satInc 32 c.discarded } } := by
  unfold Body.replyReceived
  rw [if_neg (by simp [hmaster]), if_pos (by simp [hbad])]
  rfl

/-- The reply to the message of this cycle, which names its tag. -/
theorem Body.replyReceived_heard (hmaster : b.d.isMaster = true) (hcores : b.d.coresRun = true) (hok : RxOk c 4 8 = true)
    (hsent : b.d.casc.sent = some m) (haddr : m.addr = u.val) (htag : r.tag = m.tag) :
    b.replyReceived u c r starts = b.replied u.val m r starts := by
  unfold Body.replyReceived
  rw [if_neg (by simp [hmaster]), if_neg (by simp [hok]), hsent]
  exact if_neg (by simp [haddr, hcores, htag])

/-- The last PREPARE segment of a unit is acknowledged: its vote is asked for (R281). -/
theorem Body.replied_lastSegment (hm : b.d.casc.messages = [m]) (htype : m.type = 1) (hcode : r.code = 1) :
    b.replied u.val m r starts = { b with d := b.d.casc' fun c => { c with messages := [⟨u.val, 2, m.tag, []⟩] } } := by
  have herased : b.d.unpost m = b.d.casc' fun c => { c with messages := [] } := by
    unfold Dev.unpost
    rw [Dev.casc', Dev.casc', hm, List.erase_cons_head]
  unfold Body.replied
  rw [htype, hcode]
  dsimp only
  rw [herased]
  rfl

/-- The commit point waits for the votes of every unit of the transaction (R282). -/
theorem Body.commitPoint_open {x : Txn} (htxn : b.d.casc.txn = some x) (hvotes : x.voted ≠ x.units) : b.commitPoint starts = b := by
  unfold Body.commitPoint
  rw [htxn]
  dsimp only
  split
  · rfl
  · exact if_pos (by simp [hvotes])

/-- A vote of YES that leaves others to come. -/
theorem Body.replied_yes {x : Txn} (htype : m.type = 2) (hcode : r.code = 2) (htxn : b.d.casc.txn = some x) (htag : x.tag = m.tag)
    (hvotes : x.voted ||| 2 ^ u.val ≠ x.units) : b.replied u.val m r starts = { b with d := b.d.casc' fun c => { c with
      messages := c.messages.erase m, txn := some { x with voted := x.voted ||| 2 ^ u.val } } } := by
  have hvoted : b.d.casc.txn.map (fun x : Txn => if x.tag = m.tag then { x with voted := x.voted ||| 2 ^ u.val } else x) =
      some { x with voted := x.voted ||| 2 ^ u.val } := by
    rw [htxn, Option.map_some, if_pos htag]
  unfold Body.replied
  rw [htype, hcode]
  dsimp only
  rw [Body.commitPoint_open starts (x := { x with voted := x.voted ||| 2 ^ u.val }) hvoted hvotes]
  exact congrArg (fun y => { b with d := b.d.casc' fun c => { c with messages := c.messages.erase m, txn := y } }) hvoted

theorem Body.replied_no (htype : m.type = 2) (hcode : r.code = 3) :
    b.replied u.val m r starts = { b with d := (b.d.unpost m).abortTxn 0x0A } := by
  unfold Body.replied
  rw [htype, hcode]
  rfl

/-- A unit has confirmed the COMMIT of a transaction. -/
def Dev.confirmed (d : Dev) (u : Nat) (m : Msg) : Dev :=
  (d.unpost m).casc' fun c => { c with
    txn := c.txn.map fun (x : Txn) => if x.tag = m.tag then { x with confirmed := x.confirmed ||| 2 ^ u } else x }

theorem Dev.confirmed_rest (d : Dev) (u : Nat) (m : Msg) : d.confirmed u m = { d with casc := (d.confirmed u m).casc } := rfl

theorem Dev.confirmed_txn {d : Dev} {u : Nat} {x : Txn} (htxn : d.casc.txn = some x) (htag : x.tag = m.tag) :
    (d.confirmed u m).casc.txn = some { x with confirmed := x.confirmed ||| 2 ^ u } := by
  refine (congrArg (Option.map _) htxn).trans ?_
  rw [Option.map_some, if_pos htag]

/-- A unit confirms the COMMIT: its outcome is polled next (R283). -/
theorem Body.replied_confirmed (htype : m.type = 3) (hcode : r.code = 4) :
    b.replied u.val m r starts = { b with d := (b.d.confirmed u.val m).post ⟨u.val, 4, m.tag, []⟩ } := by
  unfold Body.replied
  rw [htype, hcode]
  rfl

theorem Body.replied_aborted (htype : m.type = 5) (hcode : r.code = 8 ∨ r.code = 0x0F) :
    b.replied u.val m r starts = { b with d := b.d.unpost m } := by
  unfold Body.replied
  obtain h | h := hcode
  · rw [htype, h]
    rfl
  · rw [htype, h]
    rfl

theorem Body.replied_inquiry (htype : m.type = 6) (hcode : r.code = 9) :
    b.replied u.val m r starts = { b with d := b.d.inquiryAnswer u.val m r.tag } := by
  unfold Body.replied
  rw [htype, hcode]
  rfl

theorem Body.replied_fail (htype : m.type = 7) (hcode : r.code = 0x0A) :
    b.replied u.val m r starts = { b with d := (b.d.unpost m).failRead u.val r.data } := by
  unfold Body.replied
  rw [htype, hcode]
  rfl

theorem Body.replied_info (htype : m.type = 8) (hcode : r.code = 0x0B) : b.replied u.val m r starts =
    { b with d := (b.d.unpost m).slave' u fun x => { x with members := r.data } } := by
  unfold Body.replied
  rw [htype, hcode]
  exact congrArg (fun y => { b with d := (b.d.unpost m).casc' fun c => { c with slaves := y c } }) (funext fun c => dif_pos u.isLt)

/-- A message that is queued is carried, and nothing but the queue has changed. -/
theorem Dev.post_spec (d : Dev) (m : Msg) : m ∈ (d.post m).casc.messages ∧ (d.post m).casc.txn = d.casc.txn ∧
    d.post m = { d with casc := (d.post m).casc } := by
  unfold Dev.post
  split
  · next hqueued => exact ⟨List.contains_iff_mem.1 hqueued, rfl, rfl⟩
  · exact ⟨List.mem_append_right _ (List.mem_singleton_self m), rfl, rfl⟩

end

/-- Settles O45: a prepare that is refused ends its entry; the replies move the transaction on, and an abort sends ABORT to each unit
that was sent PREPARE. -/
theorem transactionsComplete : Obligations.TransactionsComplete := by
  intro s hon
  refine ⟨fun i e detail d1 hrole htxn hruns hnext htag hrefused => ?_, fun i e hrole htxn hruns hnext htag hpassed => ?_,
    fun u us x htxn hcores hopen hprepared hvoted hus => ?_, fun u us htxn => ?_, fun u c r starts hmaster hbad => ?_,
    fun u c r starts m hmaster hcores hok hsent haddr htag => ?_⟩
  · refine Gives.of_coreBody rfl hon (Body.cascadePrepareStart_refused hrole htxn hruns hnext htag hrefused) ?_
    have hrest : d1 = { s.b.d with integ := d1.integ } := Body.prepareTargets_rest hrefused
    have hjour : d1.jour = s.b.d.jour := (congrArg Dev.jour hrest :)
    have hadmits : d1.commitAdmitted entryUs = true := by
      rw [hrest]
      exact Dev.journalRuns_admits hruns
    refine ⟨?_, ?_⟩
    · rw [Dev.endEntry_rest, hrest]
    · rw [Dev.endEntry_entries (hjour ▸ Dev.nextEntry_getElem? hnext), hjour, hadmits]
      rfl
  · exact Gives.of_coreBody rfl hon (Body.cascadePrepareStart_passed hrole htxn hruns hnext htag hpassed) rfl
  · refine Gives.of_core rfl hon ?_
    rw [Dev.prepareDeadline_passed htxn hcores hopen hprepared hvoted hus]
    exact Dev.abortTxn_spec htxn hopen 0x0A
  · refine Gives.of_core rfl hon ?_
    exact Dev.prepareDeadline_idle htxn
  · exact Gives.of_coreBody rfl hon (Body.replyReceived_invalid starts hmaster hbad) rfl
  · have hheard := Body.replyReceived_heard starts hmaster hcores hok hsent haddr htag
    refine ⟨fun htype hcode hm => ?_, fun x htype hcode htxn hx hvotes => ?_, fun x htype hcode htxn hopen => ?_,
      fun x htype hcode htxn hx => ?_, fun htype hcode => ?_, fun htype hcode hnone => ?_, fun htype hcode => ?_,
      fun htype hcode => ?_⟩
    · exact Gives.of_coreBody rfl hon (hheard.trans (Body.replied_lastSegment starts hm htype hcode)) rfl
    · exact Gives.of_coreBody rfl hon (hheard.trans (Body.replied_yes starts htype hcode htxn hx hvotes)) rfl
    · refine Gives.of_coreBody rfl hon (hheard.trans (Body.replied_no starts htype hcode)) ?_
      obtain ⟨hrest, hnone, hsent⟩ := Dev.abortTxn_spec (d := s.b.d.unpost m) htxn hopen 0x0A
      exact ⟨hrest, hnone, hsent⟩
    · refine Gives.of_coreBody rfl hon (hheard.trans (Body.replied_confirmed starts htype hcode)) ?_
      obtain ⟨hmem, hkept, hrest⟩ := (s.b.d.confirmed u.val m).post_spec ⟨u.val, 4, m.tag, []⟩
      rw [← Dev.confirmed_txn htxn hx]
      generalize (s.b.d.confirmed u.val m).post _ = d at hmem hkept hrest ⊢
      rw [s.b.d.confirmed_rest] at hrest
      exact ⟨hkept, hmem, hrest⟩
    · exact Gives.of_coreBody rfl hon (hheard.trans (Body.replied_aborted starts htype hcode)) rfl
    · refine Gives.of_coreBody rfl hon (hheard.trans (Body.replied_inquiry starts htype hcode)) ?_
      exact if_pos (htag.trans hnone)
    · exact Gives.of_coreBody rfl hon (hheard.trans (Body.replied_fail starts htype hcode)) ⟨rfl, rfl, rfl⟩
    · exact Gives.of_coreBody rfl hon (hheard.trans (Body.replied_info starts htype hcode)) rfl

end Sys2Proof.Machine
end

section
/-!
PROOFS. The charger's operations (R298, R302 to R305): what each leaves of the charger, the gauge and the timers, and that it
changes nothing else.
-/
namespace Sys2Proof.Machine

/-! ## The timers of the charger and its phase -/

section
variable (d : Dev) (t : Nat)

theorem Dev.takeTimers_eq : ∃ hold x, d.takeTimers = { d with chg := { d.chg with timerHold := hold }, timer := x } := by
  unfold Dev.takeTimers
  split_ifs <;> exact ⟨_, _, rfl⟩

theorem Dev.releaseTimers_eq : ∃ x, d.releaseTimers = { d with chg := { d.chg with timerHold := false }, timer := x } := ⟨_, rfl⟩

/-- The charger in a phase that it enters at heartwood time `t`. -/
def Charger.entered (c : Charger) (t : Nat) (p : ChgPhase) : Charger := { c with phase := p, phaseTime := t, inRest := false }

theorem Dev.setPhase_eq (p : ChgPhase) : ∃ x, d.setPhase t p = { d with chg := d.chg.entered t p, timer := x } := by
  unfold Dev.setPhase chargerTimers
  dsimp only
  split <;> exact ⟨_, rfl⟩

/-- PRECHARGE and the fast phases clear EMPTY (R342). -/
theorem Dev.chgPhase_charging {p : ChgPhase} (h : p ∈ [.precharge, .fastPulse, .fastCc]) : ∃ x,
    d.chgPhase t p = { d with chg := d.chg.entered t p, gauge := { d.gauge with empty := false }, timer := x } := by
  obtain ⟨x, hset⟩ := d.setPhase_eq t p
  refine ⟨x, ?_⟩
  rw [Dev.chgPhase, hset, Dev.when, if_pos (decide_eq_true h)]
  rfl

theorem Dev.chgPhase_other {p : ChgPhase} (h : p ∉ [.precharge, .fastPulse, .fastCc]) : ∃ x,
    d.chgPhase t p = { d with chg := d.chg.entered t p, timer := x } := by
  obtain ⟨x, hset⟩ := d.setPhase_eq t p
  refine ⟨x, ?_⟩
  rw [Dev.chgPhase, hset, Dev.when, if_neg (by simpa using h)]

/-! ## Sessions (R298, R302 to R304) -/

/-- The first phase of a session (Table 11-3). -/
def Dev.firstPhase (mainMv : Nat) : ChgPhase := if mainMv < d.preThreshold then .precharge else fastPhase d

/-- The charger in a phase of charging that it enters at heartwood time `t`: FAST_PULSE begins with a pulse, which is counted. -/
def Charger.charging (c : Charger) (t : Nat) (p : ChgPhase) : Charger :=
  { c.entered t p with pulses := if p = .fastPulse then satInc 32 c.pulses else c.pulses }

theorem Dev.enterFast_eq : ∃ x, d.enterFast t =
    { d with chg := d.chg.charging t (fastPhase d), gauge := { d.gauge with empty := false }, timer := x } := by
  unfold Dev.enterFast fastPhase
  split
  · obtain ⟨x, hphase⟩ := d.chgPhase_charging t (p := .fastPulse) (by decide)
    rw [hphase]
    exact ⟨_, rfl⟩
  · exact d.chgPhase_charging t (by decide)

/-- The charger as a session starts: time, pulses and charge begin at 0. -/
def Dev.sessionBegun (vsysMv nodeBMv : Nat) : Charger :=
  { d.chg with sessionS := 0, pulses := 0, sessionStart := d.gauge.count, region := chgRegion vsysMv nodeBMv }

theorem Dev.startSession_eq (mainMv vsysMv nodeBMv : Nat) : ∃ hold x, d.startSession t mainMv vsysMv nodeBMv =
    { d with
      chg := { (d.sessionBegun vsysMv nodeBMv).charging t (d.firstPhase mainMv) with timerHold := hold }
      gauge := { d.gauge with empty := false }
      timer := x } := by
  obtain ⟨hold, taken, htake⟩ := d.takeTimers_eq
  unfold Dev.startSession Dev.firstPhase
  rw [htake]
  dsimp only
  generalize he : Dev.chg' _ _ = e
  have hpre : e.preThreshold = d.preThreshold := he ▸ rfl
  have hfast : fastPhase e = fastPhase d := he ▸ rfl
  rw [hpre]
  split
  · obtain ⟨x, h⟩ := e.chgPhase_charging t (p := .precharge) (by decide)
    rw [h, ← he]
    exact ⟨hold, x, rfl⟩
  · obtain ⟨x, h⟩ := e.enterFast_eq t
    rw [h, hfast, ← he]
    exact ⟨hold, x, rfl⟩

/-! ## DONE (R305, R349) -/

/-- From `d` to `d'` nothing has changed but the gauge and what was recorded of it, at heartwood time `t`. -/
structure Dev.GaugeReports (d d' : Dev) : Prop where
  rest : d' = { d with power := d'.power, gauge := d'.gauge, faults := d'.faults, nv := d'.nv }
  power : d'.power = d.power ∨ d'.power = d.power.leaveIdle t

namespace Dev.GaugeReports
variable {t : Nat} {d d' d'' : Dev}

theorem gauge' (d : Dev) (f : Gauge → Gauge) : d.GaugeReports t (d.gauge' f) := ⟨rfl, .inl rfl⟩

theorem trans (h : d.GaugeReports t d') (h' : d'.GaugeReports t d'') : d.GaugeReports t d'' := by
  refine ⟨h'.rest.trans (congrArg (fun x : Dev => { x with
    power := d''.power, gauge := d''.gauge, faults := d''.faults, nv := d''.nv }) h.rest), ?_⟩
  obtain hp | hp := h.power <;> obtain hp' | hp' := h'.power <;> simp [hp, hp', Power.leaveIdle_leaveIdle]

theorem ite {c : Prop} [Decidable c] (h : d.GaugeReports t d') (h' : d.GaugeReports t d'') : d.GaugeReports t (if c then d' else d'') := by
  split <;> assumption

end Dev.GaugeReports

theorem Dev.raise_gaugeReports {src : Nat} (hclass : sourceClass src = classC) (reason : Nat) :
    d.GaugeReports t (d.raise t src reason) := by
  obtain ⟨p, f, n, hraise, hp⟩ := Dev.raise_corrected hclass d t reason
  rw [hraise]
  exact ⟨rfl, hp⟩

/-- An anchor that closes no span, a span that is accepted, one that is refused, and the third refused in a row, which FS078 reports. -/
theorem Dev.anchorAt_gaugeReports (soc : Nat) : d.GaugeReports t (d.anchorAt t soc) := by
  have hgauge := fun x : Dev => Dev.GaugeReports.gauge' (t := t) x
  unfold Dev.anchorAt
  split
  · exact hgauge d _
  · refine .ite ⟨rfl, .inl rfl⟩ (.ite ?_ ?_)
    · exact (((hgauge d _).trans (hgauge _ _)).trans (hgauge _ _)).trans (hgauge _ _)
    · refine Dev.GaugeReports.trans ?_ (hgauge _ _)
      refine .ite ?_ ((hgauge d _).trans (hgauge _ _))
      exact (((hgauge d _).trans (hgauge _ _)).trans (hgauge _ _)).trans (Dev.raise_gaugeReports _ t rfl 0)

theorem Dev.gaugeDone_gaugeReports : d.GaugeReports t (d.gaugeDone t) := by
  unfold Dev.gaugeDone Dev.storeDue
  refine Dev.GaugeReports.trans (Dev.GaugeReports.trans ?_ (Dev.anchorAt_gaugeReports _ t 10000)) (.gauge' _ _)
  exact .gauge' d _

theorem Dev.enterDone_eq : ∃ p x g f n, d.enterDone t = { d with
      power := p, chg := { d.chg.entered t .done with timerHold := false, region := 0 }, gauge := g, timer := x, faults := f, nv := n } ∧
    (p = d.power ∨ p = d.power.leaveIdle t) ∧ g.due = true := by
  obtain ⟨x, hphase⟩ := d.chgPhase_other t (p := .done) (by decide)
  obtain ⟨y, hreleased⟩ : ∃ y, ((d.chgPhase t .done).releaseTimers).chg' (fun c => { c with region := 0 }) =
      { d with chg := { d.chg.entered t .done with timerHold := false, region := 0 }, timer := y } := by
    obtain ⟨y, hreleased⟩ := Dev.releaseTimers_eq { d with chg := d.chg.entered t .done, timer := x }
    rw [hphase, hreleased]
    exact ⟨y, rfl⟩
  unfold Dev.enterDone
  rw [hreleased]
  generalize he : ({ d with chg := _, timer := y } : Dev) = e
  have hdue : (e.gaugeDone t).gauge.due = true := rfl
  obtain ⟨hrest, hpower⟩ := e.gaugeDone_gaugeReports t
  generalize e.gaugeDone t = d' at hrest hpower hdue ⊢
  subst he
  exact ⟨d'.power, y, d'.gauge, d'.faults, d'.nv, hrest, hpower, hdue⟩

end

/-! ## The commands, where their guards hold

The reading of MAIN that a command carries decides none of the guards. -/

section
variable (d : Dev) (mainMv : Nat)

@[simp] theorem Dev.noteMain_phase : (d.noteMain mainMv).chg.phase = d.chg.phase := rfl
@[simp] theorem Dev.noteMain_mainMv : (d.noteMain mainMv).chg.mainMv = mainMv := rfl
@[simp] theorem Dev.noteMain_mayStart : (d.noteMain mainMv).chgMayStart = d.chgMayStart := rfl
@[simp] theorem Dev.noteMain_coresRun : (d.noteMain mainMv).coresRun = d.coresRun := rfl
@[simp] theorem Dev.noteMain_chgHeld : (d.noteMain mainMv).chgHeld = d.chgHeld := rfl
@[simp] theorem Dev.noteMain_chgSwitching : (d.noteMain mainMv).chgSwitching = d.chgSwitching := rfl
@[simp] theorem Dev.noteMain_rechargeThreshold : (d.noteMain mainMv).rechargeThreshold = d.rechargeThreshold := rfl
@[simp] theorem Dev.noteMain_preThreshold : (d.noteMain mainMv).preThreshold = d.preThreshold := rfl
@[simp] theorem Dev.noteMain_cg (sub : Nat) : (d.noteMain mainMv).cg sub = d.cg sub := rfl

end

section
variable {d : Dev} (t : Nat) {mainMv : Nat}

theorem Dev.cvReached_noteMain (hphase : d.chg.phase = .fastPulse ∨ d.chg.phase = .fastCc) (hswitching : d.chgSwitching = true)
    (hcores : d.coresRun = true) (hmain : d.cg 2 ≤ mainMv) : (d.noteMain mainMv).cvReached = true := by
  obtain h | h := hphase <;> simp [Dev.cvReached, h, hswitching, hcores, hmain]

variable (hcores : d.coresRun = true)
include hcores

section
variable (vsysMv nodeBMv : Nat) (hmay : d.chgMayStart = true)
include hmay

theorem Dev.chargeSessionStart_full (hphase : d.chg.phase = .wait) (hmain : d.rechargeThreshold ≤ mainMv) :
    d.chargeSessionStart mainMv vsysMv nodeBMv t = (d.noteMain mainMv).enterDone t := by
  simp [Dev.chargeSessionStart, hphase, hmay, hcores, hmain]

theorem Dev.chargeSessionStart_starts (hphase : d.chg.phase = .wait) (hmain : mainMv < d.rechargeThreshold) :
    d.chargeSessionStart mainMv vsysMv nodeBMv t = (d.noteMain mainMv).startSession t mainMv vsysMv nodeBMv := by
  simp [Dev.chargeSessionStart, hphase, hmay, hcores, Nat.not_le.mpr hmain]

theorem Dev.recharge_starts {heldMs : Nat} (hphase : d.chg.phase = .done) (hmain : mainMv < d.rechargeThreshold)
    (hheld : 10000 ≤ heldMs) :
    d.recharge mainMv heldMs vsysMv nodeBMv t = (d.noteMain mainMv).startSession t mainMv vsysMv nodeBMv := by
  simp [Dev.recharge, hphase, hmay, hcores, Nat.not_le.mpr hmain, Nat.not_lt.mpr hheld]

end

variable (hheld : d.chgHeld = false)
include hheld

theorem Dev.prechargeEnd_ends {heldMs : Nat} (hphase : d.chg.phase = .precharge) (hmain : d.preThreshold + 200 ≤ mainMv)
    (hms : 1000 ≤ heldMs) : d.prechargeEnd mainMv heldMs t = (d.noteMain mainMv).enterFast t := by
  simp [Dev.prechargeEnd, hphase, hheld, hcores, Nat.not_lt.mpr hmain, Nat.not_lt.mpr hms]

theorem Dev.fastPulseReturn_returns (hphase : d.chg.phase = .fastCc) (hprobe : d.chg.probe = .none) (hpulses : d.cg 8 ≠ 0)
    (haccepts : d.gaugeAccepts = true) : d.fastPulseReturn t = d.enterFast t :=
  if_pos ⟨hphase, by simp [hheld], hcores, hprobe, hpulses, haccepts⟩

theorem Dev.termination_ends {mA heldMs : Nat} (hphase : d.chg.phase = .cv) (hmA : mA * d.cg 0x0A < d.cg 3) (hms : 30000 ≤ heldMs) :
    d.termination mA heldMs t =
      (d.chg' fun c => { c with completed := satInc 32 c.completed, stopReason := 0x01, currentMA := mA }).enterDone t :=
  if_neg (by simp [hphase, hheld, hcores, hmA, hms])

end

/-- Settles O14: each command takes the branch that its hypotheses choose, which starts a session, enters a phase or ends in DONE; the
reading of MAIN that it carries decides nothing else. -/
theorem chargerPhasesComplete : Obligations.ChargerPhasesComplete := by
  intro s hon
  refine ⟨fun hcores => ⟨fun main vsys nodeB hphase hmay hmain => ?_, fun main vsys nodeB hphase hmay hmain => ?_,
    fun main ms vsys nodeB hphase hmay hmain hms => ?_, fun main ms hphase hheld hmain hms => ?_,
    fun hphase hheld hprobe hpulses haccepts => ?_, fun main hphase hswitching hmain => ?_, fun mA ms hphase hheld hmA hms => ?_⟩,
    fun hphase hheld hprobe => ?_, fun dcin demand => ?_⟩
  · refine Gives.of_core rfl hon ?_
    obtain ⟨p, x, g, f, n, hdone, hpower, hdue⟩ := (s.b.d.noteMain main).enterDone_eq s.b.hw.counter
    rw [Dev.chargeSessionStart_full _ hcores vsys nodeB hmay hphase hmain, hdone]
    exact ⟨⟨hpower, rfl⟩, rfl, rfl, hdue⟩
  · refine Gives.of_core rfl hon ?_
    obtain ⟨hold, x, hstart⟩ := (s.b.d.noteMain main).startSession_eq s.b.hw.counter main vsys nodeB
    rw [Dev.chargeSessionStart_starts _ hcores vsys nodeB hmay hphase hmain, hstart]
    exact ⟨rfl, rfl, rfl, rfl, rfl, rfl, rfl, rfl⟩
  · refine Gives.of_core rfl hon ?_
    obtain ⟨hold, x, hstart⟩ := (s.b.d.noteMain main).startSession_eq s.b.hw.counter main vsys nodeB
    rw [Dev.recharge_starts _ hcores vsys nodeB hmay hphase hmain hms, hstart]
    exact ⟨rfl, rfl, rfl, rfl, rfl⟩
  · refine Gives.of_core rfl hon ?_
    obtain ⟨x, hfast⟩ := (s.b.d.noteMain main).enterFast_eq s.b.hw.counter
    rw [Dev.prechargeEnd_ends _ hcores hheld hphase hmain hms, hfast]
    exact ⟨rfl, rfl, rfl⟩
  · refine Gives.of_core rfl hon ?_
    obtain ⟨x, hfast⟩ := s.b.d.enterFast_eq s.b.hw.counter
    have hpulse : fastPhase s.b.d = .fastPulse := if_pos ⟨hpulses, haccepts⟩
    rw [Dev.fastPulseReturn_returns _ hcores hheld hphase hprobe hpulses haccepts, hfast, hpulse]
    exact ⟨rfl, rfl, rfl, rfl⟩
  · refine Gives.of_core rfl hon ?_
    obtain ⟨x, hcv⟩ := (s.b.d.noteMain main).chgPhase_other s.b.hw.counter (p := .cv) (by decide)
    rw [Dev.cvEntry, if_pos (Dev.cvReached_noteMain hphase hswitching hcores hmain), hcv]
    exact ⟨rfl, rfl⟩
  · refine Gives.of_core rfl hon ?_
    rw [Dev.termination_ends _ hcores hheld hphase hmA hms]
    obtain ⟨p, x, g, f, n, hdone, hpower, hdue⟩ := Dev.enterDone_eq (s.b.d.chg' fun c =>
      { c with completed := satInc 32 c.completed, stopReason := 0x01, currentMA := mA }) s.b.hw.counter
    rw [hdone]
    exact ⟨⟨hpower, rfl⟩, rfl, rfl, rfl, rfl, hdue⟩
  · refine Gives.of_core rfl hon ?_
    rw [Dev.pulseEdge, if_neg (by simp [hphase, hheld, hprobe])]
    cases s.b.d.chg.inRest <;> rfl
  · exact Gives.of_core rfl hon rfl

end Sys2Proof.Machine
end

section
/-!
PROOFS. A fault stop of the charger: the check of the sequencer, and a source that is not fatal, leave the charger alone while no
off order is in progress (Table 11-7, R300).
-/
namespace Sys2Proof.Machine

/-! ## What leaves the charger alone

Only the end of an off order takes the device out of RUN, which clears the charger. -/

theorem Dev.chg_orderFree : Dev.OrderFree Dev.chg :=
  ⟨fun _ _ => rfl, fun _ _ => rfl, fun _ _ => rfl, fun _ _ => rfl, fun _ _ => rfl, Dev.port'_chg, fun _ _ => rfl, fun _ _ => rfl⟩

theorem Dev.chg_checkFree : Dev.CheckFree Dev.chg := ⟨fun _ _ => rfl, fun _ _ => rfl, fun _ _ => rfl, fun _ _ => rfl⟩

/-- From `d` to `d'` the charger is left alone, and no off order has begun. -/
structure Dev.LeavesCharger (d d' : Dev) : Prop where
  chg : d'.chg = d.chg
  order : d.seq.state.isOff = false → d'.seq.state.isOff = false

namespace Dev.LeavesCharger
variable {d d' d'' : Dev}

theorem of_eq (hchg : d'.chg = d.chg) (hseq : d'.seq.state = d.seq.state) : d.LeavesCharger d' := ⟨hchg, fun h => by rwa [hseq]⟩

theorem refl (d : Dev) : d.LeavesCharger d := of_eq rfl rfl

theorem trans (h : d.LeavesCharger d') (h' : d'.LeavesCharger d'') : d.LeavesCharger d'' :=
  ⟨h'.chg.trans h.chg, fun ho => h'.order (h.order ho)⟩

/-- Nothing of the charger and of the order in progress has changed before. -/
theorem after (h : d'.LeavesCharger d'') (hchg : d'.chg = d.chg) (hstate : d'.seq.state = d.seq.state) : d.LeavesCharger d'' :=
  (of_eq hchg hstate).trans h

end Dev.LeavesCharger

section
variable (d : Dev) (t : Nat)

theorem Dev.onCheck_leavesCharger : d.LeavesCharger (d.onCheck t) := by
  refine ⟨Dev.chg_orderFree.onCheck d t, fun h => ?_⟩
  unfold Dev.onCheck
  split
  · rw [Dev.endAction_seq, Dev.wdhOrderDone_seq]
    rfl
  · exact h

theorem Dev.newRun_leavesCharger : d.LeavesCharger (d.newRun t) := by
  have hbegun : ∀ x : Dev, (x.seqBegin t .onOrder).seq.state.isOff = false := fun x =>
    (Dev.seqBegin_runs t (st := .onOrder) ⟨rfl, nofun⟩).1
  refine ⟨Dev.chg_orderFree.newRun d t, fun h => ?_⟩
  unfold Dev.newRun Dev.startFull
  dsimp only
  split_ifs
  · exact (Dev.onCheck_leavesCharger _ t).order (hbegun _)
  · rw [Dev.issueOrder_seq]
    exact hbegun _
  · exact h

/-- The device does not leave RUN by entering it. -/
theorem Dev.goState_run_leavesCharger : d.LeavesCharger (d.goState t .run) := by
  refine .of_eq ?_ (congrArg Seq.state (d.goState_seq t .run))
  unfold Dev.goState
  dsimp only
  rw [if_neg (by simp), Dev.when_keeps Dev.chg _ _ _ rfl, Dev.when_keeps Dev.chg _ _ _ rfl]

theorem Dev.send_seq (o : Out) : (d.send o).seq = d.seq :=
  send_keeps Dev.seq (fun _ _ _ => rfl) (fun _ _ => Dev.port'_seq _ _ _) (fun _ _ => rfl) d o

theorem Dev.wakeRun_leavesCharger : d.LeavesCharger (d.wakeRun t) := by
  unfold Dev.wakeRun
  split
  · exact d.newRun_leavesCharger t
  · have hsend : d.LeavesCharger (d.send .startPulse) := .of_eq (Dev.chg_orderFree.send d _) (congrArg Seq.state (d.send_seq _))
    dsimp only
    split <;> exact hsend.trans (.of_eq rfl rfl)

theorem Dev.wake_leavesCharger (source : Nat) : d.LeavesCharger (d.wake t source) := by
  unfold Dev.wake
  split_ifs
  · refine Dev.LeavesCharger.trans ?_ (Dev.wakeRun_leavesCharger _ t)
    exact (Dev.goState_run_leavesCharger _ t).after rfl rfl
  · exact .of_eq rfl rfl
  · exact .refl d

theorem Dev.faultWake_leavesCharger (src : Nat) : d.LeavesCharger (d.faultWake t src) := by
  unfold Dev.faultWake Dev.when
  split
  · exact d.wake_leavesCharger t 6
  · exact .refl d

/-- Only a fatal source escalates as it is raised. -/
theorem Dev.raise_leavesCharger {src : Nat} (hclass : sourceClass src ≠ classF) (reason : Nat) :
    d.LeavesCharger (d.raise t src reason) := by
  unfold Dev.raise Dev.raiseAs
  split_ifs
  · exact .refl d
  · exact d.faultWake_leavesCharger t src
  · obtain ⟨f, n, hrecord⟩ := d.record_eq t src reason false
    dsimp only
    rw [if_neg hclass, hrecord]
    exact (Dev.faultWake_leavesCharger _ t src).after rfl rfl

theorem Dev.safeCheck_leavesCharger : d.LeavesCharger (d.safeCheck t) := by
  unfold Dev.safeCheck
  split
  · dsimp only
    generalize hx : d.seq' _ = x
    have hover : d.LeavesCharger x := hx ▸ ⟨rfl, fun _ => rfl⟩
    have haction : x.LeavesCharger (if x.wdh.action = some 2 then x.wdhActionDone else x.wdhOrderDone) := by
      split
      · exact .of_eq (Dev.chg_orderFree.wdhActionDone x) (congrArg Seq.state x.wdhActionDone_seq)
      · exact .of_eq (Dev.chg_orderFree.wdhOrderDone x) (congrArg Seq.state x.wdhOrderDone_seq)
    refine (hover.trans haction).trans ?_
    generalize (if x.wdh.action = some 2 then x.wdhActionDone else x.wdhOrderDone) = y
    split
    · refine Dev.LeavesCharger.trans ?_ (Dev.newRun_leavesCharger _ t)
      exact (Dev.goState_run_leavesCharger _ t).after rfl rfl
    · exact .refl y
  · exact .refl d

theorem Dev.startShip_chg : (d.startShip t).chg = d.chg := by
  have hg := Dev.chg_checkFree
  have hdone : ∀ x : Dev, x.seq.after = .ship → (x.offDone t).chg = x.chg := fun x hafter => by
    unfold Dev.offDone
    rw [hafter]
    rfl
  unfold Dev.startShip
  split
  · rfl
  · dsimp only
    generalize hx : Dev.path' _ _ = x
    have hchg : x.chg = d.chg := by
      rw [← hx, Dev.path'_chg, Dev.life'_chg, Dev.gauge'_chg, Dev.seq'_chg, hg.endAction, hg.endAction]
    rw [Dev.beginOff_eq, Dev.offCheck]
    split
    · rw [hdone, hg.seq', hg.offBegun, hchg]
      exact (congrArg Seq.after (Dev.offBegun_seq _ t _ _ _) :)
    · rw [hg.offBegun, hchg]

theorem Dev.shipCheck_chg : (d.shipCheck t).chg = d.chg := by
  unfold Dev.shipCheck
  split
  · exact Dev.startShip_chg _ t
  · rfl

variable {d}

theorem Dev.seqCheck_chg (h : d.seq.state.isOff = false) : (d.seqCheck t).chg = d.chg := by
  have hg := Dev.chg_checkFree
  have hsafe := (d.onCheck_leavesCharger t).trans ((d.onCheck t).safeCheck_leavesCharger t)
  have hoff : ((d.onCheck t).safeCheck t).offCheck t = (d.onCheck t).safeCheck t :=
    if_neg fun hdone => Bool.false_ne_true ((hsafe.order h).symm.trans hdone.1)
  rw [Dev.seqCheck, hoff, Dev.shipCheck_chg, hg.groupCheck, hg.wdhGroupCheck, hsafe.chg]

end

/-- A source that is not fatal, and the check that follows it. -/
theorem Dev.raiseChecked_chg {d : Dev} {src : Nat} (hclass : sourceClass src ≠ classF) (h : d.seq.state.isOff = false) (t reason : Nat) :
    ((d.raise t src reason).seqCheck t).chg = d.chg := by
  have hraise := d.raise_leavesCharger t hclass reason
  rw [Dev.seqCheck_chg t (hraise.order h), hraise.chg]

/-! ## Fault stops (Table 11-7) -/

section
variable (d : Dev) (t : Nat)

theorem Dev.chgStop_eq (reason : Nat) : ∃ x, d.chgStop t reason = { d.loseCharger with
    chg := { d.chg.entered t .stopped with stopReason := reason, region := 0 }, timer := x } := by
  obtain ⟨x, hset⟩ := d.loseCharger.setPhase_eq t .stopped
  refine ⟨x, ?_⟩
  rw [Dev.chgStop, hset]
  rfl

variable {d e : Dev}

/-- A fault stop after changes that neither the frame nor the order in progress shows. -/
theorem Dev.chgFault_stops (hstill : e.still = d.still) (hseq : e.seq = d.seq) {src : Nat} (hsrc : src < 120)
    (hclass : sourceClass src ≠ classF) (reason : Nat) : ChgStopped d (e.chgFault t src reason) src reason := by
  obtain ⟨x, hstop⟩ := e.chgStop_eq t reason
  have hstopped : (e.chgStop t reason).still = e.still := by
    rw [hstop]
    exact e.loseCharger_still
  refine ⟨?_, ?_, fun h => ?_⟩
  · exact (Dev.seqCheck_sticky _ _ _).trans (Dev.raise_sticky _ _ _ _ hsrc)
  · exact (Dev.seqCheck_still _ _).trans ((Dev.raise_still _ _ _ _).trans (hstopped.trans hstill))
  · have horder : (e.chgStop t reason).seq = d.seq := (congrArg Dev.seq hstop :).trans hseq
    rw [Dev.chgFault, Dev.raiseChecked_chg hclass (by rwa [horder]), hstop]
    exact ⟨rfl, rfl⟩

end

section
variable {d : Dev} (t : Nat)

section
variable {sec : Nat} (hcores : d.coresRun = true) (hheld : d.chgHeld = false)
include hcores hheld

theorem Dev.prechargeTimeout_stops (hphase : d.chg.phase = .precharge) (hsec : 60 * d.cg 0x0C < sec) :
    d.prechargeTimeout sec t = (d.chg' fun c => { c with sessionS := sec }).chgFault t 64 3 :=
  if_neg (by simp [hphase, hheld, hcores, hsec])

theorem Dev.chargeTimeout_stops (hactive : d.chg.phase.active = true) (hsec : 60 * d.cg 0x0D < sec) :
    d.chargeTimeout sec t = (d.chg' fun c => { c with sessionS := sec }).chgFault t 65 4 :=
  if_neg (by simp [hactive, hheld, hcores, hsec])

end

section
variable (hactive : d.chg.phase.active = true)
include hactive

theorem Dev.phaseOverCurrent_stops {cycles : Nat} (h : 16 ≤ cycles) :
    d.chargerFaultStop (.phaseOverCurrent cycles) t = d.chgFault t 60 7 := by
  rw [Dev.chargerFaultStop, if_neg (by simp [hactive])]
  exact if_pos h

/-- The first loss of the gate drive is retried (R435). -/
theorem Dev.gateDrive_retries {mv us : Nat} (hmv : mv < 8000) (hus : 10 ≤ us) (hfirst : d.chg.drvRestart = false) :
    d.chargerFaultStop (.gateDrive mv us) t = (d.awaitRetry 67).chg' fun c => { c with drvRestart := true } := by
  rw [Dev.chargerFaultStop, if_neg (by simp [hactive])]
  rw [if_neg (by omega), if_neg (by simp [hfirst])]

theorem Dev.imbalance_stops {diff cmd ms : Nat} (h : 25 * cmd < 100 * diff) (hms : 10 ≤ ms) :
    d.chargerFaultStop (.imbalance diff cmd ms) t = d.chgFault t 68 0x0D := by
  rw [Dev.chargerFaultStop, if_neg (by simp [hactive])]
  exact if_pos ⟨h, hms⟩

theorem Dev.crossCheck_stops {own adc ms : Nat} (hmain : d.mainAvailable = true) (h : 8 * adc < 1000 * ((own : Int) - adc).natAbs)
    (hms : 1000 ≤ ms) : d.chargerFaultStop (.crossCheck own adc ms) t = d.chgFault t 69 0x0A := by
  rw [Dev.chargerFaultStop, if_neg (by simp [hactive])]
  exact if_pos ⟨hmain, h, hms⟩

end

theorem Dev.chgDrvRestart_restarted (h : d.chg.drvRestart = true) (mv : Nat) : d.chgDrvRestart mv t =
    let d' := d.chg' fun c => { c with drvRestart := false }
    if mv < 8000 then d'.chgFault t 67 9 else d'.transient t 67 9 := if_neg (by simp [h])

/-- A transient event is recorded, or ends the retry of a source that is sticky (R433, R435). -/
theorem Dev.transient_records (d : Dev) (src reason : Nat) : ∃ p f n,
    d.transient t src reason = { d with power := p, faults := f, nv := n } ∧ (p = d.power ∨ p = d.power.leaveIdle t) := by
  by_cases h : d.sticky src = true
  · rw [Dev.transient, if_pos h, Dev.src'_eq]
    exact ⟨_, _, _, rfl, .inl rfl⟩
  · obtain ⟨f, n, heq, -, -⟩ := Dev.transient_eq (Bool.not_eq_true _ ▸ h) t reason
    exact ⟨_, f, n, heq, .inr rfl⟩

end

/-! ## Loss of the pack (R311 to R313) -/

section
variable (d : Dev) (t : Nat)

theorem Dev.enterNoPack_eq : ∃ c x, d.enterNoPack t = { d with
    chg := c, path := { d.path.driveB .off with supplement := false }, gauge := d.gaugeAbsent.gauge, timer := x } ∧
    c.phase = .noPack ∧ c.stopReason = 5 := by
  obtain ⟨x, hphase⟩ := d.chgPhase_other t (p := .noPack) (by decide)
  unfold Dev.enterNoPack
  rw [hphase]
  exact ⟨_, x, rfl, rfl, rfl⟩

/-- FS061 as the charger enters NO_PACK (R313). -/
theorem Dev.packAbsent_spec : let d' := ((d.enterNoPack t).raise t 61 5).seqCheck t
    d'.still = { d with path := d'.path, gauge := d'.gauge }.still ∧ d'.sticky 61 = true ∧ d'.path.bPair = .off ∧
      d'.path.supplement = false ∧ d'.gauge.present = false ∧
      (d.seq.state.isOff = false → d'.chg.phase = .noPack ∧ d'.chg.stopReason = 5) := by
  obtain ⟨c, x, henter, hphase, hreason⟩ := d.enterNoPack_eq t
  dsimp only
  have hchg : d.seq.state.isOff = false → (((d.enterNoPack t).raise t 61 5).seqCheck t).chg = c := fun h => by
    have horder : (d.enterNoPack t).seq = d.seq := (congrArg Dev.seq henter :)
    rw [Dev.raiseChecked_chg (by decide) (by rwa [horder]), henter]
  have hkept : (((d.enterNoPack t).raise t 61 5).seqCheck t).still = (d.enterNoPack t).still :=
    (Dev.seqCheck_still _ _).trans (Dev.raise_still _ _ _ _)
  have hsticky : (((d.enterNoPack t).raise t 61 5).seqCheck t).sticky 61 = true :=
    (Dev.seqCheck_sticky _ _ _).trans (Dev.raise_sticky _ _ _ _ (by decide))
  generalize ((d.enterNoPack t).raise t 61 5).seqCheck t = d' at hchg hkept hsticky ⊢
  refine ⟨?_, hsticky, ?_, ?_, ?_, fun h => ?_⟩
  · exact Dev.still_of_batFrame (f := id) ((Dev.batFrame_of_still hkept).trans (d.enterNoPack_batFrame t))
  · exact (congrArg Path.bPair (Dev.path_of_still hkept) :).trans (by rw [henter]; rfl)
  · exact (congrArg Path.supplement (Dev.path_of_still hkept) :).trans (by rw [henter]; rfl)
  · exact (congrArg Gauge.present (congrArg Dev.gauge hkept :) :).trans (by rw [henter]; rfl)
  · rw [hchg h]
    exact ⟨hphase, hreason⟩

variable {d t}

theorem Dev.presenceProbeEnd_absent {fall : Nat} (hprobe : d.chg.probe ≠ .none) (hfall : 500 < fall) : d.presenceProbeEnd fall t =
    (((d.chg' fun c => { c with probe := .none, sink := false }).enterNoPack t).raise t 61 5).seqCheck t := by
  unfold Dev.presenceProbeEnd
  split
  · next h => exact absurd h hprobe
  · exact if_pos hfall

theorem Dev.presenceProbeEnd_overVoltage {fall : Nat} (hprobe : d.chg.probe = .overVoltage) (hfall : fall ≤ 500) :
    d.presenceProbeEnd fall t = (d.chg' fun c => { c with probe := .none, sink := false }).chgFault t 62 6 := by
  unfold Dev.presenceProbeEnd
  rw [hprobe]
  exact if_neg (Nat.not_lt.mpr hfall)

theorem Dev.presenceProbeEnd_collapse {fall : Nat} (hprobe : d.chg.probe = .collapse) (hfall : fall ≤ 500) :
    d.presenceProbeEnd fall t = (d.chg' fun c => { c with probe := .none, sink := false }).chgFault t 63 8 := by
  unfold Dev.presenceProbeEnd
  rw [hprobe]
  exact if_neg (Nat.not_lt.mpr hfall)

theorem Dev.noPackSinkEnd_ends {mv ms : Nat} (hphase : d.chg.phase = .noPack) (hsink : d.chg.sink = true) (h : mv < 16000 ∨ 2000 ≤ ms) :
    d.noPackSinkEnd mv ms = if d.path.batValid then
      ((d.chg' fun c => { c with sink := false }).path' fun p => { p with batMv := mv }).gaugePresent
      else (d.chg' fun c => { c with sink := false }).path' fun p => { p with batMv := mv } := by
  have hguard : ¬(16000 ≤ mv ∧ ms < 2000) := by omega
  exact if_neg (by simpa [hphase, hsink] using hguard)

theorem Dev.gaugePresent_eq (d : Dev) : ∃ g, d.gaugePresent = { d with gauge := g } ∧ g.present = true := by
  unfold Dev.gaugePresent
  split
  · next h => exact ⟨_, rfl, h⟩
  · exact ⟨_, rfl, rfl⟩

theorem Dev.noPackExit_exits {ms : Nat} (hphase : d.chg.phase = .noPack) (hms : 2000 ≤ ms) (hbat : d.path.batValid = true)
    (hestimate : d.estimateValid = true) (hsink : d.chg.sink = false) (hcores : d.coresRun = true) :
    d.noPackExit ms t = ((d.chgPhase t .wait).takeTimers).supplementQuiet :=
  if_neg (by simp [hphase, hms, hbat, hestimate, hsink, hcores])

/-- WAIT after NO_PACK: the charger takes its timers as far as they are free. -/
theorem Dev.waits_eq (d : Dev) (t : Nat) : ∃ hold x, (d.chgPhase t .wait).takeTimers =
    { d with chg := { d.chg.entered t .wait with timerHold := hold }, timer := x } := by
  obtain ⟨x, hphase⟩ := d.chgPhase_other t (p := .wait) (by decide)
  rw [hphase]
  exact Dev.takeTimers_eq _

theorem Dev.supplementQuiet_eq (d : Dev) : ∃ p, d.supplementQuiet = { d with path := p } ∧
    (d.path.dcinValid = false → d.path.supplement = false → d.pairReady = true →
      p.bPair = .ideal ∧ p.supplement = true ∧ p.supplements = d.path.supplements) := by
  unfold Dev.supplementQuiet
  split
  · next h => exact ⟨_, rfl, fun hdcin hsupplement hready => by simp [hdcin, hsupplement, hready] at h⟩
  · exact ⟨_, rfl, fun _ _ _ => ⟨rfl, rfl, rfl⟩⟩

end

/-! ## The watchdog (R314, R315) -/

/-- The charger's enable, voltage and current as live values. -/
def Dev.withSettings (d : Dev) (enable voltage current : Int) : Dev :=
  ((d.setLive 0x2140 1 enable).setLive 0x2140 2 voltage).setLive 0x2140 3 current

/-- The settings of the charger replaced by the safe defaults of 0x2143 (R315). -/
def Dev.safeSettings (d : Dev) : Dev := d.withSettings (d.int 0x2143 1) (d.int 0x2143 2) (d.int 0x2143 3)

theorem Dev.withSettings_rest (d : Dev) (enable voltage current : Int) :
    d.withSettings enable voltage current = { d with dict := (d.withSettings enable voltage current).dict } := rfl

theorem Dev.int_setLive (d : Dev) {idx sub idx' sub' : Nat} (hsub : sub < 256) (hsub' : sub' < 256) (v : Int) :
    (d.setLive idx sub v).int idx' sub' = if (idx, sub) = (idx', sub') then v else d.int idx' sub' :=
  settingReadsBack d (idx, sub) (idx', sub') v hsub hsub'

theorem Dev.withSettings_int {d d' : Dev} {enable voltage current : Int} (h : d'.dict = (d.withSettings enable voltage current).dict) :
    d'.int 0x2140 1 = enable ∧ d'.int 0x2140 2 = voltage ∧ d'.int 0x2140 3 = current := by
  simp only [Dev.int_of_dict h]
  unfold Dev.withSettings
  refine ⟨?_, ?_, ?_⟩ <;> simp [Dev.int_setLive]

section
variable (d : Dev) (t : Nat)

theorem Dev.chgDisable_eq (reason : Nat) : ∃ c x, d.chgDisable t reason = { d with chg := c, timer := x } ∧
    c.wdExpired = d.chg.wdExpired := by
  obtain ⟨x, hset⟩ := d.setPhase_eq t .disabled
  unfold Dev.chgDisable
  split
  · exact ⟨_, _, rfl, rfl⟩
  · obtain ⟨y, hreleased⟩ := Dev.releaseTimers_eq { d with chg := d.chg.entered t .disabled, timer := x }
    rw [hset, hreleased]
    exact ⟨_, y, rfl, rfl⟩

theorem Dev.applyEnable_eq (reason : Nat) : ∃ c x, d.applyEnable t reason = { d with chg := c, timer := x } ∧
    c.wdExpired = d.chg.wdExpired := by
  unfold Dev.applyEnable
  split
  · split
    · obtain ⟨hold, x, hwaits⟩ := d.waits_eq t
      exact ⟨_, x, hwaits, rfl⟩
    · exact ⟨_, _, rfl, rfl⟩
  · exact d.chgDisable_eq t reason

/-- A safe voltage below MAIN ends a fast charge. -/
theorem Dev.cvEntered_eq : ∃ c x, (if d.cvReached then d.chgPhase t .cv else d) = { d with chg := c, timer := x } ∧
    c.wdExpired = d.chg.wdExpired := by
  obtain ⟨x, hcv⟩ := d.chgPhase_other t (p := .cv) (by decide)
  split
  · exact ⟨_, x, hcv, rfl⟩
  · exact ⟨_, _, rfl, rfl⟩

variable {d}

/-- The charger with its safe defaults, as FS066 is about to be raised. -/
def Dev.watchdogExpired (d : Dev) : Dev := d.loseCharger.safeSettings.chg' fun c => { c with wdExpired := true }

theorem Dev.watchdogExpired_eq (d : Dev) : d.watchdogExpired = { d with
    chg := { d.chg with wdExpired := true }, dict := d.loseCharger.safeSettings.dict, jour := d.loseCharger.jour } := by
  have hrest := d.loseCharger.withSettings_rest (d.loseCharger.int 0x2143 1) (d.loseCharger.int 0x2143 2) (d.loseCharger.int 0x2143 3)
  unfold Dev.watchdogExpired Dev.safeSettings
  generalize d.loseCharger.withSettings _ _ _ = x at hrest ⊢
  exact congrArg (fun y : Dev => y.chg' fun c => { c with wdExpired := true }) hrest

theorem Dev.chargerWatchdogExpiry_expires {sec : Nat} (hclient : d.nat 0x2142 5 ≠ 0) (hsec : d.nat 0x2142 6 ≤ sec)
    (hcores : d.coresRun = true) : d.chargerWatchdogExpiry sec t =
      let d' := (d.watchdogExpired.raise t 66 0).applyEnable t 0x0C
      if d'.cvReached then d'.chgPhase t .cv else d' := if_neg (by simp [hclient, hsec, hcores])

theorem Dev.watchdogActs_eq (d : Dev) (t : Nat) : let d' := (d.watchdogExpired.raise t 66 0).applyEnable t 0x0C
    ∃ p c x f n, (if d'.cvReached then d'.chgPhase t .cv else d') = { d with
      power := p, chg := c, timer := x, faults := f, dict := d.loseCharger.safeSettings.dict, nv := n, jour := d.loseCharger.jour } ∧
    (p = d.power ∨ p = d.power.leaveIdle t) ∧ c.wdExpired = true ∧ Dev.sticky { d with faults := f } 66 = true := by
  have hnoted := d.watchdogExpired_eq
  generalize d.watchdogExpired = e at hnoted ⊢
  obtain ⟨p, f, n, hraise, hpower⟩ := Dev.raise_corrected (src := 66) rfl e t 0
  have hsticky := e.raise_sticky t 66 0 (by decide)
  rw [hraise] at hsticky ⊢
  obtain ⟨c, x, henable, hexpired⟩ := Dev.applyEnable_eq { e with power := p, faults := f, nv := n } t 0x0C
  rw [henable]
  obtain ⟨c', x', hcv, hexpired'⟩ := Dev.cvEntered_eq { e with power := p, chg := c, timer := x, faults := f, nv := n } t
  dsimp only
  rw [hcv]
  subst hnoted
  exact ⟨p, c', x', f, n, rfl, hpower, hexpired'.trans hexpired, hsticky⟩

end

/-- Settles O15: a fault stop is one stop whose source does not escalate at once, and no check takes the device out of RUN while no off
order is in progress; the other commands take the branch that their hypotheses choose. -/
theorem chargerStopsComplete : Obligations.ChargerStopsComplete := by
  intro s hon
  refine ⟨fun sec hcores hphase hheld hsec => ?_, fun sec hcores hactive hheld hsec => ?_, fun k hswitching hlost => ?_,
    fun fall hprobe hfall => ?_, fun fall hprobe hfall => ?_, fun fall hprobe hfall => ?_, fun mv ms hphase hsink hend => ?_,
    fun ms hphase hms hbat hestimate hsink hcores => ?_, fun cycles hactive hcycles => ?_, fun mv us hactive hmv hus hfirst => ?_,
    fun diff cmd ms hactive hdiff hms => ?_, fun own adc ms hactive hmain hdiff hms => ?_, fun mv hrestart hmv => ?_,
    fun mv hrestart hmv => ?_, fun sec hclient hsec hcores => ?_⟩
  · refine Gives.of_core rfl hon ?_
    rw [Dev.prechargeTimeout_stops _ hcores hheld hphase hsec]
    exact Dev.chgFault_stops _ (Dev.chg'_still _ _ rfl) rfl (by decide) (by decide) 3
  · refine Gives.of_core rfl hon ?_
    rw [Dev.chargeTimeout_stops _ hcores hheld hactive hsec]
    exact Dev.chgFault_stops _ (Dev.chg'_still _ _ rfl) rfl (by decide) (by decide) 4
  · refine Gives.of_core rfl hon ?_
    exact if_neg (by simp [hswitching, hlost])
  · refine Gives.of_core rfl hon ?_
    rw [Dev.presenceProbeEnd_absent hprobe hfall]
    have habsent := (s.b.d.chg' fun c => { c with probe := .none, sink := false }).packAbsent_spec s.b.hw.counter
    exact habsent
  · refine Gives.of_core rfl hon ?_
    rw [Dev.presenceProbeEnd_overVoltage hprobe hfall]
    exact Dev.chgFault_stops _ (Dev.chg'_still _ _ rfl) rfl (by decide) (by decide) 6
  · refine Gives.of_core rfl hon ?_
    rw [Dev.presenceProbeEnd_collapse hprobe hfall]
    exact Dev.chgFault_stops _ (Dev.chg'_still _ _ rfl) rfl (by decide) (by decide) 8
  · refine Gives.of_core rfl hon ?_
    rw [Dev.noPackSinkEnd_ends hphase hsink hend]
    split
    · next hbat =>
      obtain ⟨g, hpresent, hg⟩ := Dev.gaugePresent_eq
        ((s.b.d.chg' fun c => { c with sink := false }).path' fun p => { p with batMv := mv })
      rw [hpresent]
      exact ⟨rfl, fun _ => hg, fun h => absurd (h.symm.trans hbat) nofun⟩
    · next hbat => exact ⟨rfl, fun h => absurd h hbat, fun _ => rfl⟩
  · refine Gives.of_core rfl hon ?_
    obtain ⟨hold, x, hwaits⟩ := s.b.d.waits_eq s.b.hw.counter
    rw [Dev.noPackExit_exits hphase hms hbat hestimate hsink hcores, hwaits]
    obtain ⟨p, hquiet, hpair⟩ := Dev.supplementQuiet_eq
      { s.b.d with chg := { s.b.d.chg.entered s.b.hw.counter .wait with timerHold := hold }, timer := x }
    rw [hquiet]
    refine ⟨rfl, rfl, rfl, fun hdcin htrunk hsupplement => hpair hdcin hsupplement ?_⟩
    simp [Dev.pairReady, hbat, htrunk, Charger.entered]
  · refine Gives.of_core rfl hon ?_
    rw [Dev.phaseOverCurrent_stops _ hactive hcycles]
    exact Dev.chgFault_stops _ rfl rfl (by decide) (by decide) 7
  · refine Gives.of_core rfl hon ?_
    have hretrying : (s.b.d.awaitRetry 67).retrying 67 = true := Dev.src'_retrying (by decide) _ _
    rw [Dev.gateDrive_retries _ hactive hmv hus hfirst]
    refine ⟨?_, hretrying, ?_⟩ <;> rw [Dev.awaitRetry, Dev.src'_eq] <;> rfl
  · refine Gives.of_core rfl hon ?_
    rw [Dev.imbalance_stops _ hactive hdiff hms]
    exact Dev.chgFault_stops _ rfl rfl (by decide) (by decide) 0x0D
  · refine Gives.of_core rfl hon ?_
    rw [Dev.crossCheck_stops _ hactive hmain hdiff hms]
    exact Dev.chgFault_stops _ rfl rfl (by decide) (by decide) 0x0A
  · refine Gives.of_core rfl hon ?_
    rw [Dev.chgDrvRestart_restarted _ hrestart]
    dsimp only
    rw [if_pos hmv]
    exact Dev.chgFault_stops _ rfl rfl (by decide) (by decide) 9
  · refine Gives.of_core rfl hon ?_
    rw [Dev.chgDrvRestart_restarted _ hrestart]
    dsimp only
    rw [if_neg (Nat.not_lt.mpr hmv)]
    obtain ⟨p, f, n, hrecords, hpower⟩ := Dev.transient_records s.b.hw.counter
      (s.b.d.chg' fun c => { c with drvRestart := false }) 67 9
    refine ⟨?_, fun hsticky => ?_, ?_⟩
    · rw [hrecords]
      rfl
    · obtain ⟨f, n, heq, hcount, -⟩ := Dev.transient_eq (d := s.b.d.chg' fun c => { c with drvRestart := false }) hsticky
        s.b.hw.counter 9
      rw [heq]
      exact hcount
    · rw [hrecords]
      exact ⟨hpower, rfl⟩
  · refine Gives.of_core rfl hon ?_
    obtain ⟨p, c, x, f, n, hexpires, hpower, hexpired, hsticky⟩ := s.b.d.watchdogActs_eq s.b.hw.counter
    rw [Dev.chargerWatchdogExpiry_expires _ hclient hsec hcores, hexpires]
    refine ⟨hpower, rfl, hexpired, hsticky, ?_⟩
    have hkept := Dev.int_of_dict s.b.d.loseCharger_dict 0x2143
    rw [← hkept 1, ← hkept 2, ← hkept 3]
    exact Dev.withSettings_int rfl

end Sys2Proof.Machine
end
